-- ==== Sys2Proof/Word.lean ====
section
/-! DEFINITION. The byte, the byte string and the plainest number helpers of the ST192 model. -/

namespace Sys2Proof

/-- One byte. -/
abbrev Byte := BitVec 8

/-- A byte string, first byte at the lowest address. -/
abbrev Bytes := List Byte

/-- A byte from a number, its low eight bits. -/
def byte (n : Nat) : Byte := BitVec.ofNat 8 n

end Sys2Proof
end

