-- ==== Sys2Proof/Syntax.lean ====
section
/-! DEFINITION. The commands the ST192 takes from outside: one constructor per row of the table of operations and events,
with what the row's rule says the environment brings (a pin's level, a sample, a frame, a host's request). -/

namespace Sys2Proof

/-- The three host ports (R418). -/
inductive HostPort where
  | tw | can0 | can1
  deriving DecidableEq, Repr

/-- The command trailer (Table 14.6). -/
structure Trailer where
  counter : Nat
  channel : Nat
  /-- Bytes 5 to 7, reserved. -/
  resv : Nat := 0
  mac : Bytes
  deriving DecidableEq, Repr

/-- A request as it becomes complete at the dispatcher (Table 15.1). -/
structure Request where
  port : HostPort
  op : Nat
  tag : Nat
  object : Nat
  inst : Nat
  offset : Nat
  length : Nat
  data : Bytes := []
  trailer : Option Trailer := none
  /-- The PEC byte of a two-wire request that ended with one (R425). -/
  pec : Option Nat := none
  deriving DecidableEq, Repr

/-- A request to one command object, which the command itself names: WRITE_AUTH with a trailer, WRITE without. -/
structure CmdReq where
  port : HostPort
  tag : Nat
  offset : Nat := 0
  data : Bytes
  trailer : Option Trailer := none
  /-- The PEC byte of a two-wire request that ended with one (R425). -/
  pec : Option Nat := none
  deriving DecidableEq, Repr

/-- A wake source of R53 that DORMANT_WAKE stands for. -/
inductive WakeSource where
  | rackOn | cpProx
  deriving DecidableEq, Repr

/-- A transfer mode an SFDP table declares: lines, double data rate, highest clock in MHz (R27). -/
structure XspiMode where
  lines : Nat
  ddr : Bool
  mhz : Nat
  deriving DecidableEq, Repr

/-- One access of a memory bank by a master (R67 to R71): the master's number in CONFLICT_COUNTERS, whether it writes, the
word's address, the bits found in error on a read, whether a parity bit of the transfer failed, and whether it waited one or
more cycles because another master held the bank. -/
structure BankAccess where
  master : Nat
  write : Bool := false
  word : Nat := 0
  wrongBits : Nat := 0
  parityBad : Bool := false
  waited : Bool := false
  deriving DecidableEq, Repr

/-- What the SFDP table of the device on CS1 shows (R368, R369). -/
structure CsDevice where
  bytes : Nat
  erase4k : Bool
  suspend : Bool
  programUs : Nat
  deriving DecidableEq, Repr

/-- How an operation on the recorder flash ends: done, failed in its erase (1), program (2) or read-back (3), or cut before
its commit program by PWR_FAIL_N (R370, R380). -/
inductive FlashEnd where
  | ok
  | failed (op : Nat)
  | cut
  deriving DecidableEq, Repr

/-- A frame as it arrives at a receiver (R84, R85): its ten-bit characters in their order, bit a of a character as bit 9 of
its number. -/
structure WireFrame where
  symbols : List Nat
  deriving DecidableEq, Repr

/-- What a tile's own circuits give at the launch of an upstream frame (Tables 4.8, 4.10): the BITS field, the TRANSITION
field, the board temperature as its 16-bit field, and the slots whose gate-driver supply is out of range. -/
structure TileSeen where
  bits : Bytes := []
  transition : Bytes := []
  boardTemp : Nat := 0x8000
  drvSupply : Nat := 0
  deriving DecidableEq, Repr

/-- The ordered sets a tile has received in a run on a lane (R92): sixteen TS1, or eight TS2 with a port number. -/
inductive TrainSets where
  | ts1
  | ts2 (port : Nat)
  deriving DecidableEq, Repr

/-- What the environment brings, with the time at which it brings it, where a command brings one thing (assumption 1). -/
structure At (α : Type) where
  time : Nat
  brought : α
  deriving DecidableEq, Repr

/-- A level a pin has held for a time without interruption, in ticks (R356). -/
structure HeldLevel where
  low : Bool
  held : Nat
  deriving DecidableEq, Repr

/-- A receiver's equaliser as LMS left it: the step of the CTLE and the coefficients of the DFE (R83). -/
structure Equaliser where
  ctle : Nat
  dfe : List Int
  deriving DecidableEq, Repr

/-- The words a scrub pass found wrong: the corrections per column, and the words with two bits in error (R70, R72). -/
structure ScrubWords where
  columns : List (Nat × Nat) := []
  doubles : List Nat := []
  deriving DecidableEq, Repr

/-- A downstream frame as it reaches a tile: the instant of its first bit in 1/16 ticks, the frame, and what the tile's own
circuits give at the launch that follows (R91). -/
structure TileArrival where
  at16 : Nat
  frame : WireFrame
  seen : TileSeen := {}
  deriving DecidableEq, Repr

/-- A run of ordered sets on a lane of a tile, 0 primary and 1 alternate (R92). -/
structure LaneSets where
  lane : Nat
  sets : TrainSets
  deriving DecidableEq, Repr

/-- The slots of 1 ms of one polarity's test pulse, each with the levels sampled on the pair (R342). -/
structure TestPulses where
  high : Bool
  slots : List (List (Bool × Bool))
  deriving DecidableEq, Repr

/-- A reaction entry's number, with its bytes as the collector's registers hold them (R349). -/
structure HeldEntry where
  entry : Nat
  bytes : Bytes
  deriving DecidableEq, Repr

/-- A data frame's identifier, IDE in bit 31, and its data bytes (R432, R434). -/
structure CanSegment where
  id : Nat
  data : Bytes
  deriving DecidableEq, Repr

/-- A two-wire read transfer: the address it names, and the bytes it clocks out (R423). -/
structure TwRead where
  address : Nat
  bytes : Nat
  deriving DecidableEq, Repr

/-- TEST_EN's level at the load of an instruction, and the data its data scan shifts in (R469, R470). -/
structure TapScan where
  testEn : Bool
  dr : Nat
  deriving DecidableEq, Repr

/-- A message as it arrives on the pilot line (R306, R308): the lead-in cells of 1 seen, whether every cell and the sync
word were in order, and the bytes from the header to the CRC. -/
structure PilotMsg where
  leadIn : Nat
  cellsOk : Bool
  bytes : Bytes
  deriving DecidableEq, Repr

/-- What a patina check measured (R331): amplitudes on CP_PAT_SNS1 in the three parts, in-phase leakage amplitudes on
CP_PAT_SNS0 at the two frequencies, and CP_PAT_SNS2 − CP_PAT_SNS3, all in µV at the pins. -/
structure PatinaMeasure where
  exc100 : Nat
  exc10k : Nat
  excHigh : Nat
  leak100 : Nat
  leak10k : Nat
  kelvin : Nat
  deriving DecidableEq, Repr

/-- The commands, one constructor per row of the table, in its order. The first operand is or holds the rack
time, in ticks, at which the command is taken (assumption 1); the others are what the command brings from outside. -/
inductive Instr where
  /-- VAO_POR (R63): VAO_3V3 falls below 2.9 V and resets the whole chip, PD0 included. -/
  | vaoPor (t : Nat)
  /-- POWER_GOOD (R52): Every main supply is in range, RST_N is high and REFCLK toggles, so the chip enters BOOT at t0. -/
  | powerGood (t : Nat) (straps : Nat)
  /-- SUPPLY_LOSS (R63): A main supply stays out of range for 10 µs and resets PD1 to PD15. -/
  | supplyLoss (t : Nat)
  /-- RST_N (R64): RST_N stays low for 1 µs; keep-alives go static, all-off is sent, and PD1 to PD15 are held in reset. -/
  | rstN (t : Nat)
  /-- PLL_LOSS (R62): The PLL leaves lock or REFCLK stops; the transmitters are disabled and the chip resets. -/
  | pllLoss (t : Nat)
  /-- WATCHDOG_EXPIRY (R66): The Plinth watchdog expires or is serviced outside its window; fault 0x0101 is raised and the chip resets. -/
  | watchdogExpiry (x : At Bool)
  /-- PLL_LOCKED (R61): The main PLL locks and clocks CK0 to CK11 start running. -/
  | pllLocked (t : Nat)
  /-- MBIST_COMPLETE (R73): MBIST of all banks ends and soft repairs are assigned to failing columns. -/
  | mbistComplete (t : Nat) (failing : List (Nat × Nat))
  /-- SELF_TEST_COMPLETE (R415): Benra's known-answer and TRNG start-up tests finish, with one retry on failure. -/
  | selfTestComplete (t : Nat) (kat : List Bool) (trng : List Bytes) (fuseReads : List Nat)
  /-- SFDP_READ (R27): The configuration flash SFDP table is read and the xSPI mode and clock are chosen. -/
  | sfdpRead (t : Nat) (modes : List XspiMode)
  /-- SLOT_VERIFY_COMPLETE (R38): Verification of a candidate slot finishes, passing or failing at the first failing step of Table 2.8. -/
  | slotVerifyComplete (t : Nat) (readOk : Bool)
  /-- ACTIVATION (R40): The shadow content of the verified image goes live by a bank pointer swap. -/
  | activation (t : Nat) (proofs : List Nat)
  /-- STANDBY_ENTRY (R57): The chip enters STANDBY after activation. -/
  | standbyEntry (t : Nat) (vpp : Nat)
  /-- DORMANT_ENTRY (R54): RACK_ON has stayed low for DORMANT_DELAY in STANDBY; Vitrine flushes and PD1 to PD15 switch off. -/
  | dormantEntry (t : Nat)
  /-- DORMANT_WAKE (R53): A RACK_ON rising edge or a CP_PROX change wakes the chip from DORMANT into BOOT. -/
  | dormantWake (t : Nat) (source : WakeSource) (straps : Nat)
  /-- WAKE_INTERVAL_EXPIRY (R53): The Plinth wake interval expires in DORMANT and wakes the chip. -/
  | wakeIntervalExpiry (t : Nat) (straps : Nat)
  /-- TW_DORMANT_ADDRESS_MATCH (R428): In DORMANT the Plinth matches and NACKs the two-wire address, waking the chip when enabled. -/
  | twDormantAddressMatch (t : Nat) (address : Nat) (straps : Nat)
  /-- SCRUB_PASS_COMPLETE (R72): The scrubber finishes reading and correcting every word of a bank. -/
  | scrubPassComplete (t : Nat) (bank : Nat) (accesses : List BankAccess) (words : ScrubWords) (contexts : List (Nat × Bytes))
  /-- DIE_TEMP_UPDATE (R79): The die temperature updates and is compared with TJ_WARN and TJ_LIMIT. -/
  | dieTempUpdate (t : Nat) (tj : Int)
  /-- CHIP_RESTART (R63): The authenticated restart command resets the chip with cause HOST_RESTART. -/
  | chipRestart (t : Nat) (rq : CmdReq)
  /-- IMAGE_STAGE_OPEN (R46): Opens a staging session and starts erasing the inactive slot. -/
  | imageStageOpen (t : Nat) (rq : CmdReq)
  /-- IMAGE_STAGE_WRITE (R48): Programs 16 to 256 bytes into the inactive slot of the open session. -/
  | imageStageWrite (t : Nat) (rq : CmdReq)
  /-- IMAGE_STAGE_VERIFY (R49): Starts verification steps 2 to 16 on the inactive slot. -/
  | imageStageVerify (t : Nat) (rq : CmdReq)
  /-- IMAGE_STAGE_COMMIT (R50): Programs the commit record of a verified inactive slot. -/
  | imageStageCommit (t : Nat) (rq : CmdReq)
  /-- IMAGE_STAGE_ABORT (R47): Closes the staging session without a commit record. -/
  | imageStageAbort (t : Nat) (rq : CmdReq)
  /-- STAGE_ERASE_COMPLETE (R475): The opening erase of a staging session completes and gives its final status. -/
  | stageEraseComplete (t : Nat)
  /-- STAGE_VERIFY_COMPLETE (R49): The staging verification finishes, with DONE or INTEGRITY and a reason code. -/
  | stageVerifyComplete (t : Nat) (readOk : Bool)
  /-- STAGE_SESSION_TIMEOUT (R47): A staging session closes after 60 s without a staging command. -/
  | stageSessionTimeout (t : Nat)
  /-- IMAGE_ROLLBACK_ADVANCE (R43): Raises the fused rollback count to the running image's index. -/
  | imageRollbackAdvance (t : Nat) (rq : CmdReq) (vpp : Nat)
  /-- FUSE_BIT_COMPLETE (R398): One fuse bit pulse and verify complete, and the next bit or the final status follows. -/
  | fuseBitComplete (t : Nat) (verified : Bool) (vpp : Nat)
  /-- TRAIN_LOCK_COMPLETE (R93): The ST192 receiver locks and adapts on the tile's TS1 and the port moves to TRAIN_ID. -/
  | trainLockComplete (t : Nat) (port : Nat) (eq : Equaliser)
  /-- TS2_RECEIVED (R93): The tile's TS2 is compared with TILE_MAP, moving to TRAIN_TIME or raising TILE_MISMATCH. -/
  | ts2Received (t : Nat) (port : Nat) (echo : Nat) (kind : Nat) (maker : Nat) (count : Nat)
  /-- LATENCY_MEASURED (R95): The mean RTT of 64 frames is taken, and LAT is computed and sent in ALIGN. -/
  | latencyMeasured (t : Nat) (port : Nat) (rttSum16 : Nat) (taTile : Nat)
  /-- ALIGN_CHECK_COMPLETE (R95): 256 upstream frames are checked against the expected arrival; the attempt passes or fails with 0x0404. -/
  | alignCheckComplete (t : Nat) (port : Nat) (residualSum16 : Int) (frames : Nat)
  /-- TRAIN_ATTEMPT_TIMEOUT (R93): A training attempt exceeds its bound; after the last attempt TRAIN_FAILED is raised. -/
  | trainAttemptTimeout (t : Nat) (port : Nat)
  /-- TRAIN_ATTEMPT_START (R93): The next attempt begins 10 ms after the last, or every 1 s in FAILED. -/
  | trainAttemptStart (t : Nat) (port : Nat)
  /-- UPSTREAM_FRAME (R87): An upstream frame arrives and is accepted or discarded, and its fields are handed on. -/
  | upstreamFrame (t : Nat) (port : Nat) (frame : WireFrame)
  /-- RECEIVER_LOCK_LOSS (R111): A receiver loses lock, triggering failover or LINK_LOST. -/
  | receiverLockLoss (t : Nat) (port : Nat)
  /-- FRAME_CUTOFF (R195): At a downstream frame cut-off the Modulator forms, chooses and places pulses, and the framer builds the frame. -/
  | frameCutoff (t : Nat) (frameNo : Nat)
  /-- SERVICE_OP_TIMEOUT (R88): A service operation goes 16 frame periods unanswered; it is repeated once, then counted. -/
  | serviceOpTimeout (t : Nat) (port : Nat)
  /-- RESIDUAL_TRIM (R96): Every 1 ms the upstream residual mean is formed and a TRIM is sent when it reaches 1 tick. -/
  | residualTrim (t : Nat) (port : Nat) (mean16 : Int)
  /-- EYE_MARGIN_MEASURE (R83): Every 100 ms each receiver's eye margin is measured and published. -/
  | eyeMarginMeasure (t : Nat) (port : Nat) (mv : Nat) (ui64 : Nat) (eq : Equaliser)
  /-- ALL_CLEAR_RETRY (R108): A tile still latched 16 frame periods later is sent ALL_CLEAR again, then raises 0x0407. -/
  | allClearRetry (t : Nat) (port : Nat)
  /-- SLOT_CLEAR (R476): After a start request releases the tile, SLOT_CLEAR is sent for slots reporting protection latches. -/
  | slotClear (t : Nat) (port : Nat)
  /-- CELL_RESEND (R114): A set incomplete 4 ms after SAMPLE_AT is requested once; if still incomplete, 0x040B is raised. -/
  | cellResend (t : Nat) (string : Nat)
  /-- TILE_FRAME_PROCESS (R100): A tile processes a valid downstream frame: control, SLOT_OFF, service and edge entries. -/
  | tileFrameProcess (t : Nat) (tile : Nat) (lane : Nat) (arrival : TileArrival)
  /-- TILE_ALL_OFF (R104): A tile receives the all-off ordered set and turns every gate off within 3 µs. -/
  | tileAllOff (t : Nat) (tile : Nat)
  /-- TILE_SILENCE (R105): A tile sees no downstream activity for its silence time and latches off. -/
  | tileSilence (t : Nat) (tile : Nat)
  /-- TILE_EDGE_EXECUTE (R101): The tile's rack time reaches a held entry's stamp and it drives the gate edge. -/
  | tileEdgeExecute (t : Nat) (tile : Nat) (slot : Nat)
  /-- TILE_TRAIN (R92): A tile receiving 16 TS1 latches off and follows the training sequence. -/
  | tileTrain (t : Nat) (tile : Nat) (run : LaneSets)
  /-- TILE_PROTECTION_TRIP (R109): Local desaturation or over-current latches the slot off. -/
  | tileProtectionTrip (t : Nat) (tile : Nat) (slot : Nat) (overcurrent : Bool) (active : Bool)
  /-- TILE_CELL_SAMPLE (R113): A cell tile samples its cells at SAMPLE_AT and sends the set. -/
  | tileCellSample (t : Nat) (tile : Nat) (volts : List Nat) (temps : List Int)
  /-- TILE_BLEED_EXPIRY (R114): BLEED_TIME expires and the tile opens every bleed switch. -/
  | tileBleedExpiry (t : Nat) (tile : Nat)
  /-- TILE_AUTO_SAMPLE (R114): A latched-off cell tile samples its cells on its own every AUTO_PERIOD. -/
  | tileAutoSample (t : Nat) (tile : Nat) (volts : List Nat) (temps : List Int)
  /-- WINDOW_SAMPLE_PUBLISH (R123): A main sample window is decimated, scaled, calibrated and written to the context input. -/
  | windowSamplePublish (t : Nat) (phase : Nat)
  /-- SENSE_ZERO (R127): Starts measurement of a stage's current offsets in SERVICE. -/
  | senseZero (t : Nat) (rq : CmdReq)
  /-- SENSE_ZERO_COMPLETE (R127): After 256 valid windows the new I_OFFSET values are applied. -/
  | senseZeroComplete (t : Nat)
  /-- CELL_SET_PUBLISH (R134): A cell set completes, or reaches SAMPLE_AT + 6 ms, and is published to Maquette. -/
  | cellSetPublish (t : Nat) (string : Nat) (tile : Option Nat)
  /-- AIN_SAMPLE (R137): A local ADC channel is sampled at its slot. -/
  | ainSample (t : Nat) (channel : Nat) (code : Nat)
  /-- SPP_RISING_EDGE (R142): An SPP rising edge closes a period, which is judged and published or counted invalid. -/
  | sppRisingEdge (t : Nat) (channel : Nat) (period : Nat) (high : Nat)
  /-- SPP_EDGE_TIMEOUT (R142): No SPP edge for 3 × PERIOD_NOM puts the input in fallback. -/
  | sppEdgeTimeout (x : At (Option Nat)) (channel : Nat)
  /-- EVALUATION_ISSUE (R146): At an issue instant due evaluations are placed in free slots and read their contexts. -/
  | evaluationIssue (t : Nat)
  /-- EVALUATION_COMPLETE (R148): An evaluation finishes, writes back state and publishes its output. -/
  | evaluationComplete (t : Nat) (context : Nat)
  /-- EQUALISE_LIMIT (R203): A trim held at its limit for 100 ms raises 0x0707. -/
  | equaliseLimit (t : Nat) (phase : Nat)
  /-- PROOF_EVALUATION (R176): An engine evaluates its proof vector and the checker compares the result with ROM. -/
  | proofEvaluation (t : Nat) (engine : Nat) (passed : Bool)
  /-- PROOF_INTERVAL_END (R177): A proof interval ends without a proof of the engine, which counts as a failure. -/
  | proofIntervalEnd (t : Nat) (engine : Nat)
  /-- LOOP_OPEN (R169): Opens a context's loop in HOLD or MANUAL mode. -/
  | loopOpen (t : Nat) (rq : CmdReq)
  /-- LOOP_SET (R169): Replaces the manual output of an open context. -/
  | loopSet (t : Nat) (rq : CmdReq)
  /-- CTX_COEF_WRITE (R171): Writes coefficient fields into a pending copy of an open context. -/
  | ctxCoefWrite (t : Nat) (rq : CmdReq)
  /-- LOOP_CLOSE (R170): Closes a loop, applying any pending coefficients. -/
  | loopClose (t : Nat) (rq : CmdReq)
  /-- INJECT_START (R172): Starts injection of a waveform at a point of a context. -/
  | injectStart (t : Nat) (rq : CmdReq)
  /-- INJECT_STOP (R173): Stops the active injection. -/
  | injectStop (t : Nat) (rq : CmdReq)
  /-- CAPTURE_ARM (R174): Arms capture of up to four signals with a trigger. -/
  | captureArm (t : Nat) (rq : CmdReq)
  /-- CAPTURE_ABORT (R175): Stops an armed or running capture. -/
  | captureAbort (t : Nat) (rq : CmdReq)
  /-- BRAKE_MAX_TIME_EXPIRY (R206): BRAKE_MAX_TIME elapses and the stage leaves BRAKING. -/
  | brakeMaxTimeExpiry (t : Nat) (stage : Nat)
  /-- CROWBAR_FIRE (R207): Fault 0x0502 reaches the Modulator and the stage fires its crowbar. -/
  | crowbarFire (t : Nat) (phase : Nat)
  /-- WEAR_SAVE (R211): Every WEAR_SAVE minutes of RUN the wear records are written to the store. -/
  | wearSave (t : Nat)
  /-- QUIET_POINT (R212): A stage's output stays low for QUIET_TIME and reaches a quiet point. -/
  | quietPoint (t : Nat) (stage : Nat)
  /-- PHASE_RETIRE (R214): Sets a working phase RETIRE_PENDING. -/
  | phaseRetire (t : Nat) (rq : CmdReq)
  /-- WEAR_RESET (R214): Starts a fresh wear record for a phase. -/
  | wearReset (t : Nat) (rq : CmdReq)
  /-- LEDGER_BOUNDARY (R12): The first tick of a ledger period, at which the tagged values take effect and the per-period actions run. -/
  | ledgerBoundary (t : Nat) (spa : List (Nat × Nat))
  /-- LEDGER_COMPUTE (R220): After the measurement window closes, Balance computes caps, allocation, sharing and bounds for the next period. -/
  | ledgerCompute (t : Nat)
  /-- CAPO_PERIOD_START (R233): Every tenth ledger period a CAPO pulse starts with the high time from the least cap. -/
  | capoPeriodStart (t : Nat) (capo : Nat)
  /-- HOLDUP_STAGE_NAMED (R237): HOLDUP_HOLD of a stage elapses and the hold-up order names it. -/
  | holdupStageNamed (t : Nat) (stage : Nat)
  /-- SUPPLY_SHORT (R226): A consumer's limit stays below its demand for SHORT_TIME and raises 0x0801. -/
  | supplyShort (t : Nat) (consumer : Nat)
  /-- REST_GRANT (R239): At a 1 s boundary Balance grants a pending rest request. -/
  | restGrant (t : Nat)
  /-- REST_RAMP_DOWN_END (R240): The rest envelope reaches 0 and RESTING begins. -/
  | restRampDownEnd (t : Nat)
  /-- REST_WINDOW_END (R240): REST_WINDOW elapses and RAMP_UP begins. -/
  | restWindowEnd (t : Nat)
  /-- REST_RAMP_UP_END (R240): The envelope reaches the string's limit and the rest completes. -/
  | restRampUpEnd (t : Nat)
  /-- REST_ABORT (R241): Other strings' limits fall short for REST_ABORT_TIME and the rest aborts. -/
  | restAbort (t : Nat)
  /-- REST_WAIT_EXPIRY (R242): A request pending for REST_WAIT_MAX sets NO_REST. -/
  | restWaitExpiry (t : Nat) (string : Nat)
  /-- MODEL_STEP (R253): At each 10 ms boundary the cell model advances and the sample rate is set. -/
  | modelStep (t : Nat)
  /-- BALANCING_SELECT (R267): At each 1 s boundary bleeding cells are chosen and BLEED commands issued. -/
  | balancingSelect (t : Nat)
  /-- STALE_MARK (R262): MAX_COUNT_H hours since the last read set STALE. -/
  | staleMark (t : Nat) (string : Nat)
  /-- LEARN_SAVE (R274): Every LEARN_SAVE minutes of RUN a store write is requested. -/
  | learnSave (t : Nat)
  /-- STORE_WRITE_START (R270): A snapshot is taken and the target slot is erased and programmed. -/
  | storeWriteStart (t : Nat)
  /-- STORE_WRITE_COMPLETE (R271): The store commit record program completes and 0x8A03 is recorded. -/
  | storeWriteComplete (t : Nat) (failedAt : Option Nat)
  /-- STORE_SLOT_ERASE (R272): A non-erased losing slot is erased within 60 s of mount. -/
  | storeSlotErase (t : Nat)
  /-- RACK_ON_CHANGE (R277): A filtered RACK_ON change gives an on or off request. -/
  | rackOnChange (t : Nat) (level : Bool)
  /-- SEQUENCE_STEP_ISSUE (R280): A power-up step starts and stops keep-alives and sends stage start requests. -/
  | sequenceStepIssue (t : Nat)
  /-- STEP_WAIT_END (R280): DWELL has elapsed and every rail of the step is up, so the step completes. -/
  | stepWaitEnd (t : Nat)
  /-- READ_WAIT_END (R281): The first reads arrive or READ_WAIT ends before a step with string stages. -/
  | readWaitEnd (t : Nat)
  /-- UP_TIMEOUT (R295): UP_TIMEOUT expires with rails not up; 0x0901 is raised and the step is flagged. -/
  | upTimeout (t : Nat)
  /-- STEP_REVERSE (R282): A power-down step stops its keep-alives and stages and waits for discharge. -/
  | stepReverse (t : Nat)
  /-- DISCH_TIMEOUT (R296): A rail not discharged by DISCH_TIMEOUT raises 0x0902 and enters the undischarged mask. -/
  | dischTimeout (t : Nat) (rail : Nat)
  /-- UNDISCHARGED_WAIT_END (R297): The wait for undischarged rails before step 0 ends. -/
  | undischargedWaitEnd (t : Nat)
  /-- GUARD_WAIT_EXPIRY (R298): GUARD_WAIT passes without hold-up and the guarded stage is stopped. -/
  | guardWaitExpiry (t : Nat)
  /-- RAIL_OUT_OF_WINDOW (R286): A supervised rail stays outside its window for RUN_FILTER and raises 0x0903. -/
  | railOutOfWindow (t : Nat) (rail : Nat)
  /-- KEEPALIVE_HOLD_EXPIRY (R288): A keep-alive without refresh for 1 ms goes static and raises 0x0907. -/
  | keepaliveHoldExpiry (t : Nat) (ka : Nat)
  /-- CONTACTOR_MISMATCH (R291): The auxiliary contact disagrees with the output after FB_DELAY and raises 0x0906. -/
  | contactorMismatch (t : Nat) (ka : Nat)
  /-- RAIL_MARGIN (R299): Sets a stage's margin fraction in SERVICE. -/
  | railMargin (t : Nat) (rq : CmdReq)
  /-- PROX_MATE (R314): CP_PROX stays low for PROX_MATE_FILTER and Clasp enters CHECK. -/
  | proxMate (t : Nat)
  /-- PATINA_CHECK_COMPLETE (R332): A patina check finishes and classifies the connector. -/
  | patinaCheckComplete (t : Nat) (p : PatinaMeasure)
  /-- PATINA_RETEST (R332): A retest timer of DAMP, BLOCKED or DRY starts a patina check. -/
  | patinaRetest (t : Nat)
  /-- MESSAGE_DISCARDED (R308): An Erdun message failing acceptance is discarded and counted. -/
  | messageDiscarded (t : Nat) (m : PilotMsg)
  /-- ACCEPT (R317): A received ACCEPT grants a request, starting a contract or transition. -/
  | accept (t : Nat) (m : PilotMsg)
  /-- REJECT (R317): A received REJECT refuses a request with a reason. -/
  | reject (t : Nat) (m : PilotMsg)
  /-- WAIT (R323): A received WAIT defers the request for at least 10 ms. -/
  | wait (t : Nat) (m : PilotMsg)
  /-- SETTLED (R322): A received SETTLED ends a transition or a swap step. -/
  | settled (t : Nat) (m : PilotMsg)
  /-- CAPS_QUERY (R314): A received CAPS_QUERY is answered with CAPABILITIES. -/
  | capsQuery (t : Nat) (m : PilotMsg)
  /-- ROLE_SWAP (R325): A received ROLE_SWAP is answered and may start a swap. -/
  | roleSwap (t : Nat) (m : PilotMsg)
  /-- RESYNC (R312): A received RESYNC resets message counts and abandons transitions. -/
  | resync (t : Nat) (m : PilotMsg)
  /-- END_COUPLING (R333): A received END_COUPLING ends the coupling on this side. -/
  | endCoupling (t : Nat) (m : PilotMsg)
  /-- NOT_SUPPORTED (R308): A received NOT_SUPPORTED reports an unused message type. -/
  | notSupported (t : Nat) (m : PilotMsg)
  /-- UNKNOWN_TYPE (R308): A message of an unassigned TYPE is acknowledged and answered with NOT_SUPPORTED. -/
  | unknownType (t : Nat) (m : PilotMsg)
  /-- CAPABILITIES (R315): Received CAPABILITIES resolve roles and trigger requests. -/
  | capabilities (t : Nat) (m : PilotMsg)
  /-- REQUEST (R317): A received REQUEST is checked and answered by the Source. -/
  | request (t : Nat) (m : PilotMsg)
  /-- STATUS (R321): A received STATUS updates the partner's link, patina and flags. -/
  | status (t : Nat) (m : PilotMsg)
  /-- ALERT (R321): A received ALERT reports a cause ahead of END_COUPLING. -/
  | alert (t : Nat) (m : PilotMsg)
  /-- DISCOVER_IDENTITY (R405): A received DISCOVER_IDENTITY is answered with identity chunks signed by DEVICE_KEY. -/
  | discoverIdentity (t : Nat) (m : PilotMsg)
  /-- IDENTITY_CHUNK (R328): A received identity chunk is assembled into the partner's blob. -/
  | identityChunk (t : Nat) (m : PilotMsg)
  /-- DISCOVER_MODES (R329): A received DISCOVER_MODES is answered with the enabled modes. -/
  | discoverModes (t : Nat) (m : PilotMsg)
  /-- ENTER_MODE (R329): A received ENTER_MODE enters Tandem or Bridge when allowed. -/
  | enterMode (t : Nat) (m : PilotMsg)
  /-- EXIT_MODE (R329): A received EXIT_MODE restores the normal laws. -/
  | exitMode (t : Nat) (m : PilotMsg)
  /-- ATTENTION (R327): A received ATTENTION VDM makes the end send STATUS within 5 ms. -/
  | attention (t : Nat) (m : PilotMsg)
  /-- BRIDGE_FRAME (R330): A received BRIDGE_FRAME is transmitted on BRIDGE_CAN. -/
  | bridgeFrame (t : Nat) (m : PilotMsg)
  /-- CUSTOMER_VDM (R327): A customer VDM is relayed to the mailbox or answered NOT_SUPPORTED. -/
  | customerVdm (t : Nat) (m : PilotMsg)
  /-- RECEIPT (R310): A valid receipt acknowledges the sender's outstanding message. -/
  | receipt (t : Nat) (byte : Nat) (cellsOk : Bool)
  /-- ACK_TIMEOUT (R311): A missed acknowledgement leads to a retry, a soft reset or a hard reset. -/
  | ackTimeout (t : Nat)
  /-- COLLISION (R309): CP_RX mismatches the drive; the line is released and the message resent later. -/
  | collision (t : Nat)
  /-- LINE_BREAK (R313): The line stays dominant for 1 ms; the coupling ends with HARD_RESET and LOCKOUT. -/
  | lineBreak (t : Nat)
  /-- CAPS_WAIT_TIMEOUT (R314): No CAPABILITIES arrive within 100 ms and CAPS_QUERY is sent. -/
  | capsWaitTimeout (t : Nat)
  /-- STATUS_TIMER (R314): The periodic STATUS is sent every 20 ms, or every 2 ms in Tandem. -/
  | statusTimer (t : Nat)
  /-- CLOSING_START (R319): The closing conditions hold; the end starts KA_POS and KA_NEG and enters CLOSING. -/
  | closingStart (t : Nat)
  /-- CLOSING_TIMEOUT (R319): CLOSING lasts 500 ms without SETTLED and the coupling ends with TIMEOUT. -/
  | closingTimeout (t : Nat)
  /-- TRANSITION_SETTLE (R322): V_r equals V_c and V_link has held for 5 ms, so the Source sends SETTLED. -/
  | transitionSettle (t : Nat)
  /-- TRANSITION_ABANDON (R324): A transition without SETTLED in time is abandoned and the contract reverts. -/
  | transitionAbandon (t : Nat)
  /-- SWAP_STEP_TIMEOUT (R325): A role swap step exceeds 500 ms and the coupling ends with TIMEOUT. -/
  | swapStepTimeout (t : Nat)
  /-- LINK_VOLTAGE (R321): The link voltage stays outside the object for LINK_V_FILTER and the coupling ends. -/
  | linkVoltage (t : Nat)
  /-- LINK_IMBALANCE (R321): The 100 ms mean power imbalance exceeds IMBAL_LIMIT and the coupling ends. -/
  | linkImbalance (t : Nat)
  /-- COUPLING_END_COMPLETE (R333): Link current falls below LINK_OPEN_I or 10 ms pass, and the coupling keep-alives stop. -/
  | couplingEndComplete (t : Nat)
  /-- SPLIT (R334): In Tandem, three missed acknowledgements and 5 ms of silence split the couple. -/
  | split (t : Nat)
  /-- CABLE_PULLED (R335): A proximity break ramps the agreements to zero, stops the keep-alives and enters DETACHED. -/
  | cablePulled (t : Nat)
  /-- LOCKOUT_EXPIRY (R336): The LOCKOUT time passes with the line recessive, and Clasp returns to CHECK. -/
  | lockoutExpiry (t : Nat)
  /-- HALLMARK_VERIFY_COMPLETE (R406): Benra finishes verifying the partner's chain and signature. -/
  | hallmarkVerifyComplete (t : Nat)
  /-- HALLMARK_RETRY (R328): After a discarded identity the initiator asks once more after 1 s. -/
  | hallmarkRetry (t : Nat)
  /-- SINK_REQUEST_RESEND (R316): The bus deviates from V_c for 1 s and the Sink sends a new REQUEST. -/
  | sinkRequestResend (t : Nat)
  /-- BRIDGE_CAN_RX (R330): A matching CAN frame on BRIDGE_CAN is queued as a BRIDGE_FRAME. -/
  | bridgeCanRx (t : Nat) (id : Nat) (fdf : Bool) (brs : Bool) (data : Bytes)
  /-- COUPLING_END (R333): Host command ending the coupling with cause REQUESTED. -/
  | couplingEnd (t : Nat) (rq : CmdReq)
  /-- COUPLING_ROLE_SWAP (R325): Host command sending ROLE_SWAP. -/
  | couplingRoleSwap (t : Nat) (rq : CmdReq)
  /-- COUPLING_MODE (R329): Host command sending ENTER_MODE or EXIT_MODE. -/
  | couplingMode (t : Nat) (rq : CmdReq)
  /-- COUPLING_VDM_SEND (R327): Host command sending a customer VDM. -/
  | couplingVdmSend (t : Nat) (rq : CmdReq)
  /-- FAULT_INPUT_ASSERT (R345): A fault input asserts, latches and applies its reaction vector. -/
  | faultInputAssert (x : At (List (Bool × Bool))) (code : Nat) (scope : Nat) (payload : List Nat)
  /-- FAULT_INPUT_DEASSERT (R340): A fault input returns to idle for 2 cycles. -/
  | faultInputDeassert (x : At (List (Bool × Bool))) (code : Nat) (scope : Nat)
  /-- PAIR_MISMATCH (R341): Equal levels on a pair for 8 cycles assert it and raise 0x0C01. -/
  | pairMismatch (x : At (List (Bool × Bool))) (code : Nat) (scope : Nat)
  /-- INPUT_STUCK (R342): Test pulses missed in 2 slots raise 0x0C02. -/
  | inputStuck (t : Nat) (code : Nat) (scope : Nat) (test : TestPulses)
  /-- REACTION_PARITY (R349): The periodic parity check finds a bad entry and applies the fail-safe reaction. -/
  | reactionParity (t : Nat) (entry : HeldEntry)
  /-- S1_ESCALATED (R351): S1_CONFIRM expires without every stage stopped, and the level rises to S2. -/
  | s1Escalated (t : Nat)
  /-- CLEAR_HOLD_OFF_EXPIRY (R358): An AUTO input deasserted for HOLD_OFF clears. -/
  | clearHoldOffExpiry (t : Nat) (code : Nat) (scope : Nat)
  /-- FAULT_CLEAR (R359): Host command clearing named latched inputs at the next ledger boundary. -/
  | faultClear (t : Nat) (rq : CmdReq)
  /-- SAFE_IN (R356): SAFE_IN_N stays low for SAFE_IN_FILTER and raises 0x0C03. -/
  | safeIn (x : At HeldLevel)
  /-- RECORDER_MOUNT (R369): The recorder flash mount completes: odometer, sectors, append point and last-breath copies. -/
  | recorderMount (t : Nat) (device : Option CsDevice)
  /-- RECORD_STAGE (R375): A record arrives at Vitrine and is staged, folded, rate-limited or dropped. -/
  | recordStage (t : Nat) (code : Nat) (scope : Nat) (payload : Bytes)
  /-- TOKEN_REFILL (R373): A RATE code's bucket gains a token every REFILL ms. -/
  | tokenRefill (t : Nat) (code : Nat)
  /-- RECORD_FLUSH (R376): A staged record is sealed with its TAIL and programmed to flash. -/
  | recordFlush (t : Nat) (ended : FlashEnd)
  /-- ODOMETER_WRITE (R386): Every ODO_PERIOD minutes an odometer entry is written. -/
  | odometerWrite (t : Nat)
  /-- POWER_FAIL (R388): PWR_FAIL_N counts as asserted; no new flash program or erase starts. -/
  | powerFail (t : Nat)
  /-- LAST_BREATH (R389): The Plinth waits for the flash and programs the last-breath record. -/
  | lastBreath (t : Nat) (trigger : Nat)
  /-- RECORDER_SEAL (R383): Returns a device-key signature over the newest flushed record. -/
  | recorderSeal (t : Nat) (rq : CmdReq)
  /-- RECORDER_CLEAR (R384): With a token, starts a new log generation. -/
  | recorderClear (t : Nat) (rq : CmdReq)
  /-- RECORDER_CLEAR_COMPLETE (R384): The new generation's sector commit completes and the final status is DONE. -/
  | recorderClearComplete (t : Nat) (programOk : Bool)
  /-- AUTH_LOCKOUT_EXPIRY (R410): LOCKOUT_S passes and the channel is served again. -/
  | authLockoutExpiry (t : Nat) (channel : Nat)
  /-- SERVICE_OPEN (R411): Opens the single SERVICE session bound to the channel. -/
  | serviceOpen (t : Nat) (rq : CmdReq)
  /-- SERVICE_CLOSE (R411): Closes the SERVICE session. -/
  | serviceClose (t : Nat) (rq : CmdReq)
  /-- SERVICE_TIMEOUT (R411): SERVICE_TIMEOUT passes without a command and the session closes. -/
  | serviceTimeout (t : Nat)
  /-- OWNER_ENROL (R400): Programs the running image's owner key hash into the next owner slot. -/
  | ownerEnrol (t : Nat) (rq : CmdReq) (vpp : Nat)
  /-- OWNER_TRANSFER (R401): Programs a new owner key hash signed by the current owner. -/
  | ownerTransfer (t : Nat) (rq : CmdReq) (vpp : Nat)
  /-- PATCH_ROLLBACK_ADVANCE (R404): Raises the patch rollback count to the running patch's value. -/
  | patchRollbackAdvance (t : Nat) (rq : CmdReq) (vpp : Nat)
  /-- DEBUG_UNLOCK (R413): With a token, erases the keys and opens debug access. -/
  | debugUnlock (t : Nat) (rq : CmdReq)
  /-- ATTEST (R407): Returns signed attestation data for a nonce. -/
  | attest (t : Nat) (rq : CmdReq)
  /-- TRNG_HEALTH (R415): A continuous health test fails and halts the DRBG. -/
  | trngHealth (x : At Bytes)
  /-- TRNG_RETEST (R415): Every 1 s while the DRBG is halted the start-up test is repeated. -/
  | trngRetest (t : Nat) (raw : Bytes)
  /-- DRBG_RESEED (R414): After 2^16 requests the DRBG is reseeded. -/
  | drbgReseed (x : At Bytes)
  /-- CAN_SEGMENT (R434): A CAN frame on REQ_ID adds a segment to the request in assembly. -/
  | canSegment (t : Nat) (port : HostPort) (segment : CanSegment)
  /-- REQUEST_DISCARDED (R420): A malformed request is discarded and answered INTEGRITY with DISCARDED. -/
  | requestDiscarded (t : Nat) (port : HostPort) (bytes : Bytes)
  /-- TW_READ_TRANSFER (R424): A two-wire read returns the response buffer, holding SCL until it is ready. -/
  | twReadTransfer (t : Nat) (x : TwRead)
  /-- TW_RESPONSE_PENDING (R426): After 1 ms without a final answer the port returns BUSY with PENDING. -/
  | twResponsePending (t : Nat) (rq : Request)
  /-- DEFERRED_RESPONSE (R435): A final answer that was pending becomes ready and is sent or made readable. -/
  | deferredResponse (t : Nat) (port : HostPort)
  /-- SCL_TIMEOUT (R427): SCL stays low over 25 ms; the transfer is abandoned and 0x8F03 recorded. -/
  | sclTimeout (x : At Nat)
  /-- SDA_TIMEOUT (R427): SDA stays low over 35 ms; the transfer is abandoned and 0x8F03 recorded. -/
  | sdaTimeout (x : At Nat)
  /-- ATTENTION_PULSE (R430): The target pulses SDA at bus idle and every 10 ms while CAUSES is non-zero. -/
  | attentionPulse (x : At Nat)
  /-- ATTENTION_PULSE_ABORT (R430): SCL goes low during a pulse; SDA is released and ATTN_ABORT counted. -/
  | attentionPulseAbort (t : Nat)
  /-- ATTENTION_ESCALATION (R431): CAUSES stays unread for ATTN_WINDOW and an ESCALATION status frame is sent. -/
  | attentionEscalation (t : Nat)
  /-- ATTENTION_STATUS_READ (R429): A read of the attention status object clears the causes in its copy. -/
  | attentionStatusRead (t : Nat) (rq : Request)
  /-- CAN_BUS_OFF (R433): A controller goes bus-off and records 0x8F04. -/
  | canBusOff (t : Nat) (port : HostPort)
  /-- CAN_RECOVERED (R433): A bus-off controller completes recovery and records 0x8F05. -/
  | canRecovered (t : Nat) (port : HostPort)
  /-- CAN_SEGMENT_GAP (R434): More than 50 ms between segments discards the request in assembly. -/
  | canSegmentGap (t : Nat) (port : HostPort)
  /-- CAN_REMOTE_FRAME (R432): A remote frame is ignored and counted in RTR_IGNORED. -/
  | canRemoteFrame (t : Nat) (port : HostPort)
  /-- TELEMETRY_COPY (R436): At an entry's millisecond slot an object copy is queued as a telemetry frame. -/
  | telemetryCopy (t : Nat) (entry : Nat)
  /-- STATUS_FRAME (R437): Every STATUS_PERIOD ms a PERIODIC status frame is sent. -/
  | statusFrame (t : Nat) (port : HostPort)
  /-- HOST_SETTINGS_SWITCH (R438): At the port's next idle after activation, the ports change to the HOST settings. -/
  | hostSettingsSwitch (t : Nat) (port : HostPort)
  /-- RECORDER_CURSOR_WRITE (R446): Writes the port's recorder cursor. -/
  | recorderCursorWrite (t : Nat) (rq : Request)
  /-- RECORDER_RECORD_READ (R382): A read at offset 0 copies the named record and its result into the port buffer. -/
  | recorderRecordRead (t : Nat) (rq : Request)
  /-- VDM_MAILBOX_RELEASE (R447): Writing 0x00 frees a VDM mailbox entry. -/
  | vdmMailboxRelease (t : Nat) (rq : Request)
  /-- INJECTION_TABLE_WRITE (R448): Writes whole samples of the injection table in SERVICE. -/
  | injectionTableWrite (t : Nat) (rq : Request)
  /-- OBJECT_WRITE (R443): A write to any other object is checked in order and refused. -/
  | objectWrite (t : Nat) (rq : Request)
  /-- TAP_RESET (R468): TRST_N or five TMS-high cycles put the TAP in Test-Logic-Reset. -/
  | tapReset (t : Nat)
  /-- INSTRUCTION_LOAD (R469): A boundary-scan instruction is loaded and decoded, or acts as BYPASS. -/
  | instructionLoad (t : Nat) (opcode : Nat) (scan : TapScan)
  /-- TEST_EN_LOW (R470): TEST_EN stays low for 1 µs and the chip leaves TEST by reset. -/
  | testEnLow (x : At Nat)
  /-- PWR_FAIL_DEASSERT (R79): PWR_FAIL_N stays high for the filter time and counts as deasserted, lifting the flash and commit restrictions it imposed. -/
  | pwrFailDeassert (t : Nat)
  /-- TILE_POWER_UP (R103): A tile powers up and enters its off latch with cause POWER_ON, OFF_COUNT incremented. -/
  | tilePowerUp (t : Nat) (tile : Nat)
  /-- TILE_ACTIVE_DN_LOST (R111): A dual-homed tile sees no valid frame on its active downstream lane for 2 frame periods and sets ACTIVE_DN_LOST. -/
  | tileActiveDnLost (t : Nat) (tile : Nat)
  /-- S1_GUARD_WAIT_EXPIRY (R279): Level S1 has stayed held with the rack up for GUARD_WAIT and a power-down with cause CLEAR starts. -/
  | s1GuardWaitExpiry (t : Nat)
  /-- VDM_REPLY (R329): A received Kreilo VDM ACK, NAK or BUSY answering DISCOVER_MODES, ENTER_MODE or EXIT_MODE enters or refuses the mode and gives the final status of COUPLING_MODE. -/
  | vdmReply (t : Nat) (m : PilotMsg)
  /-- KREILO_VDM_UNKNOWN (R327): A Kreilo VDM request with an unknown COMMAND is acknowledged and answered with NAK. -/
  | kreiloVdmUnknown (t : Nat) (m : PilotMsg)
  /-- PILOT_TRANSMIT_START (R309): A queued Erdun message starts once the line has been idle 200 µs, or after the collision back-off idle time. -/
  | pilotTransmitStart (t : Nat)
  deriving DecidableEq, Repr

end Sys2Proof
end

