-- ==== Sys2Proof/Decode.lean ====
section
/-! DEFINITION. The commands that a word spells by the bits of the table of operations and events. The table gives its
rows no bits: the spec's commands are events, frames and requests, so no word spells one. -/

namespace Sys2Proof

/-- The command a word spells: none, as no row of the table has bits. -/
def decodeTableWord (_nbits _w : Nat) : Option Instr := none

end Sys2Proof
end

