-- ==== Sys2Proof/Machine/Bytes.lean ====
section
/-! DEFINITION. Byte strings read and written by the spec's conventions (R5: little-endian everywhere but the
Erdun wire), counters that saturate, and the sorted table that holds every numbered group of state. -/

namespace Sys2Proof.Machine

/-- The number a little-endian byte string spells (R5). -/
def leNat : Bytes → Nat
  | [] => 0
  | b :: bs => b.toNat + 256 * leNat bs

/-- The number a most-significant-byte-first string spells (R5, the Erdun wire; SEC 1 octet strings, R33). -/
def beNat (bs : Bytes) : Nat := bs.foldl (fun a b => 256 * a + b.toNat) 0

/-- `n` bytes from offset `off`. -/
def slice (b : Bytes) (off n : Nat) : Bytes := (b.drop off).take n

/-- The unsigned little-endian field of `n` bytes at `off`; bytes past the end read as absent. -/
def field (b : Bytes) (off n : Nat) : Nat := leNat (slice b off n)

/-- The byte at `off`, 0 past the end. -/
def u8 (b : Bytes) (off : Nat) : Nat := field b off 1
/-- The uint16 at `off`. -/
def u16 (b : Bytes) (off : Nat) : Nat := field b off 2
/-- The uint32 at `off`. -/
def u32 (b : Bytes) (off : Nat) : Nat := field b off 4
/-- The uint64 at `off`. -/
def u64 (b : Bytes) (off : Nat) : Nat := field b off 8

/-- The two's complement reading of an unsigned field of `w` bits. -/
def signedOf (w n : Nat) : Int := if 2 ^ (w - 1) ≤ n then (n : Int) - 2 ^ w else n

/-- The int8 at `off`. -/
def i8 (b : Bytes) (off : Nat) : Int := signedOf 8 (u8 b off)
/-- The int16 at `off`. -/
def i16 (b : Bytes) (off : Nat) : Int := signedOf 16 (u16 b off)
/-- The int32 at `off`. -/
def i32 (b : Bytes) (off : Nat) : Int := signedOf 32 (u32 b off)

/-- The `n` little-endian bytes of a number, its high bits dropped. -/
def leBytes : Nat → Nat → Bytes
  | 0, _ => []
  | n + 1, v => byte (v % 256) :: leBytes n (v / 256)

/-- The `n` most-significant-first bytes of a number. -/
def beBytes (n v : Nat) : Bytes := (leBytes n v).reverse

/-- The `n` little-endian bytes of a signed number, two's complement. -/
def leInt (n : Nat) (v : Int) : Bytes := leBytes n (v % ((256 : Int) ^ n)).toNat

/-- `n` zero bytes. -/
def zeros (n : Nat) : Bytes := List.replicate n 0

/-- A byte string made exactly `n` long: cut, or filled with zero bytes. -/
def fit (n : Nat) (b : Bytes) : Bytes := b.take n ++ zeros (n - b.length)

/-- The bytes of an ASCII string. -/
def ascii (s : String) : Bytes := s.toList.map (fun c => byte c.toNat)

/-- Every byte is 0 (R6, R7). -/
def allZero (b : Bytes) : Bool := b.all (· == 0)

/-- Bytes `off` to `off + n - 1` are all 0 (R7). -/
def zeroAt (b : Bytes) (off n : Nat) : Bool := allZero (slice b off n)

/-- `lo` to `hi`, both ends included. -/
def within (lo hi v : Nat) : Bool := decide (lo ≤ v) && decide (v ≤ hi)

/-- As `within`, for signed numbers. -/
def withinI (lo hi v : Int) : Bool := decide (lo ≤ v) && decide (v ≤ hi)

/-- The first multiple of 16 at or after `n`. -/
def align16 (n : Nat) : Nat := (n + 15) / 16 * 16

/-- A 32-bit saturating count raised by `k`. -/
def sat32 (n k : Nat) : Nat := min (n + k) 0xFFFFFFFF

/-- A 16-bit saturating count raised by `k`. -/
def sat16 (n k : Nat) : Nat := min (n + k) 0xFFFF

/-- `v` held between `lo` and `hi`. -/
def clampI (lo hi v : Int) : Int := max lo (min hi v)

/-- Bit `i` of a bitmask. -/
def bit (m i : Nat) : Bool := m.testBit i

/-- The set bits of a bitmask below `n`, ascending. -/
def bitsOf (n m : Nat) : List Nat := (List.range n).filter (fun i => m.testBit i)

/-- The bitmask with exactly the listed bits set. -/
def maskOf (l : List Nat) : Nat := l.foldl (fun a i => a ||| (1 <<< i)) 0

/-- A number per yes or no. -/
def flag (b : Bool) : Nat := if b then 1 else 0

/-- Division rounded half away from zero. -/
def divRound (a : Int) (b : Nat) : Int :=
  if 0 ≤ a then (a.toNat + b / 2) / b else - (((-a).toNat + b / 2) / b : Nat)

/-- Unsigned division rounded up. -/
def ceilDiv (a b : Nat) : Nat := (a + (b - 1)) / b

/-! ### Tables: a numbered group of like things, listed by ascending number -/

/-- A table from numbers to values, sorted by number without repeats. -/
abbrev Tab (α : Type) := List (Nat × α)

/-- The entry of number `k`, or `d` where the table lists none. -/
def Tab.get {α : Type} (d : α) : Tab α → Nat → α
  | [], _ => d
  | (j, v) :: rest, k => if k = j then v else Tab.get d rest k

/-- The table with entry `k` set. -/
def Tab.set {α : Type} : Tab α → Nat → α → Tab α
  | [], k, v => [(k, v)]
  | (j, w) :: rest, k, v =>
    if k < j then (k, v) :: (j, w) :: rest
    else if k = j then (k, v) :: rest
    else (j, w) :: Tab.set rest k v

/-- The table without entry `k`. -/
def Tab.del {α : Type} (t : Tab α) (k : Nat) : Tab α := t.filter (fun p => p.1 ≠ k)

/-- The table with entry `k` changed by `f`, starting from `d` where it was not listed. -/
def Tab.upd {α : Type} (d : α) (t : Tab α) (k : Nat) (f : α → α) : Tab α :=
  Tab.set t k (f (Tab.get d t k))

/-- The entry of number `k`, where the table lists one. -/
def Tab.find {α : Type} : Tab α → Nat → Option α
  | [], _ => none
  | (j, v) :: rest, k => if k = j then some v else Tab.find rest k

/-- Strictly ascending numbers. -/
def Tab.sorted {α : Type} : Tab α → Bool
  | [] => true
  | [_] => true
  | a :: b :: rest => decide (a.1 < b.1) && Tab.sorted (b :: rest)

end Sys2Proof.Machine
end

