-- ==== Sys2Proof/Machine/Crypto.lean ====
section
/-! DEFINITION. The algorithms the spec names and takes from their standards: SHA-384 (R34), HMAC-SHA-384 (R376),
HKDF (R393), AES-256-CMAC (R408) and ECDSA on P-384 (R394). The spec cites FIPS 180-4, RFC 2104, RFC 5869, SP 800-38B
and FIPS 186-5 for them, so their constants are PRESUMED (assumption 10). -/

namespace Sys2Proof.Machine

/-! ### SHA-384 -/

/-- The low 64 bits. -/
def w64 (n : Nat) : Nat := n % 2 ^ 64

/-- Rotation of a 64-bit word to the right. -/
def rotr64 (x n : Nat) : Nat := w64 (Nat.lor (x >>> n) (x <<< (64 - n)))

/-- Exclusive-OR of three words. -/
def xor3 (a b c : Nat) : Nat := Nat.xor (Nat.xor a b) c

/-- The words of 64 bits that a number packs, the newest `n`, the most significant first. -/
def unpack64 (n x : Nat) : List Nat := (List.range n).reverse.map (fun i => w64 (x >>> (64 * i)))

/-- The 80 round constants: the fractions of the cube roots of the first 80 primes, 64 bits of each, eight to a number. -/
def sha512K : List Nat :=
  [0x428a2f98d728ae227137449123ef65cdb5c0fbcfec4d3b2fe9b5dba58189dbbc3956c25bf348b53859f111f1b605d019923f82a4af194f9bab1c5ed5da6d8118,
   0xd807aa98a303024212835b0145706fbe243185be4ee4b28c550c7dc3d5ffb4e272be5d74f27b896f80deb1fe3b1696b19bdc06a725c71235c19bf174cf692694,
   0xe49b69c19ef14ad2efbe4786384f25e30fc19dc68b8cd5b5240ca1cc77ac9c652de92c6f592b02754a7484aa6ea6e4835cb0a9dcbd41fbd476f988da831153b5,
   0x983e5152ee66dfaba831c66d2db43210b00327c898fb213fbf597fc7beef0ee4c6e00bf33da88fc2d5a79147930aa72506ca6351e003826f142929670a0e6e70,
   0x27b70a8546d22ffc2e1b21385c26c9264d2c6dfc5ac42aed53380d139d95b3df650a73548baf63de766a0abb3c77b2a881c2c92e47edaee692722c851482353b,
   0xa2bfe8a14cf10364a81a664bbc423001c24b8b70d0f89791c76c51a30654be30d192e819d6ef5218d69906245565a910f40e35855771202a106aa07032bbd1b8,
   0x19a4c116b8d2d0c81e376c085141ab532748774cdf8eeb9934b0bcb5e19b48a8391c0cb3c5c95a634ed8aa4ae3418acb5b9cca4f7763e373682e6ff3d6b2b8a3,
   0x748f82ee5defb2fc78a5636f43172f6084c87814a1f0ab728cc702081a6439ec90befffa23631e28a4506cebde82bde9bef9a3f7b2c67915c67178f2e372532b,
   0xca273eceea26619cd186b8c721c0c207eada7dd6cde0eb1ef57d4f7fee6ed17806f067aa72176fba0a637dc5a2c898a6113f9804bef90dae1b710b35131c471b,
   0x28db77f523047d8432caab7b40c724933c9ebe0a15c9bebc431d67c49c100d4c4cc5d4becb3e42b6597f299cfc657e2a5fcb6fab3ad6faec6c44198c4a475817].flatMap (unpack64 8)

/-- The initial hash value of SHA-384: the fractions of the square roots of the 9th to 16th primes. -/
def sha384Init : List Nat :=
  unpack64 8 0xcbbb9d5dc1059ed8629a292a367cd5079159015a3070dd17152fecd8f70e593967332667ffc00b318eb44a8768581511db0c2e0d64f98fa747b5481dbefa4fa4

/-- The `i`-th word of a list, 0 past its end. -/
def nth (l : List Nat) (i : Nat) : Nat := l.getD i 0

/-- The message schedule: the newest sixteen words, newest first, extended `n` times; the result is oldest first. -/
def shaSchedule : Nat → List Nat → List Nat
  | 0, w => w.reverse
  | n + 1, w =>
    let x := nth w 1
    let y := nth w 14
    let s1 := xor3 (rotr64 x 19) (rotr64 x 61) (x >>> 6)
    let s0 := xor3 (rotr64 y 1) (rotr64 y 8) (y >>> 7)
    shaSchedule n (w64 (s1 + nth w 6 + s0 + nth w 15) :: w)

/-- One round of the compression function on the eight working words. -/
def shaRound (v : List Nat) (kw : Nat) : List Nat :=
  match v with
  | [a, b, c, d, e, f, g, h] =>
    let t1 := h + xor3 (rotr64 e 14) (rotr64 e 18) (rotr64 e 41)
      + Nat.xor (Nat.land e f) (Nat.land (2 ^ 64 - 1 - e) g) + kw
    let t2 := xor3 (rotr64 a 28) (rotr64 a 34) (rotr64 a 39)
      + xor3 (Nat.land a b) (Nat.land a c) (Nat.land b c)
    [w64 (t1 + t2), a, b, c, w64 (d + t1), e, f, g]
  | _ => v

/-- The sixteen words of a 128-byte block. -/
def shaWords : Nat → Bytes → List Nat
  | 0, _ => []
  | n + 1, b => beNat (b.take 8) :: shaWords n (b.drop 8)

/-- The compression of one 128-byte block. -/
def shaBlock (h : List Nat) (blk : Bytes) : List Nat :=
  let w := shaSchedule 64 (shaWords 16 blk).reverse
  let v := (List.zipWith (fun k x => k + x) sha512K w).foldl shaRound h
  List.zipWith (fun a b => w64 (a + b)) h v

/-- The compression of `n` blocks in order. -/
def shaBlocks : Nat → List Nat → Bytes → List Nat
  | 0, h, _ => h
  | n + 1, h, b => shaBlocks n (shaBlock h (b.take 128)) (b.drop 128)

/-- A message with its padding. -/
def shaPad (b : Bytes) : Bytes :=
  b ++ [0x80] ++ zeros ((239 - b.length % 128) % 128) ++ beBytes 16 (8 * b.length)

/-- SHA-384: 48 bytes. -/
def sha384 (b : Bytes) : Bytes :=
  let p := shaPad b
  ((shaBlocks (p.length / 128) sha384Init p).flatMap (beBytes 8)).take 48

/-! ### HMAC and HKDF -/

/-- Exclusive-OR of every byte with one value. -/
def xorAll (v : Byte) (b : Bytes) : Bytes := b.map (· ^^^ v)

/-- HMAC-SHA-384. -/
def hmac384 (key msg : Bytes) : Bytes :=
  let k := fit 128 (if 128 < key.length then sha384 key else key)
  sha384 (xorAll 0x5c k ++ sha384 (xorAll 0x36 k ++ msg))

/-- HKDF expansion blocks: `n` blocks from number `i`, each chained to the one before. -/
def hkdfBlocks (prk info : Bytes) : Nat → Nat → Bytes → Bytes
  | 0, _, _ => []
  | n + 1, i, prev =>
    let t := hmac384 prk (prev ++ info ++ [byte i])
    t ++ hkdfBlocks prk info n (i + 1) t

/-- HKDF with SHA-384 and a salt of 48 zero bytes (R393). -/
def hkdf384 (ikm info : Bytes) (n : Nat) : Bytes :=
  (hkdfBlocks (hmac384 (zeros 48) ikm) info ((n + 47) / 48) 1 []).take n

/-! ### HMAC_DRBG -/

/-- The update of HMAC_DRBG: key and V after data, in two rounds where there is data (R414). -/
def drbgUpdate (key v data : Bytes) : Bytes × Bytes :=
  let k1 := hmac384 key (v ++ [0x00] ++ data)
  let v1 := hmac384 k1 v
  if data.isEmpty then (k1, v1)
  else
    let k2 := hmac384 k1 (v1 ++ [0x01] ++ data)
    (k2, hmac384 k2 v1)

/-- Key and V right after the first seed. -/
def drbgSeed (seed : Bytes) : Bytes × Bytes := drbgUpdate (zeros 48) (List.replicate 48 0x01) seed

/-! ### AES-256 and CMAC -/

/-- Doubling in the AES field. -/
def xtime (a : Byte) : Byte := (a <<< 1) ^^^ (if a.msb then 0x1b else 0)

/-- Product in the AES field over the low `n` bits of `b`. -/
def gmulAux : Nat → Byte → Byte → Byte
  | 0, _, _ => 0
  | n + 1, a, b => (if b.getLsbD 0 then a else 0) ^^^ gmulAux n (xtime a) (b >>> 1)

/-- Product in the AES field. -/
def gmul (a b : Byte) : Byte := gmulAux 8 a b

/-- The inverse in the AES field, 0 for 0: the 254th power. -/
def ginv (a : Byte) : Byte :=
  let a2 := gmul a a
  let a3 := gmul a2 a
  let a6 := gmul a3 a3
  let a12 := gmul a6 a6
  let a15 := gmul a12 a3
  let a30 := gmul a15 a15
  let a60 := gmul a30 a30
  let a120 := gmul a60 a60
  let a126 := gmul a120 a6
  let a127 := gmul a126 a
  gmul a127 a127

/-- The AES substitution. -/
def sbox (a : Byte) : Byte :=
  let b := ginv a
  b ^^^ b.rotateLeft 1 ^^^ b.rotateLeft 2 ^^^ b.rotateLeft 3 ^^^ b.rotateLeft 4 ^^^ 0x63

/-- Exclusive-OR of two byte strings. -/
def xorBytes (a b : Bytes) : Bytes := List.zipWith (· ^^^ ·) a b

/-- The AES-256 key schedule: words newest first, extended from word number `i`, `n` more. -/
def aesExpand : Nat → Nat → Byte → List Bytes → List Bytes
  | 0, _, _, w => w.reverse
  | n + 1, i, rc, w =>
    let prev := w.getD 0 []
    let back := w.getD 7 []
    let t :=
      if i % 8 = 0 then
        match (prev.rotateLeft 1).map sbox with
        | b :: bs => (b ^^^ rc) :: bs
        | [] => []
      else if i % 8 = 4 then prev.map sbox
      else prev
    aesExpand n (i + 1) (if i % 8 = 0 then xtime rc else rc) (xorBytes back t :: w)

/-- The 4-byte words of a byte string. -/
def words4 : Nat → Bytes → List Bytes
  | 0, _ => []
  | n + 1, b => b.take 4 :: words4 n (b.drop 4)

/-- The fifteen round keys of AES-256. -/
def aesRoundKeys (key : Bytes) : List Bytes :=
  let w := aesExpand 52 8 1 (words4 8 key).reverse
  (List.range 15).map (fun r => ((w.drop (4 * r)).take 4).flatten)

/-- The row shift, on sixteen bytes held column by column. -/
def shiftRows (s : Bytes) : Bytes :=
  [0, 5, 10, 15, 4, 9, 14, 3, 8, 13, 2, 7, 12, 1, 6, 11].map (fun i => s.getD i 0)

/-- The mixing of one column. -/
def mixColumn : Bytes → Bytes
  | [a, b, c, d] =>
    [gmul 2 a ^^^ gmul 3 b ^^^ c ^^^ d, a ^^^ gmul 2 b ^^^ gmul 3 c ^^^ d,
     a ^^^ b ^^^ gmul 2 c ^^^ gmul 3 d, gmul 3 a ^^^ b ^^^ c ^^^ gmul 2 d]
  | x => x

/-- The rounds of AES over the remaining round keys; the last round mixes no column. -/
def aesRounds : List Bytes → Bytes → Bytes
  | [], s => s
  | [k], s => xorBytes (shiftRows (s.map sbox)) k
  | k :: ks, s => aesRounds ks (xorBytes ((words4 4 (shiftRows (s.map sbox))).flatMap mixColumn) k)

/-- AES-256 encryption of one 16-byte block. -/
def aes256 (key blk : Bytes) : Bytes :=
  match aesRoundKeys key with
  | k :: ks => aesRounds ks (xorBytes blk k)
  | [] => blk

/-- Doubling of a CMAC subkey. -/
def cmacDouble (b : Bytes) : Bytes :=
  let v := 2 * beNat b
  beBytes 16 (if 2 ^ 128 ≤ v then Nat.xor (v % 2 ^ 128) 0x87 else v)

/-- The CMAC chain over whole blocks. -/
def cmacChain (key : Bytes) : Nat → Bytes → Bytes → Bytes
  | 0, x, _ => x
  | n + 1, x, b => cmacChain key n (aes256 key (xorBytes x (b.take 16))) (b.drop 16)

/-- AES-256-CMAC (SP 800-38B): 16 bytes. -/
def cmac (key msg : Bytes) : Bytes :=
  let k1 := cmacDouble (aes256 key (zeros 16))
  let k2 := cmacDouble k1
  let n := max 1 ((msg.length + 15) / 16)
  let last := msg.drop (16 * (n - 1))
  let final := if last.length = 16 then xorBytes last k1 else xorBytes (fit 16 (last ++ [0x80])) k2
  aes256 key (xorBytes (cmacChain key (n - 1) (zeros 16) msg) final)

/-! ### ECDSA on P-384 -/

/-- The field prime of P-384. -/
def p384P : Nat := 2 ^ 384 - 2 ^ 128 - 2 ^ 96 + 2 ^ 32 - 1
/-- The group order of P-384. -/
def p384N : Nat := 0xffffffffffffffffffffffffffffffffffffffffffffffffc7634d81f4372ddf581a0db248b0a77aecec196accc52973
/-- The curve constant b of P-384. -/
def p384B : Nat := 0xb3312fa7e23ee7e4988e056be3f82d19181d9c6efe8141120314088f5013875ac656398d8a2ed19d2a85c8edd3ec2aef
/-- The base point of P-384. -/
def p384G : Nat × Nat :=
  (0xaa87ca22be8b05378eb1c71ef320ad746e1d3b628ba79b9859f741e082542a385502f25dbf55296c3a545e3872760ab7,
   0x3617de4a96262c6f5d9e98bf9292dc29f8f41dbd289a147ce9da3113b5f0b8c00a60b1ce1d7e819d7a431d7c90ea0e5f)

/-- Modular power over the low `n` bits of the exponent. -/
def powModAux (m : Nat) : Nat → Nat → Nat → Nat
  | 0, _, _ => 1
  | n + 1, a, e => ((if e % 2 = 1 then a else 1) * powModAux m n (a * a % m) (e / 2)) % m

/-- The inverse modulo a 384-bit prime. -/
def invMod (m a : Nat) : Nat := powModAux m 384 (a % m) (m - 2)

/-- A point in Jacobian coordinates; z = 0 is the point at infinity. -/
abbrev JPoint := Nat × Nat × Nat

/-- Point doubling on P-384 (a = -3). -/
def jdouble (q : JPoint) : JPoint :=
  let p := p384P
  let (x, y, z) := q
  let delta := z * z % p
  let gamma := y * y % p
  let beta := x * gamma % p
  let alpha := 3 * ((x + p - delta) * (x + delta)) % p
  let x3 := (alpha * alpha + 8 * p - 8 * beta) % p
  let z3 := ((y + z) * (y + z) + 2 * p - gamma - delta) % p
  let y3 := (alpha * (4 * beta + p - x3) + 8 * p * p - 8 * gamma * gamma) % p
  (x3, y3, z3)

/-- Point addition on P-384. -/
def jadd (a b : JPoint) : JPoint :=
  let p := p384P
  let (x1, y1, z1) := a
  let (x2, y2, z2) := b
  if z1 = 0 then b else if z2 = 0 then a else
  let z1z1 := z1 * z1 % p
  let z2z2 := z2 * z2 % p
  let u1 := x1 * z2z2 % p
  let u2 := x2 * z1z1 % p
  let s1 := y1 * z2 * z2z2 % p
  let s2 := y2 * z1 * z1z1 % p
  if u1 = u2 then (if s1 = s2 then jdouble a else (1, 1, 0)) else
  let h := (u2 + p - u1) % p
  let r := (s2 + p - s1) % p
  let hh := h * h % p
  let hhh := h * hh % p
  let v := u1 * hh % p
  let x3 := (r * r + 3 * p - hhh - 2 * v) % p
  let y3 := (r * (v + p - x3) + p * p - s1 * hhh % p) % p
  (x3, y3, h * z1 * z2 % p)

/-- Scalar multiple over the low `n` bits. -/
def jmul : Nat → Nat → JPoint → JPoint
  | 0, _, _ => (1, 1, 0)
  | n + 1, k, q => jadd (if k % 2 = 1 then q else (1, 1, 0)) (jmul n (k / 2) (jdouble q))

/-- The affine x and y of a point; (0, 0) for infinity. -/
def affine (q : JPoint) : Nat × Nat :=
  let i := invMod p384P q.2.2
  let i2 := i * i % p384P
  (q.1 * i2 % p384P, q.2.1 * i2 * i % p384P)

/-- A scalar multiple of an affine point. -/
def ecMul (k : Nat) (q : Nat × Nat) : Nat × Nat := affine (jmul 384 k (q.1, q.2, 1))

/-- A public key octet string: 0x04, X, Y (R33), on the curve and not the point at infinity (R394). -/
def pubKeyPoint (key : Bytes) : Option (Nat × Nat) :=
  let x := beNat (slice key 1 48)
  let y := beNat (slice key 49 48)
  if key.length = 97 ∧ u8 key 0 = 4 ∧ x < p384P ∧ y < p384P
      ∧ y * y % p384P = (x * x * x + p384P * 3 - 3 * x + p384B) % p384P then some (x, y)
  else none

/-- ECDSA verification of a digest (R394): r and s in 1 to n - 1, the key a point of the curve. -/
def ecdsaVerify (key digest sigR sigS : Bytes) : Bool :=
  let n := p384N
  let r := beNat sigR
  let s := beNat sigS
  match pubKeyPoint key with
  | none => false
  | some q =>
    if r = 0 ∨ n ≤ r ∨ s = 0 ∨ n ≤ s then false else
    let w := invMod n s
    let a := jadd (jmul 384 (beNat digest * w % n) (p384G.1, p384G.2, 1)) (jmul 384 (r * w % n) (q.1, q.2, 1))
    if a.2.2 = 0 then false else (affine a).1 % n == r

/-- The ECDSA signature (r, s) of a digest by private key `d` with the per-signature secret `k` (R394). -/
def ecdsaSign (d k : Nat) (digest : Bytes) : Bytes × Bytes :=
  let n := p384N
  let r := (ecMul k p384G).1 % n
  let s := invMod n k * (beNat digest + r * d) % n
  (beBytes 48 r, beBytes 48 s)

/-- The public key octet string of a private key. -/
def pubKeyOf (d : Nat) : Bytes :=
  let q := ecMul d p384G
  [0x04] ++ beBytes 48 q.1 ++ beBytes 48 q.2

end Sys2Proof.Machine
end

