-- ==== Sys2Proof/Config.lean ====
section
/-! DEFINITION. What one ST192 fixes and the spec leaves open: ROM contents, and the free values. None of these has a
body, so no proof can see a value; a statement about them holds for every value. -/

namespace Sys2Proof.Config

/-- The ROM firmware version (R37, R402; Table 16.4). The spec gives no value (assumption 11). -/
opaque romVersion : Nat

/-- The Kreilo root public key whose SHA-384 Benra's ROM holds (R406; assumption 11). -/
opaque kreiloRootKey : Bytes

/-- The two Kreilo patch key hashes in Benra's ROM (R402; assumption 11). -/
opaque patchKeyHashes : List Bytes

/-- The free values, numbered by the counter `freeIx` of State: random draws of the DRBG (R414) and results the spec
does not state (assumption 12). -/
opaque freeValue : Nat → Nat

/-- The last mantissa step of the reciprocal unit, a function of its operand (R162; assumption 13). -/
opaque reciprocalStep : Nat → Nat

/-- The registers 0x00 to 0x04 of a tile, written by its maker: by tile index and address (Table 4.18; assumption 17). -/
opaque tileRegister : Nat → Nat → Nat

end Sys2Proof.Config
end

