-- ==== Sys2Proof/Machine/Crc.lean ====
section
/-! DEFINITION. The check codes of the spec: CRC-32C (R29), the tile frame's CRC-16 (R86), the SMBus CRC-8 (R425)
and the Erdun CRC-32 (R307). -/

namespace Sys2Proof.Machine

/-- One bit step of a reflected 32-bit CRC with polynomial `p`. -/
def crcStep (p r : Nat) : Nat := if r % 2 = 1 then Nat.xor (r / 2) p else r / 2

/-- `n` bit steps. -/
def crcSteps (p : Nat) : Nat → Nat → Nat
  | 0, r => r
  | n + 1, r => crcSteps p n (crcStep p r)

/-- A reflected CRC over bytes from register `r`. -/
def crcReflected (p r : Nat) (b : Bytes) : Nat :=
  b.foldl (fun r x => crcSteps p 8 (Nat.xor r x.toNat)) r

/-- CRC-32C (R29): Castagnoli 0x1EDC6F41 reflected, initial and final exclusive-OR 0xFFFFFFFF. -/
def crc32c (b : Bytes) : Nat := Nat.xor (crcReflected 0x82F63B78 0xFFFFFFFF b) 0xFFFFFFFF

/-- One bit step of a most-significant-first CRC of `w` bits. -/
def crcStepMsb (w p r : Nat) : Nat :=
  if bit r (w - 1) then Nat.xor ((2 * r) % 2 ^ w) p else (2 * r) % 2 ^ w

/-- `n` most-significant-first bit steps. -/
def crcStepsMsb (w p : Nat) : Nat → Nat → Nat
  | 0, r => r
  | n + 1, r => crcStepsMsb w p n (crcStepMsb w p r)

/-- A most-significant-first CRC of `w` bits over bytes from register `r`. -/
def crcMsb (w p r : Nat) (b : Bytes) : Nat :=
  b.foldl (fun r x => crcStepsMsb w p 8 (Nat.xor r (x.toNat <<< (w - 8)))) r

/-- The SMBus packet error code (R425): x^8 + x^2 + x + 1, initial value 0. -/
def crc8 (b : Bytes) : Nat := crcMsb 8 0x07 0 b

/-- The tile frame's CRC-16 (R86): 0x1021, initial 0xFFFF, no final exclusive-OR. -/
def crc16 (b : Bytes) : Nat := crcMsb 16 0x1021 0xFFFF b

/-- The Erdun message CRC (R307): 0x04C11DB7, initial and final exclusive-OR 0xFFFFFFFF, not reflected. -/
def crcErdun (b : Bytes) : Nat := Nat.xor (crcMsb 32 0x04C11DB7 0xFFFFFFFF b) 0xFFFFFFFF

end Sys2Proof.Machine
end

