-- ==== Sys2Proof/Machine/Sections.lean ====
section
/-! DEFINITION. Named access to the content of the image sections (Table 2.6): each accessor reads one field of the
layout table its comment names, from the running image or from a candidate under verification. -/

namespace Sys2Proof.Machine

/-- The sections of an image by type (Table 2.6), parts joined. -/
abbrev Secs := Tab Bytes

/-- The content of one section type, empty where absent. -/
def sec (q : Secs) (ty : Nat) : Bytes := Tab.get [] q ty

/-- The image holds this section type. -/
def hasSec (q : Secs) (ty : Nat) : Bool := (Tab.find q ty).isSome

def tyIdent : Nat := 0x0100
def tyClockPower : Nat := 0x0200
def tyTileMap : Nat := 0x0300
def tySense : Nat := 0x0400
def tyLoopContexts : Nat := 0x0500
def tySchedules : Nat := 0x0510
def tyStages : Nat := 0x0600
def tyBalance : Nat := 0x0700
def tyMaquette : Nat := 0x0800
def tySequence : Nat := 0x0900
def tyCoupling : Nat := 0x0A00
def tyFaults : Nat := 0x0B00
def tyVitrine : Nat := 0x0C00
def tyHost : Nat := 0x0D00
def tyTrust : Nat := 0x0E00
def tyPatch : Nat := 0x0F00

/-! ### TILE_MAP (Tables 4.20 to 4.22) -/

def tmTileCount (q : Secs) : Nat := u8 (sec q tyTileMap) 0
def tmTrainAttempts (q : Secs) : Nat := u8 (sec q tyTileMap) 1
def tmRealignLimit (q : Secs) : Nat := u8 (sec q tyTileMap) 2
def tmLateAlert (q : Secs) : Nat := u8 (sec q tyTileMap) 3

/-- Port word `p` (Table 4.21). -/
def tmPortWord (q : Secs) (p : Nat) : Nat := u16 (sec q tyTileMap) (4 + 2 * p)

/-- ASYM_CAL of a port: int7 in bits [15:9], 1/16 tick. -/
def tmAsym (q : Secs) (p : Nat) : Int := signedOf 7 (tmPortWord q p / 512 % 128)

/-- The 36 bytes of tile entry `e` (Table 4.22). -/
def tmEntry (q : Secs) (e : Nat) : Bytes := slice (sec q tyTileMap) (108 + 36 * e) 36

/-- The tile entries in order. -/
def tmEntries (q : Secs) : List Bytes := (List.range (tmTileCount q)).map (tmEntry q)

def teIndex (e : Bytes) : Nat := u8 e 0
def teIsPhase (e : Bytes) : Bool := u8 e 1 == 1
def teIsCell (e : Bytes) : Bool := u8 e 1 == 2
def tePrimary (e : Bytes) : Nat := u8 e 2
def teAlt (e : Bytes) : Nat := u8 e 3
def teMaker (e : Bytes) : Nat := u16 e 4
def teCount (e : Bytes) : Nat := u8 e 6
def teTempCount (e : Bytes) : Nat := u8 e 7
/-- The phase channel of a slot, 0xFF unassigned. -/
def teSlotPhase (e : Bytes) (slot : Nat) : Nat := u8 e (8 + slot)
def teString (e : Bytes) : Nat := u8 e 8
def teFirstCell (e : Bytes) : Nat := u16 e 9
def teLsMax (e : Bytes) : Nat := u32 e 16
def teMinDt (e : Bytes) : Nat := u8 e 20
def teAutoPeriod (e : Bytes) : Nat := u16 e 22

/-- The entry of the tile on a port, primary or alternate. -/
def tileOfPort (q : Secs) (p : Nat) : Option Bytes :=
  (tmEntries q).find? (fun e => tePrimary e == p || teAlt e == p)

/-- The entry of a tile by TILE_INDEX. -/
def tileEntry (q : Secs) (i : Nat) : Option Bytes := (tmEntries q).find? (fun e => teIndex e == i)

/-- The ports TILE_MAP declares (R80). -/
def declaredPorts (q : Secs) : List Nat :=
  (List.range 52).filter (fun p => (tileOfPort q p).isSome)

/-- The ports of a tile entry. -/
def tePorts (e : Bytes) : List Nat := if teAlt e == 0xFF then [tePrimary e] else [tePrimary e, teAlt e]

/-- The used slots of a phase tile: slot and phase channel. -/
def teSlots (e : Bytes) : List (Nat × Nat) :=
  if teIsPhase e then
    ((List.range (min 8 (teCount e))).map (fun n => (n, teSlotPhase e n))).filter (fun x => x.2 ≠ 0xFF)
  else []

/-- Where a phase channel sits: tile entry and slot. -/
def phaseSeat (q : Secs) (ph : Nat) : Option (Bytes × Nat) :=
  (tmEntries q).findSome? (fun e => ((teSlots e).find? (fun x => x.2 == ph)).map (fun x => (e, x.1)))

/-! ### STAGES (Tables 7.9 to 7.12) -/

def stCount (q : Secs) : Nat := u8 (sec q tyStages) 0

/-- The offset of a declared stage's entry. -/
def stageAt (q : Secs) (s : Nat) : Option Nat :=
  ((List.range (stCount q)).map (fun k => 1552 + 64 * k)).find? (fun o => u8 (sec q tyStages) o == s)

/-- The stage is declared. -/
def stageDeclared (q : Secs) (s : Nat) : Bool := (stageAt q s).isSome

/-- The 64 bytes of a stage's entry, empty when undeclared. -/
def stageEntry (q : Secs) (s : Nat) : Bytes :=
  match stageAt q s with
  | some o => slice (sec q tyStages) o 64
  | none => []

/-- The declared stages, ascending. -/
def declaredStages (q : Secs) : List Nat :=
  (List.range (stCount q)).map (fun k => u8 (sec q tyStages) (1552 + 64 * k))

/-- KIND (Table 7.1): 0 VIRTUAL, 1 STRING, 2 CHOPPER, 3 AC_FRONT, 4 COUPLING, 5 POL. -/
def stKind (q : Secs) (s : Nat) : Nat := u8 (stageEntry q s) 1
/-- FLAGS bit `i` (Table 7.12). -/
def stFlag (q : Secs) (s i : Nat) : Bool := bit (u8 (stageEntry q s) 2) i
def stGuarded (q : Secs) (s : Nat) : Bool := stFlag q s 0
def stShared (q : Secs) (s : Nat) : Bool := stFlag q s 2
def stPeriod (q : Secs) (s : Nat) : Nat := u32 (stageEntry q s) 4
def stPhRated (q : Secs) (s : Nat) : Nat := u32 (stageEntry q s) 12
def stPhPower (q : Secs) (s : Nat) : Nat := u32 (stageEntry q s) 16
def stString (q : Secs) (s : Nat) : Nat := u8 (stageEntry q s) 31

/-- The guarded stages, ascending: the k-th is Gk (R343). -/
def guardedStages (q : Secs) : List Nat := (declaredStages q).filter (stGuarded q)

/-- STAGE of a phase's entry (Table 7.10). -/
def phStage (q : Secs) (p : Nat) : Nat := u8 (sec q tyStages) (16 + 8 * p)
/-- ROLE of a phase's entry: 0 unassigned, 1 working, 2 reserve. -/
def phRole (q : Secs) (p : Nat) : Nat := u8 (sec q tyStages) (17 + 8 * p)

/-- The working and reserve phases of a stage, ascending. -/
def stagePhases (q : Secs) (s : Nat) : List Nat :=
  (List.range 192).filter (fun p => phRole q p ≠ 0 && phStage q p == s)

/-- The string converter stage of a string (R10). -/
def stringStage (q : Secs) (b : Nat) : Option Nat :=
  (declaredStages q).find? (fun s => stKind q s == 1 && stString q s == b)

/-- The stages whose phases a tile carries. -/
def teStages (q : Secs) (e : Bytes) : List Nat :=
  ((teSlots e).filter (fun x => phRole q x.2 ≠ 0)).map (fun x => phStage q x.2)

/-- A tile that carries a phase of a guarded stage (R352). -/
def teGuarded (q : Secs) (e : Bytes) : Bool := (teStages q e).any (stGuarded q)

/-! ### SEQUENCE (Tables 10.8 to 10.12) -/

def sqStepCount (q : Secs) : Nat := u8 (sec q tySequence) 0
def sqRailCount (q : Secs) : Nat := u8 (sec q tySequence) 1
def sqTurnaround (q : Secs) : Nat := u8 (sec q tySequence) 2
def sqPrechargePct (q : Secs) : Nat := u8 (sec q tySequence) 3
def sqReadWait (q : Secs) : Nat := u16 (sec q tySequence) 6
/-- GUARD_WAIT in seconds. -/
def sqGuardWait (q : Secs) : Nat := u16 (sec q tySequence) 8
def sqMarginRate (q : Secs) : Nat := u32 (sec q tySequence) 12
/-- Keep-alive entry `k` (Table 10.9). -/
def kaEntry (q : Secs) (k : Nat) : Bytes := slice (sec q tySequence) (32 + 8 * k) 8
def kaOwner (q : Secs) (k : Nat) : Nat := u8 (kaEntry q k) 0
def kaFlag (q : Secs) (k i : Nat) : Bool := bit (u8 (kaEntry q k) 1) i
/-- Rail entry `r` (Table 10.11). -/
def railEntry (q : Secs) (r : Nat) : Bytes := slice (sec q tySequence) (160 + 24 * r) 24
/-- Step entry `i` (Table 10.12). -/
def stepEntry (q : Secs) (i : Nat) : Bytes := slice (sec q tySequence) (928 + 16 * i) 16

/-! ### CLOCK_POWER (Table 3.9) -/

def cpDomainEnable (q : Secs) : Nat := u16 (sec q tyClockPower) 4
def cpWdtTimeout (q : Secs) : Nat := u16 (sec q tyClockPower) 6
def cpWdtWindow (q : Secs) : Nat := u16 (sec q tyClockPower) 8
def cpWakeSources (q : Secs) : Nat := u8 (sec q tyClockPower) 10
def cpDormantEnable (q : Secs) : Bool := u8 (sec q tyClockPower) 11 == 1
def cpDormantDelay (q : Secs) : Nat := u16 (sec q tyClockPower) 12
def cpWakeInterval (q : Secs) : Nat := u32 (sec q tyClockPower) 16
def cpColumnSuspect (q : Secs) : Nat := u16 (sec q tyClockPower) 22
def cpRepairBurn (q : Secs) : Bool := u8 (sec q tyClockPower) 24 == 1
def cpConflictAlert (q : Secs) : Nat := u32 (sec q tyClockPower) 28
def cpTjWarn (q : Secs) : Int := i16 (sec q tyClockPower) 40
def cpTjLimit (q : Secs) : Int := i16 (sec q tyClockPower) 42

/-! ### FAULTS (Tables 12.10 and 12.11) -/

def faEntryCount (q : Secs) : Nat := u16 (sec q tyFaults) 0
def faSafeInFilter (q : Secs) : Nat := u8 (sec q tyFaults) 2
def faS1Confirm (q : Secs) : Nat := u8 (sec q tyFaults) 3
def faRecoveryHoldoff (q : Secs) : Nat := u16 (sec q tyFaults) 4
def faPlausI (q : Secs) : Nat := u8 (sec q tyFaults) 6
def faPlausD (q : Secs) : Nat := u8 (sec q tyFaults) 7
def faPlausTime (q : Secs) : Nat := u16 (sec q tyFaults) 8
def faPlausStages (q : Secs) : Nat := u64 (sec q tyFaults) 12
/-- Entry `e` (Table 12.11). -/
def faEntry (q : Secs) (e : Nat) : Bytes := slice (sec q tyFaults) (64 + 16 * e) 16
/-- The entry that binds a code and scope (R344). -/
def faultIndex (q : Secs) (code scope : Nat) : Option Nat :=
  (List.range (faEntryCount q)).find? (fun e => u16 (faEntry q e) 0 == code && u8 (faEntry q e) 2 == scope)

/-! ### VITRINE (Tables 13.9 and 13.10) -/

def viCodeCount (q : Secs) : Nat := u16 (sec q tyVitrine) 0
def viDefaultSev (q : Secs) : Nat := u8 (sec q tyVitrine) 5
def viSpareSectors (q : Secs) : Nat := u16 (sec q tyVitrine) 6
def viOdoPeriod (q : Secs) : Nat := u16 (sec q tyVitrine) 8
def viDefaultBurst (q : Secs) : Nat := u16 (sec q tyVitrine) 10
def viDefaultRefill (q : Secs) : Nat := u16 (sec q tyVitrine) 12
def viStagingKib (q : Secs) : Nat := u16 (sec q tyVitrine) 14
/-- The code entry of a code (Table 13.10). -/
def viEntry (q : Secs) (code : Nat) : Option Bytes :=
  ((List.range (viCodeCount q)).map (fun k => slice (sec q tyVitrine) (32 + 8 * k) 8)).find?
    (fun e => u16 e 0 == code)

/-! ### HOST (Tables 15.10 to 15.12) -/

def hoTwEnable (q : Secs) : Bool := bit (u8 (sec q tyHost) 0) 0
def hoPecRequired (q : Secs) : Bool := bit (u8 (sec q tyHost) 0) 1
def hoAttnWindow (q : Secs) : Nat := u16 (sec q tyHost) 6
def hoAttnMask (q : Secs) : Nat := u32 (sec q tyHost) 8
def hoTlmCount (q : Secs) : Nat := u8 (sec q tyHost) 12
/-- CAN entry `k` (Table 15.11). -/
def hoCan (q : Secs) (k : Nat) : Bytes := slice (sec q tyHost) (32 + 32 * k) 32
/-- Telemetry entry `k` (Table 15.12). -/
def hoTlm (q : Secs) (k : Nat) : Bytes := slice (sec q tyHost) (96 + 16 * k) 16

/-! ### TRUST (Tables 14.11 and 14.12), read from one TRUST content -/

def trChannelCount (b : Bytes) : Nat := u8 b 0
def trFailLimit (b : Bytes) : Nat := u8 b 1
def trLockout (b : Bytes) : Nat := u16 b 2
def trServiceTimeout (b : Bytes) : Nat := u16 b 4
def trTokenSpan (b : Bytes) : Nat := u16 b 6
def trEnrolAllowed (b : Bytes) : Bool := bit (u8 b 8) 0
def trCommandAuthority (b : Bytes) : Bytes := slice b 32 97
def trTokenAuthority (b : Bytes) : Bytes := slice b 144 97
/-- Channel entry `c`. -/
def trChannel (b : Bytes) (c : Nat) : Bytes := slice b (256 + 16 * c) 16

/-! ### COUPLING: the fields other sections are checked against (chapter 11) -/

def coKaPos (q : Secs) : Nat := u8 (sec q tyCoupling) 2
def coKaNeg (q : Secs) : Nat := u8 (sec q tyCoupling) 3
def coBridgeCan (q : Secs) : Nat := u8 (sec q tyCoupling) 42
def coBridgeId0 (q : Secs) : Nat := u32 (sec q tyCoupling) 48
def coBridgeMask0 (q : Secs) : Nat := u32 (sec q tyCoupling) 52

end Sys2Proof.Machine
end

