-- ==== Sys2Proof/Machine/CheckCore.lean ====
section
/-! DEFINITION. What each owner requires of its section content at steps 14 to 16 of Table 2.8: the sections of
chapters 02, 03, 04, 12, 13, 14 and 15. -/

namespace Sys2Proof.Machine

/-- The outcome of one owner's parse at step 16 (R36, R44, R35). -/
inductive Verdict where
  | ok
  /-- SECTION_CONTENT, not malformed. -/
  | bad
  /-- SECTION_CONTENT, and the image counts as malformed (R44). -/
  | malformed
  /-- SECTION_MISSING for a type required under a condition. -/
  | missing
  deriving DecidableEq, Repr

/-- A verdict from a claimed extent and a check: content that claims more than it holds is malformed (R44). -/
def verdict (claimed length : Nat) (good : Bool) : Verdict :=
  if length < claimed then .malformed else if good then .ok else .bad

/-- A verdict where a count claims more records than the section, or the array it counts in, holds (R44). -/
def countVerdict (past good : Bool) : Verdict :=
  if past then .malformed else if good then .ok else .bad

/-- Every listed (offset, width, low, high) field lies in its range. -/
def ranges (b : Bytes) (l : List (Nat × Nat × Nat × Nat)) : Bool :=
  l.all (fun x => within x.2.2.1 x.2.2.2 (field b x.1 x.2.1))

/-- A value is 0 or in a range. -/
def zeroOr (lo hi v : Nat) : Bool := v == 0 || within lo hi v

/-- A list ascends strictly. -/
def ascending : List Nat → Bool
  | [] => true
  | [_] => true
  | a :: b :: r => decide (a < b) && ascending (b :: r)

/-- No number appears twice. -/
def distinct (l : List Nat) : Bool := decide l.Nodup

/-! ### IDENT (R37) and CLOCK_POWER (R79) -/

/-- IDENT at step 14 (R37): this member, this stepping, this ROM. A field that a short content does not hold reads 0; a
length other than 64 is found at step 16 (R36, assumption 66). -/
def identOk (rom : Nat) (b : Bytes) : Bool :=
  u16 b 0 == 0x00C0 && decide (u8 b 2 ≤ 0xB1) && decide (0xB1 ≤ u8 b 3) && decide (u32 b 4 ≤ rom)

/-- IDENT content at step 16: exactly 64 bytes (R36, R37), reserved bytes (R7). -/
def identContentOk (b : Bytes) : Bool := b.length == 64 && zeroAt b 20 12

/-- The port group of a port: 0 to 3 for A to D (Table 4.1). -/
def groupOf (p : Nat) : Nat := p / 13

/-- The DOMAIN_ENABLE that TILE_MAP calls for (R79). -/
def domainsOf (q : Secs) : Nat := 0x0FFF + maskOf ((declaredPorts q).map (fun p => 12 + groupOf p))

/-- CLOCK_POWER (R79, Table 3.9). -/
def clockPowerOk (q : Secs) : Bool :=
  let b := sec q tyClockPower
  b.length == 160 && u32 b 0 == 50000000 && cpDomainEnable q == domainsOf q
  && ranges b [(6, 2, 10, 1000), (12, 2, 10, 65535), (20, 2, 100, 1000), (22, 2, 1, 1000), (24, 1, 0, 1),
      (25, 1, 1, 20), (28, 4, 0, 0xFFFFFFFE), (11, 1, 0, 1)]
  && decide (2 * u16 b 8 ≤ u16 b 6) && bit (u8 b 10) 0 && decide (u8 b 10 < 16)
  && zeroOr 60 604800 (u32 b 16)
  && (List.range 8).all (fun i => decide (u8 b (32 + i) ≤ 50)) && u8 b 38 == 0
  && withinI 900 1350 (i16 b 40) && withinI (i16 b 40 + 50) 1400 (i16 b 42)
  && zeroAt b 14 2 && zeroAt b 26 2 && zeroAt b 44 116

/-! ### TILE_MAP (R117, R118) -/

/-- The alternate port of a primary port's group (Table 4.1). -/
def altOf (p : Nat) : Nat := 13 * groupOf p + 12

/-- A primary port (Table 4.1). -/
def isPrimary (p : Nat) : Bool := decide (p < 52) && p % 13 != 12

/-- One port word (Table 4.21). -/
def portWordOk (w : Nat) : Bool :=
  w % 4 != 3 && w / 4 % 4 != 3 && decide (w / 16 % 32 ≤ 16) && w / 512 % 128 != 64

/-- One tile entry (Table 4.22). -/
def tileEntryOk (e : Bytes) : Bool :=
  decide (teIndex e < 48) && isPrimary (tePrimary e) && (teAlt e == 0xFF || teAlt e == altOf (tePrimary e))
  && zeroAt e 21 1 && zeroAt e 24 12
  && (if teIsPhase e then
        within 1 8 (teCount e) && teTempCount e == 0
        && (List.range 8).all (fun n => decide (teSlotPhase e n < 192) || teSlotPhase e n == 0xFF)
        && within 320 6400000 (teLsMax e) && decide (1 ≤ teMinDt e) && teAutoPeriod e == 0
      else
        teIsCell e && within 1 128 (teCount e) && decide (teTempCount e ≤ 32) && decide (teString e < 12)
        && decide (teFirstCell e + teCount e ≤ 256) && zeroAt e 11 5
        && teLsMax e == 0 && teMinDt e == 0 && within 100 10000 (teAutoPeriod e))

/-- Two cell entries of one string cover no common cell (R118). -/
def cellsApart (a b : Bytes) : Bool :=
  teString a != teString b || decide (teFirstCell a + teCount a ≤ teFirstCell b)
    || decide (teFirstCell b + teCount b ≤ teFirstCell a)

/-- A tile's used slots all belong to guarded stages, or none does (R118). -/
def tileGuardOk (q : Secs) (e : Bytes) : Bool :=
  (teStages q e).all (stGuarded q) || (teStages q e).all (fun s => !stGuarded q s)

/-- TILE_MAP (R117, R118). -/
def tileMapVerdict (q : Secs) : Verdict :=
  let b := sec q tyTileMap
  let es := tmEntries q
  verdict (108 + 36 * tmTileCount q) b.length
    (b.length == 108 + 36 * tmTileCount q && within 1 48 (tmTileCount q) && ranges b [(1, 1, 1, 8), (2, 1, 2, 16)]
    && (List.range 52).all (fun p => portWordOk (tmPortWord q p)) && es.all tileEntryOk && ascending (es.map teIndex)
    && decide ((es.filter teIsPhase).length ≤ 24) && decide ((es.filter teIsCell).length ≤ 24)
    && distinct (es.map tePrimary) && distinct ((es.map teAlt).filter (· ≠ 0xFF))
    && distinct ((es.flatMap teSlots).map (·.2))
    && decide ((es.filter teIsCell).Pairwise (fun a c => cellsApart a c = true))
    && es.all (tileGuardOk q) && cpDomainEnable q == domainsOf q)

/-! ### FAULTS (R366, R367) -/

/-- Scope classes of Table 12.1: codes of class CHIP. -/
def chipCodes : List Nat :=
  [0x0101, 0x0103, 0x0104, 0x0201, 0x0203, 0x0204, 0x0206, 0x0207, 0x0507, 0x0508, 0x0509, 0x050A,
   0x0601, 0x0602, 0x0604, 0x0802, 0x0803, 0x0804, 0x0806, 0x0807, 0x0901, 0x0902, 0x0904, 0x0906, 0x0907]
  ++ [0x0A01, 0x0A02, 0x0A03, 0x0A04, 0x0A05, 0x0A06, 0x0A07, 0x0A08, 0x0A09,
   0x0C01, 0x0C02, 0x0C03, 0x0C04, 0x0C05, 0x0C06,
   0x0D01, 0x0D02, 0x0D03, 0x0D04, 0x0D05, 0x0D06, 0x0D07, 0x0D08, 0x0D10, 0x0D11]
  ++ [0x0E01, 0x0E02, 0x0E03, 0x0E04, 0x0E05, 0x0E06, 0x0E07, 0x0E08]

/-- Scope classes of Table 12.1: codes of class STAGE. -/
def stageCodes : List Nat :=
  [0x0401, 0x0402, 0x0403, 0x0404, 0x0405, 0x0406, 0x0407, 0x0408, 0x0409, 0x040A, 0x040B,
   0x0501, 0x0502, 0x0504, 0x0506, 0x0603, 0x0605, 0x0606]
  ++ [0x0701, 0x0703, 0x0704, 0x0705, 0x0706, 0x0707, 0x0708, 0x0801, 0x0805, 0x0903, 0x0905, 0x0C07, 0x0C08]

/-- Subsystems of Table 12.3, the only ones BLOCK_RESET is valid for (R347). -/
def blockResetSubsystems : List Nat := [0x04, 0x0A, 0x0B, 0x0E, 0x0F]

/-- The scopes an entry table must give a code, from the number of guarded stages (R367). -/
def scopesOf (g code : Nat) : List Nat :=
  if chipCodes.contains code then [0] else if stageCodes.contains code then List.range (g + 1) else []

/-- One fault entry (Table 12.11). -/
def faultEntryOk (q : Secs) (e : Bytes) : Bool :=
  let level := u8 e 3 / 32 % 4
  let mode := u8 e 5
  let s1 := u64 e 8
  let own := if u8 e 2 = 0 then none else (guardedStages q)[u8 e 2 - 1]?
  decide (u8 e 3 < 128) && decide (u8 e 4 ≤ 7) && decide (mode ≤ 2)
  && (if mode = 0 then within 1 60000 (u16 e 6) else u16 e 6 == 0)
  && (level == 1 || s1 == 0)
  && (!bit (u8 e 3) 2 || blockResetSubsystems.contains (u16 e 0 / 256))
  && (bitsOf 64 s1).all (fun s => stageDeclared q s && (!stGuarded q s || own == some s))

/-- FAULTS (R366, R367). -/
def faultsVerdict (q : Secs) : Verdict :=
  let b := sec q tyFaults
  let n := faEntryCount q
  let es := (List.range n).map (faEntry q)
  let keys := es.map (fun e => u16 e 0 * 256 + u8 e 2)
  let g := (guardedStages q).length
  verdict (64 + 16 * n) b.length
    (b.length == 64 + 16 * n && within 1 256 n
    && ranges b [(2, 1, 2, 100), (3, 1, 1, 100), (4, 2, 0, 3600), (6, 1, 5, 100), (7, 1, 2, 50), (8, 2, 1, 1000)]
    && zeroAt b 10 2 && zeroAt b 20 44 && ascending keys && es.all (faultEntryOk q)
    && es.all (fun e => (scopesOf g (u16 e 0)).contains (u8 e 2))
    && (chipCodes ++ stageCodes).all (fun c => (scopesOf g c).all (fun s => keys.contains (c * 256 + s)))
    && (bitsOf 64 (faPlausStages q)).all (fun s => stageDeclared q s && stKind q s != 0)
    && decide (faS1Confirm q * 10 < sqGuardWait q * 1000000))

/-! ### VITRINE (R391, R392) -/

/-- Vitrine's own codes (Table 13.8) and their severities. -/
def vitrineSev : List (Nat × Nat) :=
  [(0x8B01, 2), (0x8B02, 6), (0x8B03, 3), (0x8B04, 5), (0x8B05, 6), (0x8B06, 4), (0x8B07, 6), (0x8B08, 5),
   (0x8B09, 7), (0x8B0A, 4), (0x8B0B, 6), (0x8B0C, 4), (0x8B0D, 7), (0x8B0E, 4)]

/-- A fault code: bit 15 clear. -/
def isFaultCode (c : Nat) : Bool := decide (c < 0x8000)

/-- One VITRINE code entry (Table 13.10). -/
def vitrineEntryOk (q : Secs) (e : Bytes) : Bool :=
  let c := u16 e 0
  let rate := u8 e 3 == 1
  (if isFaultCode c then u8 e 2 == 0xFF && ((List.range (faEntryCount q)).any (fun i => u16 (faEntry q i) 0 == c))
   else decide (u8 e 2 ≤ 7) && !(vitrineSev.any (·.1 == c)))
  && decide (u8 e 3 ≤ 2)
  && (if rate then within 1 1000 (u16 e 4) && within 1 60000 (u16 e 6) else u16 e 4 == 0 && u16 e 6 == 0)

/-- VITRINE (R391, R392). -/
def vitrineVerdict (q : Secs) : Verdict :=
  let b := sec q tyVitrine
  let n := viCodeCount q
  let es := (List.range n).map (fun k => slice b (32 + 8 * k) 8)
  verdict (32 + 8 * n) b.length
    (b.length == 32 + 8 * n
    && ranges b [(0, 2, 0, 256), (2, 2, 100, 10000), (4, 1, 0, 7), (5, 1, 0, 7), (6, 2, 16, 4096), (8, 2, 10, 1440),
        (10, 2, 1, 1000), (12, 2, 1, 60000), (14, 2, 256, 1536)]
    && zeroAt b 16 16 && ascending (es.map (u16 · 0)) && es.all (vitrineEntryOk q)
    && decide (2 * (viSpareSectors q * 4096) ≤ 134021120))

/-! ### HOST (R440, R441) -/

/-- An identifier field of a CAN entry: IDE in bit 31, [30:29] reserved, at most 0x7FF without IDE. -/
def canIdOk (w : Nat) : Bool :=
  w / 2 ^ 29 % 4 == 0 && (bit w 31 || decide (w % 2 ^ 29 ≤ 0x7FF))

/-- Nominal or data bit rate as clocks per bit of CK7 (R432). -/
def canClocks (brp seg1 seg2 : Nat) : Nat := brp * (1 + seg1 + seg2)

/-- An enabled CAN entry (Table 15.11): ranges and rates (R441). -/
def canEntryOk (e : Bytes) : Bool :=
  let nom := canClocks (u8 e 2) (u8 e 3) (u8 e 4)
  let dat := canClocks (u8 e 6) (u8 e 7) (u8 e 8)
  ranges e [(0, 1, 1, 1), (1, 1, 0, 7), (2, 1, 1, 32), (3, 1, 2, 128), (4, 1, 2, 64), (6, 1, 1, 4), (7, 1, 1, 32),
    (8, 1, 1, 16), (10, 1, 0, 127)]
  && within 1 (u8 e 4) (u8 e 5) && within 1 (u8 e 8) (u8 e 9) && zeroAt e 11 1 && zeroAt e 30 2
  && [12, 16, 20, 24].all (fun o => canIdOk (u32 e o)) && zeroOr 10 60000 (u16 e 28)
  && decide (125 * nom ≤ 80000) && decide (80000 ≤ 1000 * nom)
  && decide (dat ≤ nom) && decide (80000 ≤ 5000 * dat)
  && (!bit (u8 e 1) 1 || bit (u8 e 1) 0)

/-- The data objects of Table 16.1. -/
def dataObjects : List Nat :=
  [0x0101, 0x0201, 0x0202, 0x0401, 0x0501, 0x0502, 0x0601, 0x0602, 0x0603, 0x0604, 0x0605, 0x0701, 0x0702, 0x0801,
   0x0802, 0x0901, 0x0902] ++ [0x0A01, 0x0A02, 0x0B01, 0x0B02, 0x0B03, 0x0C01, 0x0C02, 0x0D01, 0x0D02, 0x0D03,
   0x0E01, 0x0E02, 0x0F01, 0x0F02]

/-- One telemetry entry in use (Table 15.12, R441). -/
def tlmEntryOk (q : Secs) (e : Bytes) : Bool :=
  let can := hoCan q (u8 e 0)
  decide (u8 e 0 ≤ 1) && within 1 62 (u8 e 1) && within 1 10000 (u16 e 8) && decide (u16 e 10 < u16 e 8)
  && zeroAt e 12 4 && u8 can 0 == 1 && dataObjects.contains (u16 e 2)
  && (bit (u8 can 1) 0 || decide (u8 e 1 ≤ 6))

/-- Identifiers of one controller are distinct and within their width (R441). -/
def canIdsOk (q : Secs) (k : Nat) : Bool :=
  let e := hoCan q k
  let mine := (List.range (hoTlmCount q)).filter (fun i => u8 (hoTlm q i) 0 == k)
  let base := u32 e 24
  let width := if bit base 31 then 2 ^ 29 else 0x800
  distinct ([u32 e 12, u32 e 16, u32 e 20] ++ mine.map (fun i => base + i))
    && mine.all (fun i => decide (base % 2 ^ 29 + i < width))

/-- Frames of one controller per second stay within 2,000, compared without division (R441): the sum of
1,000 ÷ PERIOD over a common denominator. -/
def canLoadOk (q : Secs) (k : Nat) : Bool :=
  let e := hoCan q k
  let mine := (List.range (hoTlmCount q)).filter (fun i => u8 (hoTlm q i) 0 == k)
  let terms := mine.map (fun i => (1000, u16 (hoTlm q i) 8))
    ++ (if u16 e 28 = 0 then [] else [(if bit (u8 e 1) 0 then 1000 else 3000, u16 e 28)])
  let sum : Nat × Nat := terms.foldl (fun a x => (a.1 * x.2 + x.1 * a.2, a.2 * x.2)) (0, 1)
  decide (sum.1 ≤ 2000 * sum.2)

/-- HOST (R440, R441). -/
def hostOk (q : Secs) : Bool :=
  let b := sec q tyHost
  let cans := [0, 1]
  let on := cans.filter (fun k => u8 (hoCan q k) 0 == 1)
  b.length == 608 && decide (u8 b 0 < 4) && zeroAt b 1 1 && zeroAt b 13 19
  && ranges b [(2, 2, 30, 345), (4, 2, 5, 250), (6, 2, 10, 10000), (8, 4, 0, 0xFF), (12, 1, 0, 32)]
  && cans.all (fun k => allZero (hoCan q k) || canEntryOk (hoCan q k))
  && (List.range 32).all (fun i => if i < hoTlmCount q then tlmEntryOk q (hoTlm q i) else allZero (hoTlm q i))
  && on.all (canIdsOk q) && on.all (canLoadOk q)
  && (hoTwEnable q || !bit (cpWakeSources q) 1)
  && (!hasSec q tyCoupling || coBridgeCan q == 0xFF
      || u32 (hoCan q (coBridgeCan q)) 12 &&& coBridgeMask0 q != coBridgeId0 q &&& coBridgeMask0 q)
  && (hoTwEnable q || !on.isEmpty)

/-! ### TRUST (R416, R417) and FIRMWARE_PATCH (R402) -/

/-- An enabled channel. -/
def chanOn (b : Bytes) (c : Nat) : Bool := u8 (trChannel b c) 1 == 1

/-- TRUST (R416, R417). -/
def trustOk (b : Bytes) : Bool :=
  let n := trChannelCount b
  b.length == 384 && ranges b [(0, 1, 1, 8), (1, 1, 4, 64), (2, 2, 1, 600), (4, 2, 10, 3600), (6, 2, 1, 8760), (8, 1, 0, 1)]
  && zeroAt b 9 23 && zeroAt b 129 15 && zeroAt b 241 15
  && (pubKeyPoint (trCommandAuthority b)).isSome && (pubKeyPoint (trTokenAuthority b)).isSome
  && (List.range 8).all (fun c =>
      let e := trChannel b c
      if c < n then u8 e 0 == c && decide (u8 e 1 ≤ 1) && decide (u8 e 2 < 8) && zeroAt e 3 1
        && decide (u32 e 4 < 512) && zeroAt e 8 8 && (u8 e 1 == 0 || u8 e 2 != 0)
      else allZero e)
  && (List.range n).any (fun c => chanOn b c && bit (u32 (trChannel b c) 4) 0)

/-- HOST, with TLM_COUNT inside the telemetry table (R44). -/
def hostVerdict (q : Secs) : Verdict :=
  countVerdict (decide (32 < hoTlmCount q) || decide ((sec q tyHost).length < 96 + 16 * hoTlmCount q)) (hostOk q)

/-- TRUST, with CHANNEL_COUNT inside the channel table (R44). -/
def trustVerdict (b : Bytes) : Verdict :=
  countVerdict (decide (8 < trChannelCount b) || decide (b.length < 256 + 16 * trChannelCount b)) (trustOk b)

/-- FIRMWARE_PATCH at step 15 (R402): the ROM version, the two patch key hashes in ROM, the patch rollback count. -/
def patchVerdict (rom : Nat) (keyHashes : List Bytes) (count : Nat) (b : Bytes) : Verdict :=
  let n := u32 b 16
  verdict (256 + n) b.length
    (b.length == 256 + n && within 16 262144 n && n % 16 == 0
    && slice b 0 4 == ascii "KFPT" && u32 b 8 == rom && decide (u8 b 12 ≤ 16) && decide (count ≤ u8 b 12)
    && zeroAt b 13 3 && zeroAt b 20 12 && zeroAt b 129 15 && zeroAt b 240 16
    && keyHashes.contains (sha384 (slice b 32 97))
    && ecdsaVerify (slice b 32 97) (sha384 (b.take 144 ++ slice b 256 n)) (slice b 144 48) (slice b 192 48))

end Sys2Proof.Machine
end

