-- ==== Sys2Proof/Machine/Memory.lean ====
section
/-! DEFINITION. The two addressed memories of the block: the configuration flash on CS0 and the recorder flash on CS1
(R26, R368). A flash is a list of cells at strictly rising addresses; an unlisted address reads erased, 0xFF, and no
listed cell holds that value (assumption 3). -/

namespace Sys2Proof.Machine

/-- A flash device's contents in canonical form. -/
abbrev Flash := List Host.Cell

/-- What an erased byte reads as. -/
def erased : Byte := 0xFF

/-- The byte at an address. -/
def flashByte : Flash → Nat → Byte
  | [], _ => erased
  | (j, v) :: rest, a => if a = j then v else flashByte rest a

/-- One byte written, the canonical form kept. -/
def flashPut : Flash → Nat → Byte → Flash
  | [], a, v => if v = erased then [] else [(a, v)]
  | (j, w) :: rest, a, v =>
    if a < j then (if v = erased then (j, w) :: rest else (a, v) :: (j, w) :: rest)
    else if a = j then (if v = erased then rest else (a, v) :: rest)
    else (j, w) :: flashPut rest a v

/-- `n` bytes from an address. -/
def flashRead (m : Flash) (a : Nat) : Nat → Bytes
  | 0 => []
  | n + 1 => flashByte m a :: flashRead m (a + 1) n

/-- A program operation: each bit can only fall from 1 to 0 (a NOR flash, R26). -/
def flashProgram : Flash → Nat → Bytes → Flash
  | m, _, [] => m
  | m, a, b :: bs => flashProgram (flashPut m a (flashByte m a &&& b)) (a + 1) bs

/-- The erase of the `n` bytes from an address. -/
def flashErase (m : Flash) (a n : Nat) : Flash := m.filter (fun c => !(decide (a ≤ c.1) && decide (c.1 < a + n)))

/-- Every byte of a range reads erased. -/
def flashBlank (m : Flash) (a n : Nat) : Bool := m.all (fun c => !(decide (a ≤ c.1) && decide (c.1 < a + n)))

/-- The canonical form: addresses strictly rising, no cell at the erased value. -/
def flashWf : Flash → Bool
  | [] => true
  | [c] => c.2 != erased
  | a :: b :: rest => decide (a.1 < b.1) && a.2 != erased && flashWf (b :: rest)

end Sys2Proof.Machine
end

