-- ==== Sys2Proof/Machine/Types.lean ====
section
/-! DEFINITION. Plain data of the chip itself: modes and start-up (chapter 03), the image and its staging (02), the
memory banks (03), the trust core (14), the host ports (15, 16), the recorder (13), the fault collector (12) and test
access (17). A default value is the value at reset; assumption 2 names those the spec does not give. -/

namespace Sys2Proof.Machine

/-! ### Modes and start-up -/

/-- The chip modes of Table 0.3 (R4). -/
inductive Mode where
  | dormant | boot | standby | run | service | safe | test
  deriving DecidableEq, Repr

/-- How far a start has come (Table 3.1), and the ways BOOT can be held without an image (R42, R74, R396, R415). -/
inductive BootPhase where
  /-- Held in reset, or unpowered, until power-good (R52). -/
  | inReset
  /-- BOOT entered: straps sampled, cause latched (R55). -/
  | started
  /-- PLL locked, CK0 to CK11 running (R61). -/
  | clocked
  /-- MBIST done, repairs applied (R73). -/
  | repaired
  /-- Benra self-tests passed, fuses read, keys derived (R393, R396). -/
  | tested
  /-- SFDP read, commit records read; slots can be verified (R27, R41). -/
  | flashRead
  /-- A slot passed every step; its content waits in shadow (R40). -/
  | verified
  /-- The image is live (R40); every mode from here on. -/
  | live
  /-- BOOT without an image: no slot verified (R42), or the fuses failed (R396). -/
  | noImage
  /-- BOOT without an image after a memory repair failure (R74). -/
  | repairFailed
  /-- BOOT without an image after a failed self-test (R415). -/
  | selfTestFailed
  deriving DecidableEq, Repr

/-- The registers of PD0, the always-on base (R55, R56, R65, R76, R389, R428). -/
structure Plinth where
  opSeconds : Nat := 0
  /-- Ticks counted since the last whole operating second. -/
  opFrac : Nat := 0
  powerCycles : Nat := 0
  resetCause : Nat := 0
  /-- The fault code recorded with a FAULT_RESET (R348). -/
  resetFault : Nat := 0
  resetCounts : Tab Nat := []
  straps : Nat := 0
  suspects : Tab (List Nat) := []
  undischarged : Nat := 0
  /-- The mask was lost with VAO_3V3 and no image has been activated since (R297). -/
  maskLost : Bool := false
  /-- The armed last-breath slot address. -/
  lbNext : Option Nat := none
  newestSeq : Nat := 0
  flashedSeq : Nat := 0
  lastFaults : List Nat := []
  wakeNack : Nat := 0
  /-- A wake held until power-good (R53). -/
  wakeHeld : Bool := false
  /-- The wake was a two-wire address match: 0x8F01 is due after activation (R428). -/
  wokenByAddress : Bool := false
  /-- The start in progress follows a loss of VAO_3V3 (R56). -/
  afterVaoLoss : Bool := false
  /-- DORMANT entry, from which the wake interval counts. -/
  dormantSince : Nat := 0
  /-- WAKE_SOURCES and WAKE_INTERVAL as the Plinth holds them in DORMANT (R53). -/
  wakeSources : Nat := 1
  wakeInterval : Nat := 0
  /-- The last host command's arrival (R54). -/
  lastHostCmd : Nat := 0
  /-- CK12 runs in a mode: BOOT has been entered since VAO_3V3 rose (R56). -/
  ck12 : Bool := false
  /-- The Plinth watchdog's last service (R66). -/
  wdtServed : Nat := 0
  deriving DecidableEq, Repr

/-- PD0 after a loss of VAO_3V3, the cause of a cold start (Table 3.5, R56, R65). -/
def coldPlinth : Plinth := { resetCause := 1, resetCounts := [(1, 1)], afterVaoLoss := true, maskLost := true }

/-- The pins, as the filters of their chapters judge them. -/
structure Pins where
  /-- RACK_ON filtered level and the time it last fell. -/
  rackOn : Bool := false
  rackOnLowSince : Nat := 0
  pwrFail : Bool := false
  safeIn : Bool := false
  /-- VPP_FUSE, in mV (R398). -/
  vppFuse : Nat := 0
  testEn : Bool := false
  /-- The mains supplies are in range (R52). -/
  powerGood : Bool := false
  /-- Downstream transmitters enabled (R62, R64). -/
  transmitters : Bool := false
  /-- The lanes on which the all-off symbol K28.3 was the last to be sent (R24, R64, R102), a bitmask. -/
  allOff : Nat := 0
  /-- The power domains that are on, bit d for PDd (R60). -/
  domains : Nat := 1
  /-- Die temperature in 0.1 °C (R79). -/
  tj : Int := 250
  deriving DecidableEq, Repr

/-- One memory bank (R70, R72, R73). -/
structure Bank where
  corrections : Nat := 0
  softRepairs : List Nat := []
  scrubPasses : Nat := 0
  doubleErrors : Nat := 0
  deriving DecidableEq, Repr

/-- The Armature: banks, conflict counters and the alerts already given this start (R69). -/
structure Armature where
  banks : Tab Bank := []
  conflicts : Tab Nat := []
  alerted : List Nat := []
  /-- Masters whose last access was answered with an error, or without (R67, R70, R71). -/
  failed : Tab Bool := []
  deriving DecidableEq, Repr

/-! ### Image -/

/-- A verified image: its slot, the header values the spec uses, the key and hash of its signature, and the content of
each section type, parts joined (R31). -/
structure Image where
  slot : Nat := 0
  version : Nat := 0
  rollbackIndex : Nat := 0
  ownerKey : Bytes := []
  /-- SHA-384 of the signed bytes (R34, R407). -/
  signedHash : Bytes := []
  sections : Tab Bytes := []
  deriving DecidableEq, Repr

/-- An open staging session (R46, R47): declared length, the 16-byte units already written, the last command's time. -/
structure StageSession where
  declared : Nat := 0
  written : List Nat := []
  lastCmd : Nat := 0
  deriving DecidableEq, Repr

/-- The image loader and the staging of a new image (chapter 02). -/
structure Loader where
  live : Option Image := none
  /-- Shadow content of the candidate that passed (R40). -/
  shadow : Option Image := none
  /-- Slots still to be tried at this start, in the order of R41, once the commit records are read. -/
  toTry : List Nat := []
  /-- The slot R41 tries first. -/
  firstTry : Nat := 0
  malformed : Nat := 0
  /-- Boot verification reason of slots A and B. -/
  reason : Tab Nat := []
  pendingSlot : Option Nat := none
  session : Option StageSession := none
  /-- The opening erase runs (R475). -/
  erasing : Bool := false
  /-- The length that erase covers. -/
  eraseLength : Nat := 0
  verifying : Bool := false
  /-- An unspent passing verification (R49). -/
  verified : Bool := false
  stageReason : Nat := 0
  /-- Bytes per eight clocks of the xSPI mode in use on CS0, and its clock in MHz (R27). -/
  xspiBits : Nat := 1
  xspiDdr : Bool := false
  xspiMhz : Nat := 25
  /-- The TRUST section that authenticates in BOOT without an image (R422). -/
  fallbackTrust : Bytes := []
  /-- The slot was written since the running verification began, so its pass is spent (R49). -/
  tainted : Bool := false
  deriving DecidableEq, Repr

/-! ### Trust core -/

/-- The command a running fuse operation serves. -/
inductive FuseFor where
  | rollback | patchRollback | enrol (slot : Nat) | transfer (slot : Nat) | repair (bank column : Nat)
  deriving DecidableEq, Repr

/-- A fuse operation in progress (R398): the bits still to program, in order, and whether the first was retried. -/
structure FuseOp where
  purpose : FuseFor
  bits : List Nat
  retried : Bool := false
  /-- No bit is started: PWR_FAIL_N counts as asserted, or the chip has left STANDBY and SERVICE (R398). -/
  held : Bool := false
  /-- Soft repairs still to burn after this one (R75). -/
  repairsLeft : List (Nat × Nat) := []
  deriving DecidableEq, Repr

/-- The open SERVICE session (R411). -/
structure Session where
  channel : Nat
  lastCmd : Nat
  deriving DecidableEq, Repr

/-- Benra: fuses, bank 6 keys, authentication state (chapter 14). -/
structure Benra where
  /-- The 4,096 fuse bits (Table 14.2), bit k of the number for fuse k. -/
  fuses : Nat := 3 * 2 ^ 320
  certArea : Bytes := []
  deviceKey : Option Nat := none
  recorderKey : Option Bytes := none
  cmdKeys : Tab Bytes := []
  bootNonce : Bytes := zeros 8
  /-- Freshness counters LAST[c] (R408). -/
  last : Tab Nat := []
  /-- Times of MAC failures within the last second, per channel (R410). -/
  macFails : Tab (List Nat) := []
  /-- End of each channel's lockout. -/
  lockedUntil : Tab Nat := []
  /-- Channels whose counter is exhausted (R410). -/
  exhausted : List Nat := []
  session : Option Session := none
  debugUnlocked : Bool := false
  drbgHalted : Bool := false
  drbgRequests : Nat := 0
  /-- Key and V of the HMAC_DRBG (R414). -/
  drbgKey : Bytes := zeros 48
  drbgV : Bytes := zeros 48
  /-- When the start-up test is repeated while the DRBG is halted (R415). -/
  retestAt : Nat := 0
  certInvalid : Bool := false
  fuseOp : Option FuseOp := none
  /-- The shadow patch version, patch rollback of the running patch; none without a patch. -/
  patch : Option (Nat × Nat) := none
  deriving DecidableEq, Repr

/-! ### Host ports -/

/-- A response held for a port (Table 15.2). -/
structure Response where
  status : Nat := 0
  tag : Nat := 0
  pending : Bool := false
  discarded : Bool := false
  /-- A cause was unread when the response was made (FLAGS bit 1). -/
  attention : Bool := false
  data : Bytes := []
  /-- The RESPONSE_MAC field, present with FLAGS bit 3. -/
  mac : Option Bytes := none
  deriving DecidableEq, Repr

/-- COMMAND_RESULT of a port (Table 16.6). -/
structure CmdResult where
  object : Nat := 0
  inst : Nat := 0
  tag : Nat := 0
  status : Nat := 0
  detail : Nat := 0
  completed : Nat := 0
  deriving DecidableEq, Repr

/-- A frame queued on a CAN controller. -/
structure CanFrame where
  id : Nat
  data : Bytes
  /-- 0 response, 1 status, 2 telemetry with its entry number, 3 bridged (R435 to R437, R330). -/
  kind : Nat
  entry : Nat := 0
  deriving DecidableEq, Repr

/-- One host port (R418, R424 to R426, R434, R435, R439, R446). -/
structure HPort where
  /-- Bytes of the CAN request in assembly; none when no request is in assembly. -/
  assembly : Option Bytes := none
  asmSeq : Nat := 0
  asmTime : Nat := 0
  /-- Tag of the request still being served, and whether PENDING was answered for it. -/
  serving : Option Nat := none
  /-- The latest two-wire request ended with a PEC byte (R425). -/
  pec : Bool := false
  /-- The bytes the last two-wire read transfer returned (R424). -/
  wire : Bytes := []
  pendingSent : Bool := false
  /-- The final answer of a request answered PENDING. -/
  final : Option Response := none
  response : Response := {}
  cursor : Nat := 0
  copy : Option Bytes := none
  result : CmdResult := {}
  requests : Nat := 0
  discard : Nat := 0
  pecErr : Nat := 0
  sclTimeout : Nat := 0
  sdaTimeout : Nat := 0
  attnAbort : Nat := 0
  busy : Nat := 0
  rtrIgnored : Nat := 0
  tlmSkip : Nat := 0
  busOffs : Nat := 0
  errorPassive : Nat := 0
  isBusOff : Bool := false
  /-- Running on the HOST section rather than the ROM defaults (R438). -/
  hostSettings : Bool := false
  /-- Frames queued and not sent, and the time the newest of them was queued. -/
  queue : List CanFrame := []
  queuedAt : Nat := 0
  /-- The newest PERIODIC status frame. -/
  statusAt : Nat := 0
  /-- Tags of requests answered PENDING that a newer request has replaced: their results are lost (R426). -/
  lost : List Nat := []
  deriving DecidableEq, Repr

/-- An ACCEPTED command without its final status (R445). -/
structure Accepted where
  port : Nat
  inst : Nat
  tag : Nat
  deriving DecidableEq, Repr

/-- The host ports: ports 0 two-wire, 1 CAN0, 2 CAN1; attention and telemetry (R429 to R437). -/
structure HostUnit where
  /-- The ports do not answer: banks 0 and 1 both failed (R74). -/
  silent : Bool := false
  ports : Tab HPort := []
  accepted : Tab Accepted := []
  causes : Nat := 0
  newestFault : Nat := 0
  oldestSince : Nat := 0
  pulses : Nat := 0
  lastPulse : Nat := 0
  pulsing : Bool := false
  escalations : Nat := 0
  /-- The present unread episode has escalated, and when the frame was last sent (R431). -/
  escalated : Bool := false
  lastEscalation : Nat := 0
  tlmCount : Tab Nat := []
  /-- The final answer the dispatcher gave last, with its port: the model's own record of what has left the ports, kept
  through a reset (assumption 15). -/
  lastAnswer : Option (Nat × Response) := none
  deriving DecidableEq, Repr

/-! ### Recorder -/

/-- A staged record (R371, R375): payload in bytes, flushed by R376. -/
structure Staged where
  code : Nat
  severity : Nat
  rep : Nat := 0
  payload : Bytes
  opSeconds : Nat
  powerCycles : Nat
  seq : Option Nat
  stagedAt : Nat
  deriving DecidableEq, Repr

/-- A RATE code's token bucket and suppressed count (R373). -/
structure Bucket where
  tokens : Nat
  suppressed : Nat := 0
  /-- When the next token comes. -/
  due : Nat := 0
  deriving DecidableEq, Repr

/-- A live log sector: address, SECTOR_SEQ, highest record severity, first and last SEQUENCE (R370, R379). -/
structure LogSector where
  addr : Nat
  sectorSeq : Nat
  highSev : Nat := 0
  firstSeq : Nat
  lastSeq : Nat
  deriving DecidableEq, Repr

/-- Whether CS1 is mounted (R369). -/
inductive MountState where
  | notYet | mounted | failed
  deriving DecidableEq, Repr

/-- A clear of the log in progress (R384): the new sector, its header payload and the token identifier. -/
structure ClearOp where
  addr : Nat
  sectorSeq : Nat
  generation : Nat
  tokenId : Nat
  /-- PWR_FAIL_N asserted before the commit program started (R384). -/
  cut : Bool := false
  deriving DecidableEq, Repr

/-- Vitrine (chapter 13). -/
structure Vitrine where
  staged : List Staged := []
  buckets : Tab Bucket := []
  stageDrop : Nat := 0
  /-- Drops not yet told by 0x8B04. -/
  dropUntold : Nat := 0
  fullDrop : Nat := 0
  fullWritten : Bool := false
  overwrites : Nat := 0
  mount : MountState := .notYet
  generation : Nat := 0
  nextIndex : Nat := 0
  oldestSeq : Nat := 0
  newestSeq : Nat := 0
  flashedSeq : Nat := 0
  /-- Live sectors, the current one last. -/
  sectors : List LogSector := []
  append : Nat := 64
  /-- The newest TAIL. -/
  tail : Bytes := zeros 16
  highestSectorSeq : Nat := 0
  retired : List Nat := []
  sparesTold : Bool := false
  /-- Bytes of the CS1 device, and its page program time in µs, as its SFDP table declares. -/
  deviceBytes : Nat := 0
  programUs : Nat := 0
  clear : Option ClearOp := none
  odoSector : Nat := 0
  odoNext : Nat := 0
  odoSeq : Nat := 0
  /-- A CS1 erase suspended, or a program in progress, when power failed (Table 13.6). -/
  eraseSuspended : Bool := false
  programPending : Bool := false
  programRunning : Bool := false
  /-- Operating seconds of the last odometer entry (R386). -/
  odoAt : Nat := 0
  deriving DecidableEq, Repr

/-! ### Fault collector -/

/-- One fault input, numbered by its code and scope (R340, R344; Table 16.21). -/
structure FaultIn where
  asserted : Bool := false
  latched : Bool := false
  mismatch : Bool := false
  testMissed : Bool := false
  assertions : Nat := 0
  lastAssert : Nat := 0
  deassertedAt : Nat := 0
  payload : Bytes := []
  deriving DecidableEq, Repr

/-- The fault collector (chapter 12). -/
structure Collector where
  /-- Inputs by `code * 8 + scope`. -/
  inputs : Tab FaultIn := []
  /-- Entries whose parity check failed (R349). -/
  parityBad : List Nat := []
  heldLevel : Nat := 0
  firstInput : Nat := 0
  enteredAt : Nat := 0
  /-- Forced ports and force-stopped stages, bitmasks (R352 to R355). -/
  forcedPorts : Nat := 0
  forcedStages : Nat := 0
  s1Stages : Nat := 0
  /-- The S1 sets that wait for the ledger boundary that stops their stages (R351), none while none waits. -/
  s1Due : Option Nat := none
  /-- The sets stopped, each with the end of its S1_CONFIRM (R351). -/
  s1Waits : List (Nat × Nat) := []
  /-- SAFE was entered with the rack up or during a power-up, and the power-down it started has completed (R360). -/
  safePowerDownOwed : Bool := false
  /-- SAFE was entered with the rack up (R236, R360). -/
  enteredUp : Bool := false
  /-- S1 held with the rack up since (R357). -/
  s1UpSince : Option Nat := none
  recoveryUntil : Nat := 0
  /-- CRC-32C of every record of R365, as the collector holds them. -/
  contextCrc : Tab Nat := []
  /-- Runs of implausible ledger periods per stage (R362, R363). -/
  currentRun : Tab Nat := []
  dutyRun : Tab Nat := []
  /-- FAULT_CLEAR requests that wait for the next ledger boundary (R359). -/
  clearWaits : List Request := []
  deriving DecidableEq, Repr

/-! ### Test access -/

/-- The test access port (R468 to R472): the instruction register, IDCODE in Test-Logic-Reset; the MBIST result of the
last BOOT, one byte of failing columns per bank; the boundary register of 612 cells. -/
structure Tap where
  instruction : Nat := 0x01
  mbistResult : Nat := 0
  /-- What the newest Capture-IR and Capture-DR loaded (R468, Table 17.12). -/
  irCapture : Nat := 1
  drCapture : Nat := 0
  boundary : Nat := 0
  deriving DecidableEq, Repr

end Sys2Proof.Machine
end

