-- ==== Sys2Proof/Machine/TypesBalance.lean ====
section
/-! DEFINITION. Plain data of Balance (chapter 08). Powers are in W unless a name says otherwise. -/

namespace Sys2Proof.Machine

/-- A stage as Balance sees it. -/
structure StageLedger where
  /-- V(s) in mV, I(s) in mA, Pb(s) in W, of the newest window (R221). -/
  v : Int := 0
  /-- V_LEDGER of the newest window alone, where it has one (R219). -/
  vLedger : Int := 0
  vValid : Bool := false
  i : Int := 0
  pb : Int := 0
  /-- Windows in a row without valid samples. -/
  gaps : Nat := 0
  /-- THERM(s) in 1/65536, none before the first valid sample (R223). -/
  therm : Option Nat := none
  capt : Nat := 0
  pSup : Nat := 0
  pDrw : Nat := 0
  /-- Output 0 bounds in mA or W for the supply and the draw side (R219). -/
  bSup : Nat := 0
  bDrw : Nat := 0
  limit : Nat := 0
  deriving DecidableEq, Repr

/-- A string in one tag. -/
structure StringLedger where
  dis : Nat := 0
  chg : Nat := 0
  /-- Limits without the rest term of R224. -/
  disFree : Nat := 0
  chgFree : Nat := 0
  share : Int := 0
  deriving DecidableEq, Repr

/-- What Balance keeps of a string from tag to tag. -/
structure BalString where
  /-- Weights of R228 for discharge and charge, and the record they were computed from. -/
  wDis : Nat := 0
  wChg : Nat := 0
  weighed : Option Nat := none
  staleTold : Bool := false
  /-- 0x0807 is asserted for this string (R478). -/
  recordStale : Bool := false
  noRest : Bool := false
  restReqSince : Option Nat := none
  lastAbort : Option Nat := none
  lastRest : Option Nat := none
  deriving DecidableEq, Repr

/-- Phases of an induced rest (R240) in the order of Table 16.16. -/
inductive RestPhase where
  | none | rampDown | resting | rampUp
  deriving DecidableEq, Repr

/-- The induced rest in progress. The phase began at `startAt` with the envelope at `from_` W. -/
structure Rest where
  string : Nat
  phase : RestPhase := .rampDown
  startAt : Nat := 0
  from_ : Nat := 0
  /-- 0 COMPLETE, 1 ABORTED. -/
  cause : Nat := 0
  shortSince : Option Nat := none
  deriving DecidableEq, Repr

/-- A CAPO pin (R233, R234). -/
structure Capo where
  running : Bool := false
  /-- Start of the period in progress, its high time in µs, and whether the pin has fallen. -/
  start : Nat := 0
  high : Nat := 0
  fallen : Bool := false
  /-- Values of the last ten tags, newest first. -/
  values : List Int := []
  deriving DecidableEq, Repr

/-- The values computed for tag n, before they take effect at T_n. -/
structure LedgerSet where
  tag : Nat := 0
  supply : Int := 0
  absorb : Int := 0
  ext : Int := 0
  chopper : Int := 0
  traction : Int := 0
  regen : Int := 0
  energy : Int := 0
  remain : Int := 0
  stages : Tab StageLedger := []
  strings : Tab StringLedger := []
  deriving DecidableEq, Repr

/-- Balance. -/
structure Balance where
  /-- The values in force, and those computed for the next period. -/
  cur : LedgerSet := {}
  next : Option LedgerSet := none
  /-- Vbus of the newest window, in mV. -/
  vbus : Int := 0
  /-- A BUS_V_SRC sample has come since activation. -/
  vbusKnown : Bool := false
  /-- Pextf in 2^-16 W. -/
  pextf : Int := 0
  /-- The tag last computed for, or told late (R220). -/
  computed : Nat := 0
  sLow : Nat := 0
  vLow : Nat := 0
  vOut : Nat := 0
  unmet : Nat := 0
  undiverted : Nat := 0
  divert : Bool := false
  /-- E_ch in 10 µJ. -/
  eCh : Nat := 0
  chopFault : Bool := false
  strings : Tab BalString := []
  /-- Consumers (255 traction) whose limit lies below their demand, since when, and those already told (R226). -/
  shortSince : Tab Nat := []
  shortTold : List Nat := []
  holdup : Bool := false
  holdupTrigger : Nat := 0
  holdupAt : Nat := 0
  /-- Hold-up has been entered since the last entry to RUN (R236). -/
  holdupUsed : Bool := false
  exhausted : Bool := false
  capos : Tab Capo := []
  rest : Option Rest := none
  /-- P_str of the last seconds, one (greatest positive, greatest negative) pair per second, newest first (R239). -/
  peaks : List (Nat × Nat) := []
  peakNow : Nat × Nat := (0, 0)
  /-- The second of rack time the running peak belongs to, and the last one at which a grant was decided. -/
  peakAt : Nat := 0
  grantAt : Nat := 0
  pStr : Int := 0
  deriving DecidableEq, Repr

end Sys2Proof.Machine
end

