-- ==== Sys2Proof/Machine/TypesClasp.lean ====
section
/-! DEFINITION. Plain data of Clasp and the Erdun protocol (chapter 11). Voltages are in mV, powers in W, currents in mA
unless a name says otherwise. -/

namespace Sys2Proof.Machine

/-- The states of Table 11.9, in its order. -/
inductive ClaspPhase where
  | disabled | detached | check | blocked | discover | ready | closing | contract | ending | lockout
  deriving DecidableEq, Repr

/-- A power object in wire units (Table 11.5). -/
structure PowerObj where
  vMin : Nat
  vMax : Nat
  iMax : Nat
  pMax : Nat
  ramp : Nat
  tandem : Bool
  deriving DecidableEq, Repr

/-- CAPABILITIES (Table 11.4). -/
structure Caps where
  vendor : Nat
  flags : Nat
  seq : Nat
  tie : Nat
  sinkVMin : Nat
  sinkVMax : Nat
  sinkPMax : Nat
  patina : Nat
  pos : List PowerObj
  deriving DecidableEq, Repr

/-- A contract (R317): V_c, P_c, I_c, the Source's droop in 0.1 % and the power object. -/
structure Contract where
  vc : Nat
  pc : Nat
  ic : Nat
  droop : Nat
  po : PowerObj
  deriving DecidableEq, Repr

/-- What a message is sent for, where its acknowledgement or answer matters. -/
inductive Purpose where
  | plain
  | resync
  /-- SETTLED of the new Source, whose acknowledgement completes a swap (R325). -/
  | swapDone
  /-- A customer VDM of COUPLING_VDM_SEND (R337). -/
  | hostVdm
  /-- A BRIDGE_FRAME, sent behind everything else (R330). -/
  | bridge
  deriving DecidableEq, Repr

/-- A message waiting to be sent, or sent. -/
structure OutMsg where
  type : Nat
  payload : Bytes := []
  purpose : Purpose := .plain
  deriving DecidableEq, Repr

/-- The message whose receipt is awaited (R310, R311). -/
structure Outstanding where
  msg : OutMsg
  count : Nat
  role : Nat
  retries : Nat := 0
  /-- Time its last trailer cell ends. -/
  endsAt : Nat
  /-- It is to be sent again: after a missed acknowledgement or a collision. -/
  again : Bool := false
  deriving DecidableEq, Repr

/-- A transition in progress (R322 to R324). -/
structure Transition where
  /-- The contract before; none in a closing transition of a first contract. -/
  old : Option Contract
  closing : Bool
  startAt : Nat
  /-- Largest time until SETTLED (R324). -/
  limit : Nat
  /-- V_link has lain in the band, and V_r equalled V_c, since (R322). -/
  steadySince : Option Nat := none
  deriving DecidableEq, Repr

/-- A role swap in progress (R325): 1 agreements ramp, 2 old Source to send SETTLED or Sink to receive it, 3 new Source's
CAPABILITIES and SETTLED, 4 that SETTLED on its way; 5 complete, the new Sink's request and contract awaited. -/
structure Swap where
  step : Nat := 1
  /-- This end's ROLE_SWAP brought it about. -/
  mine : Bool := false
  /-- This end was the Source when the swap was agreed. -/
  wasSource : Bool
  since : Nat
  deriving DecidableEq, Repr

/-- A linear ramp of agreements and B to zero (R325, R333, R335). -/
structure EndRamp where
  startAt : Nat
  duration : Nat
  imp : Nat
  exp : Nat
  base : Int
  deriving DecidableEq, Repr

/-- An ending coupling (R333). -/
structure Ending where
  cause : Nat
  startAt : Nat
  /-- |link current| has lain at or below LINK_OPEN_I after the ramp since. -/
  lowSince : Option Nat := none
  /-- LOCKOUT follows (R336); BLOCKED follows an end for the patina (R332). -/
  lock : Bool := false
  blocked : Bool := false
  deriving DecidableEq, Repr

/-- The identity the initiator assembles (R328). -/
structure Identity where
  nonce : Bytes
  blob : Bytes := []
  next : Nat := 0
  count : Nat := 0
  length : Nat := 0
  whole : Bool := false
  deriving DecidableEq, Repr

/-- A VDM mailbox entry (Table 16.24). -/
structure VdmEntry where
  order : Nat
  rxTime : Nat
  vdm : Bytes
  deriving DecidableEq, Repr

/-- A host's COUPLING_VDM_SEND awaiting its acknowledgement. -/
structure VdmWait where
  request : Request
  deriving DecidableEq, Repr

/-- Clasp. -/
structure Clasp where
  phase : ClaspPhase := .disabled
  /-- CP_PROX is low: the plug is mated. -/
  mated : Bool := false
  phaseSince : Nat := 0
  /-- 0 Sink, 1 Source; none unresolved. -/
  role : Option Nat := none
  own : Option Caps := none
  partner : Option Caps := none
  capsSeq : Nat := 0
  tie : Nat := 0
  capsSentAt : Option Nat := none
  /-- CAPABILITIES put off to the end of a transition (R323). -/
  capsOwed : Bool := false
  contract : Option Contract := none
  /-- The REQUEST this Sink has sent, with its contract were it accepted. -/
  asked : Option Contract := none
  askAfter : Nat := 0
  /-- WAIT or BUSY has come: a swap or mode request waits for `askAfter` and for the end of a transition or swap (R323). -/
  waited : Bool := false
  /-- A REQUEST is owed once a transition, a swap or the wait of R323 is over. -/
  askOwed : Bool := false
  transition : Option Transition := none
  swap : Option Swap := none
  /-- This end has sent ROLE_SWAP and waits for its answer. -/
  swapAsked : Bool := false
  ending : Option Ending := none
  ramp : Option EndRamp := none
  /-- V_r and V_safe, and the slew V_r moves at, V/ms. -/
  vr : Int := 0
  vrTarget : Int := 0
  vrRamp : Nat := 1
  vSafe : Int := 0
  /-- A first SETTLED has come in this coupling; the last transition's end. -/
  settled : Bool := false
  /-- The agreements are 0 from a swap until the new contract (R325). -/
  powerOff : Bool := false
  settledAt : Nat := 0
  /-- 0 none, 1 Tandem, 2 Bridge; D_T in 0.1 %; this end's pending ENTER_MODE or EXIT_MODE as mode × 2 + enter. -/
  tandem : Bool := false
  bridge : Bool := false
  tandemDroop : Nat := 0
  modeAsked : Option Nat := none
  /-- The mode request came of COUPLING_MODE. -/
  modeByHost : Bool := false
  swapByHost : Bool := false
  /-- Patina (R331, R332). -/
  patina : Nat := 0
  patinaAt : Nat := 0
  patinaRunning : Bool := false
  /-- Start of the check in progress. -/
  patinaSince : Nat := 0
  dryRun : Nat := 0
  rIns : Nat := 0
  rC : Nat := 0
  /-- Partner (R321, R328). -/
  partnerPatina : Nat := 0
  partnerFlags : Nat := 0
  partnerLinkP : Int := 0
  partnerClosed : Bool := false
  verified : Bool := false
  untrusted : Bool := false
  partnerSerial : Nat := 0
  /-- The modes the partner has named (Table 11.12), as a mask by mode code. -/
  partnerModes : Option Nat := none
  identity : Option Identity := none
  identityTries : Nat := 0
  identityRetryAt : Option Nat := none
  /-- Pilot (R309 to R313). -/
  outbox : List OutMsg := []
  out : Option Outstanding := none
  nextCount : Nat := 0
  lastAccepted : Option (Nat × Nat) := none
  lastValidAt : Nat := 0
  missRun : Nat := 0
  softCount : Nat := 0
  holdUntil : Nat := 0
  /-- The bit cells of the frame, message or receipt, last put on the line and its start; the byte of the last receipt. -/
  lineTx : List Bool := []
  lineFrom : Nat := 0
  receiptTx : Nat := 0
  /-- The end of the last activity on the line that this end knows of (R309). -/
  lineEnd : Nat := 0
  lastStatus : Nat := 0
  statusAt : Nat := 0
  /-- The end of the line break being sent (R313). -/
  breakUntil : Nat := 0
  lockouts : Nat := 0
  lastEnd : Nat := 0
  /-- Supervision (R321, R316). -/
  linkOutSince : Option Nat := none
  imbalance : List Nat := []
  imbalSum : Nat := 0
  imbalN : Nat := 0
  deviateSince : Option Nat := none
  /-- Published to Balance and the ramp (R318, R320), with the tag. -/
  agreedImport : Nat := 0
  agreedExport : Nat := 0
  base : Int := 0
  tag : Nat := 0
  /-- Frames for the partner dropped oldest first, the host mailbox, the relayed-VDM count. -/
  mailbox : Tab VdmEntry := []
  relayed : Nat := 0
  vdmWait : Option VdmWait := none
  /-- RX_VALID, RX_CRC_ERR, RX_DISCARD, MISSED_ACK, COLLISION, SOFT_RESET, HARD_RESET, BRIDGE_DROP, VDM_RELAY_DROP. -/
  counters : Tab Nat := []
  deriving DecidableEq, Repr

end Sys2Proof.Machine
end

