-- ==== Sys2Proof/Machine/TypesLink.lean ====
section
/-! DEFINITION. Plain data of the tile link (chapter 04): the ST192's 52 ports and the tiles at their far ends. -/

namespace Sys2Proof.Machine

/-- Port states in the order of Table 4.12. -/
inductive PortPhase where
  | disabled | trainLock | trainId | trainTime | active | standbyLane | failed
  deriving DecidableEq, Repr

/-- An edge entry (Table 4.6). The chip keeps full rack-time stamps; the wire carries their low 24 bits. -/
structure Edge where
  slot : Nat
  kind : Nat
  rise : Nat
  fall : Nat
  dtLead : Nat
  dtTrail : Nat
  seq : Nat
  lsEn : Bool
  deriving DecidableEq, Repr

/-- A service operation (Table 4.7). -/
structure SvcOp where
  op : Nat
  tag : Nat
  addr : Nat
  data : Nat
  deriving DecidableEq, Repr

/-- The service operation outstanding on a lane (R88). -/
structure SvcWait where
  op : SvcOp
  repeated : Bool := false
  /-- Launch of the frame that carried it; none while no frame has yet. -/
  sentAt : Option Nat := none
  deriving DecidableEq, Repr

/-- A release of a tile's off latch in progress (R108). -/
structure AllClear where
  /-- Frames with the operation still to send. -/
  left : Nat := 4
  tag : Nat
  repeated : Bool := false
  /-- OFF_COUNT is being read again from register 0x07 before the four frames go out. -/
  waiting : Bool := true
  /-- Rack time of the first of the four frames' launch. -/
  first : Nat := 0
  deriving DecidableEq, Repr

/-- The cell command block waiting for the next CELL frame (Table 4.13). -/
structure CellCmd where
  sample : Bool := false
  sampleAt : Nat := 0
  setId : Nat := 0
  temps : Bool := false
  bleedPause : Bool := false
  bleed : Bool := false
  bleedMask : Nat := 0
  bleedTime : Nat := 0
  deriving DecidableEq, Repr

/-- One tile port of the ST192 (R80 to R116; Table 16.8). -/
structure TPort where
  phase : PortPhase := .disabled
  attempts : Nat := 0
  /-- Rack time at which the last attempt began, and at which the port became FAILED (R93). -/
  attemptAt : Nat := 0
  failedAt : Nat := 0
  /-- The wait between two attempts (R93). -/
  waiting : Bool := false
  /-- LAT has been measured and sent in this attempt (R95). -/
  measured : Bool := false
  /-- The arrival of 256 frames has been checked in this attempt (R95). -/
  checked : Bool := false
  /-- The registers written in this attempt and not yet read back, with the values expected (R93). -/
  readBack : Tab Nat := []
  /-- SERIAL_LO and SERIAL_HI, as read in training (Table 4.18, R211, R273). -/
  serialLo : Option Nat := none
  serialHi : Option Nat := none
  /-- The serial number of the tile that last trained here, once both halves have been read. -/
  serial : Option Nat := none
  /-- The receiver has no lock since a loss (R111). -/
  lockLost : Bool := false
  /-- This lane became active by failover (R111). -/
  tookOver : Bool := false
  /-- The port has been FAILED since it last reached ACTIVE (R93). -/
  failedBefore : Bool := false
  /-- Lane role: true on the active lane (R81). -/
  activeLane : Bool := true
  /-- LAT and expected upstream latency in 1/16 tick, trims since ALIGN (R95, R96). -/
  lat : Nat := 0
  upLat : Int := 0
  trimSum : Int := 0
  eyeV : Nat := 0
  eyeH : Nat := 0
  ctle : Nat := 0
  /-- The coefficients of the three-tap DFE (R83). -/
  dfe : List Int := [0, 0, 0]
  /-- The receiver's running disparity, positive or not, once a character has come since lock (R84). -/
  rxPlus : Option Bool := none
  upInvalid : Nat := 0
  upLockLoss : Nat := 0
  dnInvalid : Nat := 0
  late : Nat := 0
  edgeRange : Nat := 0
  svcTimeout : Nat := 0
  retrain : Nat := 0
  failover : Nat := 0
  trim : Nat := 0
  cellDiscard : Nat := 0
  linkErr : Nat := 0
  invalidRun : Nat := 0
  /-- Frame number of the last upstream body handed on, and a standby lane's body kept for the case that the active
  lane's fails (R110). -/
  upLast : Option Nat := none
  upSpare : Option (Nat × Bytes) := none
  /-- A frame number whose body was not valid on the active lane and may still come on the standby lane (R110). -/
  upOwed : Option Nat := none
  /-- The two-entry FIFO behind the deframer: the two newest frames handed on, newest first (R110). -/
  fifo : List (Nat × Option Bytes) := []
  /-- LINK_ERR of the newest frame, from which DN_INVALID is extended (R116). -/
  linkErrSeen : Bool := false
  /-- Times and sizes of the rises of LATE within the last millisecond, newest first (0x0408). -/
  lateTimes : List (Nat × Nat) := []
  /-- The tile's newest report (Tables 4.8 to 4.10). -/
  offLatch : Bool := true
  offCause : Nat := 0
  offCount : Nat := 0
  timeAligned : Bool := false
  slotStatus : Tab Nat := []
  transition : Tab (Nat × Nat) := []
  boardTemp : Int := 0
  svc : Option SvcWait := none
  svcQueue : List SvcOp := []
  nextTag : Nat := 0
  clear : Option AllClear := none
  /-- Frames still to carry SLOT_OFF 0xFF (R111). -/
  slotOffFrames : Nat := 0
  /-- Slots forced off by stage or phase stops, for the next frame. -/
  slotOff : Nat := 0
  /-- SLOT_CLEAR is owed once the tile is released (R476): the slots. -/
  slotClear : Nat := 0
  /-- Frames carry OFF_HOLD 1 since a release of the all-off generator (R102). -/
  offHold : Bool := false
  /-- Entries waiting for a frame (R197). -/
  entries : List Edge := []
  cell : Option CellCmd := none
  /-- Body of the frame built last. -/
  tx : Bytes := []
  /-- The characters sent last, and the transmitter's running disparity after them (R84, R85, R102, Table 4.12). -/
  line : List Nat := []
  txPlus : Bool := false
  deriving DecidableEq, Repr

/-- One slot of a phase tile. -/
structure Slot where
  lsMax : Nat := 0
  minDt : Nat := 0xFF
  desat : Bool := false
  localOc : Bool := false
  protLatch : Bool := false
  lateFlag : Bool := false
  /-- The cause of the local protection is still present. -/
  causePresent : Bool := false
  gateHs : Bool := false
  gateLs : Bool := false
  /-- Held entries with full stamps, in arrival order (R100: at most four). -/
  held : List Edge := []
  /-- End of the interval of the last entry held or executing. -/
  busyUntil : Nat := 0
  /-- The low side turns off at this tile time (Table 4.15). -/
  lsOffAt : Option Nat := none
  deriving DecidableEq, Repr

/-- What a tile answers on a lane in training (R92). -/
inductive LaneAnswer where
  /-- Not locked: nothing. -/
  | nothing
  /-- TS1 after sixteen TS1. -/
  | ts1
  /-- Its TS2, echoing a port number, after eight TS2. -/
  | ts2 (echo : Nat)
  /-- Frames, from the first valid frame onward. -/
  | frames
  deriving DecidableEq, Repr

/-- One lane of a tile, as the tile sees it (R112). -/
structure TLane where
  answering : LaneAnswer := .nothing
  aligned : Bool := false
  /-- LAT of the last ALIGN with the trims taken since, in 1/16 tick (R89). -/
  lat : Nat := 0
  /-- Trim not taken yet, 1/16 tick a frame (R96). -/
  slewLeft : Int := 0
  role : Bool := false
  /-- A valid frame with LANE_ROLE 1 has come on this lane (R92). -/
  roleSeen : Bool := false
  /-- FRAME_KIND of the newest valid frame. -/
  kind : Nat := 0
  /-- 16 times the rack time this lane's newest frame gives, less 16 times the time it came at (R89). -/
  offset16 : Int := 0
  /-- Invalid frames on this lane (LINK_ERR). -/
  errors : Nat := 0
  /-- The receiver's running disparity (R84). -/
  rxPlus : Option Bool := none
  /-- Launch of the newest upstream frame on this lane, in sixteenths of a tick of the model's time (R91). -/
  launch16 : Int := 0
  frameNo : Nat := 0
  everValid : Bool := false
  lastValid : Nat := 0
  /-- TAG of the last operation executed from this lane (R88). -/
  lastTag : Option Nat := none
  /-- The answer to it, given again when the ST192 repeats the operation. -/
  lastAnswer : List Nat := [0, 0, 0, 0, 0]
  deriving DecidableEq, Repr

/-- A cell sample set held by a cell tile (R113). -/
structure CellSet where
  setId : Nat := 0
  auto : Bool := false
  late : Bool := false
  volts : List Nat := []
  temps : List Int := []
  deriving DecidableEq, Repr

/-- Cell values still to be sent in one upstream frame (Table 4.11). -/
structure CellChunk where
  setId : Nat
  auto : Bool
  late : Bool
  temps : Bool
  first : Nat
  /-- The values as 16-bit fields. -/
  values : List Nat
  deriving DecidableEq, Repr

/-- A tile (R89 to R115, Table 4.18). -/
structure Tile where
  offLatch : Bool := true
  offCause : Nat := 1
  offCount : Nat := 0
  lane0 : TLane := {}
  lane1 : TLane := {}
  /-- The lane entries and rack time come from: 0 primary, 1 alternate. -/
  entryLane : Nat := 0
  activeDnLost : Bool := false
  dnErr : Nat := 0
  late : Nat := 0
  overlap : Nat := 0
  format : Nat := 0
  slots : Tab Slot := []
  autoPeriod : Nat := 1000
  /-- Frames of the ALL_CLEAR run counted so far, and its TAG (R107). -/
  clearRun : Nat := 0
  clearTag : Nat := 0
  /-- Consecutive frames whose FRAME_NO disagreed (R106). -/
  disagree : Nat := 0
  frameNo : Nat := 0
  /-- The tile's own frame count: the arrival, in sixteenths of a tick, of the frame that `frameNo` numbers (R106). -/
  frameAt : Option Nat := none
  /-- 16 times the tile's rack time less 16 times the model's time (R89). -/
  offset16 : Int := 0
  lastActivity : Nat := 0
  bleedMask : Nat := 0
  bleedUntil : Nat := 0
  sampleAt : Option Nat := none
  sampleCmd : CellCmd := {}
  /-- SAMPLE_AT was past when the command arrived (LATE_SAMPLE, R113). -/
  sampleLate : Bool := false
  set : CellSet := {}
  lastAuto : Nat := 0
  /-- The answer that the next upstream frame carries: OP, TAG, ADDR, status, DATA (R88). -/
  response : List Nat := [0, 0, 0, 0, 0]
  /-- The body of the upstream frame launched last, in its form on the primary lane, and its full number (R91). -/
  up : Bytes := []
  upFrame : Nat := 0
  /-- Cell values still to be sent (R113). -/
  sending : List CellChunk := []
  deriving DecidableEq, Repr

end Sys2Proof.Machine
end

