-- ==== Sys2Proof/Machine/TypesLoop.lean ====
section
/-! DEFINITION. Plain data of the loop engines (chapter 06) and of the stages and phases (chapter 07). Mantissas are
signed numbers; a law state is an extended mantissa, counted in 2^-24 of a mantissa step (R156). -/

namespace Sys2Proof.Machine

/-! ### Loop engines -/

/-- Whether a loop is open, and how (Table 6.5). -/
inductive OpenMode where
  | closed | hold | manual
  deriving DecidableEq, Repr

/-- One context in bank 2: outputs, law states, flags (R148, R156, Table 16.11). -/
structure Ctx where
  y : Int := 0
  ySat : Int := 0
  /-- Output 1 of a STATE_SPACE context. -/
  y1 : Int := 0
  /-- The integrator, extended. -/
  i : Int := 0
  /-- Biquad delays or the state vector, extended. -/
  states : List Int := []
  u0Last : Int := 0
  ffLast : Int := 0
  outSat : Bool := false
  stale : Bool := false
  vinLow : Bool := false
  accSat : Bool := false
  mantSat : Bool := false
  /-- A state was saturated in the previous evaluation (R164). -/
  stateSat : Bool := false
  evaluated : Bool := false
  evals : Nat := 0
  slip : Nat := 0
  lastIssue : Nat := 0
  /-- Rack time of the newest publication. -/
  at_ : Nat := 0
  /-- STAGE_IPH as a stage context's evaluations published it, with the ledger period (R248). -/
  iph : Option (Nat × Int) := none
  /-- Ledger period of that publication (R12). -/
  tag : Nat := 0
  /-- The body in force, where SERVICE or the interpolator changed it; none for the image's. -/
  body : Option Bytes := none
  /-- Body written by CTX_COEF_WRITE, pending (R170), and pending grid points by number (R171). -/
  pending : Option Bytes := none
  pendPoints : Tab Bytes := []
  /-- Grid points replaced in SERVICE. -/
  points : Tab Bytes := []
  mode : OpenMode := .closed
  manual : Int := 0
  /-- Evaluations since a close, while CLOSE_RAMP runs, and the last open output (R170). -/
  closeK : Nat := 0
  closeFrom : Int := 0
  /-- Schedule cells and fractions, none before the first refresh after activation or a close; the sets that have not
  been taken yet with their tags, newest first (R166, R167). -/
  cells : Option (Nat × Nat) := none
  fracs : Nat × Nat := (0, 0)
  nextBody : List (Nat × Bytes) := []
  /-- States start at 0 at the next stage start (R171). -/
  clearDue : Bool := false
  /-- The integrator is set from d0 before the next evaluation (R204). -/
  trackDue : Bool := false
  /-- 0x0606 is asserted for this context. -/
  waiting : Bool := false
  deriving DecidableEq, Repr

/-- An evaluation due at an issue instant (R149, R151): its context, the nominal update instant of a phase evaluation,
its window's close, its update point, and the engine it needs. -/
structure Due where
  ctx : Nat
  nominal : Nat := 0
  close : Nat := 0
  deriving DecidableEq, Repr

/-- An evaluation in flight (R148): what it read is already worked into the context it will write back. -/
structure Flight where
  due : Due
  engine : Nat
  issued : Nat
  /-- Update point, moved if the evaluation was (R150). -/
  update : Nat
  result : Ctx
  /-- Failing checks of R164 as a bitmask: 0 saturation, 1 output step, 2 state. -/
  checks : Nat := 0
  /-- The input that made it stale, by R477: 0 REF, 1 FB, 2 FF, 3 AUX0, 4 AUX1, 5 VIN_SRC. -/
  stale : Option Nat := none
  /-- The current samples of the phases it serves, as it read them, for R199. -/
  curs : Tab Int := []
  /-- STAGE_IPH of its stage, where every working phase gave a sample (R248). -/
  iph : Option Int := none
  /-- A pending copy took effect in this evaluation (R170); states were zeroed or set for tracking start in it (R171,
  R204). -/
  tookPending : Bool := false
  tookClear : Bool := false
  tookTrack : Bool := false
  /-- Whether the loop was open at the issue, and how far a close had come (R170). -/
  mode : OpenMode := .closed
  closeK : Nat := 0
  /-- The values of R174: u0, the injection with its exponent, the selectors. -/
  u0 : Int := 0
  inj : Int := 0
  injExp : Int := 0
  sel : List Int := []
  deriving DecidableEq, Repr

/-- An output published to the Modulator (R193). -/
structure PulseOut where
  nominal : Nat
  update : Nat
  duty : Int
  at_ : Nat
  stale : Bool
  /-- The phase currents as its evaluation read them (R199), by phase. -/
  curs : Tab Int
  /-- Ledger period of publication (R12). -/
  tag : Nat
  deriving DecidableEq, Repr

/-- One engine (Table 16.12). -/
structure Engine where
  /-- 0 IN_POOL, 1 SPARE, 2 OUT. -/
  state : Nat := 0
  lastVector : Nat := 0
  passed : Bool := true
  proofs : Nat := 0
  fails : Nat := 0
  failedAt : Nat := 0
  /-- The proof interval in which the newest proof ran, plus 1 (R176). -/
  provedIn : Nat := 0
  /-- A proof is running until this rack time. -/
  proofUntil : Nat := 0
  /-- The frame boundary at which a failed engine leaves the pool (R177). -/
  removeAt : Option Nat := none
  deriving DecidableEq, Repr

/-- The injection generator (R172). -/
structure Inject where
  ctx : Nat
  point : Nat
  wave : Nat
  amplitude : Int
  freq : Nat
  length : Nat
  /-- Next table index, LFSR state, and start time. -/
  index : Nat := 0
  lfsr : Nat := 1
  start : Nat := 0
  deriving DecidableEq, Repr

/-- The capture unit (R174, R175, Table 16.13). -/
structure Capture where
  /-- 0 IDLE, 1 ARMED, 2 RUNNING, 3 DONE, 4 STOPPED. -/
  state : Nat := 0
  stopCause : Nat := 0
  ctx : Nat := 0
  decimation : Nat := 1
  skip : Nat := 0
  pre : Nat := 0
  trigger : Nat := 0
  falling : Bool := false
  faultCode : Nat := 0
  level : Int := 0
  /-- Kind and selector of each signal. -/
  signals : List (Nat × Nat) := []
  exps : List Int := []
  /-- Samples, newest first: the issue time and the four mantissas. -/
  samples : List (Nat × List Int) := []
  count : Nat := 0
  trigTime : Nat := 0
  trigIndex : Nat := 0
  lastLevel : Option Int := none
  deriving DecidableEq, Repr

/-- The loop engines. -/
structure Loops where
  ctxs : Tab Ctx := []
  engines : Tab Engine := []
  due : List Due := []
  flights : List Flight := []
  inject : Option Inject := none
  /-- The injection table, by sample number. -/
  table : Tab Int := []
  capture : Capture := {}
  /-- Newest outputs per phase, newest first. -/
  outs : Tab (List PulseOut) := []
  deriving DecidableEq, Repr

/-! ### Stages and phases -/

/-- Stage states in the order of Table 7.2. -/
inductive StageMode where
  | stopped | starting | running | braking | crowbar
  deriving DecidableEq, Repr

/-- What the Modulator publishes for a stage (R215). -/
structure StagePub where
  mode : StageMode := .stopped
  nWork : Nat := 0
  nAvail : Nat := 0
  nAct : Nat := 0
  reservesFit : Nat := 0
  retirePending : Nat := 0
  maxDrift : Nat := 0
  capacity : Nat := 0
  tag : Nat := 0
  deriving DecidableEq, Repr

/-- A stage (R187 to R215). Ramp values and targets are in hundredths of the set-point unit. -/
structure Stage where
  mode : StageMode := .stopped
  /-- Rack time of the start request, and of leaving STARTING or BRAKING (R188, R362). -/
  startAt : Nat := 0
  steadyAt : Nat := 0
  /-- The ramp value, none until the first valid FB sample after a start (R190). -/
  ramp : Option Int := none
  base : Option Int := none
  target : Int := 0
  /-- The rate of the newest command, hundredths per ledger period; 0 is a step (R243). -/
  rate : Nat := 0
  reached : Bool := false
  tracking : Bool := false
  /-- Margin steps of 0.25 % (R299), and those the target was last formed with. -/
  margin : Int := 0
  marginUsed : Int := 0
  holdupNamed : Bool := false
  /-- The master of a SHARED stage at its newest evaluation (R186). -/
  master : Option Nat := none
  nAct : Nat := 0
  /-- Since when n_need < n_act holds (R201). -/
  shedSince : Option Nat := none
  brakeSince : Nat := 0
  /-- |OUT0| at or below QUIET_PCT since (R212). -/
  quietSince : Option Nat := none
  quiet : Bool := false
  /-- 0x0704 is raised: a RETIRE_PENDING phase found no fit reserve at a quiet point (R213). -/
  noReserve : Bool := false
  /-- Frame number in which SLOT_OFF of a crowbar goes out; the CROWBAR entries ride in the next (R207). -/
  crowbarFrame : Option Nat := none
  pub : StagePub := {}
  deriving DecidableEq, Repr

/-- Wear states (Table 7.5). -/
inductive WearState where
  | normal | warn | retirePending | retired | promoted
  deriving DecidableEq, Repr

/-- A wear record (Table 7.5), with the sum of the first 1,024 drops. -/
structure Wear where
  serial : Nat := 0
  slot : Nat := 0
  stage : Nat := 0
  state : WearState := .normal
  baseline : Nat := 0
  present : Nat := 0
  samples : Nat := 0
  changed : Nat := 0
  sum : Int := 0
  warned : Bool := false
  /-- The drift reached WEAR_RETIRE: a reserve is unfit (R210). -/
  worn : Bool := false
  deriving DecidableEq, Repr

/-- A phase as the Modulator keeps it. -/
structure Phase where
  shed : Bool := false
  /-- The phase whose interleave rank or PHASE_OFFSET this one holds; none for its own (R213). -/
  seat : Option Nat := none
  /-- A promoted reserve works from its first carrier period; a retired phase stops after its last. -/
  offset : Nat := 0
  newOffset : Option (Nat × Nat) := none
  /-- Start of the next unsent carrier period; none while no pulse is to be sent. -/
  nextS : Option Nat := none
  /-- Start of the carrier period whose pulse went out last since the phase began to switch. -/
  curS : Option Nat := none
  /-- One OFF_AT is owed at this carrier start: shed or retired (R202, R213). -/
  lastOff : Option Nat := none
  /-- End of the interval of the last pulse handed to the framer. -/
  busyEnd : Nat := 0
  /-- RISE and FALL of the last pulse, its DT_TRAIL, LS_EN. -/
  lastRise : Nat := 0
  lastFall : Nat := 0
  lastLead : Nat := 0
  lastTrail : Nat := 0
  lastLs : Bool := false
  /-- FALL, DT_TRAIL and LS_EN of the pulse before it. -/
  prevFall : Nat := 0
  prevTrail : Nat := 0
  prevLs : Bool := false
  /-- RISE of the newest OFF_AT sent, which ends the conduction of the low side. -/
  offAt : Nat := 0
  dtLead : Nat := 0
  dtTrail : Nat := 0
  /-- The trail value that moves one unit a pulse (R199). -/
  trail : Nat := 0
  bytes : List Nat := []
  noByte : Nat := 0
  held : Bool := false
  /-- FALLs of the pulses with I > +ADT_I_MIN whose transition bytes are awaited, oldest first. -/
  awaiting : List Nat := []
  acc : Nat := 0
  trim : Int := 0
  trimSince : Option Nat := none
  trimTold : Bool := false
  seq : Nat := 0
  tracking : Bool := false
  trackPulses : Nat := 0
  aboveRun : Nat := 0
  missed : Nat := 0
  staleSkip : Nat := 0
  minSkip : Nat := 0
  riseClamped : Nat := 0
  frameFull : Nat := 0
  missedRun : Nat := 0
  wear : Wear := {}
  /-- Rack time of the last accepted conduction sample, plus 1 (R209). -/
  wearAt : Nat := 0
  /-- On-time handed to the framer in the running ledger period, and in the last (R363). -/
  onTime : Nat := 0
  onPulses : Nat := 0
  duty : Nat × Nat := (0, 0)
  deriving DecidableEq, Repr

/-- The Modulator. -/
structure Modul where
  stages : Tab Stage := []
  phases : Tab Phase := []
  /-- One more than the newest downstream frame whose cut-off has passed (R85, R195). -/
  cutFrame : Nat := 0
  deriving DecidableEq, Repr

end Sys2Proof.Machine
end

