-- ==== Sys2Proof/Machine/TypesMaq.lean ====
section
/-! DEFINITION. Plain data of Maquette (chapter 09). Units: SOC and U in 2^-48 of 0.01 %, model voltages in 2^-32 of
100 µV, capacity in 2^-16 of 0.01 Ah, resistance in 2^-16 of 1 µΩ, charge in mA × ledger periods. -/

namespace Sys2Proof.Machine

/-- One cell. -/
structure Cell where
  /-- Voltage of the newest set, none missing. -/
  v : Option Nat := none
  /-- The newest voltage of any set. -/
  vLast : Nat := 0
  temp : Int := 250
  soc : Nat := 0
  u : Nat := 0
  v1 : Int := 0
  v2 : Int := 0
  q : Nat := 0
  r : Nat := 0
  r0 : Nat := 1
  socRest : Nat := 0
  uRest : Nat := 0
  /-- Bleed charge since the last read, in 2^-16 mA × ledger periods. -/
  bleed : Nat := 0
  bleeding : Bool := false
  missRun : Nat := 0
  residRun : Nat := 0
  residOk : Nat := 0
  suspended : Bool := false
  deriving DecidableEq, Repr

/-- The published string record (Table 9.2). -/
structure StringRec where
  tag : Nat := 0
  /-- Rack time of publication; the record was published when `fresh`. -/
  at_ : Nat := 0
  fresh : Bool := false
  dis : Nat := 0
  chg : Nat := 0
  soc : Nat := 0
  u : Nat := 0
  q : Nat := 0
  flags : Nat := 0
  rate : Nat := 0
  r : Nat := 0
  r0 : Nat := 0
  socMin : Nat := 0
  socMax : Nat := 0
  cellMin : Nat := 0
  cellMax : Nat := 0
  deriving DecidableEq, Repr

/-- One string. -/
structure StringM where
  cells : Tab Cell := []
  /-- DIR is CHG (R252), and the net charge since it last changed. -/
  charging : Bool := false
  dirAh : Int := 0
  ahSince : Int := 0
  lastRest : Nat := 0
  /-- An open-circuit read has been made since activation (R257). -/
  readDone : Bool := false
  /-- The first set of R258 is past, or the stage has started. -/
  startPast : Bool := false
  stale : Bool := false
  restReq : Bool := false
  missedRun : Nat := 0
  countedRun : Nat := 0
  countStopped : Bool := false
  cellMissing : Bool := false
  tempMissing : Bool := false
  /-- Currents of the running 10 ms step: sum and count; the mean of the last step. -/
  stepSum : Int := 0
  stepN : Nat := 0
  iBar : Int := 0
  /-- A step has ended, and its mean came of counted periods. -/
  iBarOk : Bool := false
  /-- The newest currents with their ledger periods, newest first. -/
  hist : List (Nat × Int) := []
  /-- 10 ms steps at or below REST_I, and operating seconds of the last read in this rest. -/
  restSteps : Nat := 0
  restReadAt : Option Nat := none
  /-- 0 10 ms, 1 100 ms, 2 1 s; the longer period whose condition holds, and since when (R263). -/
  rate : Nat := 1
  slowSince : Option (Nat × Nat) := none
  /-- SAMPLE_AT and current of the newest set. -/
  lastSet : Option (Nat × Int) := none
  /-- Sensor values with their times, by tile index × 32 + sensor. -/
  temps : Tab (Int × Nat) := []
  pub : StringRec := {}
  deriving DecidableEq, Repr

/-- A store write in progress (R270). -/
structure StoreWrite where
  slot : Nat
  seq : Nat
  payload : Bytes
  deriving DecidableEq, Repr

/-- Maquette. -/
structure Maq where
  strings : Tab StringM := []
  write : Option StoreWrite := none
  requested : Bool := false
  /-- PWR_FAIL_N asserted since the running write began (R270). -/
  failed : Bool := false
  /-- The store may not be written until the next start (R269). -/
  barred : Bool := false
  mounted : Bool := false
  /-- The values of the store wait for the tiles' serial numbers, until this rack time at the latest (R273). -/
  restoreBy : Option Nat := none
  eraseDue : Option Nat := none
  /-- Operating seconds of the last entry to RUN or periodic request, for LEARN_SAVE and WEAR_SAVE (R274, R211). -/
  savedAt : Nat := 0
  wearAt : Nat := 0
  /-- Numbers of the last 10 ms and 1 s boundaries handled. -/
  step : Nat := 0
  second : Nat := 0
  deriving DecidableEq, Repr

end Sys2Proof.Machine
end

