-- ==== Sys2Proof/Machine/TypesSense.lean ====
section
/-! DEFINITION. Plain data of Pavé (chapter 05). -/

namespace Sys2Proof.Machine

/-- A sample word (Table 5.2), its close time in full and the ledger period of its publication (R12). Bit 26 is
TCOMP_STALE, or FALLBACK of a set-point input. -/
structure Sample where
  value : Int := 0
  valid : Bool := false
  sat : Bool := false
  mark : Bool := false
  close : Nat := 0
  tag : Nat := 0
  deriving DecidableEq, Repr

/-- Sensing of one phase channel. The bit histories hold the newest slot in bit 0. -/
structure PhaseSense where
  bits0 : Nat := 0
  bits1 : Nat := 0
  bits2 : Nat := 0
  /-- Slots that no valid frame brought, as the bits; everything before the first frame is missing. -/
  gap : Nat := 2 ^ 768 - 1
  /-- Full number of the newest frame taken. -/
  frame : Nat := 0
  /-- Close frame of the last window published or counted missing. -/
  window : Nat := 0
  i : Sample := {}
  v : Sample := {}
  t : Sample := {}
  /-- I_OFFSET replaced by SENSE_ZERO (R127). -/
  zero : Option Int := none
  ocLimit : Int := 0
  missing0 : Nat := 0
  missing1 : Nat := 0
  missing2 : Nat := 0
  ocRun : Nat := 0
  ovRun : Nat := 0
  /-- Fast current values at the last frame boundaries, newest first; none where not compared (R128, R131). -/
  fast : List (Option Int) := []
  xchk : Nat := 0
  /-- The newest valid windows as close, current, voltage, temperature, newest first (R220, R221). -/
  recent : List (Nat × Int × Int × Int) := []
  deriving DecidableEq, Repr

/-- A running SENSE_ZERO (R127): per phase the sum and count of x0. -/
structure ZeroRun where
  stage : Nat
  sums : Tab (Int × Nat) := []
  gated : Bool := false
  deriving DecidableEq, Repr

/-- A cell sample set, in assembly or published (R132 to R136): voltages by cell of the string, temperatures by
tile index × 32 + sensor. -/
structure CellData where
  setId : Nat := 0
  at_ : Nat := 0
  auto : Bool := false
  /-- The tiles whose frames carried LATE_SAMPLE (R134). -/
  late : List Nat := []
  wantTemps : Bool := false
  resent : Bool := false
  /-- The tiles the set was asked of. -/
  tiles : List Nat := []
  volts : Tab Nat := []
  temps : Tab Int := []
  /-- Of a published set: the missing mask by cell, the sensors without a value, and the ledger period of publication
  (R134, R12). -/
  missing : Nat := 0
  missingTemps : List Nat := []
  tag : Nat := 0
  deriving DecidableEq, Repr

/-- A local analogue input (R137 to R139). -/
structure Ain where
  codes : List Nat := []
  /-- The sampling instant of the newest code (R137). -/
  slot : Option Nat := none
  raw : Nat := 0
  word : Sample := {}
  /-- The newest published words as close and value, newest first (R220). -/
  recent : List (Nat × Int) := []
  out : Bool := false
  deriving DecidableEq, Repr

/-- A set-point input: 0 to 3 SPA, 4 to 7 SPP (R140 to R143). -/
structure SetIn where
  /-- The last 2^SPA_AVG_LOG2 codes, newest first; none where invalid (R141). -/
  codes : List (Option Nat) := []
  /-- Uninterrupted invalid samples or periods, and consecutive valid ones. -/
  bad : Nat := 0
  good : Nat := 0
  fallback : Bool := false
  /-- Measured value, before fallback takes its place. -/
  measured : Int := 0
  measuredValid : Bool := false
  word : Sample := {}
  /-- Ledger period of publication. -/
  tag : Nat := 0
  raw : Nat := 0
  rawHigh : Nat := 0
  /-- Rack time of the last edge taken. -/
  lastEdge : Nat := 0
  deriving DecidableEq, Repr

/-- Pavé. -/
structure Pave where
  phases : Tab PhaseSense := []
  zeroRun : Option ZeroRun := none
  ains : Tab Ain := []
  setIns : Tab SetIn := []
  /-- SET_ID of the last set and the count of sets per string (R132). -/
  setId : Nat := 0
  setCount : Tab Nat := []
  /-- Open sets by string, open AUTO sets by tile index, and the newest published set by string. -/
  openSets : Tab CellData := []
  autoSets : Tab CellData := []
  published : Tab CellData := []
  deriving DecidableEq, Repr

end Sys2Proof.Machine
end

