-- ==== Sys2Proof/Machine/TypesSeq.lean ====
section
/-! DEFINITION. Plain data of the Sequencer (chapter 10). -/

namespace Sys2Proof.Machine

/-- A keep-alive output (R287 to R291). -/
structure KeepAlive where
  running : Bool := false
  /-- Rack time of the first rising edge of the running wave (R287). -/
  risesAt : Nat := 0
  /-- Time of the last refresh, and of the last stop or the first edge since the last start. -/
  refreshed : Nat := 0
  since : Nat := 0
  /-- The comparator of R290: the time of the first of the passing results that hold to now. -/
  ilkSince : Option Nat := none
  /-- 0x0906 has been raised since the last start or stop. -/
  told : Bool := false
  deriving DecidableEq, Repr

/-- A rail (R284 to R286, R296). -/
structure Rail where
  /-- The newest sample has lain in the window since, and outside it since. -/
  inSince : Option Nat := none
  outSince : Option Nat := none
  supervised : Bool := false
  /-- Supervision is suspended by a moving margin, and then to this time (R286). -/
  marginBusy : Bool := false
  resumeAt : Nat := 0
  /-- 0x0903 is asserted for this rail. -/
  out : Bool := false
  deriving DecidableEq, Repr

/-- Where the Sequencer stands. -/
inductive SeqPhase where
  /-- The rack is down, nothing in progress. -/
  | idle
  /-- A power-up waits for the undischarged rails (R297). -/
  | undischarged
  /-- A power-up waits for open-circuit reads before a step (R281). -/
  | readWait
  /-- A step of a power-up is to be issued. -/
  | issueDue
  /-- A step of a power-up waits (R280). -/
  | stepWait
  /-- The last step's wait is over: RUN follows at the next ledger boundary, unless an off request comes first (R279). -/
  | upDue
  /-- Every step is up. -/
  | up
  /-- A step of a power-down is to be reversed. -/
  | reverseDue
  /-- A reversed step waits (R282). -/
  | downWait
  deriving DecidableEq, Repr

/-- The Sequencer. -/
structure Seq where
  phase : SeqPhase := .idle
  step : Nat := 0
  /-- Rack time the step was issued or reversed, or its wait began. -/
  since : Nat := 0
  flagged : Nat := 0
  /-- Rails of this wait that have run into their bound (R296, R297). -/
  timedOut : Nat := 0
  cause : Nat := 0
  latched : Bool := false
  /-- Guarded stages of the step being reversed still run, without hold-up since (R298). -/
  guardSince : Option Nat := none
  /-- The coupling stage of the step waits for Clasp (R282). -/
  couplingHeld : Bool := false
  keepAlives : Tab KeepAlive := []
  rails : Tab Rail := []
  deriving DecidableEq, Repr

end Sys2Proof.Machine
end

