-- ==== Sys2Proof/Machine/State.lean ====
section
/-! DEFINITION. The machine state, its reset value, and the ways a step can stop. Every field is plain data. -/

namespace Sys2Proof.Machine

/-- Why a command stops with a fault. No command of the table has a stop by the spec: every one has an effect. -/
inductive Fault where
  /-- Raised by no command; the type needs a reason of its own. Safe. -/
  | none
  deriving DecidableEq, Repr

/-- Why a command is refused. -/
inductive Refusal where
  /-- The command has no meaning yet in this model. Safe: nothing is claimed about it. -/
  | notModelled (mnemonic : String)
  deriving DecidableEq, Repr

/-- The ST192 and what the spec says of the parties its commands reach. -/
structure State where
  /-- The commands waiting, first in, first out. -/
  pending : List Instr := []
  /-- Ticks of 156.25 ps since power was applied (assumption 1). -/
  now : Nat := 0
  /-- The time at which rack time was 0 (R12, R61). -/
  epoch : Nat := 0
  /-- The ledger periods whose boundary has been passed: the newest one's number plus 1 (R12). -/
  ledger : Nat := 0
  mode : Mode := .boot
  /-- The mode SERVICE or TEST was entered from, as changed since (Table 3.2). -/
  under : Mode := .standby
  phase : BootPhase := .inReset
  plinth : Plinth := {}
  pins : Pins := {}
  armature : Armature := {}
  loader : Loader := {}
  benra : Benra := {}
  host : HostUnit := {}
  vitrine : Vitrine := {}
  collector : Collector := {}
  tap : Tap := {}
  /-- Configuration flash on CS0 and recorder flash on CS1. -/
  cs0 : Flash := []
  cs1 : Flash := []
  ports : Tab TPort := []
  tiles : Tab Tile := []
  pave : Pave := {}
  loops : Loops := {}
  modul : Modul := {}
  balance : Balance := {}
  maq : Maq := {}
  seq : Seq := {}
  clasp : Clasp := {}
  /-- The model's own counter of free values drawn (assumption 12). -/
  freeIx : Nat := 0
  deriving DecidableEq, Repr

/-- The machine right after reset: before power-good, in BOOT, nothing waiting (R52, R59). -/
def State.reset : State := { plinth := coldPlinth }

end Sys2Proof.Machine
end

