-- ==== Sys2Proof/Machine/Ops.lean ====
section
/-! DEFINITION. The operations every unit shares: time, the running image, pins, attention causes, the staging of records
(R372 to R375, R480) and the answers of commands. -/

namespace Sys2Proof.Machine

/-- The outcome of a command. -/
abbrev Out := Host.Outcome State Fault Refusal

/-- Ticks per microsecond, millisecond, second (R12). -/
def usTicks : Nat := 6400
def msTicks : Nat := 6400000
def secTicks : Nat := 6400000000
/-- Ticks per ledger period, tile frame and bit slot (R12). -/
def ledgerTicks : Nat := 64000
def frameTicks : Nat := 2560
def slotTicks : Nat := 320

/-- Every lane of the chip, as a mask (Table 4.1). -/
def everyLane : Nat := 2 ^ 52 - 1

/-- Time moves to `t`, never back; operating seconds are counted in every mode other than DORMANT while CK12 runs (R56). -/
def advance (t : Nat) (s : State) : State :=
  let now := max s.now t
  if s.mode = .dormant ∨ s.plinth.ck12 = false then { s with now := now }
  else
    let f := s.plinth.opFrac + (now - s.now)
    { s with
      now := now
      plinth := { s.plinth with
        opSeconds := min (s.plinth.opSeconds + f / secTicks) 0xFFFFFFFF
        opFrac := f % secTicks } }

/-- Rack time (R12). -/
def rackTime (s : State) : Nat := s.now - s.epoch

/-- The ledger period in progress (R12). -/
def period (s : State) : Nat := rackTime s / ledgerTicks

/-- The sections of the running image, none before activation (R40). -/
def secs (s : State) : Secs :=
  match s.loader.live with
  | some i => i.sections
  | none => []

/-- The image is live (R40). -/
def isLive (s : State) : Bool := s.phase == .live

/-- BOOT without an image, in any of its forms (R42, R74, R396, R415). -/
def bootHeld (s : State) : Bool :=
  s.phase == .noImage || s.phase == .repairFailed || s.phase == .selfTestFailed

/-- The chip runs: live and in STANDBY, RUN, SERVICE or SAFE. -/
def running (s : State) : Bool :=
  isLive s && (s.mode == .standby || s.mode == .run || s.mode == .service || s.mode == .safe)

/-- The rack is up: RUN, or SERVICE over RUN (Table 3.2). -/
def rackUp (s : State) : Bool := s.mode == .run || (s.mode == .service && s.under == .run)

/-- The encoding of a mode in records and objects (Table 13.6). -/
def modeCode : Mode → Nat
  | .dormant => 0
  | .boot => 1
  | .standby => 2
  | .run => 3
  | .service => 4
  | .safe => 5
  | .test => 6

/-- A fresh free value, and the counter moved on (assumption 12). -/
def drawFree (s : State) : Nat × State := (Config.freeValue s.freeIx, { s with freeIx := s.freeIx + 1 })

/-- A payload of numbers as uint32 words (assumption 5). -/
def pay (l : List Nat) : Bytes := l.flatMap (leBytes 4)

/-! ### Attention causes (R429, Table 15.3) -/

/-- A cause sets its bit when ATTN_MASK selects it; attention exists only from activation onward (R429). -/
def setCause (i : Nat) (s : State) : State :=
  if isLive s && bit (hoAttnMask (secs s)) i then
    let h := s.host
    let h := if h.causes = 0 then { h with oldestSince := s.now, escalated := false, lastEscalation := s.now } else h
    { s with host := { h with causes := h.causes ||| (1 <<< i) } }
  else s

/-- The chip changes mode (Table 3.2); a change is the attention cause MODE. -/
def setMode (m : Mode) (s : State) : State :=
  if s.mode = m then s else setCause 1 { s with mode := m }

/-! ### Records -/

/-- REFILL of a code, in ticks (R373, Table 13.10). -/
def refillTicks (s : State) (code : Nat) : Nat :=
  (match viEntry (secs s) code with
    | some b => u16 b 6
    | none => viDefaultRefill (secs s)) * msTicks

/-- Severity, flood mode (0 NONE, 1 RATE, 2 REPEAT), BURST of a record's code (R372, R480). -/
def recordClass (s : State) (code scope : Nat) : Nat × Nat × Nat :=
  let q := secs s
  if !isLive s then (if isFaultCode code then 6 else 2, 0, 0)
  else
    match vitrineSev.find? (·.1 == code) with
    | some v => (v.2, 0, 0)
    | none =>
      let e := viEntry q code
      let flood :=
        match e with
        | some b => (u8 b 3, u16 b 4)
        | none => (1, viDefaultBurst q)
      let sev :=
        if isFaultCode code then
          match faultIndex q code scope with
          | some i => u8 (faEntry q i) 4
          | none => viDefaultSev q
        else
          match e with
          | some b => u8 b 2
          | none => viDefaultSev q
      (sev, flood)

/-- Bytes a record takes (R371): header, payload in whole words, TAIL. -/
def recordBytes (r : Staged) : Nat := 32 + 4 * ceilDiv r.payload.length 4

/-- Bytes of staging in use. -/
def stagedBytes (l : List Staged) : Nat := (l.map recordBytes).sum

/-- The size of staging (R480, R375). -/
def stagingCap (s : State) : Nat := if isLive s then viStagingKib (secs s) * 1024 else 262144

/-- Room made for a record of a severity (R375): the oldest record of lower severity goes first, as often as needed;
`n` bounds the number discarded. Answers the records kept, the number discarded and whether the new one fits. -/
def makeRoom : Nat → Nat → Nat → Nat → List Staged → List Staged × Nat × Bool
  | 0, cap, need, _, l => (l, 0, decide (stagedBytes l + need ≤ cap))
  | n + 1, cap, need, sev, l =>
    if stagedBytes l + need ≤ cap then (l, 0, true)
    else
      match l.findIdx? (fun r => decide (r.severity < sev)) with
      | none => (l, 0, false)
      | some i =>
        let r := makeRoom n cap need sev (l.eraseIdx i)
        (r.1, r.2.1 + 1, r.2.2)

/-- SEQUENCE of the next record: GENERATION in [31:24], INDEX in [23:0] (Table 13.3). -/
def seqOf (gen index : Nat) : Nat := gen * 2 ^ 24 + index

/-- A record placed in staging, evicting as R375 states; SEQUENCE is assigned once the mount has ended (R375). -/
def pushRecord (code sev : Nat) (payload : Bytes) (s : State) : State :=
  let v := s.vitrine
  let known := v.mount != .notYet
  let q := seqOf v.generation v.nextIndex
  let r : Staged :=
    { code := code, severity := sev, payload := payload, opSeconds := s.plinth.opSeconds,
      powerCycles := s.plinth.powerCycles, seq := if known then some q else none, stagedAt := s.now }
  let room := makeRoom v.staged.length (stagingCap s) (recordBytes r) sev v.staged
  let lost := room.2.1 + (if room.2.2 then 0 else 1)
  let v := { v with staged := room.1, stageDrop := sat32 v.stageDrop lost, dropUntold := v.dropUntold + lost }
  if !room.2.2 then { s with vitrine := v }
  else
    let v := { v with staged := v.staged ++ [r] }
    if known then
      { s with
        vitrine := { v with
          nextIndex := min (v.nextIndex + 1) 0xFFFFFF, newestSeq := q
          oldestSeq := if v.sectors.isEmpty && v.staged.length == 1 then q else v.oldestSeq }
        plinth := { s.plinth with newestSeq := q } }
    else { s with vitrine := v }

/-- A Vitrine code staged with its own severity, never flood-handled (R372). -/
def pushOwn (code : Nat) (payload : Bytes) (s : State) : State :=
  let s := pushRecord code ((vitrineSev.find? (·.1 == code)).elim 2 (·.2)) payload s
  if code == 0x8B02 || code == 0x8B04 || code == 0x8B07 then setCause 3 s else s

/-- Event 0x8B04 with the count, once staging has room again (R375). -/
def tellDrops (s : State) : State :=
  if s.vitrine.dropUntold = 0 || stagingCap s < stagedBytes s.vitrine.staged + 36 then s
  else
    let n := s.vitrine.dropUntold
    pushOwn 0x8B04 (pay [n]) { s with vitrine := { s.vitrine with dropUntold := 0 } }

/-- A record arrives at Vitrine (R373 to R375): folded, rate-limited or staged. The REFILL of a bucket runs from its first
record (assumption 77). -/
def stageRecord (code scope : Nat) (payload : Bytes) (s : State) : State :=
  let c := recordClass s code scope
  let s :=
    if c.2.1 = 2 then
      match s.vitrine.staged.getLast? with
      | some r =>
        if r.code == code && r.payload == payload && decide (r.rep < 8191) then
          { s with vitrine := { s.vitrine with staged := s.vitrine.staged.dropLast ++ [{ r with rep := r.rep + 1 }] } }
        else pushRecord code c.1 payload s
      | none => pushRecord code c.1 payload s
    else if c.2.1 = 1 then
      let b := Tab.get { tokens := c.2.2, due := s.now + refillTicks s code } s.vitrine.buckets code
      if b.tokens = 0 then
        { s with vitrine := { s.vitrine with
            buckets := Tab.set s.vitrine.buckets code { b with suppressed := b.suppressed + 1 } } }
      else
        let s := { s with vitrine := { s.vitrine with
          buckets := Tab.set s.vitrine.buckets code { b with tokens := b.tokens - 1, suppressed := 0 } } }
        let s := if b.suppressed = 0 then s else pushOwn 0x8B03 (pay [code, b.suppressed]) s
        pushRecord code c.1 payload s
    else if vitrineSev.any (·.1 == code) then pushOwn code payload s
    else pushRecord code c.1 payload s
  let s := if code == 0x8F03 || code == 0x8F04 then setCause 7 s else s
  tellDrops s

/-- A non-fault event recorded with a payload of numbers. -/
def event (code : Nat) (l : List Nat) (s : State) : State := stageRecord code 0 (pay l) s

/-! ### Finding and setting numbered state -/

def State.port (s : State) (p : Nat) : TPort := Tab.get {} s.ports p
def State.setPort (s : State) (p : Nat) (x : TPort) : State := { s with ports := Tab.set s.ports p x }
def State.tile (s : State) (i : Nat) : Tile := Tab.get {} s.tiles i
def State.setTile (s : State) (i : Nat) (x : Tile) : State := { s with tiles := Tab.set s.tiles i x }
def State.ctx (s : State) (c : Nat) : Ctx := Tab.get {} s.loops.ctxs c
def State.setCtx (s : State) (c : Nat) (x : Ctx) : State :=
  { s with loops := { s.loops with ctxs := Tab.set s.loops.ctxs c x } }
def State.engine (s : State) (k : Nat) : Engine := Tab.get {} s.loops.engines k
def State.setEngine (s : State) (k : Nat) (x : Engine) : State :=
  { s with loops := { s.loops with engines := Tab.set s.loops.engines k x } }
def State.stage (s : State) (g : Nat) : Stage := Tab.get {} s.modul.stages g
def State.setStage (s : State) (g : Nat) (x : Stage) : State :=
  { s with modul := { s.modul with stages := Tab.set s.modul.stages g x } }
def State.ph (s : State) (p : Nat) : Phase := Tab.get {} s.modul.phases p
def State.setPh (s : State) (p : Nat) (x : Phase) : State :=
  { s with modul := { s.modul with phases := Tab.set s.modul.phases p x } }
def State.sense (s : State) (p : Nat) : PhaseSense := Tab.get {} s.pave.phases p
def State.setSense (s : State) (p : Nat) (x : PhaseSense) : State :=
  { s with pave := { s.pave with phases := Tab.set s.pave.phases p x } }
def State.bank (s : State) (b : Nat) : Bank := Tab.get {} s.armature.banks b
def State.setBank (s : State) (b : Nat) (x : Bank) : State :=
  { s with armature := { s.armature with banks := Tab.set s.armature.banks b x } }
def State.hport (s : State) (p : Nat) : HPort := Tab.get {} s.host.ports p
def State.setHport (s : State) (p : Nat) (x : HPort) : State :=
  { s with host := { s.host with ports := Tab.set s.host.ports p x } }

def State.setIn (s : State) (k : Nat) : SetIn := Tab.get {} s.pave.setIns k
def State.setSetIn (s : State) (k : Nat) (x : SetIn) : State :=
  { s with pave := { s.pave with setIns := Tab.set s.pave.setIns k x } }
def State.str (s : State) (b : Nat) : StringM := Tab.get {} s.maq.strings b
def State.setStr (s : State) (b : Nat) (x : StringM) : State :=
  { s with maq := { s.maq with strings := Tab.set s.maq.strings b x } }

/-- The input of a code and scope (R343, R344). -/
def faultKey (code scope : Nat) : Nat := code * 8 + scope

def State.input (s : State) (code scope : Nat) : FaultIn := Tab.get {} s.collector.inputs (faultKey code scope)
def State.setInput (s : State) (code scope : Nat) (x : FaultIn) : State :=
  { s with collector := { s.collector with inputs := Tab.set s.collector.inputs (faultKey code scope) x } }

/-! ### Command results (R419) -/

def stDone : Nat := 0x00
def stAccepted : Nat := 0x01
def stBusy : Nat := 0x02
def stDenied : Nat := 0x03
def stWrongMode : Nat := 0x04
def stNoObject : Nat := 0x05
def stOversize : Nat := 0x06
def stRange : Nat := 0x07
def stCauseActive : Nat := 0x08
def stIntegrity : Nat := 0x09
def stStale : Nat := 0x0A

/-- An accepted command reaches its final status: COMMAND_RESULT of its port and the attention cause COMMAND (R419). -/
def finishCommand (object status detail : Nat) (s : State) : State :=
  match Tab.find s.host.accepted object with
  | none => s
  | some a =>
    let p := s.hport a.port
    let s := s.setHport a.port { p with result :=
      { object := object, inst := a.inst, tag := a.tag, status := status, detail := detail,
        completed := s.plinth.opSeconds } }
    setCause 2 { s with host := { s.host with accepted := Tab.del s.host.accepted object } }

end Sys2Proof.Machine
end

