-- ==== Sys2Proof/Machine/HostAnswer.lean ====
section
/-! DEFINITION. The answers the host ports give (R410, R418, R419, R434, Table 15.2). -/

namespace Sys2Proof.Machine

/-- Port numbers of COMMAND_RESULT: 0 two-wire, 1 CAN0, 2 CAN1. -/
def portNo : HostPort → Nat
  | .tw => 0
  | .can0 => 1
  | .can1 => 2

/-- The response MAC (R410). -/
def responseMac (key nonce : Bytes) (t : Trailer) (status : Nat) (data : Bytes) : Bytes :=
  (cmac key (ascii "KRSP" ++ nonce ++ leBytes 4 t.counter ++ leBytes 1 t.channel ++ leBytes 1 status ++ data)).take 8

/-! ### Answers -/

/-- FLAGS of a response (Table 15.2). -/
def respFlags (r : Response) : Nat :=
  flag r.pending + 2 * flag r.attention + 4 * flag r.discarded + 8 * flag r.mac.isSome

/-- The bytes of a response (Table 15.2). -/
def respBytes (r : Response) : Bytes :=
  [byte r.status, byte r.tag, byte (respFlags r), 0] ++ leBytes 2 r.data.length ++ r.data ++ r.mac.getD []

/-- The setting of a CAN controller in force: FD, BRS, STATUS_EN flags and the identifiers (R438, Table 15.8). -/
def canFlags (s : State) (k : Nat) : Nat :=
  if (s.hport (k + 1)).hostSettings then u8 (hoCan (secs s) k) 1 else 3

/-- The controller is enabled. -/
def canEnabled (s : State) (k : Nat) : Bool :=
  if (s.hport (k + 1)).hostSettings then u8 (hoCan (secs s) k) 0 == 1 else k == 0

/-- REQ_ID, RSP_ID and STATUS_ID in force, as identifier fields with IDE in bit 31. -/
def canId (s : State) (k which : Nat) : Nat :=
  if (s.hport (k + 1)).hostSettings then u32 (hoCan (secs s) k) (12 + 4 * which)
  else 0x80000000 + 0x1C192000 + 0x10 * s.plinth.straps + which

/-- The segments of a message: `n` bytes after each header (R434). -/
def segmentsFrom (n : Nat) : Nat → Nat → Bytes → List Bytes
  | 0, _, _ => []
  | f + 1, q, b =>
    if b.isEmpty then [] else (byte (0x80 + q % 64) :: b.take n) :: segmentsFrom n f (q + 1) (b.drop n)

/-- A message in segments: SINGLE where it fits, FIRST and CONSECUTIVE otherwise (R434). -/
def segments (n : Nat) (b : Bytes) : List Bytes :=
  if b.length ≤ n then [0x00 :: b] else (0x40 :: b.take n) :: segmentsFrom n b.length 1 (b.drop n)

/-- The frames of a controller still unsent now: while the bus is up, what was queued at an earlier instant has left
(assumption 18). -/
def unsent (s : State) (k : Nat) : List CanFrame :=
  let p := s.hport (k + 1)
  if p.isBusOff || p.queuedAt == s.now then p.queue else []

/-- Frames join a controller's queue behind those of their kind and lower (R435 to R437, R330). -/
def queueFrames (k : Nat) (fs : List CanFrame) (s : State) : State :=
  let p := s.hport (k + 1)
  let kind := (fs.map (·.kind)).foldl max 0
  let q := unsent s k
  s.setHport (k + 1) { p with
    queue := q.filter (fun f => decide (f.kind ≤ kind)) ++ fs ++ q.filter (fun f => decide (kind < f.kind)), queuedAt := s.now }

/-- A response leaves a CAN port in segments on RSP_ID, ahead of status and telemetry frames (R434, R435, R437). -/
def queueResponse (k : Nat) (r : Response) (s : State) : State :=
  let n := if bit (canFlags s k) 0 then 63 else 7
  queueFrames k ((segments n (respBytes r)).map (fun b => ({ id := canId s k 1, data := b, kind := 0 } : CanFrame))) s

/-- The final answer of a request: into the port's buffer, held while PENDING was answered for it, or lost where a newer
request has replaced it (R426, R435). -/
def respond (port : HostPort) (r : Response) (s : State) : State :=
  let n := portNo port
  let r := { r with attention := s.host.causes != 0 }
  let s := { s with host := { s.host with lastAnswer := some (n, r) } }
  let p := s.hport n
  if p.pendingSent && p.serving == some r.tag then s.setHport n { p with final := some r }
  else if p.lost.contains r.tag then s.setHport n { p with lost := p.lost.erase r.tag }
  else
    let s := s.setHport n { p with response := r, serving := none, pendingSent := false, final := none }
    if n = 0 then s else queueResponse (n - 1) r s

/-- A request is discarded whole and counted; the port's response says so (R420). -/
def discardRequest (port : HostPort) (s : State) : State :=
  let n := portNo port
  let p := s.hport n
  let r : Response := { status := 0x09, discarded := true, attention := s.host.causes != 0 }
  let s := s.setHport n { p with discard := sat32 p.discard 1, response := r }
  let s := { s with host := { s.host with lastAnswer := some (n, r) } }
  if n = 0 then s else queueResponse (n - 1) r s

/-- The answer to a request, with its MAC field when it was authenticated (R410, R421); the MAC is taken under the
given keys, those held when the request was checked (R413). -/
def answerBy (keys : Tab Bytes) (r : Request) (withMac : Bool) (status : Nat) (data : Bytes) (s : State) : State :=
  let mac :=
    match r.trailer with
    | none => none
    | some t =>
      match Tab.find keys t.channel with
      | some key => if withMac then some (responseMac key s.benra.bootNonce t status data) else some (zeros 8)
      | none => some (zeros 8)
  respond r.port { status := status, tag := r.tag, data := data, mac := mac } s

/-- The answer under the keys now held. -/
def answer (r : Request) (withMac : Bool) (status : Nat) (data : Bytes) (s : State) : State :=
  answerBy s.benra.cmdKeys r withMac status data s

end Sys2Proof.Machine
end

