-- ==== Sys2Proof/Machine/Random.lean ====
section
/-! DEFINITION. Benra's random numbers: the DRBG and its seeds, and the health tests of the noise source (R414). -/

namespace Sys2Proof.Machine

/-! ### The DRBG -/

/-- A request to the DRBG: 48 bytes as a number, and the reseed counter moved on (R414, assumption 78). -/
def drbg (s : State) : Nat × State :=
  let v := hmac384 s.benra.drbgKey s.benra.drbgV
  let n := drbgUpdate s.benra.drbgKey v []
  (leNat v, { s with benra := { s.benra with
    drbgKey := n.1, drbgV := n.2, drbgRequests := s.benra.drbgRequests + 1 } })

/-- Raw bits conditioned into a seed: SHA-384 of 1,024 of them (R414). -/
def conditioned (raw : Bytes) : Bytes := sha384 (raw.take 128)

/-- The DRBG seeded afresh, or reseeded (R414). -/
def seedDrbg (raw : Bytes) (s : State) : State :=
  let n := drbgSeed (conditioned raw)
  { s with benra := { s.benra with drbgKey := n.1, drbgV := n.2, drbgRequests := 0 } }
def reseedDrbg (raw : Bytes) (s : State) : State :=
  let n := drbgUpdate s.benra.drbgKey s.benra.drbgV (conditioned raw)
  { s with benra := { s.benra with drbgKey := n.1, drbgV := n.2, drbgRequests := 0 } }

/-! ### Health tests of the raw bits (R414) -/

/-- The raw bits in their order, the most significant bit of a byte first. -/
def rawBits (raw : Bytes) : List Bool := raw.flatMap (fun b => (List.range 8).map (fun i => b.toNat.testBit (7 - i)))

/-- The repetition count test with cutoff 41, after `n` equal bits of a value. -/
def repetitionOk : Nat → Option Bool → List Bool → Bool
  | _, _, [] => true
  | n, prev, b :: l =>
    let k := if prev = some b then n + 1 else 1
    decide (k < 41) && repetitionOk k (some b) l

/-- The adaptive proportion test over `n` windows of 1,024 bits with cutoff 796. -/
def proportionOk : Nat → List Bool → Bool
  | 0, _ => true
  | n + 1, l =>
    let w := l.take 1024
    (decide (w.length < 1024) || decide ((w.filter (· == w.headD false)).length < 796)) && proportionOk n (l.drop 1024)

/-- Both health tests pass on raw bits. -/
def rawHealthy (raw : Bytes) : Bool :=
  repetitionOk 0 none (rawBits raw) && proportionOk (raw.length / 128) (rawBits raw)

/-- The start-up test: both tests over 4,096 bits. -/
def startupPasses (raw : Bytes) : Bool := raw.length == 512 && rawHealthy raw

end Sys2Proof.Machine
end

