-- ==== Sys2Proof/Machine/CheckSense.lean ====
section
/-! DEFINITION. SENSE: its fields (Tables 5.6 to 5.11) and its parse (R144, R145). -/

namespace Sys2Proof.Machine

def seFastCount (q : Secs) : Nat := u8 (sec q tySense) 0
def seXchkPct (q : Secs) : Nat := u8 (sec q tySense) 1
def seCellVMin (q : Secs) : Nat := u16 (sec q tySense) 2
def seCellVMax (q : Secs) : Nat := u16 (sec q tySense) 4
def seCellTMin (q : Secs) : Int := i16 (sec q tySense) 6
def seCellTMax (q : Secs) : Int := i16 (sec q tySense) 8
/-- Phase entry `p` (Table 5.7). -/
def sePhase (q : Secs) (p : Nat) : Bytes := slice (sec q tySense) (16 + 48 * p) 48
def spOsr (e : Bytes) : Nat := u8 e 0
def spWin (e : Bytes) : Nat := u8 e 1
def spLin (e : Bytes) : Nat := u8 e 2
def spITc (e : Bytes) : Int := i16 e 4
def spITcRef (e : Bytes) : Int := i16 e 6
def spIOff (e : Bytes) : Int := i32 e 8
def spIGain (e : Bytes) : Int := i32 e 12
def spVOff (e : Bytes) : Int := i32 e 16
def spVGain (e : Bytes) : Int := i32 e 20
def spTOff (e : Bytes) : Int := i32 e 24
def spOcMax (e : Bytes) : Int := i32 e 28
def spOcMin (e : Bytes) : Int := i32 e 32
def spOcKnee (e : Bytes) : Int := i16 e 36
def spOcSlope (e : Bytes) : Nat := u16 e 38
def spOvMax (e : Bytes) : Int := i32 e 40
/-- Point `k` of linearisation table `t` (Table 5.8). -/
def seLin (q : Secs) (t k : Nat) : Int := i16 (sec q tySense) (9232 + 36 * t + 2 * k)
/-- AIN entry (Table 5.9). -/
def seAin (q : Secs) (k : Nat) : Bytes := slice (sec q tySense) (9520 + 16 * k) 16
def ainOn (e : Bytes) : Bool := u8 e 0 == 1
/-- Set-point input `k`: 0 to 3 SPA, 4 to 7 SPP (Tables 5.10, 5.11). -/
def seSetIn (q : Secs) (k : Nat) : Bytes := slice (sec q tySense) (10032 + 32 * k) 32
def setInOn (e : Bytes) : Bool := u8 e 0 == 1
def setInKind (e : Bytes) : Nat := u8 e 1
def setInStage (e : Bytes) : Nat := u8 e 2
/-- FALLBACK of an input. -/
def setInFallback (q : Secs) (k : Nat) : Int := if k < 4 then i32 (seSetIn q k) 20 else i32 (seSetIn q k) 24

/-- The enabled input that feeds a stage in a kind: 1 SETPOINT, 2 FEEDFORWARD, 3 TRIM. -/
def setInFor (q : Secs) (stage kind : Nat) : Option Nat :=
  (List.range 8).find? (fun k => setInOn (seSetIn q k) && setInKind (seSetIn q k) == kind && setInStage (seSetIn q k) == stage)

/-- A phase entry of a sensed channel. -/
def sePhaseOk (e : Bytes) : Bool :=
  within 2 32 (spOsr e) && decide (spWin e < spOsr e) && decide (spLin e < 8) && zeroAt e 3 1 && zeroAt e 44 4
  && withinI (-5000) 5000 (spITc e) && withinI (-400) 1500 (spITcRef e)
  && [spIOff e, spVOff e, spTOff e].all (withinI (-2097152) 2097152)
  && withinI 1000 8000000 (spIGain e) && withinI 1000 8000000 (spVGain e)
  && withinI 1 (spIGain e) (spOcMax e) && withinI 1 (spOcMax e) (spOcMin e) && withinI (-400) 1500 (spOcKnee e)
  && (spOvMax e == 0 || withinI 1 (spVGain e) (spOvMax e))

/-- An AIN entry. -/
def seAinOk (e : Bytes) : Bool :=
  zeroAt e 3 1 && zeroAt e 10 2
  && (u8 e 0 == 0
    || u8 e 0 == 1 && decide (u8 e 1 ≤ 6) && decide (u8 e 2 ≤ 3)
      && (u8 e 2 == 3 || withinI 1 8000000 (i32 e 4) || withinI (-8000000) (-1) (i32 e 4))
      && withinI (-512) 511 (i16 e 8) && decide (u16 e 12 ≤ u16 e 14) && decide (u16 e 14 ≤ 4095))

/-- A value lies between two ends in either order. -/
def between (a b v : Int) : Bool := withinI (min a b) (max a b) v

/-- The stage a set-point input names (R145). -/
def setInDestOk (q : Secs) (e : Bytes) : Bool :=
  within 1 3 (setInKind e) && decide (setInStage e < 64) && stageDeclared q (setInStage e)
  && (setInKind e == 2 || stFlag q (setInStage e) 1)

/-- An SPA entry. -/
def spaOk (q : Secs) (e : Bytes) : Bool :=
  zeroAt e 27 5
  && (u8 e 0 == 0
    || u8 e 0 == 1 && setInDestOk q e && decide (u8 e 3 ≤ 4) && decide (u16 e 4 ≤ u16 e 8)
      && decide (u16 e 8 < u16 e 10) && decide (u16 e 10 ≤ u16 e 6) && between (i32 e 12) (i32 e 16) (i32 e 20)
      && within 1 1000 (u16 e 24) && within 1 255 (u8 e 26))

/-- An SPP entry. -/
def sppOk (q : Secs) (e : Bytes) : Bool :=
  zeroAt e 3 1 && zeroAt e 14 2 && zeroAt e 28 4
  && (u8 e 0 == 0
    || u8 e 0 == 1 && setInDestOk q e && within 5000 1000000 (u32 e 4) && within 1 20 (u8 e 8) && within 1 255 (u8 e 9)
      && within 100 9900 (u16 e 10) && decide (u16 e 10 < u16 e 12) && decide (u16 e 12 ≤ 9900)
      && between (i32 e 16) (i32 e 20) (i32 e 24))

/-- SENSE (R144, R145). -/
def senseOk (q : Secs) : Bool :=
  let b := sec q tySense
  let ins := ((List.range 8).map (seSetIn q)).filter setInOn
  b.length == 10288 && within 1 4 (u8 b 0) && within 2 50 (u8 b 1) && within 1 49999 (u16 b 2)
  && within (u16 b 2 + 1) 50000 (u16 b 4) && withinI (-600) 1499 (i16 b 6) && withinI (i16 b 6 + 1) 1500 (i16 b 8)
  && zeroAt b 10 6
  && (List.range 192).all (fun p =>
      if (phaseSeat q p).isSome then sePhaseOk (sePhase q p) else allZero (sePhase q p))
  && (List.range 8).all (fun t => zeroAt b (9232 + 36 * t + 34) 2)
  && (List.range 32).all (fun k => seAinOk (seAin q k))
  && (List.range 8).all (fun k => if k < 4 then spaOk q (seSetIn q k) else sppOk q (seSetIn q k))
  && distinct (ins.map (fun e => setInStage e * 4 + setInKind e))

end Sys2Proof.Machine
end

