-- ==== Sys2Proof/Machine/SectionsLoop.lean ====
section
/-! DEFINITION. Named access to LOOP_CONTEXTS and SCHEDULES (chapter 06), STAGES (07) and BALANCE (08), and to selectors
(Table 6.4). -/

namespace Sys2Proof.Machine

/-- The int24 at `off`. -/
def i24 (b : Bytes) (off : Nat) : Int := signedOf 24 (field b off 3)
/-- The int6 in [5:0] of the byte at `off` (R153). -/
def i6 (b : Bytes) (off : Nat) : Int := signedOf 6 (u8 b off % 64)

/-! ### LOOP_CONTEXTS (Tables 6.8 to 6.13) -/

/-- The records of a list that each hold their length at offset 2, at most `n`. -/
def walkRecords : Nat → Bytes → List Bytes
  | 0, _ => []
  | n + 1, b => if b.isEmpty then [] else b.take (u16 b 2) :: walkRecords n (b.drop (u16 b 2))

def lcCount (q : Secs) : Nat := u16 (sec q tyLoopContexts) 0
def lcInjPct (q : Secs) : Nat := u8 (sec q tyLoopContexts) 2
def lcCloseRamp (q : Secs) : Nat := u8 (sec q tyLoopContexts) 3
/-- The context records in order. -/
def lcRecords (q : Secs) : List Bytes := walkRecords (lcCount q) ((sec q tyLoopContexts).drop 16)
/-- The record of a context, empty when it has none. -/
def lcRec (q : Secs) (c : Nat) : Bytes := ((lcRecords q).find? (fun r => u16 r 0 == c)).getD []
def lcHas (q : Secs) (c : Nat) : Bool := (lcRecords q).any (fun r => u16 r 0 == c)

def ctxForm (r : Bytes) : Nat := u8 r 4
def ctxScheduled (r : Bytes) : Bool := bit (u8 r 5) 0
def ctxOpenable (r : Bytes) : Bool := bit (u8 r 5) 1
def ctxBackcalc (r : Bytes) : Bool := bit (u8 r 5) 2
def ctxRate (r : Bytes) : Nat := u8 r 6
def ctxRe (r : Bytes) : Int := i6 r 7
def ctxOutMin (r : Bytes) : Int := i32 r 8
def ctxOutMax (r : Bytes) : Int := i32 r 12
def ctxRef (r : Bytes) : Nat := u16 r 16
def ctxFb (r : Bytes) : Nat := u16 r 18
def ctxFf (r : Bytes) : Nat := u16 r 20
def ctxAux0 (r : Bytes) : Nat := u16 r 22
def ctxAux1 (r : Bytes) : Nat := u16 r 24
def ctxSe (r : Bytes) : Int := i6 r 26
def ctxPlaus (r : Bytes) : Nat := u8 r 27
def ctxSetpoint (r : Bytes) : Int := i32 r 28

/-- The number of a stage's context. -/
def stageCtx (s : Nat) : Nat := 0x100 + s
/-- The context belongs to a phase. -/
def isPhaseCtx (c : Nat) : Bool := decide (c < 192)
/-- The stage a context belongs to. -/
def ctxStage (q : Secs) (c : Nat) : Nat := if isPhaseCtx c then phStage q c else c - 0x100

/-- The bytes of a body of a form, from the head of the body (Tables 6.10 to 6.13). -/
def bodyLength (form : Nat) (b : Bytes) : Nat :=
  if form = 1 then 16
  else if form = 4 then 24
  else if form = 2 then 12 + 20 * u8 b 0
  else
    let nx := u8 b 0
    let nu := u8 b 1
    let ny := u8 b 2
    8 + 3 * (nx * nx + nx * nu + 2 * (nx * ny) + ny * nu)

/-- The body of a record, without padding. -/
def ctxBody (r : Bytes) : Bytes := (r.drop 32).take (bodyLength (ctxForm r) (r.drop 32))

/-- Offsets in the body of the coefficient mantissas, in body order (R165, R183). -/
def coefOffsets (form : Nat) (b : Bytes) : List Nat :=
  if form = 1 then [2, 5, 8, 11]
  else if form = 4 then [2, 5, 8, 11, 17]
  else if form = 2 then
    (List.range (u8 b 0)).flatMap (fun k => (List.range 5).map (fun j => 6 + 20 * k + 3 * j))
      ++ [5 + 20 * u8 b 0, 8 + 20 * u8 b 0]
  else (List.range ((bodyLength 3 b - 8) / 3)).map (fun j => 8 + 3 * j)

/-- Offsets in the body of the exponent bytes. -/
def expOffsets (form : Nat) (b : Bytes) : List Nat :=
  if form = 1 then [0]
  else if form = 4 then [0, 16]
  else if form = 2 then (List.range (u8 b 0)).flatMap (fun k => [4 + 20 * k, 5 + 20 * k]) ++ [4 + 20 * u8 b 0]
  else [3, 4, 5, 6]

/-- A body with bytes written at an offset. -/
def putBytes (b : Bytes) (off : Nat) (d : Bytes) : Bytes := b.take off ++ d ++ b.drop (off + d.length)

/-- A body with the coefficient mantissas replaced, in body order. -/
def putCoefs (form : Nat) (b : Bytes) (l : List Int) : Bytes :=
  ((coefOffsets form b).zip l).foldl (fun b x => putBytes b x.1 (leInt 3 x.2)) b

/-! ### Selectors (Table 6.4) -/

def selKind (s : Nat) : Nat := s / 4096
def selIndex (s : Nat) : Nat := s % 4096

/-! ### SCHEDULES (Tables 6.14, 6.15) -/

def scCount (q : Secs) : Nat := u8 (sec q tySchedules) 0
def scRecords (q : Secs) : List Bytes := walkRecords (scCount q) ((sec q tySchedules).drop 4)
/-- The schedule record of a context, empty when it has none. -/
def scRec (q : Secs) (c : Nat) : Bytes := ((scRecords q).find? (fun r => u16 r 0 == c)).getD []
def scN0 (r : Bytes) : Nat := u8 r 8
def scN1 (r : Bytes) : Nat := u8 r 9
def scCoefs (r : Bytes) : Nat := u8 r 10
def scBp0 (r : Bytes) (k : Nat) : Int := i32 r (16 + 4 * k)
def scBp1 (r : Bytes) (k : Nat) : Int := i32 r (48 + 4 * k)
/-- The bytes of grid point (i0, i1). -/
def scPoint (r : Bytes) (i0 i1 : Nat) : Bytes :=
  slice r (88 + 3 * scCoefs r * (i1 * scN0 r + i0)) (3 * scCoefs r)

/-! ### STAGES header and stage entry (Tables 7.9, 7.11, 7.12) -/

def sgAdtLog2 (q : Secs) : Nat := u8 (sec q tyStages) 1
def sgWearITol (q : Secs) : Nat := u8 (sec q tyStages) 2
def sgWearTTol (q : Secs) : Nat := u8 (sec q tyStages) 3
def sgWearSave (q : Secs) : Nat := u16 (sec q tyStages) 4
def sgQuietTime (q : Secs) : Nat := u16 (sec q tyStages) 6
def sgBrakeMax (q : Secs) : Nat := u16 (sec q tyStages) 8
def phOffset (q : Secs) (p : Nat) : Nat := u32 (sec q tyStages) (20 + 8 * p)

def stFeeds (q : Secs) (s : Nat) : Bool := stFlag q s 1
def stBrakeEn (q : Secs) (s : Nat) : Bool := stFlag q s 3
def stCrowbarEn (q : Secs) (s : Nat) : Bool := stFlag q s 4
def stTrackStart (q : Secs) (s : Nat) : Bool := stFlag q s 5
def stShedEn (q : Secs) (s : Nat) : Bool := stFlag q s 6
def stFixed (q : Secs) (s : Nat) : Bool := stFlag q s 7
def stCentred (q : Secs) (s : Nat) : Bool := u8 (stageEntry q s) 3 == 1
def stOffset (q : Secs) (s : Nat) : Nat := u32 (stageEntry q s) 8
def stSlew (q : Secs) (s : Nat) : Nat := u32 (stageEntry q s) 20
def stAdtMin (q : Secs) (s : Nat) : Int := i32 (stageEntry q s) 24
def stMinPulse (q : Secs) (s : Nat) : Nat := u16 (stageEntry q s) 28
def stMinMode (q : Secs) (s : Nat) : Nat := u8 (stageEntry q s) 30
def stDtMin (q : Secs) (s : Nat) : Nat := u8 (stageEntry q s) 32
def stDtMax (q : Secs) (s : Nat) : Nat := u8 (stageEntry q s) 33
def stDtLight (q : Secs) (s : Nat) : Nat := u8 (stageEntry q s) 34
def stDtLeadNeg (q : Secs) (s : Nat) : Nat := u8 (stageEntry q s) 35
def stDtMargin (q : Secs) (s : Nat) : Nat := u8 (stageEntry q s) 36
def stShedFill (q : Secs) (s : Nat) : Nat := u8 (stageEntry q s) 37
def stShedMin (q : Secs) (s : Nat) : Nat := u8 (stageEntry q s) 38
def stQuietPct (q : Secs) (s : Nat) : Nat := u8 (stageEntry q s) 39
def stShedDelay (q : Secs) (s : Nat) : Nat := u16 (stageEntry q s) 40
def stEqGain (q : Secs) (s : Nat) : Nat := u16 (stageEntry q s) 42
def stEqMax (q : Secs) (s : Nat) : Nat := u16 (stageEntry q s) 44
def stBrakeEnter (q : Secs) (s : Nat) : Nat := u8 (stageEntry q s) 46
def stBrakeExit (q : Secs) (s : Nat) : Nat := u8 (stageEntry q s) 47
def stTrackMode (q : Secs) (s : Nat) : Nat := u8 (stageEntry q s) 48
def stLeader (q : Secs) (s : Nat) : Nat := u8 (stageEntry q s) 49
def stWearTRef (q : Secs) (s : Nat) : Int := i16 (stageEntry q s) 50
def stWearIRef (q : Secs) (s : Nat) : Nat := u32 (stageEntry q s) 52
def stWearWarn (q : Secs) (s : Nat) : Nat := u8 (stageEntry q s) 56
def stWearRetire (q : Secs) (s : Nat) : Nat := u8 (stageEntry q s) 57

/-- The phases that STAGES gives a stage in a role, ascending. -/
def rolePhases (q : Secs) (s role : Nat) : List Nat :=
  (List.range 192).filter (fun p => phRole q p == role && phStage q p == s)

/-! ### BALANCE (Tables 8.10 to 8.12) -/

def baBus (q : Secs) : Nat := u8 (sec q tyBalance) 0
def baExtClass (q : Secs) : Nat := u8 (sec q tyBalance) 1
def baBusSrc (q : Secs) : Nat := u16 (sec q tyBalance) 2
def baCBus (q : Secs) : Nat := u16 (sec q tyBalance) 4
def baExtFilt (q : Secs) : Nat := u8 (sec q tyBalance) 6
def baChopInRegen (q : Secs) : Bool := bit (u8 (sec q tyBalance) 7) 0
def baMargin (q : Secs) : Nat := u32 (sec q tyBalance) 8
def baHoldS (q : Secs) : Nat := u32 (sec q tyBalance) 12
def baHoldTrig (q : Secs) : Int := i32 (sec q tyBalance) 16
def baHoldMin (q : Secs) : Int := i32 (sec q tyBalance) 20
def baDivertV (q : Secs) : Int := i32 (sec q tyBalance) 24
def baChopE (q : Secs) : Nat := u32 (sec q tyBalance) 28
def baChopCool (q : Secs) : Nat := u32 (sec q tyBalance) 32
def baSocLo (q : Secs) : Nat := u16 (sec q tyBalance) 36
def baSocHi (q : Secs) : Nat := u16 (sec q tyBalance) 38
def baStalePct (q : Secs) : Nat := u8 (sec q tyBalance) 40
def baRGain (q : Secs) : Nat := u8 (sec q tyBalance) 41
def baRestMargin (q : Secs) : Nat := u8 (sec q tyBalance) 42
def baClassAlert (q : Secs) : Nat := u8 (sec q tyBalance) 43
def baRestEnable (q : Secs) : Nat := u16 (sec q tyBalance) 44
def baRestWindow (q : Secs) : Nat := u16 (sec q tyBalance) 46
def baRestLookback (q : Secs) : Nat := u16 (sec q tyBalance) 48
def baRestWait (q : Secs) : Nat := u16 (sec q tyBalance) 50
def baRestAbort (q : Secs) : Nat := u16 (sec q tyBalance) 52
def baRestRetry (q : Secs) : Nat := u16 (sec q tyBalance) 54
def baRestRamp (q : Secs) : Nat := u32 (sec q tyBalance) 56
def baShortTime (q : Secs) : Nat := u16 (sec q tyBalance) 60
/-- CAPO entry `k` (Table 8.11). -/
def baCapo (q : Secs) (k : Nat) : Bytes := slice (sec q tyBalance) (64 + 8 * k) 8
def capoOn (q : Secs) (k : Nat) : Bool := u8 (baCapo q k) 0 == 1
def capoQuantity (q : Secs) (k : Nat) : Nat := u16 (baCapo q k) 2
def capoScale (q : Secs) (k : Nat) : Nat := u32 (baCapo q k) 4
/-- The stage entry of SGs (Table 8.12). -/
def baStage (q : Secs) (s : Nat) : Bytes := slice (sec q tyBalance) (96 + 32 * s) 32
def bsClass (q : Secs) (s : Nat) : Nat := u8 (baStage q s) 0
def bsVSrc (q : Secs) (s : Nat) : Nat := u16 (baStage q s) 2
def bsEta (q : Secs) (s : Nat) : Nat := u16 (baStage q s) 4
def bsHold (q : Secs) (s : Nat) : Nat := u16 (baStage q s) 6
def bsSupplyMax (q : Secs) (s : Nat) : Nat := u32 (baStage q s) 8
def bsDrawMax (q : Secs) (s : Nat) : Nat := u32 (baStage q s) 12
def bsReserve (q : Secs) (s : Nat) : Nat := u32 (baStage q s) 16
def bsVMin (q : Secs) (s : Nat) : Int := i32 (baStage q s) 20
def bsKnee (q : Secs) (s : Nat) : Int := i16 (baStage q s) 24
def bsZero (q : Secs) (s : Nat) : Int := i16 (baStage q s) 26

/-- The strings that have a converter stage, ascending. -/
def declaredStrings (q : Secs) : List Nat := (List.range 12).filter (fun b => (stringStage q b).isSome)

/-- The strings covered by a cell tile (R10). -/
def cellStrings (q : Secs) : List Nat :=
  (List.range 12).filter (fun b => (tmEntries q).any (fun e => teIsCell e && teString e == b))

end Sys2Proof.Machine
end

