-- ==== Sys2Proof/Machine/CheckLoop.lean ====
section
/-! DEFINITION. Step 16 for LOOP_CONTEXTS and SCHEDULES (R181, R183), STAGES (R217) and BALANCE (R247). -/

namespace Sys2Proof.Machine

/-! ### Selectors -/

/-- A phase that STAGES assigns. -/
def phaseDeclared (q : Secs) (p : Nat) : Bool := decide (p < 192) && phRole q p != 0

/-- A quantity number of Table 8.8. -/
def quantityOk (q : Secs) (k : Nat) : Bool :=
  decide (k < 12) && (stringStage q k).isSome || within 0x10 0x17 k
    || within 0x100 0x13F k && stageDeclared q (k - 0x100) || within 0x140 0x17F k && stageDeclared q (k - 0x140)

/-- A selector has a kind and an index of Table 6.4 that the image declares (R181). -/
def selectorOk (q : Secs) (s : Nat) : Bool :=
  let i := selIndex s
  match selKind s with
  | 0 => i == 0
  | 1 => i == 0
  | 2 => phaseDeclared q i
  | 3 => phaseDeclared q i
  | 4 => phaseDeclared q i
  | 5 => decide (i < 32) && ainOn (seAin q i)
  | 6 => decide (i < 128) && stageDeclared q (i % 64)
  | 7 => decide (i < 64) && stageDeclared q i
  | 8 => i == 0
  | 9 => quantityOk q i
  | 10 => decide (i < 12) && (stringStage q i).isSome
  | _ => false

/-! ### LOOP_CONTEXTS -/

/-- The body of a record: its exponents, reserved bytes and ranges (Tables 6.10 to 6.13). -/
def bodyOk (q : Secs) (r : Bytes) : Bool :=
  let b := ctxBody r
  let form := ctxForm r
  (expOffsets form b).all (fun o => decide (u8 b o < 64))
  && (if form = 1 ∨ form = 4 then zeroAt b 1 1 && zeroAt b 14 2 && (ctxBackcalc r || i24 b 11 == 0) else true)
  && (if form = 4 then
        (selKind (u16 b 20) == 3 || selKind (u16 b 20) == 6) && selectorOk q (u16 b 20) && decide (u8 b 22 ≤ 1) && zeroAt b 23 1
      else true)
  && (if form = 2 then
        within 1 4 (u8 b 0) && zeroAt b 1 3 && (List.range (u8 b 0)).all (fun k => zeroAt b (21 + 20 * k) 3)
        && zeroAt b (11 + 20 * u8 b 0) 1
      else true)
  && (if form = 3 then
        within 1 8 (u8 b 0) && within 1 4 (u8 b 1) && within 1 2 (u8 b 2) && (decide (4 < u8 b 0) || u8 b 4 == 0) && zeroAt b 7 1
      else true)

/-- One context record (Table 6.9, R163, R181). -/
def ctxRecordOk (q : Secs) (r : Bytes) : Bool :=
  let c := u16 r 0
  let form := ctxForm r
  let phase := isPhaseCtx c
  let len := 32 + bodyLength form (r.drop 32)
  let need := (len + 3) / 4 * 4
  (phase && phRole q c != 0 || within 0x100 0x13F c && stageDeclared q (c - 0x100))
  && u16 r 2 == need && within 48 448 (u16 r 2) && allZero (r.drop len) && within 1 4 form && decide (u8 r 5 < 8)
  && (if phase then within 1 2 (ctxRate r) else within 1 100 (ctxRate r))
  && decide (u8 r 7 < 64) && decide (u8 r 26 < 64) && decide (ctxPlaus r ≤ 24)
  && decide (-8388608 ≤ ctxOutMin r) && decide (ctxOutMin r < ctxOutMax r) && decide (ctxOutMax r ≤ 8388607)
  && withinI (-8388608) 8388607 (ctxSetpoint r) && (selKind (ctxRef r) == 1 || ctxSetpoint r == 0)
  && [ctxRef r, ctxFb r, ctxFf r, ctxAux0 r, ctxAux1 r].all (fun k => selectorOk q k && selKind k != 10)
  && [ctxFb r, ctxFf r, ctxAux0 r, ctxAux1 r].all (selKind · != 1)
  && (ctxScheduled r == (within 0x100 0x10F c && stageDeclared q (c - 0x100)))
  && (if phase then form == 1 || form == 4 else within 1 3 form)
  && (!phase || form == 4 || decide (64000 ≤ stPeriod q (phStage q c)))
  && (!ctxScheduled r || decide ((coefOffsets form (r.drop 32)).length ≤ 64))
  && bodyOk q r

/-- The rate of a stage's phase contexts. -/
def stageRate (q : Secs) (s : Nat) : Nat :=
  match (rolePhases q s 1).head? with
  | some p => max 1 (ctxRate (lcRec q p))
  | none => 1

/-- The window length W_s of a stage: 320 ticks times the largest N of its phases (R152). -/
def stageWindow (q : Secs) (s : Nat) : Nat := 2560 * ((stagePhases q s).map (fun p => spOsr (sePhase q p))).foldl max 0

/-- The update instants of a FIXED stage's working phases within one carrier period. -/
def fixedInstants (q : Secs) (s : Nat) : List Nat :=
  let t := stPeriod q s
  (rolePhases q s 1).flatMap (fun p =>
    let o := (stOffset q s + phOffset q p) % max 1 t
    if stageRate q s = 2 then [o, (o + t / 2) % max 1 t] else [o])

/-- The greatest number of instants of a periodic set in an interval of `w` ticks, taken from each instant. -/
def densest (t w : Nat) (l : List Nat) : Nat :=
  let whole := w / max 1 t * l.length
  let rest := w % max 1 t
  whole + (l.map (fun x => (l.filter (fun y => decide ((y + t - x) % max 1 t < rest))).length)).foldl max 0

/-- A(s) of R152. -/
def anchorCount (q : Secs) (s : Nat) : Nat :=
  let w := stageWindow q s
  if stFixed q s then densest (stPeriod q s) w (fixedInstants q s) + 1
  else ceilDiv (w * (rolePhases q s 1).length) (max 1 (stPeriod q s / stageRate q s)) + 1

/-- The anchor load of R152. -/
def anchorLoad (q : Secs) : Nat :=
  (((declaredStages q).filter (fun s => !(rolePhases q s 1).isEmpty)).map (anchorCount q)).sum
    + ceilDiv (declaredStages q).length 25

/-- A context record's body, by its own counts, goes past the record (R44). -/
def bodyOver (r : Bytes) : Bool :=
  decide (48 ≤ r.length) && within 1 4 (ctxForm r) && decide (u16 r 2 < 32 + bodyLength (ctxForm r) (r.drop 32))

/-- Every record lies inside the section, by its own RECORD_LEN (R44). -/
def recordsClaim (head n : Nat) (b : Bytes) : Nat :=
  (List.range n).foldl (fun o _ => o + (if b.length < o + 4 then 4 else max 4 (u16 b (o + 2)))) head

/-- LOOP_CONTEXTS (R180, R181). -/
def loopVerdict (q : Secs) : Verdict :=
  let b := sec q tyLoopContexts
  let n := lcCount q
  let rs := lcRecords q
  let claimed := recordsClaim 16 n b
  if b.length < 16 ∨ b.length < claimed ∨ rs.any bodyOver then .malformed
  else plainOf (b.length == claimed && within 1 256 n && within 1 50 (u8 b 2) && within 1 255 (u8 b 3) && zeroAt b 4 12
    && rs.all (fun r => decide (48 ≤ r.length)) && ascending (rs.map (u16 · 0)) && rs.all (ctxRecordOk q)
    && (List.range 192).all (fun p => phRole q p == 0 || lcHas q p)
    && (declaredStages q).all (fun s => lcHas q (stageCtx s))
    && decide (anchorLoad q ≤ 64))
where
  plainOf (g : Bool) : Verdict := if g then .ok else .bad

/-! ### SCHEDULES -/

/-- Breakpoints ascend strictly over `n` and are 0 beyond. -/
def bpOk (bp : Nat → Int) (n : Nat) : Bool :=
  (List.range (n - 1)).all (fun k => decide (bp k < bp (k + 1))) && (List.range 8).all (fun k => decide (k < n) || bp k == 0)

/-- Hysteresis is 0 to half the smallest interval. -/
def hystOk (bp : Nat → Int) (n : Nat) (h : Int) : Bool :=
  decide (0 ≤ h) && (List.range (n - 1)).all (fun k => decide (2 * h ≤ bp (k + 1) - bp k))

/-- One schedule record (Table 6.15). -/
def scheduleOk (q : Secs) (r : Bytes) : Bool :=
  let c := u16 r 0
  let cr := lcRec q c
  let size := 88 + 3 * scCoefs r * (scN0 r * scN1 r)
  let sv (s : Nat) : Bool := selectorOk q s && selKind s != 0 && selKind s != 1
  within 0x100 0x10F c && u16 r 2 == (size + 3) / 4 * 4 && allZero (r.drop size) && sv (u16 r 4)
  && !(selKind (u16 r 4) == 6 && selIndex (u16 r 4) % 64 == c - 0x100)
  && (if u16 r 6 = 0 then scN1 r == 1 && i32 r 84 == 0 && u8 r 12 == 0 else sv (u16 r 6) && within 2 8 (scN1 r))
  && within 2 8 (scN0 r) && within 1 64 (scCoefs r) && lcHas q c && ctxScheduled cr
  && scCoefs r == (coefOffsets (ctxForm cr) (cr.drop 32)).length
  && decide (u8 r 11 < 2 ^ (scN0 r - 1)) && decide (u8 r 12 < 2 ^ (scN1 r - 1)) && zeroAt r 13 3
  && bpOk (scBp0 r) (scN0 r) && hystOk (scBp0 r) (scN0 r) (i32 r 80)
  && (if u16 r 6 = 0 then zeroAt r 48 32 else bpOk (scBp1 r) (scN1 r) && hystOk (scBp1 r) (scN1 r) (i32 r 84))

/-- A schedule record's grid, by its own counts, goes past the record (R44). -/
def gridOver (r : Bytes) : Bool :=
  decide (88 ≤ r.length) && decide (u16 r 2 < 88 + 3 * scCoefs r * (scN0 r * scN1 r))

/-- SCHEDULES (R182, R183). -/
def schedVerdict (q : Secs) : Verdict :=
  if !hasSec q tySchedules then .ok
  else
    let b := sec q tySchedules
    let n := scCount q
    let rs := scRecords q
    let claimed := recordsClaim 4 n b
    if b.length < 4 ∨ b.length < claimed ∨ rs.any gridOver then .malformed
    else if b.length == claimed && within 1 16 n && zeroAt b 1 3 && rs.all (fun r => decide (88 ≤ r.length))
        && ascending (rs.map (u16 · 0)) && rs.all (scheduleOk q)
        && (lcRecords q).all (fun r => !ctxScheduled r || rs.any (fun x => u16 x 0 == u16 r 0)) then .ok
    else .bad

/-! ### STAGES -/

/-- A voltage selector in the sense of R217. -/
def voltageSelector (q : Secs) (s : Nat) : Bool :=
  selKind s == 3 || selKind s == 6 || selKind s == 5 && u8 (seAin q (selIndex s)) 2 == 0

/-- v_in and v_out selectors of a phase context (R204). -/
def vinSel (r : Bytes) : Nat := if ctxForm r = 4 then u16 (ctxBody r) 20 else ctxAux0 r
def voutSel (r : Bytes) : Nat := ctxFf r

/-- The contexts of a stage's phases (R217). -/
def phaseCtxOk (q : Secs) (s p : Nat) : Bool :=
  let r := lcRec q p
  let first := lcRec q ((stagePhases q s).headD p)
  ctxForm r == ctxForm first && ctxRate r == ctxRate first && ctxRe r == 0 && decide (0 ≤ ctxOutMin r)
  && (ctxRate r != 2 || stCentred q s)
  && ctxRef r == 0x6000 + s && ctxFb r == (if stShared q s then 0x7000 + s else 0x2000 + p)
  && (!stTrackStart q s || voltageSelector q (vinSel r) && voltageSelector q (voutSel r))

/-- A phase's seat meets its stage's dead time and period (R217). -/
def phaseSeatOk (q : Secs) (s p : Nat) : Bool :=
  match phaseSeat q p with
  | none => false
  | some x => decide (teMinDt x.1 ≤ stDtMin q s) && decide (stPeriod q s ≤ teLsMax x.1)

/-- The leaders of a stage, followed `n` steps, never come back to it. -/
def leaderChain (q : Secs) : Nat → Nat → List Nat
  | 0, _ => []
  | n + 1, s => if stTrackMode q s = 0 then [] else stLeader q s :: leaderChain q n (stLeader q s)

/-- TRACK fields (R217). -/
def trackOk (q : Secs) (s : Nat) : Bool :=
  if stTrackMode q s = 0 then stLeader q s == 0xFF
  else
    let l := stLeader q s
    stKind q s == 5 && stageDeclared q l && (stKind q l == 5 || stKind q l == 0) && !(leaderChain q 64 s).contains s
    && (!stGuarded q s || stGuarded q l)

/-- The ranges of a non-virtual stage entry (Table 7.11). -/
def stageRangesOk (q : Secs) (s : Nat) : Bool :=
  let e := stageEntry q s
  let t := stPeriod q s
  let n := (rolePhases q s 1).length
  decide (u8 e 3 ≤ 1) && within 32000 640000 t && t % 2 == 0 && decide (stOffset q s < t)
  && within 1000 8000000 (stPhRated q s) && within 1 1000000 (stPhPower q s)
  && withinI 0 (stPhRated q s) (stAdtMin q s) && decide (4 * stMinPulse q s ≤ t) && decide (stMinMode q s ≤ 2)
  && within 1 (stDtMax q s) (stDtMin q s) && decide (stDtMax q s ≤ 160)
  && within (stDtMin q s) (stDtMax q s) (stDtLight q s) && within (stDtMin q s) (stDtMax q s) (stDtLeadNeg q s)
  && decide (stDtMargin q s ≤ 64) && within 30 95 (stShedFill q s) && within 1 n (stShedMin q s)
  && within 1 50 (stQuietPct q s) && within 1 60000 (stShedDelay q s) && decide (stEqMax q s ≤ 640)
  && within 1 200 (stBrakeEnter q s) && decide (stBrakeExit q s < stBrakeEnter q s)
  && withinI (-400) 1500 (stWearTRef q s) && zeroOr 1000 (stPhRated q s) (stWearIRef q s)
  && within 1 100 (stWearWarn q s) && within (stWearWarn q s + 1) 200 (stWearRetire q s)

/-- The fields a VIRTUAL stage entry leaves 0 (R217). -/
def virtualZero (e : Bytes) : Bool :=
  zeroAt e 3 1 && zeroAt e 4 16 && zeroAt e 24 7 && zeroAt e 32 16 && zeroAt e 50 8

/-- One stage (R217). -/
def stageOk (q : Secs) (s : Nat) : Bool :=
  let e := stageEntry q s
  let ps := stagePhases q s
  let kind := stKind q s
  decide (s < 64) && decide (kind ≤ 5) && decide (stSlew q s ≤ 0xFFFFFFFE) && zeroAt e 58 6
  && (if kind = 1 then decide (stString q s < 12) else stString q s == 0xFF)
  && decide (stTrackMode q s ≤ 2) && trackOk q s
  && (kind == 5 || !(stBrakeEn q s || stCrowbarEn q s || stTrackMode q s != 0))
  && (kind != 2 || !stTrackStart q s)
  && (if kind = 0 then virtualZero e && ps.isEmpty
      else stageRangesOk q s && !(rolePhases q s 1).isEmpty && decide (ps.length ≤ 32)
        && decide ((rolePhases q s 2).length ≤ 4)
        && ps.all (fun p => phaseSeatOk q s p && phaseCtxOk q s p
          && (if stFixed q s then decide (phOffset q p < stPeriod q s) else phOffset q p == 0)
          && (!stCrowbarEn q s || spOvMax (sePhase q p) != 0)))

/-- STAGES (R216, R217), and SCHEDULES present where it declares a scheduled stage (R35). -/
def stagesVerdict (q : Secs) : Verdict :=
  let b := sec q tyStages
  let n := stCount q
  let ss := declaredStages q
  if b.length < 1552 + 64 * n then .malformed
  else if !(b.length == 1552 + 64 * n && within 1 64 n && ranges b [(1, 1, 2, 6), (2, 1, 1, 25), (3, 1, 1, 20),
        (4, 2, 10, 1440), (6, 2, 10, 60000), (8, 2, 10, 10000)] && zeroAt b 10 6 && ascending ss
      && (List.range 192).all (fun p =>
          let e := slice b (16 + 8 * p) 8
          zeroAt e 2 2 && (if u8 e 1 = 0 then u8 e 0 == 0xFF && u32 e 4 == 0 else decide (u8 e 1 ≤ 2) && stageDeclared q (u8 e 0)))
      && decide ((guardedStages q).length ≤ 4) && ss.all (stageOk q)
      && (cellStrings q).all (fun k => ((ss.filter (fun s => stKind q s == 1 && stString q s == k)).length == 1))
      && distinct ((ss.filter (fun s => stKind q s == 1)).map (stString q))) then .bad
  else if ss.any (· < 16) && !hasSec q tySchedules then .missing
  else .ok

/-! ### BALANCE -/

/-- One stage entry (Table 8.12, R247). -/
def balanceStageOk (q : Secs) (s : Nat) : Bool :=
  let e := baStage q s
  if !stageDeclared q s then allZero e
  else
    let kind := stKind q s
    let virtual := kind == 0
    let consumer := kind == 5 || kind == 3 || kind == 4
    let v := bsVSrc q s
    u8 e 1 == 1 && zeroAt e 28 4
    && (if consumer then decide (bsClass q s < 8) && (stGuarded q s == (bsClass q s == 0)) else bsClass q s == 0xFF && !stGuarded q s)
    && (if virtual then v == 0
        else selKind v == 3 && phaseDeclared q (selIndex v) && phStage q (selIndex v) == s || selKind v == 5 && selectorOk q v)
    && within 500 1000 (bsEta q s) && (!virtual || bsEta q s == 1000)
    && decide (bsHold q s ≤ 60000) && (!stGuarded q s || bsHold q s == 0)
    && decide (bsSupplyMax q s ≤ 100000000) && decide (bsDrawMax q s ≤ 100000000) && decide (bsReserve q s ≤ bsDrawMax q s)
    && withinI 0 2000000 (bsVMin q s) && withinI (-400) 1499 (bsKnee q s) && withinI (bsKnee q s + 1) 1500 (bsZero q s)
    && (kind != 1 || ctxRef (lcRec q (stageCtx s)) == 0x9000 + stString q s)
    && (kind != 2 || ctxRef (lcRec q (stageCtx s)) == 0x9013)

/-- BALANCE (R246, R247). -/
def balanceOk (q : Secs) : Bool :=
  let b := sec q tyBalance
  let capos := (List.range 4).filter (capoOn q)
  b.length == 2144 && decide (baBus q < 64) && within 1 7 (baExtClass q)
  && (selKind (baBusSrc q) == 3 || selKind (baBusSrc q) == 5) && selectorOk q (baBusSrc q)
  && ranges b [(4, 2, 1, 10000), (6, 1, 0, 6), (7, 1, 0, 1), (8, 4, 0, 1000000), (12, 4, 0, 1000000), (28, 4, 1, 100000000),
      (32, 4, 0, 10000000), (40, 1, 0, 100), (41, 1, 0, 200), (42, 1, 0, 100), (43, 1, 0, 7), (44, 2, 0, 0xFFF),
      (46, 2, 60, 7200)]
  && ranges b [(48, 2, 1, 3600), (50, 2, 60, 65535), (52, 2, 10, 10000), (54, 2, 10, 65535), (56, 4, 1, 1000000), (60, 2, 1, 60000)]
  && zeroAt b 62 2 && withinI 1 (baHoldTrig q - 1) (baHoldMin q) && decide (baHoldTrig q ≤ 2000000)
  && withinI 0 2000000 (baDivertV q) && decide (baSocLo q < baSocHi q) && decide (baSocHi q ≤ 10000)
  && stageDeclared q (baBus q) && stKind q (baBus q) == 0
  && ctxFb (lcRec q (stageCtx (baBus q))) == baBusSrc q
  && (List.range 4).all (fun k =>
      let e := baCapo q k
      decide (u8 e 0 ≤ 1) && zeroAt e 1 1 && within 0x10 0x15 (capoQuantity q k) && within 1000 100000000 (capoScale q k))
  && distinct (capos.map (capoQuantity q)) && (List.range 64).all (balanceStageOk q)

end Sys2Proof.Machine
end

