-- ==== Sys2Proof/Machine/SectionsSeq.lean ====
section
/-! DEFINITION. SEQUENCE and COUPLING: the fields the Sequencer and Clasp use (Tables 10.8 to 10.12, 11.5, 11.20), and
their parse (R301, R302, R338, R339). -/

namespace Sys2Proof.Machine

/-! ### SEQUENCE -/

/-- RACK_ON_FILTER in ms. -/
def sqRackFilter (q : Secs) : Nat := u16 (sec q tySequence) 4
/-- Keep-alive flags (Table 10.10). -/
def kaSource (q : Secs) (k : Nat) : Bool := kaFlag q k 0
def kaHoldupOpen (q : Secs) (k : Nat) : Bool := kaFlag q k 1
def kaInterlock (q : Secs) (k : Nat) : Bool := kaFlag q k 2
def kaRailA (q : Secs) (k : Nat) : Nat := u8 (kaEntry q k) 2
def kaRailB (q : Secs) (k : Nat) : Nat := u8 (kaEntry q k) 3
def kaFbRail (q : Secs) (k : Nat) : Nat := u8 (kaEntry q k) 4
def kaFbDelay (q : Secs) (k : Nat) : Nat := u16 (kaEntry q k) 6
def rlSrc (q : Secs) (r : Nat) : Nat := u16 (railEntry q r) 0
def rlRef (q : Secs) (r : Nat) : Nat := u8 (railEntry q r) 2
def rlMargin (q : Secs) (r : Nat) : Nat := u8 (railEntry q r) 3
def rlTarget (q : Secs) (r : Nat) : Int := i32 (railEntry q r) 4
def rlLo (q : Secs) (r : Nat) : Int := i16 (railEntry q r) 8
def rlHi (q : Secs) (r : Nat) : Int := i16 (railEntry q r) 10
def rlDisch (q : Secs) (r : Nat) : Int := i32 (railEntry q r) 12
def rlSettle (q : Secs) (r : Nat) : Nat := u16 (railEntry q r) 16
def rlFilter (q : Secs) (r : Nat) : Nat := u16 (railEntry q r) 18
def rlDischTime (q : Secs) (r : Nat) : Nat := u16 (railEntry q r) 20
def spFirst (q : Secs) (i : Nat) : Nat := u8 (stepEntry q i) 0
def spLast (q : Secs) (i : Nat) : Nat := u8 (stepEntry q i) 1
def spKaStart (q : Secs) (i : Nat) : Nat := u16 (stepEntry q i) 4
def spKaStop (q : Secs) (i : Nat) : Nat := u16 (stepEntry q i) 6
def spRails (q : Secs) (i : Nat) : Nat := u32 (stepEntry q i) 8
def spUpTimeout (q : Secs) (i : Nat) : Nat := u16 (stepEntry q i) 12
def spDwell (q : Secs) (i : Nat) : Nat := u16 (stepEntry q i) 14

/-- The rails of the image. -/
def rails (q : Secs) : List Nat := List.range (sqRailCount q)
/-- The declared stages a step names. -/
def stepStages (q : Secs) (i : Nat) : List Nat :=
  (declaredStages q).filter (fun g => spFirst q i != 0xFF && decide (spFirst q i ≤ g) && decide (g ≤ spLast q i))
/-- The steps that start a stage or a keep-alive. -/
def stepsOfStage (q : Secs) (g : Nat) : List Nat := (List.range (sqStepCount q)).filter (fun i => (stepStages q i).contains g)
def stepsOfKa (q : Secs) (k : Nat) : List Nat := (List.range (sqStepCount q)).filter (fun i => bit (spKaStart q i) k)

/-- The rails a rail refers to, followed `n` steps. -/
def railChain (q : Secs) : Nat → Nat → List Nat
  | 0, _ => []
  | n + 1, r => if rlRef q r = 0xFF then [] else rlRef q r :: railChain q n (rlRef q r)

/-- A keep-alive entry (Table 10.9, R302); one that is UNUSED is all zero. -/
def kaOk (q : Secs) (k : Nat) : Bool :=
  let e := kaEntry q k
  let n := sqRailCount q
  if kaOwner q k = 0 then zeroAt e 0 8
  else
  decide (kaOwner q k ≤ 2) && decide (u8 e 1 < 8) && zeroAt e 5 1
  && (if kaInterlock q k then decide (kaRailA q k < n) && decide (kaRailB q k < n) && kaRailA q k != kaRailB q k
      else kaRailA q k == 0xFF && kaRailB q k == 0xFF)
  && (if kaFbRail q k = 0xFF then kaFbDelay q k == 0 else decide (kaFbRail q k < n) && within 1 1000 (kaFbDelay q k))
  && (kaOwner q k != 2 || hasSec q tyCoupling) && (kaOwner q k != 1 || (stepsOfKa q k).length == 1)

/-- A rail entry (Table 10.11, R302). -/
def railOk (q : Secs) (r : Nat) : Bool :=
  let k := selKind (rlSrc q r)
  let m := rlMargin q r
  (k == 3 || k == 5) && selectorOk q (rlSrc q r)
  && (if rlRef q r = 0xFF then withinI 1 2000000 (rlTarget q r) else rlTarget q r == 0 && decide (rlRef q r < sqRailCount q))
  && !(railChain q 33 r).contains r
  && (m == 0xFF || decide (m < 64) && stageDeclared q m && (stKind q m == 5 || m == baBus q))
  && withinI (-500) (-1) (rlLo q r) && withinI 1 500 (rlHi q r) && withinI 0 2000000 (rlDisch q r)
  && decide (rlSettle q r ≤ 10000) && decide (rlFilter q r ≤ 10000) && within 1 60000 (rlDischTime q r)
  && zeroAt (railEntry q r) 22 2

/-- A step entry (Table 10.12, R302). -/
def stepOk (q : Secs) (i : Nat) : Bool :=
  let f := spFirst q i
  (if f = 0xFF then spLast q i == 0xFF else decide (f ≤ spLast q i) && decide (spLast q i < 64))
  && zeroAt (stepEntry q i) 2 2 && decide (spRails q i < 2 ^ sqRailCount q) && decide (spDwell q i ≤ 60000)
  && (if spRails q i = 0 then spUpTimeout q i == 0 else within 1 60000 (spUpTimeout q i))
  && (List.range 16).all (fun k => !(bit (spKaStart q i) k || bit (spKaStop q i) k) || kaOwner q k == 1)
  && (List.range 16).all (fun k => !bit (spKaStop q i) k || (stepsOfKa q k).any (fun j => decide (j < i)))

/-- SEQUENCE (R301, R302). Every keep-alive and CAPO output has its own ball, so no pin conflict arises (chapter 17). -/
def sequenceOk (q : Secs) : Bool :=
  let b := sec q tySequence
  let n := sqStepCount q
  b.length == 1952 && within 1 64 n && decide (sqRailCount q ≤ 32) && decide (sqTurnaround q < n)
  && ranges b [(3, 1, 10, 100), (4, 2, 1, 1000), (6, 2, 0, 10000), (8, 2, 1, 3600), (12, 4, 1, 1000000)]
  && zeroAt b 10 2 && zeroAt b 16 16 && (List.range 16).all (kaOk q) && (rails q).all (railOk q)
  && zeroAt b (160 + 24 * sqRailCount q) (24 * (32 - sqRailCount q)) && zeroAt b (928 + 16 * n) (16 * (64 - n))
  && (List.range n).all (stepOk q)
  && (declaredStages q).all (fun g =>
      (stepsOfStage q g).length == 1
      && (stKind q g != 5 || stTrackMode q g == 0 || decide ((stepsOfStage q (stLeader q g)).headD 0 ≤ (stepsOfStage q g).headD 0)))

/-- SEQUENCE, with STEP_COUNT and RAIL_COUNT inside their tables (R44). -/
def sequenceVerdict (q : Secs) : Verdict :=
  countVerdict (decide (64 < sqStepCount q) || decide (32 < sqRailCount q)
    || decide ((sec q tySequence).length < max (160 + 24 * sqRailCount q) (928 + 16 * sqStepCount q))) (sequenceOk q)

/-! ### COUPLING -/

def coEnable (q : Secs) : Bool := u8 (sec q tyCoupling) 0 == 1
def coStage (q : Secs) : Nat := u8 (sec q tyCoupling) 1
def coLinkSrc (q : Secs) : Nat := u16 (sec q tyCoupling) 4
def coFlag (q : Secs) (i : Nat) : Bool := bit (u8 (sec q tyCoupling) 6) i
def coSourceCap (q : Secs) : Bool := coFlag q 0
def coSinkCap (q : Secs) : Bool := coFlag q 1
def coRolePref (q : Secs) : Nat := u8 (sec q tyCoupling) 6 / 4 % 4
def coTandemEn (q : Secs) : Bool := coFlag q 4
def coBridgeEn (q : Secs) : Bool := coFlag q 5
def coHallmarkReq (q : Secs) : Bool := coFlag q 6
def coVdmRelay (q : Secs) : Bool := coFlag q 7
def coPoCount (q : Secs) : Nat := u8 (sec q tyCoupling) 7
def coUnauth (q : Secs) : Nat := u32 (sec q tyCoupling) 8
/-- Link voltages of the image in 0.1 V. -/
def coSinkVMin (q : Secs) : Nat := u16 (sec q tyCoupling) 12
def coSinkVMax (q : Secs) : Nat := u16 (sec q tyCoupling) 14
/-- SINK_P_MAX in W. -/
def coSinkPMax (q : Secs) : Nat := u32 (sec q tyCoupling) 16
def coReqStep (q : Secs) : Nat := u16 (sec q tyCoupling) 20
def coDroop (q : Secs) : Nat := u8 (sec q tyCoupling) 22
def coTandemDroop (q : Secs) : Nat := u8 (sec q tyCoupling) 23
def coSocMid (q : Secs) : Nat := u16 (sec q tyCoupling) 24
def coSocSpan (q : Secs) : Nat := u16 (sec q tyCoupling) 26
def coCloseMax (q : Secs) : Int := i32 (sec q tyCoupling) 28
def coOpenI (q : Secs) : Nat := u32 (sec q tyCoupling) 32
def coEndRamp (q : Secs) : Nat := u8 (sec q tyCoupling) 36
def coMateFilter (q : Secs) : Nat := u8 (sec q tyCoupling) 37
def coDryRetest (q : Secs) : Nat := u16 (sec q tyCoupling) 38
def coLinkFilter (q : Secs) : Nat := u16 (sec q tyCoupling) 40
def coImbal (q : Secs) : Nat := u32 (sec q tyCoupling) 44
def coLeakScale (q : Secs) : Nat := u32 (sec q tyCoupling) 56
def coExcScale (q : Secs) : Nat := u32 (sec q tyCoupling) 60
def coKelvinScale (q : Secs) : Nat := u32 (sec q tyCoupling) 64
def coITest (q : Secs) : Nat := u16 (sec q tyCoupling) 68
/-- Power object `k` of the image, little-endian (R338). -/
def coPo (q : Secs) (k : Nat) : Bytes := slice (sec q tyCoupling) (96 + 16 * k) 16

/-- A power object (Table 11.5, R339). -/
def poOk (q : Secs) (k : Nat) : Bool :=
  let e := coPo q k
  decide (u16 e 0 < u16 e 2) && within 1 1000 (u16 e 8) && decide (u8 e 10 < 2) && zeroAt e 11 5
  && decide (u16 e 0 * 1000 < u16 e 2 * (1000 - coDroop q))

/-- COUPLING (R338, R339). -/
def couplingOk (q : Secs) : Bool :=
  if !hasSec q tyCoupling then true
  else
    let b := sec q tyCoupling
    let n := coPoCount q
    let g := coStage q
    let r := lcRec q (stageCtx g)
    let v := coLinkSrc q
    b.length == 224
    && ranges b [(0, 1, 0, 1), (2, 1, 0, 15), (3, 1, 0, 15), (7, 1, 0, 8), (8, 4, 0, 1000000), (16, 4, 0, 6553500), (20, 2, 10, 200),
        (22, 1, 5, 100), (23, 1, 5, 100), (24, 2, 0, 10000), (26, 2, 100, 5000), (28, 4, 0, 100000), (32, 4, 0, 100000)]
    && ranges b [(36, 1, 1, 9), (37, 1, 1, 100), (38, 2, 10, 3600), (40, 2, 1, 1000), (44, 4, 1000, 1000000), (56, 4, 1, 1000000),
        (60, 4, 5500, 60000), (64, 4, 1000, 10000000), (68, 2, 10, 1000)]
    && within 1 (coSinkVMax q - 1) (coSinkVMin q) && decide (coSinkVMax q ≤ 20000) && coSinkPMax q % 100 == 0
    && coRolePref q != 3 && zeroAt b 43 1 && zeroAt b 70 26
    && coBridgeId0 q / 2 ^ 29 % 4 == 0 && coBridgeMask0 q / 2 ^ 29 % 4 == 0
    && decide (g < 64) && stageDeclared q g && stKind q g == 4 && ctxRef r == 0x1000 && ctxSetpoint r == 0
    && coKaPos q != coKaNeg q && kaOwner q (coKaPos q) == 2 && kaOwner q (coKaNeg q) == 2
    && (List.range 16).all (fun k => kaOwner q k != 2 || k == coKaPos q || k == coKaNeg q)
    && (coSourceCap q || coSinkCap q) && coSourceCap q == decide (0 < n)
    && (List.range n).all (poOk q) && zeroAt b (96 + 16 * n) (16 * (8 - n))
    && (if coBridgeEn q then decide (coBridgeCan q ≤ 1) else coBridgeCan q == 0xFF)
    && (selKind v == 3 && phaseDeclared q (selIndex v) && phStage q (selIndex v) == g || selKind v == 5 && selectorOk q v)

/-- COUPLING, with its power object count inside the table (R44). -/
def couplingVerdict (q : Secs) : Verdict :=
  countVerdict (hasSec q tyCoupling
    && (decide (8 < coPoCount q) || decide ((sec q tyCoupling).length < 96 + 16 * coPoCount q))) (couplingOk q)

end Sys2Proof.Machine
end

