-- ==== Sys2Proof/Machine/Coding.lean ====
section
/-! DEFINITION. The characters of a lane (R84 to R87): the 8b/10b code, running disparity, ordered sets, frames. A character
is a ten-bit number whose bit 9 is bit a, the first sent. The two sub-block tables are those of the code R84 names, IEEE
802.3 Clause 36, which the spec does not print (PRESUMED, assumption 71). -/

namespace Sys2Proof.Machine

/-! ### Sub-blocks -/

/-- The six bits abcdei of D.0 to D.31 sent with negative running disparity. -/
def sixTable : List Nat :=
  [0b100111, 0b011101, 0b101101, 0b110001, 0b110101, 0b101001, 0b011001, 0b111000]
  ++ [0b111001, 0b100101, 0b010101, 0b110100, 0b001101, 0b101100, 0b011100, 0b010111]
  ++ [0b011011, 0b100011, 0b010011, 0b110010, 0b001011, 0b101010, 0b011010, 0b111010]
  ++ [0b110011, 0b100110, 0b010110, 0b110110, 0b001110, 0b101110, 0b011110, 0b101011]

/-- The four bits fghj of D.x.0 to D.x.7 sent with negative running disparity. -/
def fourTable : List Nat := [0b1011, 0b1001, 0b0101, 0b1100, 0b1101, 0b1010, 0b0110, 0b1110]

/-- The number of ones among the low `n` bits. -/
def onesOf (n v : Nat) : Nat := (bitsOf n v).length

/-- A sub-block as it is sent: inverted with positive disparity where it is unbalanced, or is the balanced one that
alternates. -/
def subSent (width alternating : Nat) (plus : Bool) (v : Nat) : Nat :=
  if plus && (2 * onesOf width v != width || v == alternating) then 2 ^ width - 1 - v else v

/-- Running disparity after a sub-block of `width` bits: that of its unbalanced form, or of the balanced one that
alternates; otherwise as before. -/
def subAfter (width alternating : Nat) (plus : Bool) (v : Nat) : Bool :=
  let n := 2 * onesOf width v
  if width < n || v == 2 ^ width - 1 - alternating then true
  else if n < width || v == alternating then false else plus

/-- Running disparity after a received character. -/
def disparityAfter (plus : Bool) (c : Nat) : Bool := subAfter 4 0b1100 (subAfter 6 0b111000 plus (c / 16)) (c % 16)

/-! ### Characters -/

/-- The data values whose D.x.7 takes the alternate form, with negative and with positive disparity before fghj. -/
def altSeven (plus : Bool) : List Nat := if plus then [11, 13, 14] else [17, 18, 20]

/-- The data character of a byte. -/
def dataChar (plus : Bool) (b : Nat) : Nat :=
  let x := b % 32
  let y := b / 32
  let six := subSent 6 0b111000 plus (sixTable.getD x 0)
  let mid := subAfter 6 0b111000 plus six
  let four := if y = 7 && (altSeven mid).contains x then (if mid then 0b1000 else 0b0111)
    else subSent 4 0b1100 mid (fourTable.getD y 0)
  16 * six + four

/-- The control characters of Table 4.3 with negative disparity before them; with positive disparity every bit is
inverted. -/
def k285 : Nat := 0b0011111010
def k237 : Nat := 0b1110101000
def k283 : Nat := 0b0011110011
def controlChar (plus : Bool) (k : Nat) : Nat := if plus then 1023 - k else k

/-- What a character is. -/
inductive LinkChar where
  | data (b : Nat)
  | comma
  | endOfFrame
  | allOff
  /-- Another control character, a disparity error or an invalid code group (R84). -/
  | error
  deriving DecidableEq, Repr

/-- The value of the six bits, and of the four bits after them, as received. -/
def sixOf (plus : Bool) (v : Nat) : Option Nat := sixTable.findIdx? (fun c => subSent 6 0b111000 plus c == v)
def fourOf (mid : Bool) (x v : Nat) : Option Nat :=
  if (altSeven mid).contains x then (if v == (if mid then 0b1000 else 0b0111) then some 7
    else (fourTable.take 7).findIdx? (fun c => subSent 4 0b1100 mid c == v))
  else fourTable.findIdx? (fun c => subSent 4 0b1100 mid c == v)

/-- A received character read with the running disparity before it (R84). -/
def readChar (plus : Bool) (c : Nat) : LinkChar :=
  if c = controlChar plus k285 then .comma
  else if c = controlChar plus k237 then .endOfFrame
  else if c = controlChar plus k283 then .allOff
  else
    match sixOf plus (c / 16) with
    | none => .error
    | some x =>
      match fourOf (subAfter 6 0b111000 plus (c / 16)) x (c % 16) with
      | none => .error
      | some y => .data (x + 32 * y)

/-- The bits of a character in the order they are sent: bit a first (R84). -/
def charBits (c : Nat) : List Bool := (List.range 10).map (fun i => c.testBit (9 - i))

/-! ### Sending -/

/-- What is to be sent, before coding. -/
def codeChar (plus : Bool) : LinkChar → Nat
  | .data b => dataChar plus b
  | .comma => controlChar plus k285
  | .endOfFrame => controlChar plus k237
  | .allOff => controlChar plus k283
  | .error => 0

/-- A run of characters sent from a running disparity, and the disparity after it. -/
def sendChars : Bool → List LinkChar → List Nat × Bool
  | plus, [] => ([], plus)
  | plus, c :: cs =>
    let w := codeChar plus c
    let r := sendChars (disparityAfter plus w) cs
    (w :: r.1, r.2)

def dataChars (b : Bytes) : List LinkChar := b.map (fun x => .data x.toNat)

/-- A frame (R85): K28.5, the 96 body bytes, the CRC low byte first, K23.7. -/
def frameChars (body : Bytes) : List LinkChar :=
  .comma :: dataChars body ++ dataChars (leBytes 2 (crc16 body)) ++ [.endOfFrame]

/-- The TS1 ordered set: K28.5 and fifteen D21.5. -/
def ts1Chars : List LinkChar := .comma :: List.replicate 15 (.data 0xB5)

/-- The downstream TS2: K28.5, the port, its complement, 0x02, twelve D10.2. -/
def ts2Down (port : Nat) : List LinkChar :=
  .comma :: [.data (port % 256), .data (255 - port % 256), .data 0x02] ++ List.replicate 12 (.data 0x4A)

/-- The tile's TS2: K28.5, the echoed port, its complement, KIND, MAKER_ID low and high byte, COUNT, nine D10.2. -/
def ts2Up (echo kind maker count : Nat) : List LinkChar :=
  .comma :: [.data (echo % 256), .data (255 - echo % 256), .data (kind % 256), .data (maker % 256),
    .data (maker / 256 % 256), .data (count % 256)] ++ List.replicate 9 (.data 0x4A)

/-- The all-off ordered set. -/
def allOffChars : List LinkChar := [.allOff, .allOff]

/-! ### Receiving -/

/-- Characters read one after another, and the disparity after them. -/
def readChars : Bool → List Nat → List LinkChar × Bool
  | plus, [] => ([], plus)
  | plus, c :: cs =>
    let r := readChars (disparityAfter plus c) cs
    (readChar plus c :: r.1, r.2)

/-- The disparity from which a receiver reads: its own, or that of a first K28.5 after lock. -/
def startPlus (rx : Option Bool) (f : WireFrame) : Bool := rx.getD (f.symbols.headD 0 == controlChar true k285)

/-- The receiver's disparity after a frame. -/
def rxAfter (rx : Option Bool) (f : WireFrame) : Option Bool := some (readChars (startPlus rx f) f.symbols).2

/-- The bytes of data characters; none where another character stands among them. -/
def dataBytes : List LinkChar → Option Bytes
  | [] => some []
  | .data b :: cs => (dataBytes cs).map (fun r => byte b :: r)
  | _ :: _ => none

/-- The body of a frame that a receiver accepts (R87): K28.5 first, 96 body characters and the two of the CRC free of code
errors, the CRC matching, K23.7 last. -/
def acceptFrame (rx : Option Bool) (f : WireFrame) : Option Bytes :=
  match (readChars (startPlus rx f) f.symbols).1 with
  | .comma :: cs =>
    match dataBytes (cs.take 98) with
    | some b =>
      if b.length = 98 && cs.drop 98 == [.endOfFrame] && crc16 (b.take 96) == leNat (b.drop 96) then some (b.take 96) else none
    | none => none
  | _ => none

/-- The characters of a body sent from a running disparity. -/
def sendFrame (plus : Bool) (body : Bytes) : List Nat := (sendChars plus (frameChars body)).1

end Sys2Proof.Machine
end

