-- ==== Sys2Proof/Machine/LinkOps.lean ====
section
/-! DEFINITION. The ST192's end of the tile link (chapter 04): frames on the wire, service operations, the release of a
tile's off latch, training starts, the framer. -/

namespace Sys2Proof.Machine

/-! ### Frames (R85 to R87, Tables 4.4 to 4.7) -/

/-- The ten bytes of an edge entry (Table 4.6). -/
def edgeBytes (e : Edge) : Bytes :=
  leBytes 1 (e.slot + 8 * e.kind) ++ leBytes 3 (e.rise % 2 ^ 24) ++ leBytes 3 (if e.kind = 1 then e.fall % 2 ^ 24 else 0)
    ++ leBytes 1 e.dtLead ++ leBytes 1 e.dtTrail ++ leBytes 1 (e.seq % 64 + 64 * flag e.lsEn)

/-- The seven SERVICE bytes (Table 4.7). -/
def svcBytes (o : SvcOp) : Bytes := leBytes 1 o.op ++ leBytes 1 o.tag ++ leBytes 1 o.addr ++ leBytes 4 o.data

/-- The cell command block, 26 bytes (Table 4.13). -/
def cellBytes (c : CellCmd) : Bytes :=
  leBytes 1 (flag c.sample + 2 * flag c.bleed) ++ leBytes 3 (c.sampleAt % 2 ^ 24) ++ leBytes 2 c.setId
    ++ leBytes 1 (flag c.temps + 2 * flag c.bleedPause) ++ leBytes 16 c.bleedMask ++ leBytes 2 c.bleedTime ++ [0]

/-- A stamp restored from its low 24 bits against a time (the window before R98). -/
def stampOf (now s24 : Nat) : Nat :=
  let d : Int := (((s24 : Int) - (now % 2 ^ 24 : Nat) + 2 ^ 24 + 1048576) % 2 ^ 24) - 1048576
  ((now : Int) + d).toNat

/-- The launch of the first frame whose cut-off, 320 ticks before it, has not passed (R85). -/
def nextLaunch (s : State) : Nat := max (ceilDiv (rackTime s + 320) frameTicks) s.modul.cutFrame * frameTicks

/-! ### Service operations (R88) -/

/-- An operation waits for the lane; its TAG is given when it is sent. -/
def queueSvc (p op addr data : Nat) (s : State) : State :=
  let x := s.port p
  s.setPort p { x with svcQueue := x.svcQueue ++ [{ op := op, tag := 0, addr := addr, data := data }] }

/-- A release of the off latch has frames to send. -/
def clearRuns (x : TPort) : Bool := x.clear.any (fun c => !c.waiting && c.left != 0)

/-- The next operation of the lane goes out, with a new TAG, once none is outstanding and no ALL_CLEAR runs (R88). -/
def nextSvc (x : TPort) : TPort :=
  match x.svc, x.svcQueue with
  | none, o :: rest =>
    if clearRuns x then x
    else { x with svc := some { op := { o with tag := x.nextTag } }, svcQueue := rest, nextTag := (x.nextTag + 1) % 256 }
  | _, _ => x

/-- The operation outstanding goes before a release that has not begun: one at a time on a lane (R88). -/
def clearSends (x : TPort) : Bool := clearRuns x && x.svc.isNone

/-! ### What a lane carries (R84, R85, Table 4.12) -/

/-- Characters leave a port, with its running disparity. -/
def sendLine (l : List LinkChar) (x : TPort) : TPort :=
  let r := sendChars x.txPlus l
  { x with line := r.1, txPlus := r.2 }

/-- The characters of a frame that have left by a time since its launch: the one under way is completed (R102). -/
def charsGone (since : Nat) : Nat := min 100 (ceilDiv (since * 100) frameTicks)

/-- The all-off generator takes a lane at the next character boundary: the frame in progress is left incomplete, and K28.3
follows (R102). A frame whose launch is still to come has not begun. -/
def cutLine (launch now : Nat) (x : TPort) : TPort :=
  let sent := x.line.take (charsGone (now - launch))
  let plus := (readChars (startPlus none { symbols := x.line }) sent).2
  let off := sendChars plus allOffChars
  { x with line := sent ++ off.1, txPlus := off.2 }

/-! ### Training (Table 4.12) -/

/-- A port starts training again from TRAIN_LOCK with its group's domain on (R93, Table 4.12); the equaliser goes on from
the coefficients it holds (R83). -/
def startTraining (p : Nat) (s : State) : State :=
  let x := s.port p
  if !bit s.pins.domains (12 + groupOf p) then s
  else s.setPort p (sendLine ts1Chars { x with
    phase := .trainLock, attempts := 0, attemptAt := rackTime s, waiting := false, measured := false, checked := false
    readBack := [], serialLo := none, serialHi := none, invalidRun := 0, lockLost := false, rxPlus := none
    entries := [], svc := none, svcQueue := [], clear := none, tookOver := false, upSpare := none, upOwed := none })

/-- A port that lost its link or whose tile lost time retrains; the act is counted (R106, R116, Table 12.3). -/
def retrainPort (p : Nat) (s : State) : State :=
  let x := s.port p
  if x.phase == .disabled then s else startTraining p (s.setPort p { x with retrain := sat32 x.retrain 1 })

/-- The other lane of a dual-homed tile. -/
def otherLane (q : Secs) (p : Nat) : Option Nat :=
  match tileOfPort q p with
  | none => none
  | some e => if teAlt e == 0xFF then none else some (if tePrimary e == p then teAlt e else tePrimary e)

/-- The port of a tile that carries its entries and operations, where one is ACTIVE (R81). -/
def activePort (s : State) (e : Bytes) : Option Nat := (tePorts e).find? (fun p => (s.port p).phase == .active)

/-- A phase's tile port is ACTIVE. -/
def phaseUp (s : State) (ph : Nat) : Bool :=
  match phaseSeat (secs s) ph with
  | some x => (activePort s x.1).isSome
  | none => false

/-! ### ALL_CLEAR (R108) -/

/-- ALL_CLEAR may be sent to a port. -/
def mayClear (p : Nat) (s : State) : Bool :=
  (s.port p).phase == .active && !bit s.collector.forcedPorts p
    && (s.mode == .standby || s.mode == .run || s.mode == .service)
    && !s.benra.debugUnlocked && s.pins.transmitters

/-- The release of a tile's off latch begins: register 0x07 is read for the OFF_COUNT the four frames carry. -/
def startClear (p : Nat) (s : State) : State :=
  let x := s.port p
  if mayClear p s && x.offLatch && x.clear.isNone then
    queueSvc p 0x01 0x07 0 (s.setPort p { x with clear := some { tag := x.nextTag }, nextTag := (x.nextTag + 1) % 256 })
  else s

/-- The data of ALL_CLEAR: OFF_COUNT, the port's complement, 0xC1 (Table 4.7). -/
def clearData (p offCount : Nat) : Nat := offCount + 2 ^ 16 * (p ^^^ 0xFF) + 2 ^ 24 * 0xC1

/-! ### The framer (R99, R197) -/

/-- The instant from which an entry acts: RISE less the dead lead. -/
def edgeLead (e : Edge) : Nat := e.rise - 8 * e.dtLead

/-- An entry comes in time for a frame launched at `l`: the lower bound of R99. -/
def edgeInTime (l : Nat) (e : Edge) : Bool := decide (l + 5120 ≤ edgeLead e)

/-- An entry meets R99 in a frame launched at `l`. -/
def edgeInWindow (l : Nat) (e : Edge) : Bool := edgeInTime l e && decide (edgeLead e ≤ l + 6400000)

/-- A phase that the framer takes for a working one: working by STAGES, or a reserve that has been promoted, retired after
that or not (R99, R213: a phase that retires still receives its OFF_AT). -/
def framerWorks (s : State) (p : Nat) : Bool :=
  let w := (s.ph p).wear.state
  phRole (secs s) p == 1 || phRole (secs s) p == 2 && (w == .promoted || w == .retirePending || w == .retired)

/-- The framer's own check of an entry (R99): its kind, its slot, every stamp in the window, FALL after RISE. -/
def edgeChecked (s : State) (entry : Bytes) (l : Nat) (e : Edge) : Bool :=
  within 1 3 e.kind && decide (teSlotPhase entry e.slot < 192) && framerWorks s (teSlotPhase entry e.slot)
    && edgeInWindow l e && (e.kind != 1 || decide (e.rise < e.fall) && decide (e.fall ≤ l + 6400000))

/-- The priority within a frame (R197): CROWBAR, OFF_AT, PULSE by ascending lead. -/
def edgeBefore (a b : Edge) : Bool :=
  let rank (e : Edge) : Nat := if e.kind = 3 then 0 else if e.kind = 2 then 1 else 2
  decide (rank a < rank b) || rank a == rank b && decide (edgeLead a ≤ edgeLead b)

/-- Insertion by that priority. -/
def insertEdge (e : Edge) : List Edge → List Edge
  | [] => [e]
  | x :: xs => if edgeBefore x e then x :: insertEdge e xs else e :: x :: xs

/-- The entries the Modulator gives one frame: at most eight of those whose lead its window meets, in priority order
(R197). -/
def frameEdges (l : Nat) (es : List Edge) : List Edge :=
  ((es.filter (edgeInWindow l)).foldl (fun a e => insertEdge e a) []).take 8

/-- FRAME_KIND of a port's frames (Table 4.5). -/
def frameKind (entry : Bytes) (x : TPort) : Nat :=
  if x.phase == .trainTime then 0 else if teIsPhase entry then 1 else 2

/-- The outstanding operation rides in the next frame: it has not gone out yet, or is repeated. -/
def svcRides (x : TPort) : Bool := x.svc.any (fun w => w.sentAt.isNone)

/-- The operation a frame carries: ALL_CLEAR while its four frames run, otherwise the outstanding one once, otherwise
NOP. -/
def frameSvc (p : Nat) (x : TPort) : SvcOp :=
  if clearSends x then { op := 0xAC, tag := (x.clear.map (·.tag)).getD 0, addr := p, data := clearData p x.offCount }
  else if svcRides x then (x.svc.map (·.op)).getD { op := 0, tag := 0, addr := 0, data := 0 }
  else { op := 0, tag := 0, addr := 0, data := 0 }

/-- The EMPTY entry (Table 4.6). -/
def emptyEdge : Edge :=
  { slot := 0, kind := 0, rise := 0, fall := 0, dtLead := 0, dtTrail := 0, seq := 0, lsEn := false }

/-- The entries a frame carries: a failing one is replaced with EMPTY (R99), the others take their slot's SEQ (R198). -/
def numberEdges (entry : Bytes) (l : Nat) : List Edge → State → List Edge × State
  | [], s => ([], s)
  | e :: rest, s =>
    if edgeChecked s entry l e then
      let p := teSlotPhase entry e.slot
      let r := numberEdges entry l rest (s.setPh p { s.ph p with seq := ((s.ph p).seq + 1) % 64 })
      ({ e with seq := (s.ph p).seq } :: r.1, r.2)
    else
      let r := numberEdges entry l rest s
      (emptyEdge :: r.1, r.2)

/-- The body of a downstream frame (Table 4.4). -/
def frameBody (entry : Bytes) (p f : Nat) (x : TPort) (edges : List Edge) : Bytes :=
  let kind := frameKind entry x
  let offSlots := if kind = 1 then (if x.slotOffFrames != 0 then 0xFF else x.slotOff) else 0
  let mid :=
    if kind = 1 then fit 80 (edges.flatMap edgeBytes)
    else if kind = 2 then fit 80 (cellBytes (x.cell.getD {}))
    else zeros 80
  leBytes 1 (kind + 4 * flag x.offHold + 8 * flag x.activeLane) ++ leBytes 1 offSlots ++ leBytes 7 f ++ mid
    ++ svcBytes (frameSvc p x)

/-- A frame leaves a port: the body is built and sent, and what it carried is spent. A held port sends none, and a release
that R108 no longer allows ends. -/
def buildFrame (f p : Nat) (s : State) : State :=
  let q := secs s
  let x := s.port p
  match tileOfPort q p with
  | none => s
  | some e =>
    if bit s.collector.forcedPorts p || !(x.phase == .active || x.phase == .standbyLane || x.phase == .trainTime) then s
    else
      let l := f * frameTicks
      let x := nextSvc (if mayClear p s then x else { x with clear := none })
      let chosen := if x.phase == .active then frameEdges l x.entries else []
      let sent := numberEdges e l chosen s
      let bad := (chosen.filter (fun d => !edgeChecked s e l d)).length
      let body := frameBody e p f x sent.1
      let sends := clearSends x
      let x := sendLine (frameChars body) { x with
        tx := body
        svc := if svcRides x then x.svc.map (fun w => { w with sentAt := some l }) else x.svc }
      let clear := x.clear.map (fun c =>
        if !sends then c else { c with left := c.left - 1, first := if c.left = 4 then l else c.first })
      let r := sent.2
      State.setPort { r with pins := { r.pins with allOff := r.pins.allOff &&& (everyLane ^^^ 1 <<< p) } } p { x with
        entries := x.entries.filter (fun d => !chosen.contains d), edgeRange := sat32 x.edgeRange bad
        slotOffFrames := x.slotOffFrames - 1, slotOff := 0, cell := none, clear := clear }

end Sys2Proof.Machine
end

