-- ==== Sys2Proof/Machine/StageBase.lean ====
section
/-! DEFINITION. Which phases work and are active (R186, R201, R213), and block-floating arithmetic (R153 to R156). -/

namespace Sys2Proof.Machine

/-! ### Arithmetic -/

/-- A mantissa held to its range (R153). -/
def satM (v : Int) : Int := clampI (-8388608) 8388607 v
def fitsM (v : Int) : Bool := withinI (-8388608) 8388607 v

/-- An integer times a power of two, rounded half away from zero when the power is negative. -/
def shiftI (v e : Int) : Int := if 0 ≤ e then v * 2 ^ e.toNat else divRound v (2 ^ (-e).toNat)

/-- A value moved from one exponent to another, unsaturated (R155). -/
def toExp (v e1 e2 : Int) : Int := shiftI v (e1 - e2)

/-- The accumulator of one result, with ACC_SAT (R154). -/
structure Acc where
  a : Int := 0
  sat : Bool := false

/-- The accumulator after adding a term, saturated at 56 bits. -/
def Acc.add (x : Acc) (t : Int) : Acc :=
  let v := x.a + t
  let lim : Int := 2 ^ 55
  if v < -lim then { a := -lim, sat := true } else if lim - 1 < v then { a := lim - 1, sat := true } else { x with a := v }

/-- A product in accumulator steps: mantissas under CE and SE, for the result exponent RE (R154). -/
def prod (mc mx ce se re : Int) : Int := shiftI (mc * mx) (ce + se - re)

/-- The result mantissa of an accumulator, and MANT_SAT (R155). -/
def Acc.result (x : Acc) : Int × Bool :=
  let m := divRound x.a 8388608
  (satM m, !fitsM m)

/-- The upper 24 bits of an extended state (R156). -/
def upper (x : Int) : Int := x / 16777216
/-- An extended state held to the mantissa range. -/
def satX (x : Int) : Int := clampI (-8388608 * 16777216) (8388607 * 16777216 + 16777215) x
def fitsX (x : Int) : Bool := satX x == x

/-! ### Stages and phases -/

/-- A phase switches for its stage: working by STAGES or a promoted reserve, and not retired (R186, R213). -/
def works (s : State) (p : Nat) : Bool :=
  let w := (s.ph p).wear.state
  phRole (secs s) p == 1 && w != .retired || phRole (secs s) p == 2 && (w == .promoted || w == .retirePending)

/-- The working phases of a stage, ascending. -/
def workingPhases (s : State) (g : Nat) : List Nat := (stagePhases (secs s) g).filter (works s)
/-- n_avail's phases (R201). -/
def availPhases (s : State) (g : Nat) : List Nat := (workingPhases s g).filter (phaseUp s)
/-- The active phases of a stage (R186). -/
def activePhases (s : State) (g : Nat) : List Nat := (availPhases s g).filter (fun p => !(s.ph p).shed)
/-- n_act. -/
def nAct (s : State) (g : Nat) : Nat := (activePhases s g).length

/-- The stage is evaluated (Table 7.2). -/
def stageOn (s : State) (g : Nat) : Bool :=
  match (s.stage g).mode with
  | .starting => true
  | .running => true
  | .braking => true
  | _ => false

/-- The stage is not STOPPED and not in CROWBAR, or it is a VIRTUAL stage RUNNING. -/
def stageRunning (s : State) (g : Nat) : Bool := (s.stage g).mode == .running

/-- Output 0 of a stage's context in units of exponent 23: mA or W (R184, R185). -/
def out0 (s : State) (g : Nat) : Int := toExp (s.ctx (stageCtx g)).ySat (ctxRe (lcRec (secs s) (stageCtx g))) 23

/-- The body of a context in force. -/
def bodyOf (s : State) (c : Nat) : Bytes := (s.ctx c).body.getD (ctxBody (lcRec (secs s) c))

/-- The master of a SHARED stage: its lowest-numbered active phase (R186). -/
def masterOf (s : State) (g : Nat) : Option Nat := (activePhases s g).head?

/-- The phases of a stage whose contexts are evaluated. -/
def evaluatedPhases (s : State) (g : Nat) : List Nat :=
  if stShared (secs s) g then (masterOf s g).toList else activePhases s g

/-- A tile carries a working phase of a stage that is STARTING or RUNNING. -/
def stagesStartingOn (e : Bytes) (s : State) : Bool :=
  (teSlots e).any (fun x => works s x.2 &&
    ((s.stage (phStage (secs s) x.2)).mode == .starting || (s.stage (phStage (secs s) x.2)).mode == .running))

/-- An entry joins those waiting for a frame of a phase's port; it takes its SEQ when it is sent (R197, R198). -/
def pushEdge (p kind rise fall dtLead dtTrail : Nat) (lsEn : Bool) (s : State) : State :=
  match phaseSeat (secs s) p with
  | none => s
  | some (e, slot) =>
    match activePort s e with
    | none => s
    | some t =>
      let x := s.port t
      let f := s.ph p
      let edge : Edge :=
        { slot := slot, kind := kind, rise := rise, fall := fall, dtLead := dtLead, dtTrail := dtTrail, seq := 0, lsEn := lsEn }
      (s.setPort t { x with entries := x.entries ++ [edge] }).setPh p { f with dtLead := dtLead, dtTrail := dtTrail }

/-- The earliest stamp R99 allows an entry with this dead lead, in the next frame. -/
def earliestStamp (s : State) (dtLead : Nat) : Nat := nextLaunch s + 5120 + 8 * dtLead

/-- One OFF_AT to a phase, no earlier than an instant (R188, R196). -/
def pushOff (p rise : Nat) (s : State) : State :=
  let q := secs s
  let f := s.ph p
  let d := if f.dtLead = 0 then stDtMin q (phStage q p) else f.dtLead
  let t := if f.dtTrail = 0 then stDtMin q (phStage q p) else f.dtTrail
  let r := max rise (earliestStamp s d)
  pushEdge p 2 r 0 d t (!f.tracking) (s.setPh p { f with offAt := r })

end Sys2Proof.Machine
end

