-- ==== Sys2Proof/Machine/SeqBase.lean ====
section
/-! DEFINITION. Keep-alive outputs (R287 to R292) and rails (R284 to R286) as the Sequencer and Clasp share them. -/

namespace Sys2Proof.Machine

/-! ### Keep-alives -/

def State.ka (s : State) (k : Nat) : KeepAlive := Tab.get {} s.seq.keepAlives k
def State.setKa (s : State) (k : Nat) (x : KeepAlive) : State :=
  { s with seq := { s.seq with keepAlives := Tab.set s.seq.keepAlives k x } }

/-- The keep-alives that run, as a mask. -/
def kaMask (s : State) : Nat := maskOf ((List.range 16).filter (fun k => (s.ka k).running))

/-- The next rack time that is a multiple of 320,000 ticks: a rising instant of the 20 kHz wave (R287). -/
def nextRise (s : State) : Nat := ceilDiv (rackTime s) 320000 * 320000

/-- A keep-alive starts with its next rising instant (R287); one that runs already only has its hold time refreshed. -/
def startKa (k : Nat) (s : State) : State :=
  let x := s.ka k
  if x.running then s.setKa k { x with refreshed := s.now }
  else s.setKa k { x with
    running := true, risesAt := nextRise s, refreshed := s.now, since := s.now + (nextRise s - rackTime s), told := false }

/-- The level of a keep-alive pin (R287): static low while stopped and until the first rising instant, then high for the
first half of each 50 µs. -/
def kaLevel (s : State) (k : Nat) : Bool :=
  let x := s.ka k
  x.running && decide (x.risesAt ≤ rackTime s) && decide (rackTime s % 320000 < 160000)

/-- A keep-alive stops: static low (R287). -/
def stopKa (k : Nat) (s : State) : State :=
  let x := s.ka k
  if x.running then s.setKa k { x with running := false, since := s.now, told := false } else s

/-- Every keep-alive goes static low over the hardwired path (R24). -/
def kaAllLow (s : State) : State := (List.range 16).foldl (fun s k => stopKa k s) s

/-- The Sequencer refreshes every running output at a ledger boundary (R288). -/
def refreshKas (s : State) : State :=
  (List.range 16).foldl (fun s k => if (s.ka k).running then s.setKa k { s.ka k with refreshed := s.now } else s) s

/-- Every keep-alive marked SOURCE_PATH has stopped, where one is marked (R236). -/
def sourceStopped (s : State) : Bool :=
  let l := (List.range 16).filter (fun k => kaOwner (secs s) k != 0 && kaSource (secs s) k)
  !l.isEmpty && l.all (fun k => !(s.ka k).running)

/-! ### Rails -/

def State.rail (s : State) (r : Nat) : Rail := Tab.get {} s.seq.rails r
def State.setRail (s : State) (r : Nat) (x : Rail) : State := { s with seq := { s.seq with rails := Tab.set s.seq.rails r x } }

/-- The sample word of a voltage source, PHASE_V or AIN. -/
def voltSample (s : State) (sel : Nat) : Sample :=
  if selKind sel = 3 then (s.sense (selIndex sel)).v
  else if selKind sel = 5 then (Tab.get {} s.pave.ains (selIndex sel)).word
  else {}

/-- The newest value of a voltage source no older than a limit in ticks. -/
def voltValue (s : State) (sel limit : Nat) : Option Int :=
  let x := voltSample s sel
  if x.valid && decide (rackTime s ≤ x.close + limit) then some x.value else none

/-- The value of a rail, none when it is missing, not VALID or older than 1 ms (R285, Table 1.5). -/
def railValue (s : State) (r : Nat) : Option Int := voltValue s (rlSrc (secs s) r) msTicks

/-- C of a rail (R284), with its margin stage's fraction in steps of 0.25 % (R286), in 1/400 mV. -/
def railCentre (s : State) (r : Nat) : Option Int :=
  let q := secs s
  let c := if rlRef q r = 0xFF then some (rlTarget q r) else railValue s (rlRef q r)
  let m : Int := if rlMargin q r < 64 then (s.stage (rlMargin q r)).margin else 0
  c.map (· * (400 + m))

/-- The window of a rail in mV, rounded to whole mV (R284). -/
def railWindow (s : State) (r : Nat) : Option (Int × Int) :=
  let q := secs s
  (railCentre s r).map (fun c => (divRound (c * (1000 + rlLo q r)) 400000, divRound (c * (1000 + rlHi q r)) 400000))

/-- The newest sample of a rail lies in its window. -/
def railInWindow (s : State) (r : Nat) : Bool :=
  let q := secs s
  match railValue s r, railCentre s r with
  | some v, some c => decide (c * (1000 + rlLo q r) ≤ v * 400000) && decide (v * 400000 ≤ c * (1000 + rlHi q r))
  | _, _ => false

/-- A rail is up (R284). -/
def railUp (s : State) (r : Nat) : Bool :=
  railInWindow s r && (s.rail r).inSince.any (fun a => decide (a + rlSettle (secs s) r * msTicks ≤ rackTime s))

/-- A rail is discharged (R285). -/
def railDischarged (s : State) (r : Nat) : Bool := (railValue s r).any (fun v => decide (v ≤ rlDisch (secs s) r))

/-- The window of a rail is watched: how long its newest sample has lain inside or outside (R284, R286). -/
def watchRail (r : Nat) (s : State) : State :=
  let x := s.rail r
  let in_ := railInWindow s r
  let inSince := if in_ then some (x.inSince.getD (rackTime s)) else none
  let outSince := if in_ || (railValue s r).isNone then none else some (x.outSince.getD (rackTime s))
  if inSince = x.inSince ∧ outSince = x.outSince then s else s.setRail r { x with inSince := inSince, outSince := outSince }

/-- Every rail, or those of one source. -/
def watchRails (s : State) : State := (rails (secs s)).foldl (fun s r => watchRail r s) s
def watchRailsOf (sel : Nat) (s : State) : State :=
  ((rails (secs s)).filter (fun r => rlSrc (secs s) r == sel)).foldl (fun s r => watchRail r s) s

/-! ### The precharge interlock (R290) -/

/-- The interlock age limit of a source in ticks. -/
def ilkLimit (q : Secs) (sel : Nat) : Nat :=
  if selKind sel = 5 then max (100 * usTicks) (2 * 2 ^ u8 (seAin q (selIndex sel)) 1 * 4 * usTicks) else 100 * usTicks

/-- The values of an interlock's rails, while both are VALID and fresh. -/
def ilkValues (s : State) (k : Nat) : Option (Int × Int) :=
  let q := secs s
  let a := rlSrc q (kaRailA q k)
  let b := rlSrc q (kaRailB q k)
  match voltValue s a (ilkLimit q a), voltValue s b (ilkLimit q b) with
  | some x, some y => some (x, y)
  | _, _ => none

/-- The comparator's test on the newest samples. -/
def ilkTest (s : State) (k : Nat) : Bool :=
  match ilkValues s k with
  | some (a, b) => decide (((a - b).natAbs : Int) * 1000 ≤ b * sqPrechargePct (secs s))
  | none => false

/-- The comparator evaluates the test at a publication of either sample and holds its result. -/
def watchInterlocks (sel : Nat) (s : State) : State :=
  (List.range 16).foldl (fun s k =>
    let q := secs s
    if kaInterlock q k && (rlSrc q (kaRailA q k) == sel || rlSrc q (kaRailB q k) == sel) then
      let x := s.ka k
      s.setKa k { x with ilkSince := if ilkTest s k then some (x.ilkSince.getD (rackTime s)) else none }
    else s) s

/-- A keep-alive may start: its interlock, where it has one, has passed throughout the last 100 µs (R290). -/
def ilkPasses (s : State) (k : Nat) : Bool :=
  !kaInterlock (secs s) k
    || (ilkValues s k).isSome && (s.ka k).ilkSince.any (fun a => decide (a + 100 * usTicks ≤ rackTime s))

/-- The auxiliary contact of a keep-alive reads closed (R291). A missing sample reads open. -/
def contactClosed (s : State) (k : Nat) : Bool :=
  let q := secs s
  let r := kaFbRail q k
  (railValue s r).any (fun v => decide (rlTarget q r ≤ 2 * v))

end Sys2Proof.Machine
end

