-- ==== Sys2Proof/Machine/ClaspBase.lean ====
section
/-! DEFINITION. Clasp's acts that raise no fault (chapter 11): messages out, capabilities and roles, transitions, the
values published each ledger period, ending and locking out. -/

namespace Sys2Proof.Machine

def State.setClasp (s : State) (c : Clasp) : State := { s with clasp := c }

/-- A counter of Clasp, by its place in the list of chapter 11. -/
def claspCount (i : Nat) (s : State) : State :=
  s.setClasp { s.clasp with counters := Tab.upd 0 s.clasp.counters i (fun n => sat32 n 1) }

/-- Clasp may act (R304). -/
def claspActive (s : State) : Bool := running s && hasSec (secs s) tyCoupling && coEnable (secs s)

/-- The states in which the pilot is used (Table 11.9). -/
def pilotUsed (p : ClaspPhase) : Bool :=
  match p with
  | .discover => true
  | .ready => true
  | .closing => true
  | .contract => true
  | .ending => true
  | _ => false

/-- A coupling is in CLOSING, CONTRACT or ENDING. -/
def coupled (s : State) : Bool :=
  s.clasp.phase == .closing || s.clasp.phase == .contract || s.clasp.phase == .ending

/-- A role swap runs; it is complete from step 5 on (R325). -/
def swapping (s : State) : Bool := s.clasp.swap.any (fun w => decide (w.step < 5))

/-- The transition or swap of R323; a transition runs from the start of the closing. -/
def claspBusy (s : State) : Bool := s.clasp.transition.isSome || swapping s || s.clasp.phase == .closing

/-! ### Messages out -/

/-- A message joins those to be sent. -/
def sendMsg (m : OutMsg) (s : State) : State := s.setClasp { s.clasp with outbox := s.clasp.outbox ++ [m] }

/-- A message of a type with a payload. -/
def send (type : Nat) (payload : Bytes) (s : State) : State := sendMsg { type := type, payload := payload } s

def tAccept : Nat := 0x02
def tReject : Nat := 0x03
def tWait : Nat := 0x04
def tSettled : Nat := 0x05
def tCapsQuery : Nat := 0x06
def tRoleSwap : Nat := 0x07
def tResync : Nat := 0x08
def tEnd : Nat := 0x09
def tNotSupported : Nat := 0x0A
def tCaps : Nat := 0x10
def tRequest : Nat := 0x11
def tStatus : Nat := 0x12
def tAlert : Nat := 0x13
def tVdm : Nat := 0x20

/-- A VDM header of Kreilo (Table 11.11), big-endian. -/
def vdmHead (cmdType command mode : Nat) : Bytes := beBytes 4 (0x4B52 * 2 ^ 16 + cmdType * 2 ^ 14 + command * 2 ^ 8 + mode)

/-- A Kreilo VDM. -/
def sendVdm (cmdType command mode : Nat) (data : Bytes) (s : State) : State := send tVdm (vdmHead cmdType command mode ++ data) s

/-- A signed number as an unsigned field of `w` bits. -/
def wrapBits (w : Nat) (v : Int) : Nat := (v % (2 ^ w : Nat)).toNat

/-! ### The pins (Table 11.1, R304 to R306, R310, R313, R331) -/

/-- The bits of a byte string, most significant first. -/
def msbBits (b : Bytes) : List Bool := b.flatMap (fun x => [7, 6, 5, 4, 3, 2, 1, 0].map (fun k => bit x.toNat k))

/-- The bit cells of a message: 20 of 1, the sync word, header with payload and CRC, 4 of 0 (R306). -/
def messageCells (b : Bytes) : List Bool :=
  List.replicate 20 true ++ msbBits (beBytes 2 0xE31B) ++ msbBits b ++ List.replicate 4 false

/-- The 40 bit cells of a receipt (R310). -/
def receiptCells (n : Nat) : List Bool :=
  List.replicate 12 true ++ msbBits (beBytes 2 0xE3A4) ++ msbBits [byte n] ++ List.replicate 4 false

/-- Biphase mark (R305): the line level in each half of each bit cell, true recessive, from the level before. -/
def biphase : Bool → List Bool → List Bool
  | _, [] => []
  | l, b :: r => (!l) :: (if b then l else !l) :: biphase (if b then l else !l) r

/-- CP_TXEN: high while a frame or a line break is driven, low while Clasp is not active. -/
def cpTxEn (s : State) : Bool :=
  let c := s.clasp
  claspActive s && (decide (s.now < c.breakUntil)
    || decide (c.lineFrom ≤ s.now) && decide (s.now < c.lineFrom + c.lineTx.length * usTicks))

/-- CP_TX: low drives the line dominant. -/
def cpTx (s : State) : Bool :=
  let c := s.clasp
  !decide (s.now < c.breakUntil)
    && (!cpTxEn s || (biphase true c.lineTx).getD (2 * (s.now - c.lineFrom) / usTicks) true)

/-- CP_PAT_EXC: in a check, 10 periods at 100 Hz, 100 periods at 10 kHz, then high for 20 ms (R331); low otherwise. -/
def cpPatExc (s : State) : Bool :=
  let d := s.now - s.clasp.patinaSince
  claspActive s && s.clasp.patinaRunning &&
    (if d < 100 * msTicks then decide (d % (10 * msTicks) < 5 * msTicks)
     else if d < 110 * msTicks then decide (d % (100 * usTicks) < 50 * usTicks)
     else decide (d < 130 * msTicks))

/-! ### Link and contract values -/

/-- V_link (R320), none while it is stale: the limit of the coupling stage's context (Table 1.5). -/
def linkVoltage (s : State) : Option Int :=
  let q := secs s
  let sel := coLinkSrc q
  let limit := 2 * ctxRate (lcRec q (stageCtx (coStage q))) * ledgerTicks
  voltValue s sel (if selKind sel = 5 then max limit (2 * 2 ^ u8 (seAin q (selIndex sel)) 1 * 25600) else limit)

/-- The newest link voltage sample, whatever its age. -/
def linkNewest (s : State) : Int := (voltSample s (coLinkSrc (secs s))).value

/-- LINK_P of this end in W: −STAGE_POWER of its coupling stage. -/
def linkPower (s : State) : Int := -(Tab.get {} s.balance.cur.stages (coStage (secs s))).pb

/-- The effective patina class: the worse of both ends (R318). -/
def worstPatina (s : State) : Nat := max s.clasp.patina s.clasp.partnerPatina

/-- P_eff of a contract (R318). -/
def pEffOf (s : State) (c : Contract) : Nat :=
  let f := worstPatina s
  let p := if f = 0 then c.pc else if f = 1 then c.pc / 4 else 0
  if s.clasp.verified then p else min p (coUnauth (secs s))

/-- P_eff of the contract in force. -/
def pEff (s : State) : Nat := s.clasp.contract.elim 0 (pEffOf s)

/-- FLAGS and PATINA of STATUS (Table 11.8) as one number. -/
def statusBits (s : State) : Nat :=
  let c := s.clasp
  let closed := (s.ka (coKaPos (secs s))).running && (s.ka (coKaNeg (secs s))).running
  flag closed + 2 * flag c.transition.isSome + 4 * flag c.tandem + 8 * flag c.bridge + 16 * flag c.verified
    + 32 * flag (c.phase == .ending) + 256 * c.patina

/-- s of R329 as a fraction: SOC_rack, the mean of the string SOC of Maquette's records weighted by their capacities, less
MID, over SPAN, held to ±1. -/
def socShare (s : State) : Int × Nat :=
  let q := secs s
  let l := s.maq.strings.map (·.2.pub)
  let w := max 1 ((l.map (·.q)).sum)
  let den := w * max 1 (coSocSpan q)
  (clampI (-(den : Int)) den (((l.map (fun r => r.soc * r.q)).sum : Nat) - (w * coSocMid q : Nat) : Int), den)

/-- A STATUS message (Table 11.8). -/
def sendStatus (s : State) : State :=
  let b := statusBits s
  let soc := if s.clasp.tandem then divRound (10000 * (socShare s).1) (socShare s).2 else 0
  let p := beBytes 2 (clampI 0 65535 (divRound (linkNewest s) 100)).toNat
    ++ beBytes 2 (wrapBits 16 (clampI (-32768) 32767 (divRound (linkPower s) 100)))
    ++ [byte (b / 256), byte (b % 256)] ++ beBytes 2 (wrapBits 16 soc)
  let s := send tStatus p s
  s.setClasp { s.clasp with lastStatus := b, statusAt := s.now }

/-- A change of FLAGS or PATINA is reported (R314, R332). -/
def tellStatus (s : State) : State :=
  if pilotUsed s.clasp.phase && statusBits s != s.clasp.lastStatus then sendStatus s else s

/-! ### Capabilities, roles and requests (R315, R316) -/

/-- A power object of the image. -/
def imagePo (q : Secs) (k : Nat) : PowerObj :=
  let e := coPo q k
  { vMin := u16 e 0, vMax := u16 e 2, iMax := u16 e 4, pMax := u16 e 6, ramp := u16 e 8, tandem := bit (u8 e 10) 0 }

/-- This end's CAPABILITIES. -/
def ownCaps (s : State) (seq tie : Nat) : Caps :=
  let q := secs s
  { vendor := 0x4B52
    flags := flag (coSourceCap q) + 2 * flag (coSinkCap q) + 4 * coRolePref q + 16 * flag (!s.benra.certInvalid)
    seq := seq % 65536, tie := tie, sinkVMin := coSinkVMin q, sinkVMax := coSinkVMax q, sinkPMax := coSinkPMax q / 100
    patina := s.clasp.patina, pos := (List.range (coPoCount q)).map (imagePo q) }

/-- A power object on the wire. -/
def poBytes (p : PowerObj) : Bytes :=
  beBytes 2 p.vMin ++ beBytes 2 p.vMax ++ beBytes 2 p.iMax ++ beBytes 2 p.pMax ++ beBytes 2 p.ramp ++ [byte (flag p.tandem), 0]

/-- The CAPABILITIES payload (Table 11.4). -/
def capsBytes (c : Caps) : Bytes :=
  beBytes 2 0x0102 ++ beBytes 2 c.vendor ++ [byte c.flags, byte c.pos.length] ++ beBytes 2 c.seq ++ beBytes 4 c.tie
    ++ beBytes 2 c.sinkVMin ++ beBytes 2 c.sinkVMax ++ beBytes 2 c.sinkPMax ++ [byte c.patina, 0] ++ c.pos.flatMap poBytes

/-- The latest CAPABILITIES go out once more (an answer to CAPS_QUERY), or a first set where none has. -/
def repeatCaps (s : State) : State :=
  match s.clasp.own with
  | some c => send tCaps (capsBytes c) s
  | none => s

/-- New CAPABILITIES with a new CAPS_SEQ go out, put off during a transition, the closing included (R323). -/
def newCaps (s : State) : State :=
  if s.clasp.transition.isSome || s.clasp.phase == .closing then s.setClasp { s.clasp with capsOwed := true }
  else
    let c := ownCaps s (s.clasp.capsSeq + 1) s.clasp.tie
    let s := s.setClasp { s.clasp with own := some c, capsSeq := c.seq, capsOwed := false, capsSentAt := some s.now }
    send tCaps (capsBytes c) s

/-- A random TIE (R315). -/
def drawTie (s : State) : State :=
  let f := drbg s
  f.2.setClasp { f.2.clasp with tie := f.1 % 2 ^ 32 }

/-- Roles of this end by R315: some 1 Source, some 0 Sink; `none` where no roles result; the flag asks for a redraw. -/
def resolveRoles (a b : Caps) : Option Nat × Bool :=
  let srcA := bit a.flags 0
  let snkA := bit a.flags 1
  let srcB := bit b.flags 0
  let snkB := bit b.flags 1
  let score (c : Caps) : Nat := match c.flags / 4 % 4 with
    | 1 => 2
    | 0 => 1
    | _ => 0
  if srcA && snkB && !(srcB && snkA) then (some 1, false)
  else if srcB && snkA && !(srcA && snkB) then (some 0, false)
  else if srcA && snkB then
    if score a ≠ score b then (some (flag (decide (score b < score a))), false)
    else if a.tie ≠ b.tie then (some (flag (decide (b.tie < a.tie))), false)
    else (none, true)
  else (none, false)

/-- The set-point cap of the coupling stage in W, where an input gives one (Table 8.3). -/
def setPointCap (s : State) (g : Nat) : Option Nat := (setInValue s g).map Int.natAbs
where
  /-- The SETPOINT input routed to a stage, at most 2 ledger periods old. -/
  setInValue (s : State) (g : Nat) : Option Int :=
    match setInFor (secs s) g 1 with
    | none => none
    | some k =>
      let x := Tab.get {} s.pave.setIns k
      if x.word.valid && decide (period s ≤ x.tag + 2) then some x.word.value else none

/-- The distance of a voltage from an object's range. -/
def poDistance (v : Nat) (p : PowerObj) : Nat := if v < p.vMin then p.vMin - v else v - p.vMax

/-- The Sink's choice of an object: its index (R316). -/
def choosePo (v : Nat) (l : List PowerObj) : Option (Nat × PowerObj) :=
  let ds := l.map (poDistance v)
  let m := ds.foldl min (ds.headD 0)
  match ds.findIdx? (· == m) with
  | some i => l[i]?.map (fun p => (i, p))
  | none => none

/-- The Sink forms and sends a REQUEST (R316). -/
def sendRequest (s : State) : State :=
  match s.clasp.partner with
  | none => s
  | some pc =>
    let q := secs s
    let v := (clampI (coSinkVMin q) (coSinkVMax q) (divRound s.balance.vbus 100)).toNat
    match choosePo v pc.pos with
    | none => s
    | some (k, po) =>
      let vt := max po.vMin (min po.vMax v)
      let cap := (setPointCap s (coStage q)).elim 65535 (· / 100)
      let p := min (min po.pMax (coSinkPMax q / 100)) cap
      let i := min po.iMax (p * 10000 / max 1 vt)
      let payload := beBytes 2 pc.seq ++ [byte k, 0] ++ beBytes 2 vt ++ beBytes 2 p ++ beBytes 2 i ++ [0, 0]
      let s := send tRequest payload s
      s.setClasp { s.clasp with
        askOwed := false, deviateSince := none
        asked := some { vc := vt * 100, pc := p * 100, ic := i * 100, droop := 0, po := po } }

/-- The Sink asks where it may: roles resolved, objects offered, no transition or swap (R315, R316, R323). -/
def askContract (s : State) : State :=
  let c := s.clasp
  if c.role != some 0 || c.phase == .ending || !(c.partner.any (fun p => !p.pos.isEmpty)) then s
  else if claspBusy s || s.now < c.askAfter then s.setClasp { c with askOwed := true }
  else sendRequest s

/-! ### Pending requests and soft reset (R312) -/

/-- A request of this end ends without being granted: the host command behind it answers DENIED (Table 11.18). -/
def denySwap (s : State) : State :=
  let s := if s.clasp.swapByHost then finishCommand 0x0E11 stDenied 0 s else s
  s.setClasp { s.clasp with swapAsked := false, swapByHost := false }
def denyMode (s : State) : State :=
  let s := if s.clasp.modeByHost then finishCommand 0x0E12 stDenied 0 s else s
  s.setClasp { s.clasp with modeAsked := none, modeByHost := false }

/-- A message is a request still to be sent: REQUEST, ROLE_SWAP, or a Kreilo ENTER_MODE or EXIT_MODE. -/
def isAsk (m : OutMsg) : Bool :=
  m.type == tRequest || m.type == tRoleSwap
    || m.type == tVdm && (m.payload.take 3 == (vdmHead 0 3 0).take 3 || m.payload.take 3 == (vdmHead 0 4 0).take 3)

/-- Every pending request is discarded (R312). -/
def dropPending (s : State) : State :=
  let s := denyMode (denySwap s)
  s.setClasp { s.clasp with asked := none, askOwed := false, outbox := s.clasp.outbox.filter (fun m => !isAsk m) }

/-- An answer joins those to be sent, ahead of this end's own requests (R326, Table 11.10). -/
def sendAnswer (type : Nat) (payload : Bytes) (s : State) : State :=
  let l := s.clasp.outbox
  let i := (l.findIdx? isAsk).getD l.length
  s.setClasp { s.clasp with outbox := l.take i ++ { type := type, payload := payload } :: l.drop i }

/-- V_r is set on a course. -/
def steer (target : Int) (ramp : Nat) (s : State) : State := s.setClasp { s.clasp with vrTarget := target, vrRamp := ramp }

/-- A transition is abandoned (R324). -/
def abandonTransition (s : State) : State :=
  match s.clasp.transition with
  | none => s
  | some t =>
    let c := s.clasp
    let ramp := (t.old.elim c.vrRamp (·.po.ramp))
    tellStatus (steer c.vSafe ramp (s.setClasp { c with transition := none, contract := t.old }))

/-- What a RESYNC does at the end that sends it and at the one that receives it (R312). -/
def resyncActs (s : State) : State :=
  let s := abandonTransition (dropPending s)
  s.setClasp { s.clasp with nextCount := 0, lastAccepted := none }

/-! ### Ending and locking out (R333 to R336) -/

/-- The coupling is forgotten: no contract, roles, modes or agreements. -/
def forgetCoupling (s : State) : State :=
  s.setClasp { s.clasp with
    role := none, partner := none, contract := none, transition := none, swap := none, ending := none, tandem := false
    bridge := false, tandemDroop := 0, settled := false, powerOff := false, vr := 0, vrTarget := 0, vSafe := 0
    partnerClosed := false, partnerFlags := 0, partnerLinkP := 0, linkOutSince := none, imbalance := [], imbalSum := 0
    imbalN := 0, out := none, outbox := [], missRun := 0, deviateSince := none }

/-- The partner's identity is forgotten (R328, R334); a partner marked untrusted stays so until the next attach. -/
def forgetPartner (s : State) : State :=
  s.setClasp { s.clasp with
    verified := false, partnerModes := none, partnerSerial := 0, partnerPatina := 0, identity := none, identityTries := 0
    identityRetryAt := none }

/-- The host command behind a customer VDM is answered (Table 11.18). -/
def answerHostVdm (status : Nat) (s : State) : State :=
  match s.clasp.vdmWait with
  | none => s
  | some w => answer w.request true status [] (s.setClasp { s.clasp with vdmWait := none })

/-- A host's customer VDM that can no longer be acknowledged is given up, sent or not. -/
def dropHostVdm (s : State) : State :=
  answerHostVdm stDenied (s.setClasp { s.clasp with outbox := s.clasp.outbox.filter (fun m => m.purpose != .hostVdm) })

/-- A state of Table 11.9 is entered. -/
def enterClasp (p : ClaspPhase) (s : State) : State := s.setClasp { s.clasp with phase := p, phaseSince := s.now }

/-- DISCOVER: CAPABILITIES go out (Table 11.9); after a coupling, the change of FLAGS is reported too (R314). -/
def enterDiscover (s : State) : State :=
  let after := s.clasp.phase == .ending
  let s := enterClasp .discover (forgetCoupling (dropHostVdm (dropPending s)))
  let s := newCaps (s.setClasp { s.clasp with
    nextCount := 0, lastAccepted := none, softCount := 0, holdUntil := 0, waited := false
    lastStatus := if after then s.clasp.lastStatus else statusBits s, lastValidAt := s.now })
  tellStatus s

/-- CHECK: a patina check runs (R332). -/
def enterCheck (s : State) : State :=
  let s := enterClasp .check s
  s.setClasp { s.clasp with patinaRunning := true, patinaSince := s.now }

/-- LOCKOUT, counted toward the 60 s of R336. -/
def enterLockout (s : State) : State :=
  let s := enterClasp .lockout (forgetPartner (forgetCoupling (dropHostVdm (dropPending s))))
  s.setClasp { s.clasp with lockouts := s.clasp.lockouts + 1 }

/-- The coupling keep-alives stop. -/
def stopCouplingKas (s : State) : State := stopKa (coKaNeg (secs s)) (stopKa (coKaPos (secs s)) s)

/-- The values published now, as the start of a ramp to zero over a time in ticks. -/
def rampAway (duration : Nat) (s : State) : State :=
  let c := s.clasp
  s.setClasp { c with ramp := some {
    startAt := rackTime s, duration := duration, imp := c.agreedImport, exp := c.agreedExport, base := c.base } }

/-- ENDING is over: event 0x8E06, then DISCOVER, BLOCKED or LOCKOUT (Table 11.9, R336). -/
def finishEnding (s : State) : State :=
  match s.clasp.ending with
  | none => s
  | some e =>
    let s := stopCouplingKas s
    let s := event 0x8E06 [e.cause] (s.setClasp { s.clasp with ramp := none, lastEnd := e.cause })
    if e.lock then enterLockout s
    else if e.blocked then enterClasp .blocked (forgetCoupling (dropHostVdm (dropPending s)))
    else enterDiscover s

/-- Causes of END_COUPLING (Table 11.7). -/
def ceRequested : Nat := 1
def cePowerDown : Nat := 2
def ceStageStopped : Nat := 3
def cePatina : Nat := 4
def ceLinkVoltage : Nat := 5
def ceImbalance : Nat := 6
def ceTimeout : Nat := 7
def ceHardReset : Nat := 8
def ceSplit : Nat := 9
def cePulled : Nat := 10

/-- The coupling ends (R333): agreements and B ramp to 0 over END_RAMP while END_COUPLING goes out; an end during CLOSING
leads to LOCKOUT (R336). In ENDING nothing more happens. -/
def endCoupling (cause : Nat) (lock blocked : Bool) (s : State) : State :=
  let c := s.clasp
  if c.phase = .closing ∨ c.phase = .contract then
    let s := rampAway (coEndRamp (secs s) * msTicks) (dropPending s)
    let s := s.setClasp { s.clasp with
      ending := some { cause := cause, startAt := s.now, lock := lock || c.phase == .closing, blocked := blocked }
      transition := none, swap := none }
    tellStatus (send tEnd [byte cause] (enterClasp .ending s))
  else s

/-- END_COUPLING no longer waits to be sent. -/
def endSent (s : State) : Bool := !s.clasp.outbox.any (fun m => m.type == tEnd)

/-- The coupling keep-alives are static. -/
def couplingOpen (s : State) : Bool := !(s.ka (coKaPos (secs s))).running && !(s.ka (coKaNeg (secs s))).running

/-- The coupling stage is stopped by a cause of R188 (R333): no ramp, the keep-alives stop at once, and END_COUPLING goes
out ahead of everything else before ENDING is left. -/
def claspStageStopped (s : State) : State :=
  if !claspActive s || !coupled s then s
  else
    let lock := s.clasp.phase == .closing || s.clasp.ending.any (·.lock)
    let blocked := s.clasp.ending.any (·.blocked)
    let s := s.setClasp { s.clasp with
      ending := some { cause := ceStageStopped, startAt := s.now, lock := lock, blocked := blocked }, ramp := none
      agreedImport := 0, agreedExport := 0, base := 0, transition := none, swap := none }
    let s := stopCouplingKas (enterClasp .ending (dropPending s))
    let rest := s.clasp.outbox.filter (fun m => m.type != tEnd)
    tellStatus (s.setClasp { s.clasp with outbox := { type := tEnd, payload := [byte ceStageStopped] } :: rest })

/-- The start of a power-down ends the coupling with cause POWER_DOWN (R282, R333). -/
def claspPowerDown (s : State) : State := if claspActive s then endCoupling cePowerDown false false s else s

/-- A hard reset at this end (R313) or by BLOCK_RESET (Table 12.3): the coupling ends with cause HARD_RESET, LOCKOUT. -/
def claspHardReset (s : State) : State :=
  let p := s.clasp.phase
  if !claspActive s || p == .disabled || p == .detached || p == .lockout then s
  else if p == .closing || p == .contract then endCoupling ceHardReset true false s
  else if p == .ending then
    s.setClasp { s.clasp with ending := s.clasp.ending.map (fun e => { e with lock := true }) }
  else enterLockout s

/-! ### Each ledger period (R318, R320, R329) -/

/-- AGREED_IMPORT and AGREED_EXPORT outside a ramp (R318, R322). -/
def agreements (s : State) : Nat × Nat :=
  let c := s.clasp
  let p := pEff s
  let old := c.transition.bind (·.old)
  if !(c.phase == .closing || c.phase == .contract) || c.contract.isNone || c.powerOff then (0, 0)
  else if c.tandem then (p, p)
  else if c.role = some 1 then
    (0, match c.transition, old with
      | some t, some o => if t.closing then p else max p (pEffOf s o)
      | _, _ => p)
  else if c.role = some 0 then
    let imp :=
      match c.transition with
      | some t => if t.closing then 0 else t.old.elim 0 (fun o => min p (pEffOf s o))
      | none => if c.settled then p else 0
    (imp, 0)
  else (0, 0)

/-- B of R320 and R329, before any ramp, for agreements already formed. -/
def linkTarget (s : State) (imp : Nat) : Int :=
  let c := s.clasp
  match c.contract, linkVoltage s with
  | some k, some v =>
    let p := pEff s
    if !(c.phase == .closing || c.phase == .contract) || c.powerOff then 0
    else if c.tandem then
      let d := max 1 c.tandemDroop
      let x := socShare s
      let vSet : Int := c.vr * ((1000 * x.2 : Nat) + d * x.1)
      clampI (-(p : Int)) p (divRound (p * (v * (1000 * x.2 : Nat) - vSet)) (max 1 (d * k.vc * x.2)))
    else if c.role = some 1 then -(min (p : Int) (max 0 (divRound (p * 1000 * (c.vr - v)) (max 1 (k.droop * k.vc)))))
    else
      let lo : Int := k.po.vMin * 100000
      let knee : Int := k.vc * (1000 - k.droop)
      if knee ≤ lo then 0 else divRound (imp * (clampI lo knee (v * 1000) - lo)) (knee - lo).toNat
  | _, _ => 0

/-- A value on a ramp to zero. -/
def rampedTo (r : EndRamp) (now : Nat) (v : Int) : Int :=
  if r.startAt + r.duration ≤ now then 0 else divRound (v * (r.duration - (now - r.startAt) : Nat)) (max 1 r.duration)

/-- V_r moves in CLOSING and CONTRACT by at most RAMP × 10 mV (R320); at an end it stops (R324). -/
def moveVr (s : State) : State :=
  let c := s.clasp
  if c.phase = .closing ∨ c.phase = .contract then
    let step : Int := c.vrRamp * 10
    s.setClasp { c with vr := if c.vr < c.vrTarget then min c.vrTarget (c.vr + step) else max c.vrTarget (c.vr - step) }
  else s

/-- V_link has lain in the settling band while V_r equals V_c (R322). -/
def watchSettle (s : State) : State :=
  let c := s.clasp
  match c.transition, c.contract with
  | some t, some k =>
    let ok := match linkVoltage s with
      | some v => c.vr == k.vc && decide ((k.vc * (1000 - k.droop) * 99 : Nat) ≤ v * 100000) && decide (v * 100 ≤ (k.vc * 101 : Nat))
      | none => false
    s.setClasp { c with transition := some { t with steadySince := if ok then some (t.steadySince.getD s.now) else none } }
  | _, _ => s

/-- The watches of R316 and R321. -/
def watchLink (s : State) : State :=
  let c := s.clasp
  match c.contract with
  | none => s
  | some k =>
    let quiet := c.phase == .contract && c.transition.isNone
    let out := quiet && (linkVoltage s).any (fun (v : Int) => decide (v < (k.po.vMin * 100 : Nat)) || decide ((k.po.vMax * 100 : Nat) < v))
    let dev := quiet && c.role == some 0
      && decide (k.vc * coReqStep (secs s) < 1000 * (s.balance.vbus - k.vc).natAbs)
    let sum := c.imbalSum + (linkPower s + c.partnerLinkP).natAbs
    let n := c.imbalN + 1
    let c := { c with
      linkOutSince := if out then some (c.linkOutSince.getD s.now) else none
      deviateSince := if dev then some (c.deviateSince.getD s.now) else none }
    s.setClasp (
      if !quiet then { c with imbalance := [], imbalSum := 0, imbalN := 0 }
      else if n = 100 then { c with imbalance := (sum :: c.imbalance).take 100, imbalSum := 0, imbalN := 0 }
      else { c with imbalSum := sum, imbalN := n })

/-- The link current has come down after the ramp (R333). -/
def watchOpen (s : State) : State :=
  match s.clasp.ending, s.clasp.ramp with
  | some e, some r =>
    let i := (Tab.get {} s.balance.cur.stages (coStage (secs s))).i.natAbs
    let low := decide (r.startAt + r.duration ≤ rackTime s) && decide (i ≤ coOpenI (secs s))
    s.setClasp { s.clasp with ending := some { e with lowSince := if low then some (e.lowSince.getD s.now) else e.lowSince } }
  | _, _ => s

/-- A proximity break's ramp has ended: the keep-alives stop (R335). -/
def stopPulled (s : State) : State :=
  match s.clasp.ramp with
  | some r =>
    if s.clasp.phase == .detached && r.startAt + r.duration ≤ rackTime s then
      stopCouplingKas (s.setClasp { s.clasp with ramp := none })
    else s
  | none => s

/-- Step 1 of a swap is over once the agreements are at 0 (R325). -/
def swapLedger (s : State) : State :=
  match s.clasp.swap with
  | some w =>
    if w.step = 1 ∧ s.clasp.agreedImport = 0 ∧ s.clasp.agreedExport = 0 then
      let s := s.setClasp { s.clasp with swap := some { w with step := 2, since := s.now }, ramp := none, powerOff := true }
      if w.wasSource then send tSettled [] (s.setClasp { s.clasp with role := some 0 }) else s
    else s
  | none => s

/-- Clasp's ledger period: V_r, agreements, B, watches (R318, R320). -/
def claspLedger (s : State) : State :=
  if !claspActive s then
    let s := stopCouplingKas s
    s.setClasp { s.clasp with patinaRunning := false, out := none, outbox := [], agreedImport := 0, agreedExport := 0, base := 0 }
  else
    let s := moveVr s
    let a := agreements s
    let b := linkTarget s a.1
    let c := s.clasp
    let r := match c.ramp with
      | some r => (rampedTo r (rackTime s) r.imp, rampedTo r (rackTime s) r.exp, rampedTo r (rackTime s) r.base)
      | none => ((a.1 : Int), (a.2 : Int), b)
    let r := if (linkVoltage s).isNone then (r.1, r.2.1, 0) else r
    let s := s.setClasp { c with agreedImport := r.1.toNat, agreedExport := r.2.1.toNat, base := r.2.2, tag := period s }
    swapLedger (stopPulled (watchOpen (watchLink (watchSettle s))))

/-- Clasp starts with the image, detached until the plug mates (R304, R314). -/
def startClasp (s : State) : State := if claspActive s then enterClasp .detached s else s

end Sys2Proof.Machine
end

