-- ==== Sys2Proof/Machine/SectionsMaq.lean ====
section
/-! DEFINITION. MAQUETTE: its fields (Tables 9.10 to 9.12) and its parse (R275, R276). -/

namespace Sys2Proof.Machine

def mqMask (q : Secs) : Nat := u16 (sec q tyMaquette) 0
def mqRestI (q : Secs) : Nat := u16 (sec q tyMaquette) 2
def mqRestTime (q : Secs) : Nat := u16 (sec q tyMaquette) 4
def mqRStep (q : Secs) : Nat := u16 (sec q tyMaquette) 6
def mqRAdapt (q : Secs) : Nat := u8 (sec q tyMaquette) 8
def mqQAdapt (q : Secs) : Nat := u8 (sec q tyMaquette) 9
def mqQMinDsoc (q : Secs) : Nat := u16 (sec q tyMaquette) 10
def mqQMaxU (q : Secs) : Nat := u16 (sec q tyMaquette) 12
def mqRMaxRatio (q : Secs) : Nat := u8 (sec q tyMaquette) 14
def mqQMinPct (q : Secs) : Nat := u8 (sec q tyMaquette) 15
def mqBalStart (q : Secs) : Nat := u16 (sec q tyMaquette) 16
def mqBalStop (q : Secs) : Nat := u16 (sec q tyMaquette) 18
def mqBalMaxU (q : Secs) : Nat := u16 (sec q tyMaquette) 20
def mqBalVMin (q : Secs) : Nat := u16 (sec q tyMaquette) 22
def mqBalTMax (q : Secs) : Int := i16 (sec q tyMaquette) 24
def mqBalPerTile (q : Secs) : Nat := u8 (sec q tyMaquette) 26
def mqMissSets (q : Secs) : Nat := u8 (sec q tyMaquette) 27
def mqRBleed (q : Secs) : Nat := u16 (sec q tyMaquette) 28
def mqLearnSave (q : Secs) : Nat := u16 (sec q tyMaquette) 30
def mqResidMax (q : Secs) : Nat := u16 (sec q tyMaquette) 32
/-- String entry `b` (Table 9.11). -/
def mqString (q : Secs) (b : Nat) : Bytes := slice (sec q tyMaquette) (64 + 32 * b) 32
def msType (e : Bytes) : Nat := u8 e 0
def msCells (e : Bytes) : Nat := u16 e 2
def msMaxCount (e : Bytes) : Nat := u16 e 4
def msRestU (e : Bytes) : Nat := u16 e 6
def msDrift (e : Bytes) : Nat := u16 e 8
def msCountErr (e : Bytes) : Nat := u16 e 10
def msUInit (e : Bytes) : Nat := u16 e 12
def msHorizon (e : Bytes) : Nat := u16 e 14
def msIDis (e : Bytes) : Nat := u32 e 16
def msIChg (e : Bytes) : Nat := u32 e 20
/-- Cell type block `t` (Table 9.12). -/
def mqType (q : Secs) (t : Nat) : Bytes := slice (sec q tyMaquette) (448 + 1176 * t) 1176
def ctQ (c : Bytes) : Nat := u16 c 0
def ctR0 (c : Bytes) : Nat := u16 c 2
def ctR1 (c : Bytes) : Nat := u16 c 4
def ctR2 (c : Bytes) : Nat := u16 c 6
def ctTau1 (c : Bytes) : Nat := u16 c 8
def ctTau2 (c : Bytes) : Nat := u16 c 10
def ctVMin (c : Bytes) : Nat := u16 c 12
def ctVMax (c : Bytes) : Nat := u16 c 14
def ctSigma (c : Bytes) : Nat := u16 c 16
def ctHyst (c : Bytes) : Nat := u16 c 18
def ctNSoc (c : Bytes) : Nat := u8 c 20
def ctNT (c : Bytes) : Nat := u8 c 21
def ctSocBp (c : Bytes) (k : Nat) : Nat := u16 c (24 + 2 * k)
def ctTBp (c : Bytes) (k : Nat) : Int := i16 c (88 + 2 * k)
def ctRt (c : Bytes) (k : Nat) : Nat := u16 c (104 + 2 * k)
def ctIDis (c : Bytes) (k : Nat) : Nat := u16 c (120 + 2 * k)
def ctIChg (c : Bytes) (k : Nat) : Nat := u16 c (136 + 2 * k)
/-- OCV point (t, k) of the discharge or the charge curve. -/
def ctOcv (c : Bytes) (charging : Bool) (t k : Nat) : Nat := u16 c ((if charging then 664 else 152) + 64 * t + 2 * k)

/-- The block of a string's cells. -/
def stringType (q : Secs) (b : Nat) : Bytes := mqType q (msType (mqString q b))
/-- The strings of STRING_MASK. -/
def maqStrings (q : Secs) : List Nat := bitsOf 12 (mqMask q)

/-- The entries of an array of `n` 16-bit fields beyond `m` are 0. -/
def tailZero (c : Bytes) (off n m : Nat) : Bool := zeroAt c (off + 2 * m) (2 * (n - m))

/-- A used cell type block (Table 9.12, R276). -/
def cellTypeOk (c : Bytes) : Bool :=
  let ns := ctNSoc c
  let nt := ctNT c
  let ks := List.range ns
  let ts := List.range nt
  within 100 59500 (ctQ c) && within 1 32767 (ctR0 c) && within 1 (ctTau2 c) (ctTau1 c)
  && within 1 (ctVMax c - 1) (ctVMin c) && decide (ctVMax c ≤ 50000) && within 1 1000 (ctSigma c)
  && within 2 32 ns && within 1 8 nt && zeroAt c 22 2
  && ascending (ks.map (ctSocBp c)) && ctSocBp c 0 == 0 && ctSocBp c (ns - 1) == 10000 && tailZero c 24 32 ns
  && (List.range (nt - 1)).all (fun t => decide (ctTBp c t < ctTBp c (t + 1)))
  && [88, 104, 120, 136].all (fun o => tailZero c o 8 nt)
  && ts.all (fun t => within 256 16384 (ctRt c t) && decide (ctIDis c t ≤ 2000) && decide (ctIChg c t ≤ 2000)
      && ascending (ks.map (ctOcv c false t)) && ascending (ks.map (ctOcv c true t))
      && ks.all (fun k => decide (ctOcv c false t k ≤ ctOcv c true t k))
      && tailZero c (152 + 64 * t) 32 ns && tailZero c (664 + 64 * t) 32 ns)
  && zeroAt c (152 + 64 * nt) (64 * (8 - nt)) && zeroAt c (664 + 64 * nt) (64 * (8 - nt))

/-- The cell tiles of a string. -/
def cellTiles (q : Secs) (b : Nat) : List Bytes := (tmEntries q).filter (fun e => teIsCell e && teString e == b)

/-- The cells that TILE_MAP covers of a string are 0 to n − 1 without a gap. -/
def coversCells (q : Secs) (b n : Nat) : Bool :=
  let cells := (cellTiles q b).flatMap (fun e => (List.range (teCount e)).map (teFirstCell e + ·))
  cells.length == n && (List.range n).all (fun k => cells.contains k)

/-- One string entry (Table 9.11). -/
def maqStringOk (q : Secs) (b : Nat) : Bool :=
  let e := mqString q b
  if !bit (mqMask q) b then allZero e
  else
    decide (msType e < 4) && zeroAt e 1 1 && zeroAt e 24 8 && coversCells q b (msCells e) && !allZero (mqType q (msType e))
    && ranges e [(2, 2, 1, 256), (4, 2, 1, 1000), (6, 2, 10, 5000), (8, 2, 0, 10000), (10, 2, 0, 1000), (12, 2, 100, 10000),
        (14, 2, 1, 6000), (16, 4, 1, 8000000), (20, 4, 0, 8000000)]

/-- MAQUETTE (R275, R276); its absence beside a cell tile is reported at TILE_MAP. -/
def maquetteOk (q : Secs) : Bool :=
  if !hasSec q tyMaquette then true
  else
    let b := sec q tyMaquette
    b.length == 5152 && decide (mqMask q < 4096) && maqStrings q == cellStrings q
    && ranges b [(4, 2, 10, 3600), (6, 2, 5, 500), (8, 1, 0, 10), (9, 1, 0, 8), (10, 2, 1000, 10000), (12, 2, 1, 1000),
        (14, 1, 11, 50), (15, 1, 50, 99), (16, 2, 0, 2000), (20, 2, 1, 10000), (22, 2, 0, 50000)]
    && ranges b [(26, 1, 1, 128), (27, 1, 1, 10), (28, 2, 10, 65535), (30, 2, 10, 1440), (32, 2, 10, 5000)]
    && (if mqBalStart q = 0 then mqBalStop q == 0 else decide (mqBalStop q < mqBalStart q))
    && withinI (-400) 1000 (mqBalTMax q) && zeroAt b 34 30
    && (List.range 12).all (maqStringOk q)
    && (List.range 4).all (fun t =>
        if (maqStrings q).any (fun k => msType (mqString q k) == t) then cellTypeOk (mqType q t) else allZero (mqType q t))
    && decide (mqRestTime q ≤ baRestWindow q)

/-- MAQUETTE, with the point counts of every cell type block inside the block's tables (R44). -/
def maquetteVerdict (q : Secs) : Verdict :=
  countVerdict (hasSec q tyMaquette
    && (List.range 4).any (fun t => decide (32 < ctNSoc (mqType q t)) || decide (8 < ctNT (mqType q t)))) (maquetteOk q)

end Sys2Proof.Machine
end

