-- ==== Sys2Proof/Machine/MaqModel.lean ====
section
/-! DEFINITION. The cell model's arithmetic (R251, R253 to R256, R259, R260, R265): fixed point in the units of
TypesMaq, square root and exponential (assumption 30). -/

namespace Sys2Proof.Machine

/-- 0.01 %, and 100 %, in the internal unit. -/
def socOne : Nat := 2 ^ 48
def socFull : Nat := 10000 * socOne

/-! ### Square root and exponential -/

/-- The greatest root below `r + 2^k` whose square is at most `n`. -/
def isqrtFrom : Nat → Nat → Nat → Nat
  | 0, _, r => r
  | k + 1, n, r => if (r + 2 ^ k) * (r + 2 ^ k) ≤ n then isqrtFrom k n (r + 2 ^ k) else isqrtFrom k n r

/-- ⌊√n⌋ for n below 2^256. -/
def isqrt (n : Nat) : Nat := isqrtFrom 128 n 0

/-- Terms of the series of exp(−f), f in 2^-48: `k` terms left, the number and value of the next one. -/
def expTerms (f : Int) : Nat → Nat → Int → Int
  | 0, _, _ => 0
  | k + 1, i, term => term + expTerms f k (i + 1) (divRound (-(term * f)) ((i + 1) * socOne))

/-- exp(−f) in 2^-48 for f from 0 to 1. -/
def expFrac (f : Nat) : Nat := (expTerms f 24 0 socOne).toNat

/-- The n-th power of a fraction in 2^-48. -/
def powFrac (b : Nat) : Nat → Nat
  | 0 => socOne
  | n + 1 => powFrac b n * b / socOne

/-- exp(−num/den) in 2^-48; 0 where it is below the unit. -/
def expNeg (num den : Nat) : Nat :=
  let x := num * socOne / max 1 den
  if 40 ≤ x / socOne then 0 else powFrac (expFrac socOne) (x / socOne) * expFrac (x % socOne) / socOne

/-! ### Curves (R251) -/

/-- The temperature segment: the index of its lower breakpoint and the distance into it as a fraction. -/
def tempSeg (c : Bytes) (t : Int) : Nat × Nat × Nat :=
  let n := ctNT c
  if t ≤ ctTBp c 0 then (0, 0, 1)
  else
    match (List.range (n - 1)).find? (fun k => decide (t < ctTBp c (k + 1))) with
    | some k => (k, (t - ctTBp c k).toNat, (ctTBp c (k + 1) - ctTBp c k).toNat)
    | none => (n - 1, 0, 1)

/-- A table over T_BP at a temperature, in 2^-32 of its unit. -/
def atTemp (c : Bytes) (f : Nat → Nat) (t : Int) : Nat :=
  let s := tempSeg c t
  if s.2.1 = 0 then f s.1 * 2 ^ 32 else (f s.1 * (s.2.2 - s.2.1) + f (s.1 + 1) * s.2.1) * 2 ^ 32 / s.2.2

/-- RT_TABLE at a temperature: 1/1,024 in 2^-32. -/
def rtAt (c : Bytes) (t : Int) : Nat := atTemp c (ctRt c) t

/-- OCV point k of the curve of DIR at a temperature, in 2^-32 of 100 µV. -/
def ocvPoint (c : Bytes) (charging : Bool) (t : Int) (k : Nat) : Nat := atTemp c (fun i => ctOcv c charging i k) t

/-- OCV(SOC, T, DIR) in 2^-32 of 100 µV. -/
def ocvOf (c : Bytes) (charging : Bool) (t : Int) (soc : Nat) : Int :=
  let k := ((List.range (ctNSoc c - 2)).filter (fun k => decide (ctSocBp c (k + 1) * socOne ≤ soc))).length
  let a := ocvPoint c charging t k
  let b := ocvPoint c charging t (k + 1)
  (a + (b - a) * (soc - ctSocBp c k * socOne) / (max 1 (ctSocBp c (k + 1) - ctSocBp c k) * socOne) : Nat)

/-- SOC(OCV, T, DIR), and U_o = OCV_SIGMA / s of its segment held to 100 %, both in 2^-48 of 0.01 % (R251, R256). -/
def socOf (c : Bytes) (charging : Bool) (t : Int) (ocv : Int) : Nat × Nat :=
  let k := ((List.range (ctNSoc c - 2)).filter (fun k => decide ((ocvPoint c charging t (k + 1) : Int) ≤ ocv))).length
  let a : Int := ocvPoint c charging t k
  let d := max 1 (ocvPoint c charging t (k + 1) - ocvPoint c charging t k)
  let w := ctSocBp c (k + 1) - ctSocBp c k
  let soc := (ctSocBp c k : Int) * socOne + (ocv - a) * w * socOne / d
  ((clampI 0 socFull soc).toNat, min socFull (ctSigma c * 2 ^ 32 * w * socOne / d))

/-! ### Resistances (R253, R265) -/

/-- Rx in 2^-16 µΩ. -/
def rxOf (c : Bytes) (x : Cell) : Nat := x.r * rtAt c x.temp / (1024 * 2 ^ 32)
/-- R1x and R2x from R1_NOM or R2_NOM, in 2^-16 µΩ. -/
def relaxR (c : Bytes) (x : Cell) (nom : Nat) : Nat := nom * x.r * rtAt c x.temp / (max 1 x.r0 * 1024 * 2 ^ 32)
/-- A resistance in 2^-16 µΩ times a current in mA, in 2^-32 of 100 µV. -/
def dropOf (r : Nat) (i : Int) : Int := divRound ((r : Int) * i * 65536) 100000
/-- Reff over the horizon, in 2^-16 µΩ (R265). -/
def reffOf (c : Bytes) (horizon : Nat) (x : Cell) : Nat :=
  rxOf c x + relaxR c x (ctR1 c) * (socOne - expNeg horizon (ctTau1 c)) / socOne
    + relaxR c x (ctR2 c) * (socOne - expNeg horizon (ctTau2 c)) / socOne
/-- E_i in 2^-32 of 100 µV (R265). -/
def emfOf (c : Bytes) (charging : Bool) (x : Cell) : Int := ocvOf c charging x.temp x.soc - x.v1 - x.v2

/-! ### Steps of one cell -/

/-- One 10 ms step of the relaxation voltages at a mean current in mA (R253). -/
def relaxStep (c : Bytes) (i : Int) (x : Cell) : Cell :=
  let go (v : Int) (tau nom : Nat) : Int :=
    let a := expNeg 1 (10 * tau)
    divRound (a * v + ((socOne - a : Nat) : Int) * dropOf (relaxR c x nom) i) socOne
  { x with v1 := go x.v1 (ctTau1 c) (ctR1 c), v2 := go x.v2 (ctTau2 c) (ctR2 c) }

/-- The growth of U by drift in one ledger period (R254). -/
def driftCell (drift : Nat) (x : Cell) : Cell := { x with u := min socFull (x.u + drift * socOne / 3600000000) }

/-- One counted ledger period: string current in mA and bleed current in 2^-16 mA (R254). -/
def countCell (countErr : Nat) (i : Int) (bleed : Nat) (x : Cell) : Cell :=
  let d := divRound ((i * 65536 + bleed) * 2 ^ 48) (360000 * max 1 x.q)
  { x with
    soc := (clampI 0 socFull (x.soc - d)).toNat, bleed := x.bleed + bleed
    u := min socFull (x.u + countErr * i.natAbs * 2 ^ 64 / (3600000000 * max 1 x.q)) }

/-- The fusion of R256: SOC and U of an estimate and an open-circuit value. -/
def fuseCell (so uo : Nat) (x : Cell) : Cell :=
  let n := x.u * x.u + uo * uo
  { x with
    soc := (x.soc * (uo * uo) + so * (x.u * x.u)) / max 1 n, u := x.u * uo / max 1 (isqrt n), socRest := so, uRest := uo
    bleed := 0 }

/-- Q_est in 2^-16 of 0.01 Ah from charge in 2^-16 mA ledger periods over a change of SOC in 2^-48 of 0.01 % (R260). -/
def qEst (charge drop : Int) : Int := if drop = 0 then 0 else
  if drop < 0 then divRound (-charge * 2 ^ 48) (360000 * drop.natAbs) else divRound (charge * 2 ^ 48) (360000 * drop.natAbs)

/-- R_est in 2^-16 µΩ of a voltage step in 100 µV over a current step in mA (R259). -/
def rEst (c : Bytes) (dv di : Int) (x : Cell) : Int :=
  let n := -dv * 100000 * 1024 * 65536 * 2 ^ 32
  if di < 0 then divRound (-n) (di.natAbs * max 1 (rtAt c x.temp)) else divRound n (max 1 di.natAbs * max 1 (rtAt c x.temp))

/-- The least and the greatest of a list, with their places; (0, 0) of an empty one. -/
def leastAt (l : List Nat) : Nat × Nat :=
  let m := l.foldl min (l.headD 0)
  (m, (l.findIdx? (· == m)).getD 0)
def greatestAt (l : List Nat) : Nat × Nat :=
  let m := l.foldl max 0
  (m, (l.findIdx? (· == m)).getD 0)

/-- Round to 0.01 %. -/
def socOut (v : Nat) : Nat := (v + socOne / 2) / socOne

/-- The current of a bound in 2^-16 mA: a margin in 2^-32 of 100 µV over a resistance in 2^-16 µΩ. -/
def boundI (margin : Int) (r : Nat) : Nat := if margin ≤ 0 then 0 else margin.toNat * 100000 / max 1 r

/-- DIS_LIM and CHG_LIM in W of a string's cells with their E and Reff, its current bounds in 2^-16 mA (R265). -/
def powerLimits (c : Bytes) (eta iDis iChg : Nat) (l : List (Int × Nat)) : Nat × Nat :=
  let i1 := l.foldl (fun m x => min m (boundI (x.1 - ctVMin c * 2 ^ 32) x.2)) iDis
  let i2 := l.foldl (fun m x => min m (boundI (ctVMax c * 2 ^ 32 - x.1) x.2)) iChg
  let v1 := (l.map (fun x => x.1 * 100000 - ((i1 * x.2 : Nat) : Int))).sum
  let v2 := (l.map (fun x => x.1 * 100000 + ((i2 * x.2 : Nat) : Int))).sum
  (i1 * v1.toNat * eta / (2 ^ 48 * 10 ^ 15), i2 * v2.toNat * 1000 / (max 1 eta * 2 ^ 48 * 10 ^ 12))

end Sys2Proof.Machine
end

