-- ==== Sys2Proof/Machine/MaqStore.lean ====
section
/-! DEFINITION. The learned-value store (R269 to R274): its placement, records, the winning slot and what is restored. -/

namespace Sys2Proof.Machine

/-! ### The learned-value store (R269 to R274) -/

def storeSlotBase (k : Nat) : Nat := k * 0x10000
def storeCommitBase (k : Nat) : Nat := storeSlotBase k + 0xF000
def payloadLen : Nat := 54180

/-- The serial number of a tile, where one of its ports has trained and read it (Table 4.18). -/
def knownSerial (s : State) (e : Bytes) : Option Nat := (tePorts e).findSome? (fun p => (s.port p).serial)

/-- TILE_SIG of a string (Table 9.6), where the serial numbers of all its tiles are known. -/
def tileSig (s : State) (b : Nat) : Option Nat :=
  let q := secs s
  let l := (List.range 256).filterMap (fun c => (cellTiles q b).find? (fun e => teFirstCell e == c))
  if l.all (fun e => (knownSerial s e).isSome) then
    some (crc32c (l.flatMap (fun e =>
      leBytes 8 ((knownSerial s e).getD 0) ++ leBytes 2 (teFirstCell e) ++ leBytes 1 (teCount e))))
  else none

/-- Round a fixed-point value to its unit, held to 16 bits. -/
def out16 (v unit : Nat) : Nat := min 65535 ((v + unit / 2) / unit)

/-- A stored cell record (Table 9.7). -/
def cellBytesOf (c : Cell) : Bytes :=
  leBytes 2 (out16 c.q 65536) ++ leBytes 2 (out16 c.r 65536) ++ leBytes 2 c.r0 ++ leBytes 2 (out16 c.soc socOne)
    ++ leBytes 2 (out16 c.u socOne) ++ leBytes 2 (out16 c.socRest socOne) ++ leBytes 2 (out16 c.uRest socOne)
    ++ leBytes 2 (min 65535 (c.bleed / (65536 * 360000000)))

/-- A stored string record (Table 9.6); VALID is 0 while a tile's serial number is unknown (assumption 17). -/
def stringBytesOf (s : State) (b : Nat) : Bytes :=
  let q := secs s
  if !(maqStrings q).contains b then zeros 32
  else
    let x := s.str b
    leBytes 1 b ++ leBytes 1 (flag (tileSig s b).isSome + 2 * flag x.charging) ++ leBytes 2 (msCells (mqString q b))
      ++ leBytes 4 ((tileSig s b).getD 0)
      ++ leBytes 4 x.lastRest ++ leInt 4 (clampI (-2147483648) 2147483647 (divRound x.ahSince 360000000)) ++ zeros 16

/-- A wear record (Table 7.5). -/
def wearBytes (w : Wear) : Bytes :=
  let st := match w.state with
    | .normal => 0
    | .warn => 1
    | .retirePending => 2
    | .retired => 3
    | .promoted => 4
  leBytes 8 w.serial ++ leBytes 1 w.slot ++ leBytes 1 w.stage ++ leBytes 1 st ++ leBytes 1 0 ++ leBytes 2 w.baseline
    ++ leBytes 2 w.present ++ leBytes 2 w.samples ++ leBytes 2 0 ++ leBytes 4 w.changed

/-- The wear record of a phase with the serial number of its tile, once that is known. -/
def wearNow (s : State) (p : Nat) : Wear :=
  let w := (s.ph p).wear
  match (phaseSeat (secs s) p).bind (fun x => knownSerial s x.1) with
  | some n => { w with serial := n }
  | none => w

/-- The payload of a store write (Table 9.5). -/
def storePayload (s : State) : Bytes :=
  let q := secs s
  let cells := (List.range 12).flatMap (fun b => (List.range 256).flatMap (fun i =>
    if (maqStrings q).contains b && decide (i < msCells (mqString q b)) then
      cellBytesOf (Tab.get {} (s.str b).cells i) else zeros 16))
  let body := ascii "LVST" ++ [1] ++ zeros 3 ++ leBytes 4 s.plinth.opSeconds ++ leBytes 4 s.plinth.powerCycles ++ zeros 16
    ++ (List.range 12).flatMap (stringBytesOf s) ++ cells
    ++ (List.range 192).flatMap (fun p => if phRole q p = 0 then zeros 24 else wearBytes (wearNow s p))
  body ++ leBytes 4 (crc32c body)

/-- The valid SEQUENCE of a slot's commit record (Table 9.4, R272). -/
def storeSeq (m : Flash) (k : Nat) : Option Nat :=
  let c := flashRead m (storeCommitBase k) 16
  if slice c 0 4 == ascii "LVCM" && u32 c 8 == payloadLen && u32 c 12 == crc32c (slice c 0 12)
      && within 1 0xFFFFFFFE (u32 c 4) then some (u32 c 4) else none

/-- A slot whose commit record and payload are valid. -/
def storeValid (m : Flash) (k : Nat) : Bool :=
  let b := flashRead m (storeSlotBase k) payloadLen
  (storeSeq m k).isSome && slice b 0 4 == ascii "LVST" && u32 b 54176 == crc32c (slice b 0 54176)

/-- The winning slot (R272). -/
def storeWinner (m : Flash) : Option Nat :=
  let a := if storeValid m 0 then storeSeq m 0 else none
  let b := if storeValid m 1 then storeSeq m 1 else none
  match a, b with
  | some x, some y => some (if y ≤ x then 0 else 1)
  | some _, none => some 0
  | none, some _ => some 1
  | none, none => none

/-- The payload a string or wear record is restored from. -/
def winningPayload (m : Flash) : Option Bytes := (storeWinner m).map (fun k => flashRead m (storeSlotBase k) payloadLen)

/-- A cell from image values (R272). -/
def imageCell (q : Secs) (b : Nat) : Cell :=
  let c := stringType q b
  { u := msUInit (mqString q b) * socOne, q := ctQ c * 65536, r := ctR0 c * 65536, r0 := ctR0 c, uRest := socFull }

/-- The cell of a stored record (Table 9.7). -/
def storedCell (e : Bytes) : Cell :=
  { q := u16 e 0 * 65536, r := u16 e 2 * 65536, r0 := max 1 (u16 e 4), soc := min socFull (u16 e 6 * socOne)
    u := min socFull (u16 e 8 * socOne), socRest := u16 e 10 * socOne, uRest := u16 e 12 * socOne
    bleed := u16 e 14 * 65536 * 360000000 }

/-- A string starts from its stored record or from image values (R252, R273). -/
def restoreString (p : Option Bytes) (b : Nat) (s : State) : State :=
  let q := secs s
  let n := msCells (mqString q b)
  let old := s.str b
  let keep (x : StringM) : StringM := { x with rate := old.rate, startPast := old.startPast, temps := old.temps }
  let fresh : StringM := { cells := (List.range n).map (fun i => (i, imageCell q b)) }
  match p with
  | none => s.setStr b (keep fresh)
  | some d =>
    let e := slice d (32 + 32 * b) 32
    if bit (u8 e 1) 0 && u8 e 0 == b && u16 e 2 == n && tileSig s b == some (u32 e 4) then
      s.setStr b (keep {
        cells := (List.range n).map (fun i => (i, storedCell (slice d (416 + 4096 * b + 16 * i) 16)))
        charging := bit (u8 e 1) 1, lastRest := u32 e 8, ahSince := i32 e 12 * 360000000 })
    else event 0x8A05 [b] (s.setStr b (keep fresh))

/-- The wear record of a phase from the store (R211). -/
def restoreWear (p : Option Bytes) (k : Nat) (s : State) : State :=
  let q := secs s
  match phaseSeat q k with
  | none => s
  | some (e, slot) =>
    let known := knownSerial s e
    let mine : Wear := { serial := known.getD 0, slot := slot, stage := phStage q k }
    let put (w : Wear) : State := s.setPh k { s.ph k with wear := w }
    match p with
    | none => event 0x8705 [k] (put mine)
    | some d =>
      let r := slice d (49568 + 24 * k) 24
      if known == some (u64 r 0) && u8 r 8 == mine.slot && u8 r 9 == mine.stage then
        let st : WearState := match u8 r 10 with
          | 1 => .warn
          | 2 => .retirePending
          | 3 => .retired
          | 4 => .promoted
          | _ => .normal
        let base := u16 r 12
        let now := u16 r 14
        let n := u16 r 16
        let g := mine.stage
        let past (limit : Nat) : Bool := base != 0 && decide (base * limit ≤ (now - base) * 100)
        put { mine with
          state := st, baseline := base, present := now, samples := n, changed := u32 r 20
          sum := if n < 1024 then now * n else 0
          warned := if st == .normal || st == .promoted then st == .promoted && past (stWearWarn q g) else true
          worn := if st == .retirePending || st == .retired then true else phRole q k == 2 && past (stWearRetire q g) }
      else event 0x8705 [k] (put mine)

/-- The strings and wear records before the store is read: image values (R272). -/
def initMaquette (s : State) : State :=
  let q := secs s
  let s := (maqStrings q).foldl (fun s b => s.setStr b
    { cells := (List.range (msCells (mqString q b))).map (fun i => (i, imageCell q b)) }) s
  (List.range 192).foldl (fun s k =>
    match phaseSeat q k with
    | some (e, slot) =>
      if phRole q k = 0 then s
      else s.setPh k { s.ph k with wear := { serial := (knownSerial s e).getD 0, slot := slot, stage := phStage q k } }
    | none => s) s

/-- BLOCK_RESET of Maquette: counting and model state come from the winning slot again, and no read has been made
(Table 12.3). -/
def maquetteReload (s : State) : State :=
  let p := if s.vitrine.mount == .mounted then winningPayload s.cs1 else none
  (maqStrings (secs s)).foldl (fun s b => restoreString p b s) s

/-- Strings and wear records take the values of the store (R273, R211). -/
def restoreStore (s : State) : State :=
  let q := secs s
  let p := winningPayload s.cs1
  let s := (maqStrings q).foldl (fun s b => restoreString p b s) s
  (List.range 192).foldl (fun s k => if phRole q k = 0 then s else restoreWear p k s) s

/-- Every tile that a string or a phase lies on has told its serial number. -/
def serialsKnown (s : State) : Bool :=
  let q := secs s
  (maqStrings q).all (fun b => (cellTiles q b).all (fun e => (knownSerial s e).isSome))
    && (List.range 192).all (fun k => phRole q k == 0 || (phaseSeat q k).all (fun x => (knownSerial s x.1).isSome))

/-- A restore that waits takes place once every serial number is known, and at its bound at the latest (R273). -/
def settleRestore (s : State) : State :=
  match s.maq.restoreBy with
  | none => s
  | some b =>
    if serialsKnown s || decide (b ≤ rackTime s) then restoreStore { s with maq := { s.maq with restoreBy := none } } else s

/-- The store as read at the mount (R272, R273, R211), before its faults: strings and wear records are restored within
100 ms; the slot to erase. -/
def readStore (s : State) : State :=
  let win := storeWinner s.cs1
  let s := settleRestore { s with maq := { s.maq with restoreBy := some (rackTime s + 100 * msTicks) } }
  let loser := [0, 1].filter (fun k =>
    win.isSome && win != some k && !flashBlank s.cs1 (storeSlotBase k) 0x10000 && (storeSeq s.cs1 k).isNone)
  { s with maq := { s.maq with
    mounted := true, barred := decide (800 < s.vitrine.programUs), eraseDue := loser.head? } }

/-- A store write is requested (R274, R211). -/
def requestStore (s : State) : State := { s with maq := { s.maq with requested := true } }

end Sys2Proof.Machine
end

