-- ==== Sys2Proof/Machine/Odometer.lean ====
section
/-! DEFINITION. The odometer (Tables 13.1 and 13.5, R386). -/

namespace Sys2Proof.Machine

/-- The two odometer sectors (Table 13.1). -/
def odoBase (i : Nat) : Nat := 0x20000 + 0x1000 * i

/-! ### Odometer (Table 13.5, R386, R387) -/

/-- An odometer entry's 64 bytes. -/
def odoBytes (s : State) (seq : Nat) : Bytes :=
  let p := s.plinth
  let b := ascii "ODOM" ++ leBytes 4 p.opSeconds ++ leBytes 4 p.powerCycles
    ++ (List.range 8).flatMap (fun i => leBytes 2 (Tab.get 0 p.resetCounts (i + 1))) ++ zeros 16
  let c := ascii "ODCM" ++ leBytes 4 seq ++ leBytes 4 48
  b ++ leBytes 4 (crc32c b) ++ c ++ leBytes 4 (crc32c c)

/-- An odometer entry is valid: both magics and CRCs, its length, its SEQUENCE in range. -/
def odoValid (e : Bytes) : Bool :=
  slice e 0 4 == ascii "ODOM" && u32 e 44 == crc32c (e.take 44) && slice e 48 4 == ascii "ODCM" && u32 e 56 == 48
    && within 1 0xFFFFFFFE (u32 e 52) && u32 e 60 == crc32c (slice e 48 12)

/-- The entries of both odometer sectors: sector, entry number, bytes. -/
def odoEntries (m : Flash) : List (Nat × Nat × Bytes) :=
  [0, 1].flatMap (fun d => (List.range 64).map (fun i => (d, i, flashRead m (odoBase d + 64 * i) 64)))

/-- The winning odometer entry: the valid one with the highest SEQUENCE. -/
def odoWinner (m : Flash) : Option (Nat × Nat × Bytes) :=
  ((odoEntries m).filter (fun e => odoValid e.2.2)).foldl
    (fun (best : Option (Nat × Nat × Bytes)) e =>
      match best with
      | none => some e
      | some b => if u32 b.2.2 52 < u32 e.2.2 52 then some e else best) none

/-- The next erased entry of a sector at or after entry `i`, searching `n` entries. -/
def odoFree (m : Flash) (d : Nat) : Nat → Nat → Option Nat
  | 0, _ => none
  | n + 1, i => if i < 64 && flashBlank m (odoBase d + 64 * i) 64 then some i else odoFree m d n (i + 1)

/-- An odometer entry is written into the next erased entry, or into the other sector once this one is full (R386). -/
def writeOdometer (s : State) : State :=
  let v := s.vitrine
  if v.mount != .mounted || s.pins.pwrFail then s
  else
    let seq := v.odoSeq + 1
    match odoFree s.cs1 v.odoSector 64 v.odoNext with
    | some i =>
      { s with
        cs1 := flashProgram s.cs1 (odoBase v.odoSector + 64 * i) (odoBytes s seq)
        vitrine := { v with odoNext := i + 1, odoSeq := seq, odoAt := s.plinth.opSeconds } }
    | none =>
      let d := 1 - v.odoSector
      { s with
        cs1 := flashProgram (flashErase s.cs1 (odoBase d) 4096) (odoBase d) (odoBytes s seq)
        vitrine := { v with odoSector := d, odoNext := 1, odoSeq := seq, odoAt := s.plinth.opSeconds } }

end Sys2Proof.Machine
end

