-- ==== Sys2Proof/Machine/PowerOps.lean ====
section
/-! DEFINITION. The Sequencer's turns that raise no fault (R277 to R279, R293, R294): requests, the start and end of a
power-up and of a power-down, margins given back. -/

namespace Sys2Proof.Machine

def State.setSeq (s : State) (x : Seq) : State := { s with seq := x }

/-- A power-up is in progress. -/
def poweringUp (s : State) : Bool :=
  match s.seq.phase with
  | .undischarged => true
  | .readWait => true
  | .issueDue => true
  | .stepWait => true
  | .upDue => true
  | _ => false

/-- A power-down is in progress. -/
def poweringDown (s : State) : Bool := s.seq.phase == .reverseDue || s.seq.phase == .downWait

/-- The strings whose STRING stage a step names and that have had no open-circuit read (R281). -/
def unreadStrings (s : State) (i : Nat) : List Nat :=
  ((stepStages (secs s) i).filter (fun g => stKind (secs s) g == 1)).filterMap (fun g =>
    let b := stString (secs s) g
    if (Tab.get {} s.maq.strings b).readDone then none else some b)

/-- Step i of a power-up is next: the read wait of R281, or its issue at the next ledger boundary. -/
def prepareStep (i : Nat) (s : State) : State :=
  s.setSeq { s.seq with
    phase := if (unreadStrings s i).isEmpty then .issueDue else .readWait, step := i, since := rackTime s, timedOut := 0 }

/-- A power-up starts from step i, fresh or from a turnaround (R278, R294, R297): event 0x8901. -/
def startUp (i : Nat) (s : State) : State :=
  let s := event 0x8901 [i] (s.setSeq { s.seq with flagged := 0, cause := 0, latched := false, timedOut := 0 })
  if i = 0 ∧ s.plinth.undischarged ≠ 0 then
    s.setSeq { s.seq with phase := .undischarged, step := 0, since := rackTime s }
  else prepareStep i s

/-- The power-up has passed its last step: RUN, event 0x8902 with the flagged count (R278, R279, R283). -/
def finishUp (s : State) : State :=
  let s := s.setSeq { s.seq with phase := .up }
  let s := { s with
    maq := { s.maq with savedAt := s.plinth.opSeconds, wearAt := s.plinth.opSeconds }
    balance := { s.balance with holdupUsed := false, exhausted := false } }
  let s := if s.mode = .standby then setMode .run s else if s.mode = .service then { s with under := .run } else s
  setCause 6 (event 0x8902 [(bitsOf 64 s.seq.flagged).length] s)

/-- Hold-up ends (R236, R238): event 0x8802; HOLDUP_REMAIN is 0 outside it (Table 8.8). -/
def endHoldup (s : State) : State :=
  if s.balance.holdup then
    event 0x8802 [] { s with balance := { s.balance with
      holdup := false, cur := { s.balance.cur with remain := 0 }, next := s.balance.next.map (fun n => { n with remain := 0 }) } }
  else s

/-- The power-down has completed (R279, R296): event 0x8904, STANDBY, the end of hold-up (R236). -/
def completeDown (s : State) : State :=
  let s := s.setSeq { s.seq with phase := .idle, cause := 0, latched := false, couplingHeld := false, guardSince := none }
  let s := setCause 6 (endHoldup (event 0x8904 [s.plinth.undischarged] s))
  let s := { s with
    balance := { s.balance with holdupUsed := false, exhausted := false }
    collector := { s.collector with safePowerDownOwed := false } }
  if s.mode = .run then setMode .standby s else if s.mode = .service then { s with under := .standby } else s

/-- A power-down begins with the reverse of step i (R279, R282, R286, R386, R274, R211): event 0x8903. -/
def beginDown (cause i : Nat) (s : State) : State :=
  let s := s.setSeq { s.seq with
    phase := .reverseDue, step := i, since := rackTime s, cause := cause, latched := false, timedOut := 0
    guardSince := none, couplingHeld := false, rails := s.seq.rails.map (fun r => (r.1, { r.2 with supervised := false })) }
  claspPowerDown (writeOdometer (requestStore (event 0x8903 [cause, i] s)))

/-- Nothing of the power-up has been issued: it ends; after a turnaround this is a power-down with nothing to reverse. -/
def dropUp (cause : Nat) (s : State) : State :=
  if rackUp s || s.mode == .safe && s.collector.enteredUp then
    completeDown (claspPowerDown (writeOdometer (requestStore (event 0x8903 [cause, 0] (s.setSeq { s.seq with cause := cause })))))
  else
    let s := s.setSeq { s.seq with phase := .idle, latched := false }
    { s with collector := { s.collector with safePowerDownOwed := false } }

/-- A cause of Table 10.1 comes (R279, R293). -/
def powerDown (cause : Nat) (s : State) : State :=
  let x := s.seq
  match x.phase with
  | .idle => s
  | .undischarged => dropUp cause s
  | .readWait => if x.step = 0 then dropUp cause s else beginDown cause (x.step - 1) s
  | .issueDue => if x.step = 0 then dropUp cause s else beginDown cause (x.step - 1) s
  | .stepWait => beginDown cause x.step s
  | .upDue => beginDown cause x.step s
  | .up => beginDown cause (sqStepCount (secs s) - 1) s
  | _ =>
    if x.cause < cause then
      let s := event 0x8903 [cause, x.step] (s.setSeq { x with cause := cause, latched := false })
      if x.latched then event 0x8906 [] s else s
    else s

/-- The pool covers the anchor load (R179, R278). -/
def poolCovers (s : State) : Bool :=
  decide (anchorLoad (secs s) ≤ 8 * (s.loops.engines.filter (fun e => e.2.state == 0)).length)

/-- An on request (R278, R294). An unenrolled chip, whose transmitters stay off, refuses it (R399), and so does one with
debug unlocked (R413). -/
def onRequest (s : State) : State :=
  if s.benra.debugUnlocked then s
  else if s.seq.phase = .idle then
    if s.mode = .standby ∧ s.collector.heldLevel = 0 ∧ s.pins.transmitters ∧ poolCovers s then startUp 0 s else s
  else if poweringDown s && s.seq.cause == 1 && !s.seq.latched then event 0x8905 [] (s.setSeq { s.seq with latched := true })
  else s

/-- An off request (R277, R293, R294). -/
def offRequest (s : State) : State :=
  if poweringDown s then
    if s.seq.latched then event 0x8906 [] (s.setSeq { s.seq with latched := false }) else s
  else powerDown 1 s

/-- The rails that follow a stage's margin are not supervised while it moves (R286). -/
def marginMoves (g : Nat) (s : State) : State :=
  ((rails (secs s)).filter (fun r => rlMargin (secs s) r == g)).foldl (fun s r =>
    s.setRail r { s.rail r with marginBusy := true }) s

/-- A stage's margin fraction is set: event 0x8907 with the stage and the steps (R299). -/
def setMargin (g : Nat) (steps : Int) (s : State) : State :=
  event 0x8907 [g, wrapBits 32 steps] (marginMoves g (s.setStage g { s.stage g with margin := steps }))

/-- The session's end takes every margin back (R300). -/
def releaseMargins (s : State) : State :=
  (declaredStages (secs s)).foldl (fun s g => if (s.stage g).margin = 0 then s else setMargin g 0 s) s

/-- The hold-up signal of Balance: HOLDUP_OPEN outputs stop, whatever the step, and the power-down runs (R289). -/
def holdupSignal (s : State) : State :=
  let s := (List.range 16).foldl (fun s k =>
    if kaOwner (secs s) k != 0 && kaHoldupOpen (secs s) k then stopKa k s else s) s
  powerDown 2 s

end Sys2Proof.Machine
end

