-- ==== Sys2Proof/Machine/LoopOps.lean ====
section
/-! DEFINITION. What one evaluation of a context computes (R149 to R170): its inputs, its law, its limits. -/

namespace Sys2Proof.Machine

/-! ### Inputs (R157, Table 1.5, Table 6.4) -/

/-- The control period of a context in ticks (Table 1.5). -/
def controlPeriod (q : Secs) (c : Nat) : Nat :=
  let r := lcRec q c
  if isPhaseCtx c then stPeriod q (phStage q c) / max 1 (ctxRate r) else ctxRate r * ledgerTicks

/-- A sample is VALID and no older than a limit. -/
def sampleFresh (s : State) (x : Sample) (limit : Nat) : Bool := x.valid && decide (rackTime s ≤ x.close + limit)

/-- A sample no older than a limit. -/
def freshSample (s : State) (x : Sample) (limit : Nat) : Option (Int × Int) :=
  if sampleFresh s x limit then some (x.value, 23) else none

/-- The value of a Balance quantity in force (Table 8.8). -/
def quantityFull (b : LedgerSet) (k : Nat) : Int :=
  if k < 12 then (Tab.get {} b.strings k).share
  else if k = 0x10 then b.supply
  else if k = 0x11 then b.absorb
  else if k = 0x12 then b.ext
  else if k = 0x13 then b.chopper
  else if k = 0x14 then b.traction
  else if k = 0x15 then b.regen
  else if k = 0x16 then b.energy
  else if k = 0x17 then b.remain
  else if within 0x100 0x13F k then (Tab.get {} b.stages (k - 0x100)).pb
  else if within 0x140 0x17F k then (Tab.get {} b.stages (k - 0x140)).capt
  else 0

/-- A Balance quantity as a mantissa. -/
def quantity (b : LedgerSet) (k : Nat) : Int := satM (quantityFull b k)

/-- The set-point input routed to a stage in a kind is at most 2 ledger periods old. -/
def setInputValue (s : State) (g kind : Nat) : Option Int :=
  match setInFor (secs s) g kind with
  | none => none
  | some k =>
    let x := Tab.get {} s.pave.setIns k
    if x.word.valid && decide (period s ≤ x.tag + 2) then some x.word.value else none

/-- The sum of a stage's working-phase currents, none while one is not valid or too old. -/
def stageIph (s : State) (g limit : Nat) : Option (Int × Int) :=
  let l := (workingPhases s g).map (fun p => freshSample s (s.sense p).i limit)
  if l.all (·.isSome) then some (satM ((l.filterMap id).map (·.1)).sum, 23) else none

/-- The evaluation interval of a stage context in ticks. -/
def stageInterval (q : Secs) (g : Nat) : Nat := ctxRate (lcRec q (stageCtx g)) * ledgerTicks

/-- The newest value of a selected source with its exponent, and whether it is VALID and young enough (R157, R23, Table
1.5). `use` is 1 where the selector is the FF input of a stage, which takes the FEEDFORWARD input. IMAGE_SETPOINT is
scaled by the TRIM input. -/
def selNewest (s : State) (c sel use : Nat) : (Int × Int) × Bool :=
  let q := secs s
  let i := selIndex sel
  let g := ctxStage q c
  let limit := 2 * controlPeriod q c
  let word (x : Sample) (limit : Nat) : (Int × Int) × Bool := ((x.value, 23), sampleFresh s x limit)
  match selKind sel with
  | 0 => ((0, 23), true)
  | 1 =>
    let v := ctxSetpoint (lcRec q c)
    let trim := ((setInFor q g 3).map (fun k => (s.setIn k).word.value)).getD 0
    ((divRound (v * (65536 + trim)) 65536, ctxSe (lcRec q c)), true)
  | 2 => word (s.sense i).i limit
  | 3 => word (s.sense i).v limit
  | 4 => word (s.sense i).t limit
  | 5 => word (Tab.get {} s.pave.ains i).word (max limit (2 * 2 ^ u8 (seAin q i) 1 * 25600))
  | 6 =>
    let x := s.ctx (stageCtx (i % 64))
    ((if bit i 6 then x.y1 else x.ySat, ctxRe (lcRec q (stageCtx (i % 64)))),
      x.evaluated && decide (rackTime s ≤ x.at_ + 2 * stageInterval q (i % 64)))
  | 7 =>
    let l := (workingPhases s i).map (fun p => (s.sense p).i)
    ((satM (l.map (·.value)).sum, 23), l.all (fun x => sampleFresh s x (2 * stageInterval q i)))
  | 8 =>
    let kind := if use = 1 then 2 else 1
    ((((setInFor q g kind).map (fun k => (s.setIn k).word.value)).getD 0, 23), (setInputValue s g kind).isSome)
  | 9 => ((quantity s.balance.cur i, 23), s.balance.cur.tag != 0 && decide (period s ≤ s.balance.cur.tag + 2))
  | 0xA =>
    let r := (s.str i).pub
    ((r.soc, 23), r.fresh && decide (rackTime s ≤ r.at_ + 50 * msTicks))
  | _ => ((0, 23), false)

/-- The newest value of a selected source with its exponent, none when it is too old or not VALID (R157, R23). -/
def selValue (s : State) (c sel use : Nat) : Option (Int × Int) :=
  let v := selNewest s c sel use
  if v.2 then some v.1 else none

/-- The set-point input behind a ramp's source has not grown old (Table 1.5); the coupling stage's base is Clasp's. -/
def setInputFresh (s : State) (g k : Nat) : Bool :=
  let q := secs s
  hasSec q tyCoupling && coStage q == g
    || (if k = 8 then (setInputValue s g 1).isSome else (setInFor q g 3).isNone || (setInputValue s g 3).isSome)

/-- REF of a context at SE_U: the ramp of its stage, its own stage's output shared among the active phases, or the source
itself (R157, R186, R190). -/
def refValue (s : State) (c : Nat) : Option (Int × Int) :=
  let q := secs s
  let r := lcRec q c
  let g := ctxStage q c
  let k := selKind (ctxRef r)
  if !isPhaseCtx c && (k == 1 || k == 8) then
    if !setInputFresh s g k then none else
    (s.stage g).ramp.map (fun v => (divRound (v * 2 ^ (23 - ctxSe r).toNat) (100 * 2 ^ (ctxSe r - 23).toNat), ctxSe r))
  else
    match selValue s c (ctxRef r) 0 with
    | none => none
    | some v =>
      if isPhaseCtx c && !stShared q g && ctxRef r == 0x6000 + g then
        let n := nAct s g
        if n = 0 then none
        else if v.2 ≤ ctxSe r then some (divRound v.1 (n * 2 ^ (ctxSe r - v.2).toNat), ctxSe r)
        else some (divRound (v.1 * 2 ^ (v.2 - ctxSe r).toNat) n, ctxSe r)
      else some v

/-- The inputs of one evaluation, each a mantissa at SE_U. -/
structure Inputs where
  ref : Int := 0
  fb : Int := 0
  u0 : Int := 0
  u1 : Int := 0
  u2 : Int := 0
  u3 : Int := 0
  /-- v_in and v_out of PREDICTIVE and of R204, in mV, and v_in's full scale. -/
  vin : Int := 0
  vout : Int := 0
  vinFull : Int := 0
  sat : Bool := false

/-- The full scale of a voltage source: V_GAIN of a phase, the gain of an AIN, the mantissa range of an output. -/
def fullScale (q : Secs) (sel : Nat) : Int :=
  match selKind sel with
  | 3 => spVGain (sePhase q (selIndex sel))
  | 5 => (i32 (seAin q (selIndex sel)) 4).natAbs
  | 6 => toExp 8388608 (ctxRe (lcRec q (stageCtx (selIndex sel % 64)))) 23
  | _ => 8388608

/-- The inputs of a context now, or the number of the first that is missing: 0 REF, 1 FB, 2 FF, 3 AUX0, 4 AUX1, 5 VIN_SRC. -/
def inputsOf (s : State) (c : Nat) : Inputs ⊕ Nat :=
  let q := secs s
  let r := lcRec q c
  let se := ctxSe r
  let pred := ctxForm r == 4
  let vsel := if pred then u16 (ctxBody r) 20 else ctxAux0 r
  match refValue s c, selValue s c (ctxFb r) 0, selValue s c (ctxFf r) 1, selValue s c (ctxAux0 r) 0,
      selValue s c (ctxAux1 r) 0, (if pred then selValue s c vsel 0 else some (0, 23)) with
  | none, _, _, _, _, _ => .inr 0
  | _, none, _, _, _, _ => .inr 1
  | _, _, none, _, _, _ => .inr 2
  | _, _, _, none, _, _ => .inr 3
  | _, _, _, _, none, _ => .inr 4
  | _, _, _, _, _, none => .inr 5
  | some a, some b, some f, some x, some y, some v =>
    let m (z : Int × Int) : Int := toExp z.1 z.2 se
    let vv := if pred then v else x
    .inl {
      ref := satM (m a), fb := satM (m b), u0 := satM (satM (m a) - satM (m b)), u1 := satM (m f), u2 := satM (m x)
      u3 := satM (m y), vin := toExp vv.1 vv.2 23, vout := toExp f.1 f.2 23, vinFull := fullScale q vsel
      sat := !([a, b, f, x, y].all (fun z => fitsM (m z))) || !fitsM (satM (m a) - satM (m b)) }

/-! ### Limits (R158, R219, Table 8.1) -/

/-- LO, HI of a context and whether the bound that adds to discharge is HI. -/
def limitsOf (s : State) (c : Nat) : Int × Int × Bool :=
  let q := secs s
  let r := lcRec q c
  let re := ctxRe r
  let lo := ctxOutMin r
  let hi := ctxOutMax r
  if isPhaseCtx c then (lo, hi, true)
  else
    let g := c - 0x100
    let kind := stKind q g
    if kind = 0 && g != baBus q then (lo, hi, true)
    else
      let b := Tab.get {} s.balance.cur.stages g
      let old := s.balance.cur.tag == 0 || decide (s.balance.cur.tag + 2 < period s)
      let sup : Int := if old then 0 else b.bSup
      let drw : Int := if old then 0 else b.bDrw
      let up := if kind = 2 ∨ kind = 5 then drw else sup
      let dn := if kind = 2 ∨ kind = 5 then sup else drw
      (max lo (-(toExp dn 23 re)), min hi (toExp up 23 re), kind != 3 && kind != 4)

/-- y limited to LO and HI (R158). -/
def limitY (l : Int × Int × Bool) (y : Int) : Int :=
  if l.2.1 < l.1 then (if l.2.2 then l.2.1 else l.1) else max l.1 (min l.2.1 y)

/-! ### Laws (R159 to R162) -/

/-- What a law answers. -/
structure Law where
  y : Int := 0
  ySat : Int := 0
  y1 : Int := 0
  i : Int := 0
  states : List Int := []
  ff : Int := 0
  u0 : Int := 0
  acc : Bool := false
  mant : Bool := false
  stateSat : Bool := false
  vinLow : Bool := false
  deriving Inhabited

/-- Form 1 with given inputs u0 and ff (R159), `base` added to y before the limits. `open_` is the published value while
the loop is open: the integrator then follows it (R169). -/
def lawPi (b : Bytes) (back : Bool) (re se ffExp : Int) (l : Int × Int × Bool) (i u0 ff base : Int) (open_ : Option Int) : Law :=
  let ce := i6 b 0
  let kp := i24 b 2
  let ki := i24 b 5
  let kff := i24 b 8
  let kaw := i24 b 11
  let a := ((({} : Acc).add (prod kff ff ce ffExp re)).add (prod kp u0 ce se re)).add (divRound i 2 + base * 8388608)
  let y := a.result
  let ys := open_.getD (limitY l y.1)
  let step := 2 * prod ki u0 ce se re
  let next :=
    match open_ with
    | some v => v * 16777216 - 2 * prod kp u0 ce se re - 2 * prod kff ff ce ffExp re
    | none =>
      if back then i + step + 2 * prod kaw (ys - y.1) ce re re
      else if (decide (l.2.1 < y.1) && decide (0 < u0)) || (decide (y.1 < l.1) && decide (u0 < 0)) then i
      else i + step
  let lo := if l.2.1 < l.1 then limitY l 0 else l.1
  let hi := if l.2.1 < l.1 then limitY l 0 else l.2.1
  { y := y.1, ySat := ys, i := clampI (lo * 16777216) (hi * 16777216) (satX next), ff := ff, u0 := u0
    acc := a.sat, mant := y.2, stateSat := !fitsX next }

/-- One biquad section: its output, its new states, saturation flags (R160). -/
def biquadSection (b : Bytes) (k : Nat) (w seW s1 s2 : Int) : Int × Int × Int × Bool × Bool × Bool :=
  let ce := i6 b (4 + 20 * k)
  let se := i6 b (5 + 20 * k)
  let co (j : Nat) : Int := i24 b (6 + 20 * k + 3 * j)
  let a := (({} : Acc).add (prod (co 0) w ce seW se)).add (divRound s1 2)
  let v := a.result
  let n1 := 2 * prod (co 1) w ce seW se + 2 * prod (co 3) v.1 ce se se + s2
  let n2 := 2 * prod (co 2) w ce seW se + 2 * prod (co 4) v.1 ce se se
  (v.1, satX n1, satX n2, a.sat, v.2, !fitsX n1 || !fitsX n2)

/-- The sections of a cascade in turn: the last output with its exponent, the new states, the flags. -/
def biquadRun (b : Bytes) : List Nat → Int × Int → List Int → (Int × Int) × List Int × (Bool × Bool × Bool)
  | [], w, _ => (w, [], (false, false, false))
  | k :: ks, w, st =>
    let r := biquadSection b k w.1 w.2 (st.getD (2 * k) 0) (st.getD (2 * k + 1) 0)
    let t := biquadRun b ks (r.1, i6 b (5 + 20 * k)) st
    (t.1, r.2.1 :: r.2.2.1 :: t.2.1, (r.2.2.2.1 || t.2.2.1, r.2.2.2.2.1 || t.2.2.2.1, r.2.2.2.2.2 || t.2.2.2.2))

/-- Form 2 (R160). -/
def lawBiquad (b : Bytes) (re se : Int) (l : Int × Int × Bool) (st : List Int) (u : Inputs) (base : Int) : Law :=
  let n := u8 b 0
  let r := biquadRun b (List.range n) (u.u0, se) st
  let ce := i6 b (4 + 20 * n)
  let a := ((({} : Acc).add (prod (i24 b (5 + 20 * n)) r.1.1 ce r.1.2 re)).add (prod (i24 b (8 + 20 * n)) u.u1 ce se re)).add
    (base * 8388608)
  let y := a.result
  let ys := limitY l y.1
  { y := y.1, ySat := ys, states := if ys = y.1 then r.2.1 else st, u0 := u.u0, ff := u.u1
    acc := a.sat || r.2.2.1, mant := y.2 || r.2.2.2.1, stateSat := ys = y.1 && r.2.2.2.2 }

/-- The sum of a row of coefficients against a vector, in accumulator steps. -/
def rowSum (b : Bytes) (off : Nat) (ce se re : Int) (v : List Int) (a : Acc) : Acc :=
  ((List.range v.length).zip v).foldl (fun a x => a.add (prod (i24 b (off + 3 * x.1)) x.2 ce se re)) a

/-- Form 3 (R161). -/
def lawState (b : Bytes) (re se : Int) (l : Int × Int × Bool) (st : List Int) (u : Inputs) (base : Int) : Law :=
  let nx := u8 b 0
  let nu := u8 b 1
  let ny := u8 b 2
  let sx := i6 b 6
  let ex := (List.range nx).map (fun k => st.getD k 0)
  let xs := ex.map upper
  let us := [u.u0, u.u1, u.u2, u.u3].take nu
  let oB := 8 + 3 * (nx * nx)
  let oW := oB + 3 * (nx * nu)
  let oC := oW + 3 * (nx * ny)
  let oD := oC + 3 * (ny * nx)
  let rowY (j : Nat) : Acc :=
    rowSum b (oD + 3 * (j * nu)) (i6 b 5) se re us (rowSum b (oC + 3 * (j * nx)) (i6 b 5) sx re xs {})
  let a0 := (rowY 0).add (base * 8388608)
  let y0 := a0.result
  let a1 := if ny = 2 then rowY 1 else {}
  let ys := limitY l y0.1
  let d := [ys - y0.1, 0].take ny
  let next := (List.range nx).map (fun k =>
    let ce := if k < 4 then i6 b 3 else i6 b 4
    let a := rowSum b (8 + 3 * (k * nx)) ce sx sx xs {}
    let a := rowSum b (oB + 3 * (k * nu)) ce se sx us a
    rowSum b (oW + 3 * (k * ny)) ce re sx d a)
  { y := y0.1, ySat := ys, y1 := a1.result.1, states := next.map (fun a => satX (2 * a.a)), u0 := u.u0, ff := u.u1
    acc := a0.sat || a1.sat || next.any (·.sat), mant := y0.2 || a1.result.2, stateSat := next.any (fun a => !fitsX (2 * a.a)) }

/-- v_out ÷ v_in at exponent `re` by the reciprocal unit, off by at most one step (R162), and VIN_LOW. -/
def ratioOf (u : Inputs) (re : Int) : Int × Bool :=
  if 100 * u.vin ≤ u.vinFull then (0, true)
  else
    let step : Int := (Config.reciprocalStep u.vin.toNat % 3 : Nat) - 1
    (satM (divRound (u.vout * 2 ^ (23 - re).toNat) (u.vin.toNat * 2 ^ (re - 23).toNat) + step), false)

/-- Form 4: the predicted current and its PI law (R162). -/
def lawPredictive (b : Bytes) (back : Bool) (re se : Int) (l : Int × Int × Bool) (i dPrev : Int) (u : Inputs) (base : Int)
    (open_ : Option Int) : Law :=
  let drop := satM (shiftI (dPrev * u.vin) (re - 23) - u.vout)
  let a := ({} : Acc).add (prod (i24 b 17) drop (i6 b 16) 23 se)
  let e := a.result
  let ip := satM (u.fb + e.1)
  let u0 := satM (u.ref - ip)
  let ratio := ratioOf u re
  let on := u8 b 22 == 1
  let r := lawPi b back re se (if on then re else se) l i u0 (if ratio.2 then 0 else if on then ratio.1 else u.u1) base open_
  { r with acc := r.acc || a.sat, mant := r.mant || e.2, vinLow := ratio.2 }

/-- u0 and ff as R159 will take them, before a law runs (R168, R204). -/
def piInputs (form : Nat) (b : Bytes) (re se dPrev : Int) (u : Inputs) : Int × Int × Int :=
  if form = 4 then
    let r := lawPredictive b false re se (0, 0, true) 0 dPrev u 0 none
    (r.u0, r.ff, if u8 b 22 == 1 then re else se)
  else (u.u0, u.u1, se)

/-- I for the start of a phase (R204): d0 less the proportional and feed-forward parts, clamped. -/
def startIntegrator (form : Nat) (track : Bool) (b : Bytes) (re se : Int) (l : Int × Int × Bool) (dPrev : Int) (u : Inputs) : Int :=
  let d0 := if track then (ratioOf u re).1 else 0
  let x := piInputs form b re se dPrev u
  let ce := i6 b 0
  clampI (l.1 * 16777216) (l.2.1 * 16777216)
    (d0 * 16777216 - 2 * prod (i24 b 2) x.1 ce se re - 2 * prod (i24 b 8) x.2.1 ce x.2.2 re)

end Sys2Proof.Machine
end

