-- ==== Sys2Proof/Machine/LoopRun.lean ====
section
/-! DEFINITION. Running one evaluation: coefficient sets taking effect (R167, R168, R170), the injection generator (R172),
the open and closing loop (R169, R170), the checks of R164. -/

namespace Sys2Proof.Machine

/-! ### Waveforms (R172) -/

/-- The terms of the sine series in 2^-40, from `k` on, `n` of them: x and x² in 2^-40. -/
def sineTerms (x2 : Int) : Nat → Nat → Int → Int
  | 0, _, _ => 0
  | n + 1, k, t => t - sineTerms x2 n (k + 2) (t * x2 / 1099511627776 / ((k + 1) * (k + 2) : Nat))

/-- sin of an angle in turns of 2^-40, in 2^-40. The series is taken on the first quarter turn. -/
def sineOf (p : Nat) : Int :=
  let q := p / 274877906944 % 4
  let r := p % 274877906944
  let a := if q % 2 = 0 then r else 274877906944 - r
  let x : Int := (a : Int) * 6908435305275 / 1099511627776
  let v := sineTerms (x * x / 1099511627776) 14 1 x
  if q < 2 then v else -v

/-- The next state of the 31-bit LFSR x^31 + x^28 + 1. -/
def lfsrNext (l : Nat) : Nat := (2 * l + ((l / 2 ^ 30 + l / 2 ^ 27) % 2)) % 2 ^ 31

/-- amplitude × waveform for an evaluation issued at rack time `t`. -/
def injectValue (table : Tab Int) (j : Inject) (t : Nat) : Int :=
  match j.wave with
  | 0 =>
    let turns := (t - j.start) * j.freq % 640000000000
    divRound (j.amplitude * sineOf (turns * 1099511627776 / 640000000000)) 1099511627776
  | 1 => if bit j.lfsr 30 then j.amplitude else -j.amplitude
  | _ => divRound (j.amplitude * Tab.get 0 table j.index) 8388608

/-- The injection into a context at an evaluation, with the generator. -/
def injectInto (s : State) (c : Nat) : Option Inject := s.loops.inject.filter (fun j => j.ctx == c)

/-- The generator after an evaluation; a TABLE played once ends (R173). -/
def injectStep (j : Inject) : Option Inject :=
  if j.wave = 1 then some { j with lfsr := lfsrNext j.lfsr }
  else if j.wave = 2 then if j.length ≤ j.index + 1 then none else some { j with index := j.index + 1 }
  else if j.wave = 3 then some { j with index := (j.index + 1) % max 1 j.length }
  else some j

/-! ### Coefficient sets -/

/-- A PI integrator when a new set first applies, in the terms of the previous evaluation (R168). -/
def adjustI (form : Nat) (re se : Int) (old new : Bytes) (x : Ctx) : Int :=
  let ffExp := if form = 4 ∧ u8 old 22 = 1 then re else se
  let d (off : Nat) (v e : Int) : Int :=
    2 * prod (i24 old off) v (i6 old 0) e re - 2 * prod (i24 new off) v (i6 new 0) e re
  x.i + d 2 x.u0Last se + d 8 x.ffLast ffExp

/-- The context with the newest set that applies to an evaluation starting in period `n` (R167, R170). -/
def takeSets (q : Secs) (c n : Nat) (x : Ctx) : Ctx :=
  let r := lcRec q c
  let img := ctxBody r
  let x := if x.mode == .closed then
      match x.pending with
      | some b => { x with body := some b, pending := none }
      | none => x
    else x
  match x.nextBody.find? (fun b => decide (b.1 < n)) with
  | some (_, b) =>
    let form := ctxForm r
    let i := if form = 1 ∨ form = 4 then adjustI form (ctxRe r) (ctxSe r) (x.body.getD img) b x else x.i
    { x with body := some b, nextBody := x.nextBody.filter (fun b => decide (n ≤ b.1)), i := i }
  | none => x

/-! ### One evaluation -/

/-- The law of a context run on its inputs: `open_` is the published value of an open loop. -/
def runLaw (q : Secs) (c : Nat) (x : Ctx) (u : Inputs) (l : Int × Int × Bool) (base : Int) (open_ : Option Int) : Law :=
  let r := lcRec q c
  let b := x.body.getD (ctxBody r)
  let re := ctxRe r
  let se := ctxSe r
  match ctxForm r with
  | 1 => lawPi b (ctxBackcalc r) re se se l x.i u.u0 u.u1 base open_
  | 4 => lawPredictive b (ctxBackcalc r) re se l x.i x.ySat u base open_
  | 2 => lawBiquad b re se l x.states u base
  | _ => lawState b re se l x.states u base

/-- The FEEDFORWARD input of a stage whose law does not select it itself: its value at RE, none while it is too old. -/
def feedForward (s : State) (c : Nat) : Option Int :=
  let q := secs s
  let r := lcRec q c
  if isPhaseCtx c || selKind (ctxFf r) == 8 || (setInFor q (c - 0x100) 2).isNone then some 0
  else (setInputValue s (c - 0x100) 2).map (fun v => toExp v 23 (ctxRe r))

/-- What a form without an integrator publishes, before the limits, while its loop closes (R170). -/
def ramped (q : Secs) (x : Ctx) (y : Int) : Int :=
  if x.closeK = 0 then y else x.closeFrom + divRound (x.closeK * (y - x.closeFrom)) (lcCloseRamp q)

/-- The value a capture selector shows: the newest, whatever its age (R174). -/
def captureSel (s : State) (c sel : Nat) : Int := (selNewest s c sel 0).1.1

/-- The current samples an evaluation stands for (R199): its phase's, and in SHARED those of every active phase. -/
def flightCurs (s : State) (c : Nat) : Tab Int :=
  if !isPhaseCtx c then []
  else
    let g := phStage (secs s) c
    (if stShared (secs s) g then activePhases s g else [c]).map (fun p => (p, (s.sense p).i.value))

/-- An evaluation that starts now (R148): the context it will write back, what it publishes and how it was checked. -/
def evaluate (d : Due) (engine update : Nat) (s : State) : Flight :=
  let q := secs s
  let c := d.ctx
  let r := lcRec q c
  let g := ctxStage q c
  let cur := s.ctx c
  let x := takeSets q c (period s) cur
  let sel := if s.loops.capture.ctx = c then s.loops.capture.signals.map (fun g => captureSel s c g.2) else []
  let f : Flight :=
    { due := d, engine := engine, issued := rackTime s, update := update, result := x, sel := sel, curs := flightCurs s c,
      iph := if isPhaseCtx c then none else (stageIph s g (2 * stageInterval q g)).map (·.1)
      mode := cur.mode, closeK := cur.closeK, tookPending := cur.mode == .closed && cur.pending.isSome }
  match inputsOf s c, feedForward s c with
  | .inr k, _ => { f with stale := some k, result := { x with stale := true } }
  | .inl _, none => { f with stale := some 2, result := { x with stale := true } }
  | .inl u, some ff =>
    let x := if cur.clearDue then { x with i := 0, states := [] } else x
    let j := injectInto s c
    let v := (j.map (fun j => injectValue s.loops.table j (rackTime s))).getD 0
    let at_ (k : Nat) : Int := if j.any (fun j => j.point == k) then v else 0
    let u := { u with ref := satM (u.ref + at_ 0), fb := satM (u.fb + at_ 1) }
    let u := { u with u0 := satM (u.ref - u.fb) }
    let l := limitsOf s c
    let body := x.body.getD (ctxBody r)
    let x := if x.trackDue then
        { x with i := startIntegrator (ctxForm r) (stTrackStart q g) body (ctxRe r) (ctxSe r) l x.ySat u }
      else x
    let held :=
      match x.mode with
      | .closed => none
      | .hold => some x.ySat
      | .manual => some x.manual
    let w := runLaw q c x u l (ff + at_ 2) (held.map (limitY l))
    let plain := ctxForm r = 1 ∨ ctxForm r = 4
    let want := held.getD (if plain then w.y else ramped q x w.ySat)
    let out := limitY l want
    let mant := w.mant || u.sat
    let moved := x.evaluated && ctxPlaus r != 24 && decide (2 ^ ctxPlaus r < (out - x.ySat).natAbs)
    let res := { x with
      y := w.y, ySat := out, y1 := w.y1, i := w.i, states := w.states, u0Last := w.u0, ffLast := w.ff
      outSat := decide (out ≠ want) || (held.isNone && decide (w.ySat ≠ w.y)), stale := false, vinLow := w.vinLow, accSat := w.acc, mantSat := mant
      stateSat := w.stateSat, evaluated := true
      closeK := if x.closeK = 0 ∨ lcCloseRamp q ≤ x.closeK then 0 else x.closeK + 1 }
    { f with
      result := res, u0 := w.u0, inj := v, injExp := if j.any (fun j => j.point == 2) then ctxRe r else ctxSe r
      tookClear := cur.clearDue, tookTrack := cur.trackDue
      checks := flag (w.acc || mant) + 2 * flag moved + 4 * flag (x.stateSat && w.stateSat) }

/-- The context after an evaluation completes: what the law wrote, over what changed meanwhile (R148). A loop closed
while the evaluation was in flight begins its close at the next one, from the output this one publishes (R170). -/
def writeBack (f : Flight) (n at_ : Nat) (cur : Ctx) : Ctx :=
  let r := f.result
  let old := f.stale.isSome
  { cur with
    y := r.y, ySat := r.ySat, y1 := r.y1, i := r.i, states := r.states, u0Last := r.u0Last, ffLast := r.ffLast
    outSat := r.outSat, stale := r.stale, vinLow := r.vinLow, accSat := r.accSat, mantSat := r.mantSat
    stateSat := r.stateSat, evaluated := r.evaluated, evals := (cur.evals + 1) % 2 ^ 32, lastIssue := f.issued
    at_ := if old then cur.at_ else at_, tag := if old then cur.tag else at_ / ledgerTicks, body := r.body
    pending := if f.tookPending then none else cur.pending
    nextBody := cur.nextBody.filter (fun b => decide (n ≤ b.1))
    closeK := if f.mode == .closed && cur.mode == .closed && cur.closeK == f.closeK then r.closeK else cur.closeK
    iph := match f.iph with
      | some i => some (at_ / ledgerTicks, i)
      | none => cur.iph
    closeFrom := if f.mode != .closed && cur.mode == .closed then r.ySat else cur.closeFrom
    clearDue := cur.clearDue && !f.tookClear, trackDue := cur.trackDue && !f.tookTrack }

end Sys2Proof.Machine
end

