-- ==== Sys2Proof/Machine/StageOps.lean ====
section
/-! DEFINITION. Acts on loops, injections and stages that raise no fault: closing loops (R170, R171), stopping an injection
(R173), starting and stopping a stage (R187, R188), the carrier grid (R191, R192), captures ended or triggered (R175). -/

namespace Sys2Proof.Machine

/-! ### Injection and capture -/

/-- Causes of event 0x8602 (R173) in the order listed there. -/
def injStop : Nat := 1
def injEnd : Nat := 2
def injSession : Nat := 3
def injSafe : Nat := 4
def injFault : Nat := 5

/-- The injection stops (R173). -/
def stopInject (cause : Nat) (s : State) : State :=
  match s.loops.inject with
  | none => s
  | some _ => event 0x8602 [cause] { s with loops := { s.loops with inject := none } }

/-- The trigger of a capture comes (R174, R175). -/
def triggerCapture (s : State) : State :=
  let k := s.loops.capture
  if k.state = 1 then
    { s with loops := { s.loops with capture := { k with
        state := 2, trigTime := rackTime s, trigIndex := min k.pre k.samples.length
        samples := k.samples.take k.pre, count := min k.pre k.samples.length } } }
  else s

/-- A capture armed or running stops (R175): causes 1 full, 2 CAPTURE_ABORT, 3 SAFE. -/
def stopCapture (cause : Nat) (s : State) : State :=
  let k := s.loops.capture
  if k.state = 1 ∨ k.state = 2 then
    setCause 5 { s with loops := { s.loops with capture := { k with
        state := if cause = 1 then 3 else 4, stopCause := cause, count := k.samples.length } } }
  else s

/-! ### Loops -/

/-- Causes of event 0x8603: LOOP_OPEN, LOOP_CLOSE, the session's end, a stop of the stage (R171). -/
def loopOpened : Nat := 1
def loopClosed : Nat := 2
def loopSession : Nat := 3
def loopStopped : Nat := 4

/-- A loop closes (R170). -/
def closeLoop (c cause : Nat) (s : State) : State :=
  let x := s.ctx c
  if x.mode == .closed then s
  else
    let form := ctxForm (lcRec (secs s) c)
    event 0x8603 [c, cause] (s.setCtx c { x with
      mode := .closed, cells := none, closeK := if form = 2 ∨ form = 3 then 1 else 0, closeFrom := x.ySat })

/-- The contexts now open. -/
def openLoops (s : State) : List Nat := (s.loops.ctxs.filter (fun x => x.2.mode != .closed)).map (·.1)

/-- A session's end closes every open loop and stops the injection (R171, R173). -/
def closeLoops (s : State) : State :=
  stopInject injSession ((openLoops s).foldl (fun s c => closeLoop c loopSession s) s)

/-- The states of a context are to be 0 at its stage's next start, whatever an evaluation still in flight read (R171). -/
def owesClear (c : Nat) (s : State) : State :=
  let mark (f : Flight) : Flight := if f.due.ctx == c then { f with tookClear := false } else f
  let s := { s with loops := { s.loops with flights := s.loops.flights.map mark } }
  s.setCtx c { s.ctx c with clearDue := true }

/-- The open loops of a stage close, their states 0 at its next start (R171, R188). -/
def closeStageLoops (g : Nat) (s : State) : State :=
  ((openLoops s).filter (fun c => ctxStage (secs s) c == g)).foldl (fun s c => owesClear c (closeLoop c loopStopped s)) s

/-! ### Carriers (R191, R192) -/

/-- The interleave seat of a phase: the phase whose rank or offset it holds (R213). -/
def seatOf (s : State) (p : Nat) : Nat := (s.ph p).seat.getD p

/-- The active phases of a stage in the order of their seats. -/
def seatOrder (s : State) (g : Nat) : List Nat :=
  let l := activePhases s g
  (List.range 192).filterMap (fun k => l.find? (fun p => seatOf s p == k))

/-- O_p (R191). -/
def gridOffset (s : State) (g p : Nat) : Nat :=
  let q := secs s
  let t := max 1 (stPeriod q g)
  let r :=
    if stFixed q g then phOffset q (seatOf s p)
    else
      let l := seatOrder s g
      match l.findIdx? (· == p) with
      | some i => (divRound ((i * t : Nat) : Int) (max 1 l.length)).toNat
      | none => 0
  (stOffset q g + r) % t

/-- The first instant at or after `a` on a grid. -/
def onGrid (a t o : Nat) : Nat := a + (o + t - a % t) % t

/-- The first carrier period of a phase from an instant on, its evaluations all after now. -/
def firstCarrier (s : State) (g p from_ : Nat) : Nat :=
  onGrid (max from_ (rackTime s + 16640 + 2560 * spOsr (sePhase (secs s) p))) (max 1 (stPeriod (secs s) g)) (gridOffset s g p)

/-- The start of the carrier period after the one from `a`: on the grid in force, or, where a period ends in or after the
ledger period of a new offset, the first instant from its end on the new grid (R192). -/
def carrierNext (q : Secs) (g : Nat) (x : Phase) (a : Nat) : Nat :=
  let t := max 1 (stPeriod q g)
  match x.newOffset with
  | some (n, o) => onGrid (a + t) t (if n * ledgerTicks ≤ a + t then o else x.offset)
  | none => onGrid (a + t) t x.offset

/-- The first tick of the next ledger period. -/
def nextLedger (s : State) : Nat := (period s + 1) * ledgerTicks

/-- New offsets of a stage's phases, in force from the next ledger period: a carrier period that starts in it or later moves
to the new grid (R192). -/
def respread (g : Nat) (s : State) : State :=
  (activePhases s g).foldl (fun s p =>
    let o := gridOffset s g p
    let x := s.ph p
    let t := max 1 (stPeriod (secs s) g)
    if x.nextS.isSome && (x.newOffset.map (·.2)).getD x.offset != o then
      s.setPh p { x with
        newOffset := some (period s + 1, o), nextS := x.nextS.map (fun a => if nextLedger s ≤ a then onGrid a t o else a) }
    else s) s

/-- A stage whose context's REF_SRC is IMAGE_SETPOINT or INPUT_FED has a ramp; any other takes REF directly, and its
TARGET_REACHED is 1 while it is RUNNING (R190). -/
def hasRamp (q : Secs) (g : Nat) : Bool :=
  selKind (ctxRef (lcRec q (stageCtx g))) == 1 || selKind (ctxRef (lcRec q (stageCtx g))) == 8

/-- A phase begins to switch under tracking start (R204), in its first carrier period from `from_` on (R202). -/
def beginPhase (g p from_ : Nat) (s : State) : State :=
  let x := s.ph p
  let q := secs s
  let s := s.setPh p { x with
    tracking := true, trackPulses := 0, aboveRun := 0, trim := 0, trimSince := none, acc := 0, offset := gridOffset s g p
    newOffset := none, nextS := some (firstCarrier s g p from_), curS := none, lastOff := none, missedRun := 0
    trail := if x.trail = 0 then stDtMax q g else x.trail }
  s.setCtx p { s.ctx p with trackDue := true }

/-! ### Starting and stopping (R187, R188) -/

/-- The slots of a tile that carry a working phase of a stage. -/
def workingSlots (s : State) (g : Nat) (e : Bytes) : List Nat :=
  ((teSlots e).filter (fun x => works s x.2 && phStage (secs s) x.2 == g)).map (·.1)

/-- The slots of a port that report DESAT, LOCAL_OC or PROT_LATCH, among those given. -/
def latchedSlots (x : TPort) (l : List Nat) : Nat := maskOf (l.filter (fun n => Tab.get 0 x.slotStatus n % 8 != 0))

/-- ALL_CLEAR to the tiles that carry a working phase of a stage (R108), and the SLOT_CLEAR that follows it owed to the
slots that are latched (R476). -/
def clearTilesOf (g : Nat) (s : State) : State :=
  ((tmEntries (secs s)).filter (fun e => !(workingSlots s g e).isEmpty)).foldl (fun s e =>
    match activePort s e with
    | some t =>
      let x := s.port t
      startClear t (s.setPort t { x with slotClear := x.slotClear ||| latchedSlots x (workingSlots s g e) })
    | none => s) s

/-- A stage that a safe level covers (R189). -/
def covered (s : State) (g : Nat) : Bool := bit s.collector.forcedStages g || bit s.collector.s1Stages g

/-- A start request (R187): nothing for a stage that is not STOPPED or is covered by a level. -/
def startStage (g : Nat) (s : State) : State :=
  let x := s.stage g
  let q := secs s
  if x.mode != .stopped || covered s g || !stageDeclared q g then s
  else
    let s := s.setStage g { x with
      mode := if stKind q g = 0 then .running else .starting, startAt := rackTime s, steadyAt := rackTime s, ramp := none
      base := none, reached := stKind q g == 0 && !hasRamp q g, tracking := stTrackMode q g != 0, shedSince := none, quietSince := none, quiet := false
      holdupNamed := false, master := none }
    let s := (workingPhases s g).foldl (fun s p => s.setPh p { s.ph p with shed := false }) s
    let s := { s with maq := { s.maq with strings := s.maq.strings.map (fun x =>
      if stringStage q x.1 == some g then (x.1, { x.2 with startPast := true }) else x) } }
    let s := (activePhases s g).foldl (fun s p => beginPhase g p 0 s) s
    clearTilesOf g s

/-- The end of an induced rest (R240, R241): event 0x8804 with causes 0 COMPLETE, 1 ABORTED, 2 HOLDUP, 3 STOPPED; a
completed rest clears NO_REST. -/
def endRest (cause : Nat) (s : State) : State :=
  match s.balance.rest with
  | none => s
  | some r =>
    let upd (x : BalString) : BalString :=
      if cause = 0 then { x with lastRest := some (rackTime s), noRest := false }
      else x
    event 0x8804 [r.string, cause] { s with balance := { s.balance with
      rest := none, strings := Tab.upd {} s.balance.strings r.string upd } }

/-- The end of a phase's switching: one OFF_AT after the last pulse handed to the framer (R188). -/
def endPhase (p : Nat) (s : State) : State :=
  let x := s.ph p
  let q := secs s
  let d := if x.dtLead = 0 then stDtMin q (phStage q p) else x.dtLead
  let s := pushOff p (x.busyEnd + 8 * d) s
  s.setPh p { s.ph p with nextS := none, acc := 0, newOffset := none, lastOff := none, awaiting := [], trimSince := none }

/-- Event 0x8702 with the stage, the episode's duration in µs and its exit cause (R206): 1 FB fell, 2 currents at zero,
3 BRAKE_MAX_TIME, 4 a stop or the crowbar. -/
def brakeEvent (g cause : Nat) (s : State) : State :=
  event 0x8702 [g, (rackTime s - (s.stage g).brakeSince) / usTicks, cause] s

/-- A stop cause (R188). A CROWBAR is left only by its release (Table 7.2). -/
def stopStage (g : Nat) (s : State) : State :=
  let q := secs s
  let x := s.stage g
  if x.mode == .stopped || x.mode == .crowbar then s
  else
    let s := if x.mode == .braking then brakeEvent g 4 s else s
    let x := { x with margin := 0, marginUsed := 0 }
    let s := s.setStage g { x with mode := .stopped, ramp := none, reached := false, tracking := false, shedSince := none }
    let s := (availPhases s g).foldl (fun s p => endPhase p s) s
    let s := closeStageLoops g s
    let s := if hasSec q tyCoupling && coStage q == g then claspStageStopped s else s
    match s.balance.rest with
    | some r => if stringStage (secs s) r.string == some g then endRest 3 s else s
    | none => s

end Sys2Proof.Machine
end

