-- ==== Sys2Proof/Machine/RackOps.lean ====
section
/-! DEFINITION. The acts of the rack's units that the fault collector and the trust core call on. -/

namespace Sys2Proof.Machine

/-- A stop cause for every stage of a mask (R188, R189). -/
def stopStages (mask : Nat) (s : State) : State := (bitsOf 64 mask).foldl (fun s g => stopStage g s) s

/-- Every stage of a mask is STOPPED (R351). -/
def stagesStopped (mask : Nat) (s : State) : Bool := (bitsOf 64 mask).all (fun g => (s.stage g).mode == .stopped)

/-- The faults whose payload is a context, and those whose payload is a stage (R173). -/
def contextFaults : List Nat := [0x0603, 0x0605, 0x0606, 0x0C06]
def stageFaults : List Nat := [0x0704, 0x0708, 0x0801, 0x0805, 0x0C07, 0x0C08]

/-- A fault assertion seen by the capture unit and the injection generator (R173, R174). -/
def captureFault (code : Nat) (payload : Bytes) (s : State) : State :=
  let k := s.loops.capture
  let s := if k.state = 1 && k.trigger == 2 && k.faultCode == code then triggerCapture s else s
  match s.loops.inject with
  | none => s
  | some j =>
    if contextFaults.contains code && u32 payload 0 == j.ctx
        || stageFaults.contains code && u32 payload 0 == ctxStage (secs s) j.ctx then stopInject injFault s
    else s

/-- Entry to SAFE stops the capture and the injection (R173, R175). -/
def captureSafe (s : State) : State := stopInject injSafe (stopCapture 3 s)

/-- A crowbar of a stage is released once 0x0502 of its scope clears (R208): it goes to STOPPED with one OFF_AT per phase
(Table 7.2). -/
def crowbarClear (scope : Nat) (s : State) : State :=
  (declaredStages (secs s)).foldl (fun s g =>
    let sc := match (guardedStages (secs s)).findIdx? (· == g) with
      | some k => k + 1
      | none => 0
    if (s.stage g).mode == .crowbar && sc == scope then
      let s := (availPhases s g).foldl (fun s p => endPhase p s) s
      s.setStage g { s.stage g with mode := .stopped, crowbarFrame := none }
    else s) s

end Sys2Proof.Machine
end

