-- ==== Sys2Proof/Machine/FaultOps.lean ====
section
/-! DEFINITION. Shared acts of the fault collector (chapter 12): asserting an input and applying its reaction, forcing the
safe levels, entering SAFE, resetting the chip, and clearing. -/

namespace Sys2Proof.Machine

/-! ### Entries -/

/-- The FAULTS entry that binds a code and scope, as its 16 bytes. -/
def entryOf (s : State) (code scope : Nat) : Option Bytes :=
  (faultIndex (secs s) code scope).map (faEntry (secs s))

/-- The reaction in force for an input (R350, R349, Table 12.2): FAULT_PIN only before activation; 0x78 for an entry with
a parity error. -/
def reactionOf (s : State) (code scope : Nat) : Nat :=
  if !isLive s then 0x10
  else
    match faultIndex (secs s) code scope with
    | none => 0x10
    | some e => if s.collector.parityBad.contains e then 0x78 else u8 (faEntry (secs s) e) 3

/-- SAFE_LEVEL of a reaction. -/
def levelOf (r : Nat) : Nat := r / 32 % 4

/-- The S1 set in force for an input (R349: empty after a parity error). -/
def s1SetOf (s : State) (code scope : Nat) : Nat :=
  match faultIndex (secs s) code scope with
  | none => 0
  | some e => if s.collector.parityBad.contains e then 0 else u64 (faEntry (secs s) e) 8

/-- CLEAR_MODE of an entry: 0 AUTO, 1 HOST, 2 RESTART. -/
def clearModeOf (s : State) (code scope : Nat) : Nat :=
  match entryOf s code scope with
  | some e => u8 e 5
  | none => 1

/-- The code and scope an input number stands for. -/
def keyCode (k : Nat) : Nat := k / 8
def keyScope (k : Nat) : Nat := k % 8

/-- The latched inputs, by code and scope. -/
def latchedInputs (s : State) : List (Nat × Nat) :=
  (s.collector.inputs.filter (fun p => p.2.latched)).map (fun p => (keyCode p.1, keyScope p.1))

/-- FAULT_N is low (R345, R77, Table 3.8): in reset, in BOOT without an image, or while a latched input has FAULT_PIN. -/
def faultNLow (s : State) : Bool :=
  s.phase == .inReset || bootHeld s || (latchedInputs s).any (fun x => bit (reactionOf s x.1 x.2) 4)

/-- The scope of a fault of a stage: Gk as k + 1 for a guarded stage, NG as 0 otherwise (R343). -/
def stageScope (s : State) (sg : Nat) : Nat :=
  match (guardedStages (secs s)).findIdx? (· == sg) with
  | some k => k + 1
  | none => 0

/-- The scope of a fault of a phase (R343). -/
def phaseScope (s : State) (ph : Nat) : Nat :=
  if phRole (secs s) ph = 0 then 0 else stageScope s (phStage (secs s) ph)

/-- The scope of a fault of a port: the lowest-numbered guarded stage its phase tile carries (R343). -/
def portScope (s : State) (p : Nat) : Nat :=
  match tileOfPort (secs s) p with
  | none => 0
  | some e =>
    if teIsPhase e then ((guardedStages (secs s)).findIdx? (fun g => (teStages (secs s) e).contains g)).elim 0 (· + 1)
    else 0

/-! ### Safe-state levels (R351 to R357) -/

/-- The ports S2 forces for scope NG: every declared port except those of tiles that carry a guarded stage (R352). -/
def unguardedPorts (q : Secs) : Nat :=
  maskOf ((declaredPorts q).filter (fun p => !((tileOfPort q p).any (teGuarded q))))

/-- The ports of every tile that carries a phase of a stage (R354). -/
def portsOfStage (q : Secs) (sg : Nat) : Nat :=
  maskOf (((tmEntries q).filter (fun e => (teStages q e).contains sg)).flatMap tePorts)

/-- The stages that the given forced ports latch off. -/
def stagesOnPorts (q : Secs) (mask : Nat) : Nat :=
  maskOf (((tmEntries q).filter (fun e => (tePorts e).any (bit mask))).flatMap (teStages q))

/-- The ports an input of a level and scope forces (R352 to R354). -/
def forcedBy (q : Secs) (level scope : Nat) : Nat :=
  if level < 2 then 0
  else unguardedPorts q |||
    (if scope = 0 then 0 else
      match (guardedStages q)[scope - 1]? with
      | some g => portsOfStage q g
      | none => 0)

/-- The stages S2 and S3 stop: every stage that is not guarded, and those of the forced ports (R352, R354). -/
def stoppedBy (q : Secs) (level scope : Nat) : Nat :=
  if level < 2 then 0
  else maskOf ((declaredStages q).filter (fun g => !stGuarded q g)) ||| stagesOnPorts q (forcedBy q level scope)

/-- A port taken by its all-off generator: the frame in progress is cut short and K28.3 follows, entries and the release in
progress are lost, and frames resume with OFF_HOLD 1 (R102). -/
def forceLane (p : Nat) (s : State) : State :=
  let x := s.port p
  State.setPort { s with pins := { s.pins with allOff := s.pins.allOff ||| 1 <<< p } } p
    (cutLine (field x.tx 2 7 * frameTicks) (rackTime s) { x with entries := [], clear := none, offHold := true })

/-- The lanes of a mask forced (R102). -/
def forceLanes (mask : Nat) (s : State) : State := (bitsOf 52 mask).foldl (fun s p => forceLane p s) s

/-- A safe level is applied (R351 to R355): the held level rises, the forced ports grow, the keep-alives go static at S3,
and the stages receive their stop cause. -/
def applyLevel (level scope s1 : Nat) (s : State) : State :=
  let q := secs s
  let c := s.collector
  let mask := forcedBy q level scope
  let stop := stoppedBy q level scope
  let s := { s with collector := { c with
    heldLevel := max c.heldLevel level, forcedPorts := c.forcedPorts ||| mask
    forcedStages := c.forcedStages ||| stop, s1Stages := c.s1Stages ||| s1
    s1Due := if level = 1 then some (c.s1Due.getD 0 ||| s1) else c.s1Due } }
  let s := forceLanes (mask &&& (0xFFFFFFFFFFFFF ^^^ c.forcedPorts)) s
  let s := stopStages stop s
  let s := if level = 1 then (bitsOf 64 s1).foldl (fun s g => closeStageLoops g s) s else s
  if level = 3 then kaAllLow s else s

/-- The cause numbers of a power-down (Table 10.1). -/
def causeOff : Nat := 1
def causeHoldup : Nat := 2
def causeSafe : Nat := 3
def causeClear : Nat := 4

/-- The session ends (R411): its margins, loops and injections go with it (R171, R173, R300). -/
def endSession (cause : Nat) (s : State) : State :=
  match s.benra.session with
  | none => s
  | some _ =>
    let s := { s with benra := { s.benra with session := none } }
    event 0x8D06 [cause] (releaseMargins (closeLoops s))

/-- Entry to SAFE from STANDBY, RUN or SERVICE at the held level (R357), and the power-down it brings: a power-up from
STANDBY is interrupted at once; S2 and S3 bring the rack down, in a power-down of lesser cause too (R279); with the rack
up, S1 waits. -/
def enterSafe (level input : Nat) (s : State) : State :=
  if s.mode == .standby || s.mode == .run || s.mode == .service then
    let up := rackUp s
    let climbing := poweringUp s
    let down := poweringDown s
    let s := endSession 3 (captureSafe s)
    let s := setMode .safe { s with collector := { s.collector with
      firstInput := input, enteredAt := s.plinth.opSeconds, safePowerDownOwed := up || climbing, enteredUp := up
      s1UpSince := if level = 1 && up then some s.now else none } }
    let s := event 0x8C01 [level, input] s
    if climbing && !up then powerDown (if level = 1 then causeClear else causeSafe) s
    else if (up || down) && 2 ≤ level then powerDown causeSafe s
    else s
  else if s.mode == .safe && 2 ≤ level && s.collector.s1UpSince.isSome then
    powerDown causeSafe { s with collector := { s.collector with s1UpSince := none } }
  else s

/-! ### Reset -/

/-- The causes for which the hardwired path sends the all-off symbol before the transmitters go (R64). -/
def allOffCauses : List Nat := [0x03, 0x04, 0x05, 0x06, 0x08]

/-- The latched inputs of CLEAR_MODE RESTART, which clear at the next entry to BOOT (R358). -/
def restartInputs (s : State) : Tab FaultIn :=
  (s.collector.inputs.filter (fun p => p.2.latched && clearModeOf s (keyCode p.1) (keyScope p.1) == 2)).map
    (fun p => (p.1, { ({} : FaultIn) with latched := true }))

/-- PD1 to PD15 in their reset state, PD0, the fuses, the flashes, the pins and the tiles kept (R63, R60). -/
def offDomains (s : State) : State :=
  { State.reset with
    pending := s.pending, now := s.now, plinth := s.plinth, cs0 := s.cs0, cs1 := s.cs1, tiles := s.tiles
    freeIx := s.freeIx, tap := s.tap
    seq := { keepAlives := (List.range 16).map (fun k => (k, { since := s.now })) }
    host := { ({} : HostUnit) with lastAnswer := s.host.lastAnswer }
    pins := { s.pins with transmitters := false, domains := 1, allOff := 0 }
    collector := { inputs := restartInputs s }
    benra := { ({} : Benra) with fuses := s.benra.fuses, certArea := s.benra.certArea } }

/-- The chip is reset by a cause of Table 3.5 (R63, R65): the Plinth keeps the cause and counts it. The causes of R64 send
the all-off symbol on every lane before the transmitters are disabled; the others leave the lanes silent. -/
def resetChip (cause : Nat) (s : State) : State :=
  let p := s.plinth
  let r := offDomains s
  { r with
    pins := { r.pins with allOff := if s.pins.transmitters && allOffCauses.contains cause then everyLane else 0 }
    plinth := { p with resetCause := cause, resetCounts := Tab.upd 0 p.resetCounts cause (fun n => sat16 n 1) } }

/-! ### Block resets (R347, Table 12.3) -/

/-- Both host ports restart on the settings then in force; open transactions are lost (Table 12.3). -/
def restartHostPorts (s : State) : State :=
  let keep (h : HPort) : HPort :=
    { h with assembly := none, asmSeq := 0, serving := none, pendingSent := false, final := none, response := {},
             copy := none, queue := [] }
  { s with host := { s.host with ports := s.host.ports.map (fun p => (p.1, keep p.2)), pulsing := false } }

/-- The log is unmounted, to be mounted again by the next RECORDER_MOUNT; staged records keep their SEQUENCE and are
flushed in order (Table 12.3). -/
def unmountRecorder (s : State) : State :=
  { s with vitrine := { s.vitrine with mount := .notYet, clear := none, programRunning := false } }

/-- The subsystem that raised a code returns to its reset state (R347). The first payload byte names the port. -/
def blockReset (code : Nat) (payload : Bytes) (s : State) : State :=
  if code / 256 = 0x04 then retrainPort (u8 payload 0) s
  else if code / 256 = 0x0A then maquetteReload s
  else if code / 256 = 0x0B then unmountRecorder s
  else if code / 256 = 0x0E then claspHardReset s
  else if code / 256 = 0x0F then restartHostPorts s
  else s

/-! ### Assertion -/

/-- The entry number reported for an input, 255 where the image binds none. -/
def inputNo (s : State) (code scope : Nat) : Nat := (faultIndex (secs s) code scope).getD 255

/-- The whole reaction of an input that has just latched (R345, R346, R348, R350). -/
def react (code scope : Nat) (payload : Bytes) (s : State) : State :=
  let r := reactionOf s code scope
  let s :=
    if r % 4 ≠ 0 ∧ isLive s ∧ bit (hoAttnMask (secs s)) 0 then
      setCause 0 { s with host := { s.host with newestFault := code } }
    else s
  let chip := bit r 3
  let level := if chip then max 3 (levelOf r) else levelOf r
  let s :=
    if level = 0 then s
    else enterSafe level (inputNo s code scope) (applyLevel level scope (if level = 1 then s1SetOf s code scope else 0) s)
  let s := if bit r 2 then blockReset code payload s else s
  if chip then
    let s := resetChip 0x05 s
    { s with plinth := { s.plinth with resetFault := code } }
  else s

/-- An input latches (R340, R345): its assertion is counted, and its code heads the last faults of PD0. -/
def latchInput (code scope : Nat) (payload : Bytes) (s : State) : State :=
  let i := s.input code scope
  let s := s.setInput code scope
    { i with asserted := true, latched := true, assertions := sat32 i.assertions 1, lastAssert := s.plinth.opSeconds,
             payload := payload }
  { s with plinth := { s.plinth with lastFaults := (code :: s.plinth.lastFaults).take 4 } }

/-- An idle input asserts at the collector (R340, R345): it latches, and its reaction applies. -/
def assertInput (code scope : Nat) (payload : Bytes) (s : State) : State :=
  if (s.input code scope).asserted then s
  else react code scope payload (captureFault code payload (latchInput code scope payload s))

/-- A subsystem raises a fault (R344): its record is staged, and its input asserts. An input already asserted only
records again. -/
def raiseFault (code scope : Nat) (payload : Bytes) (s : State) : State :=
  assertInput code scope payload (captureFault code payload (stageRecord code scope payload s))

/-- A latched input clears (R358): event 0x8C03, and the crowbar of its stage is released (R208). -/
def clearInput (code scope : Nat) (s : State) : State :=
  let i := s.input code scope
  let s := s.setInput code scope { i with latched := false, mismatch := false, testMissed := false }
  let s := event 0x8C03 [code, scope] s
  if code == 0x0502 then crowbarClear scope s else s

/-- An input deasserts (R340). -/
def lowerFault (code scope : Nat) (s : State) : State :=
  let i := s.input code scope
  if i.asserted then s.setInput code scope { i with asserted := false, deassertedAt := s.now } else s

/-- A fault whose condition is an instant: it asserts and deasserts at once, and stays latched (assumption 6). -/
def pulseFault (code scope : Nat) (payload : Bytes) (s : State) : State :=
  lowerFault code scope (raiseFault code scope payload s)

/-- A CHIP fault with a payload of numbers. -/
def chipFault (code : Nat) (l : List Nat) (s : State) : State := raiseFault code 0 (pay l) s

/-- A CHIP fault of an instant. -/
def chipPulse (code : Nat) (l : List Nat) (s : State) : State := pulseFault code 0 (pay l) s

end Sys2Proof.Machine
end

