-- ==== Sys2Proof/Machine/BalanceOps.lean ====
section
/-! DEFINITION. What Balance computes in a ledger period (R218 to R232, R236 to R242): the measurement window, limits,
allocation, sharing, diversion, and the counts its faults and hold-up rest on. Powers are rounded to whole watts. -/

namespace Sys2Proof.Machine

/-- A stage is RUNNING as the Modulator published it at the first tick of this ledger period (R215); a VIRTUAL stage as it
is. -/
def ranAt (s : State) (g : Nat) : Bool :=
  if stKind (secs s) g = 0 then stageRunning s g else (s.stage g).pub.mode == .running

/-! ### The measurement window (R220, R221) -/

/-- A close time lies in M(m). -/
def inM (m close : Nat) : Bool := decide (64000 * m ≤ close + 12800) && decide (close < 64000 * m + 51200)

/-- A mean, none of no samples. -/
def meanI (l : List Int) : Option Int := if l.isEmpty then none else some (divRound l.sum l.length)

/-- Current, voltage and temperature of a phase's windows in M(m). -/
def phaseIn (s : State) (m p : Nat) : List (Int × Int × Int) := ((s.sense p).recent.filter (fun x => inM m x.1)).map (·.2)

/-- The mean of a PHASE_V or AIN source in M(m). -/
def srcMean (s : State) (m sel : Nat) : Option Int :=
  if selKind sel = 3 then meanI ((phaseIn s m (selIndex sel)).map (·.2.1))
  else if selKind sel = 5 then meanI (((Tab.get {} s.pave.ains (selIndex sel)).recent.filter (fun x => inM m x.1)).map (·.2))
  else none

/-- A list of values when all are there. -/
def allSome (l : List (Option Int)) : Option (List Int) := if l.all (·.isSome) then some (l.filterMap id) else none

/-- The measured bus-side power from V in mV and I in mA (R221). -/
def busPower (q : Secs) (g : Nat) (v i : Int) : Int :=
  let k := stKind q g
  let p := if k = 2 ∨ k = 5 then -(v * i) else v * i
  let eta := bsEta q g
  if 0 < p then divRound (p * eta) 1000000000 else divRound (p * 1000) (1000000 * max 1 eta)

/-- THERM from the hottest sample in 0.01 °C (R223). -/
def thermOf (q : Secs) (g : Nat) (hot : Int) : Nat :=
  let k := 10 * bsKnee q g
  let z := 10 * bsZero q g
  if hot ≤ k then 65536 else if z ≤ hot then 0 else ((z - hot) * 65536 / (z - k)).toNat

/-- The tree's part for one stage (R221, R223), and its capacity. -/
def measureStage (s : State) (m g : Nat) (old : StageLedger) : StageLedger :=
  let q := secs s
  let act := activePhases s g
  let v := srcMean s m (bsVSrc q g)
  let i := allSome (act.map (fun p => meanI ((phaseIn s m p).map (·.1))))
  let temps := act.flatMap (fun p => (phaseIn s m p).map (·.2.2))
  let x :=
    match v, i with
    | some v, some l => { old with v := v, i := l.sum, pb := busPower q g v l.sum, gaps := 0 }
    | _, _ => { old with gaps := old.gaps + 1, pb := if old.gaps = 0 then old.pb else 0 }
  let th := match temps with
    | [] => old.therm
    | t :: l => some (thermOf q g (l.foldl max t))
  { x with vLedger := v.getD 0, vValid := v.isSome, therm := th, capt := (s.stage g).pub.capacity * th.getD 65536 / 65536 }

/-! ### String limits (R224, R478) -/

/-- A string's record is older than 50 ms; one never published is not. -/
def recordOld (s : State) (b : Nat) : Bool :=
  let r := (s.str b).pub
  r.fresh && decide (r.at_ + 50 * msTicks < rackTime s)

/-- SOC window bounds of a string (R224). -/
def socLo (s : State) (b : Nat) : Nat :=
  baSocLo (secs s) + (if (Tab.get {} s.balance.strings b).noRest then (s.str b).pub.u else 0)
def socHi (s : State) (b : Nat) : Nat :=
  baSocHi (secs s) - (if (Tab.get {} s.balance.strings b).noRest then (s.str b).pub.u else 0)

/-- The rest envelope at a rack time (R240). -/
def envelopeAt (q : Secs) (r : Rest) (now : Nat) : Nat :=
  let moved := baRestRamp q * (now - r.startAt) / msTicks
  match r.phase with
  | .rampDown => r.from_ - moved
  | .rampUp => r.from_ + moved
  | _ => 0

/-- DIS(b) and CHG(b) for the tag that takes effect at `tn` (R224). -/
def stringLedger (s : State) (st : Tab StageLedger) (tn b : Nat) : StringLedger :=
  let q := secs s
  match stringStage q b with
  | none => {}
  | some g =>
    let r := (s.str b).pub
    let x := Tab.get {} st g
    if !ranAt s g || !r.fresh || recordOld s b then {}
    else
      let stale := bit r.flags 0
      let cut (p : Nat) : Nat := if stale then p * baStalePct q / 100 else p
      let dis := if x.v < bsVMin q g then 0 else min r.dis (min (bsSupplyMax q g) x.capt)
      let dis := if r.soc ≤ socLo s b then 0 else cut dis
      let chg := if socHi s b ≤ r.soc then 0 else cut (min r.chg (min (bsDrawMax q g) x.capt))
      match s.balance.rest with
      | some e =>
        if e.string = b then
          { dis := min dis (envelopeAt q e tn), chg := min chg (envelopeAt q e tn), disFree := dis, chgFree := chg }
        else { dis := dis, chg := chg, disFree := dis, chgFree := chg }
      | none => { dis := dis, chg := chg, disFree := dis, chgFree := chg }

/-! ### Allocation (R225, R226) -/

/-- A consumer: stage, or 255 for traction; class; demand. -/
structure Consumer where
  id : Nat
  cls : Nat
  d : Nat

/-- L(i) of every consumer, class by class. -/
def allocate (l : List Consumer) : List Nat → Nat → Tab Nat
  | [], _ => []
  | c :: cs, r =>
    let grp := l.filter (fun x => x.cls == c)
    let tot := (grp.map (·.d)).sum
    grp.map (fun x => (x.id, if tot ≤ r then r - (tot - x.d) else r * x.d / tot)) ++ allocate l cs (r - tot)

/-- The limit of one consumer. -/
def limitOf (l : Tab Nat) (id : Nat) : Nat := ((l.find? (fun x => x.1 == id)).map (·.2)).getD 0

/-! ### Sharing (R228, R229) -/

/-- Rfac(b) in 1/65536 (R228). -/
def rFac (q : Secs) (r : StringRec) : Nat :=
  let den : Int := 100 * r.r0 + baRGain q * ((r.r : Int) - r.r0)
  if den ≤ 0 then 65536 else (clampI 16384 65536 (6553600 * (r.r0 : Int) / den)).toNat

/-- The weights, recomputed with each record (R228). -/
def weigh (b : Nat) (s : State) : State :=
  let x := Tab.get {} s.balance.strings b
  let r := (s.str b).pub
  if !r.fresh || x.weighed == some r.at_ then s
  else
    let w := r.q * rFac (secs s) r
    { s with balance := { s.balance with strings := Tab.set s.balance.strings b { x with
      weighed := some r.at_, wDis := w * (r.soc - socLo s b), wChg := w * (socHi s b - r.soc) } } }

/-- At most `n` passes over strings with limit and weight; the shares and what stays unshared (R229). -/
def divide : Nat → Nat → List (Nat × Nat × Nat) → Tab Nat × Nat
  | 0, p, _ => ([], p)
  | n + 1, p, u =>
    if p = 0 || u.isEmpty then ([], p)
    else
      let u := if u.all (fun x => x.2.2 == 0) then u.map (fun x => (x.1, x.2.1, x.2.1)) else u
      let tot := (u.map (·.2.2)).sum
      let capped := u.filter (fun x => decide (x.2.1 * tot < p * x.2.2))
      if capped.isEmpty then
        let xs := u.map (fun x => (x.1, p * x.2.2 / tot))
        let left := p - (xs.map (·.2)).sum
        (match xs with
          | [] => []
          | y :: ys => (y.1, y.2 + left) :: ys, 0)
      else
        let r := divide n (p - (capped.map (·.2.1)).sum) (u.filter (fun x => decide (p * x.2.2 ≤ x.2.1 * tot)))
        (capped.map (fun x => (x.1, x.2.1)) ++ r.1, r.2)

/-! ### Bounds (R219) -/

/-- A bus-side bound in output 0 units, mA for a stage of kind 1 to 5, from its phase-side power num/den in W. -/
def outBound (q : Secs) (g nAct : Nat) (x : StageLedger) (num den : Nat) : Nat :=
  if !x.vValid || x.vLedger ≤ 0 then 0 else min (nAct * stPhRated q g) (num * 1000000 / (den * x.vLedger.toNat))

/-- The stage with its two bounds, bus-side and converted. -/
def withBounds (s : State) (g sup drw : Nat) (x : StageLedger) : StageLedger :=
  let q := secs s
  let eta := max 1 (bsEta q g)
  let n := (s.stage g).pub.nAct
  { x with
    pSup := sup, pDrw := drw, bSup := outBound q g n x (sup * 1000) eta, bDrw := outBound q g n x (drw * eta) 1000 }

/-! ### One computation -/

/-- The positive part. -/
def pos (v : Int) : Nat := v.toNat

/-- What one computation gives beside the values to publish. -/
structure Computed where
  set : LedgerSet
  vbus : Int
  vbusKnown : Bool
  pextf : Int
  eCh : Nat
  divert : Bool
  sraw : Nat
  /-- P above 0 after sharing, and E above CHOPPER_DEMAND. -/
  unmet : Bool
  undiverted : Bool
  short : List Nat
  pStr : Int
  /-- In hold-up the guarded stages draw nothing, so HOLDUP_REMAIN has no stated value (R237). -/
  noDraw : Bool

/-- Vbus, Pextf (R221). -/
def busValues (s : State) (m : Nat) (sumPb : Int) : Int × Bool × Int :=
  let q := secs s
  let b := s.balance
  let v := srcMean s m (baBusSrc q)
  let vNew := v.getD b.vbus
  let vOld := if b.vbusKnown then b.vbus else vNew
  let pcap := divRound (baCBus q * (vNew * vNew - vOld * vOld)) 200000
  let ext := sumPb - pcap
  (vNew, b.vbusKnown || v.isSome, b.pextf + divRound (ext * 65536 - b.pextf) (2 ^ baExtFilt q))

/-- The values tagged n, computed in period n − 1 (R220 to R232, R237 step H5). -/
def computeSet (s : State) : Computed :=
  let q := secs s
  let b := s.balance
  let m := period s
  let tn := 64000 * (m + 1)
  let stages := (declaredStages q).filter (fun g => stKind q g != 0)
  let st : Tab StageLedger := stages.map (fun g => (g, measureStage s m g (Tab.get {} b.cur.stages g)))
  let pbOf (g : Nat) : Int := (Tab.get {} st g).pb
  let bus := busValues s m (st.map (·.2.pb)).sum
  let ext := divRound bus.2.2 65536
  let strs : Tab StringLedger := (declaredStrings q).map (fun k => (k, stringLedger s st tn k))
  let sumChg := (strs.map (·.2.chg)).sum
  let ofKind (k : Nat) : List Nat := stages.filter (fun g => stKind q g == k)
  let acIn := ((ofKind 3).map (fun g => pos (pbOf g))).sum
  let coIn := ((ofKind 4).map (fun g => pos (pbOf g))).sum
  let sraw := (strs.map (·.2.dis)).sum
    + (((ofKind 3 ++ ofKind 4).filter (fun g => ranAt s g && decide (bsVMin q g ≤ (Tab.get {} st g).v))).map
        (fun g => pos (pbOf g))).sum
  let rTotal := sraw - baMargin q
  let users := stages.filter (fun g => decide (3 ≤ stKind q g))
  let cons := users.map (fun g =>
      ({ id := g, cls := bsClass q g, d := if ranAt s g then max (pos (-(pbOf g))) (bsReserve q g) else 0 } : Consumer))
    ++ [{ id := 255, cls := baExtClass q, d := pos ext }]
  let lim := allocate cons (List.range 8) rTotal
  let drawn := ((users.filter (ranAt s)).map (fun g => pos (-(pbOf g)))).sum
  let abs0 := sumChg + drawn
  let chop := ofKind 2
  let chopDraw := (chop.map (fun g => pos (-(pbOf g)))).sum
  let chopCap := (chop.map (fun g => (Tab.get {} st g).capt)).sum
  let eCh := b.eCh + chopDraw - baChopCool q
  let avail := if eCh < baChopE q * 100000 then chopCap else min (baChopCool q) chopCap
  let agreed := hasSec q tyCoupling && decide (period s ≤ s.clasp.tag + 2)
  let capped (g p : Nat) : Nat := (setPointCap s g).elim p (min p)
  let bounds (x : Nat × StageLedger) : Nat × StageLedger :=
    let g := x.1
    let capt := x.2.capt
    let sup := min (bsSupplyMax q g) capt
    let drw := min (bsDrawMax q g) capt
    let l := limitOf lim g
    let y := { x.2 with limit := l }
    let k := stKind q g
    let p : Nat × Nat :=
      if k = 1 then
        let z := Tab.get {} strs (stString q g)
        (z.dis, z.chg)
      else if k = 2 then (0, min (bsDrawMax q g) avail)
      else if k = 3 then (capped g (min sup abs0), min l drw)
      else if k = 4 then
        (capped g (min sup (min (if agreed then s.clasp.agreedImport else 0) (abs0 - acIn))),
          min (min l drw) (if agreed then s.clasp.agreedExport else 0))
      else (sup, min l drw)
    (g, withBounds s g p.1 p.2 y)
  let busG := baBus q
  let busL : StageLedger := { pSup := rTotal, pDrw := sumChg + avail, bSup := rTotal, bDrw := sumChg + avail }
  let y0 : Int := if ranAt s busG then out0 s busG else 0
  let pStr := y0 - acIn - coIn
  let up := decide (0 < pStr)
  let pool := (strs.filter (fun x => decide (0 < (if up then x.2.dis else x.2.chg)))).map (fun x =>
    let w := Tab.get {} b.strings x.1
    (x.1, if up then x.2.dis else x.2.chg, if up then w.wDis else w.wChg))
  let sh := divide 12 pStr.natAbs pool
  let strs := strs.map (fun x =>
    let v : Int := limitOf sh.1 x.1
    (x.1, { x.2 with share := if up then v else -v }))
  let excess := if pStr < 0 then pStr.natAbs - sumChg else 0
  let dv := baDivertV q
  let divert := !b.holdup && (if 0 < dv ∧ dv ≤ bus.1 then true else b.divert && decide (dv * 99 ≤ bus.1 * 100))
  let demand := if b.holdup then 0 else if divert then avail else min excess avail
  let absorb : Int := (abs0 : Int) + (if baChopInRegen q then avail else 0) - acIn - coIn
  let c := baCBus q
  let energy := divRound (c * (bus.1 * bus.1)) 20000000000
  let draw := ((stages.filter (stGuarded q)).map (fun g => pos (-(pbOf g)))).sum
  let spare := c * (bus.1 * bus.1 - baHoldMin q * baHoldMin q)
  let short := (cons.filter (fun x => decide (x.cls ≤ baClassAlert q) && decide (limitOf lim x.id < x.d))).map (·.id)
  { set :=
      { tag := m + 1, supply := rTotal, absorb := absorb, ext := ext, chopper := demand
        traction := if b.holdup then 0 else limitOf lim 255, regen := if b.holdup then 0 else max 0 absorb
        energy := energy
        remain := if b.holdup ∧ draw ≠ 0 then divRound spare (20000000 * draw) else 0
        stages := (st.map bounds).foldl (fun t x => Tab.set t x.1 x.2) [(busG, busL)]
        strings := strs }
    vbus := bus.1, vbusKnown := bus.2.1, pextf := bus.2.2, eCh := eCh, divert := divert, sraw := sraw
    unmet := sh.2 != 0, undiverted := decide (demand < excess), short := short, pStr := pStr
    noDraw := b.holdup && draw == 0 }

/-! ### What follows a computation -/

/-- A count of consecutive ledger periods. -/
def runOf (old : Nat) (on : Bool) : Nat := if on then old + 1 else 0

/-- The scope of 0x0801 of a consumer: NG for traction (Table 12.1). -/
def shortScope (s : State) (id : Nat) : Nat := if id = 255 then 0 else stageScope s id

/-- Since when each consumer falls short, and the fault lowered with its condition (R226). -/
def watchShort (l : List Nat) (s : State) : State :=
  let b := s.balance
  let since := l.foldl (fun t id => Tab.set t id ((Tab.find b.shortSince id).getD (rackTime s))) []
  let told := b.shortTold.filter (l.contains ·)
  let s := { s with balance := { b with shortSince := since, shortTold := told } }
  (List.range 5).foldl (fun s k => if told.any (fun id => shortScope s id == k) then s else lowerFault 0x0801 k s) s

/-- A fault of two consecutive ledger periods: asserted at the second, deasserted when the condition ends. -/
def runFault (code run : Nat) (s : State) : State :=
  if run = 0 then lowerFault code 0 s else if run = 2 then chipFault code [] s else s

/-- 0x0803 with the chopper energy (R231). -/
def chopperFault (s : State) : State :=
  let e := baChopE (secs s) * 100000
  let b := s.balance
  if !b.chopFault && decide (e ≤ b.eCh) then chipFault 0x0803 [] { s with balance := { b with chopFault := true } }
  else if b.chopFault && decide (2 * b.eCh < e) then lowerFault 0x0803 0 { s with balance := { b with chopFault := false } }
  else s

/-- 0x0807 while a string's record is old (R478), and event 0x8806 as it becomes stale (R224). -/
def watchRecord (b : Nat) (s : State) : State :=
  let x := Tab.get {} s.balance.strings b
  let r := (s.str b).pub
  let old := recordOld s b
  let stale := r.fresh && bit r.flags 0
  let s := { s with balance := { s.balance with strings := Tab.set s.balance.strings b { x with
    recordStale := old, staleTold := stale
    restReqSince := if (s.str b).restReq && !(s.balance.rest.any (fun e => e.string == b)) then
      some (x.restReqSince.getD (rackTime s)) else none } } }
  let s := if stale && !x.staleTold then event 0x8806 [b] s else s
  if old && !x.recordStale then chipFault 0x0807 [b] s else s

/-- Every string's record watched; 0x0807 ends with the last. -/
def watchRecords (s : State) : State :=
  let s := (declaredStrings (secs s)).foldl (fun s b => watchRecord b s) s
  if s.balance.strings.any (fun x => x.2.recordStale) then s else lowerFault 0x0807 0 s

/-- The greatest P_str of each second (R239). -/
def notePeak (p : Int) (s : State) : State :=
  let b := s.balance
  let k := rackTime s / secTicks
  let b := if b.peakAt = k then b
    else
      let n := baRestLookback (secs s)
      { b with
        peaks := (List.replicate (min n (k - b.peakAt - 1)) (0, 0) ++ b.peakNow :: b.peaks).take n, peakNow := (0, 0), peakAt := k }
  { s with balance := { b with peakNow := (max b.peakNow.1 (pos p), max b.peakNow.2 (pos (-p))), pStr := p } }

/-- The other strings fall short of |P_str| in its direction, and since when (R241). -/
def watchAbort (s : State) : State :=
  match s.balance.rest, s.balance.next with
  | some r, some n =>
    let p := s.balance.pStr
    let sum := ((n.strings.filter (fun x => x.1 != r.string)).map (fun x => if 0 < p then x.2.dis else x.2.chg)).sum
    { s with balance := { s.balance with rest := some { r with
      shortSince := if sum < p.natAbs then some (r.shortSince.getD (rackTime s)) else none } } }
  | _, _ => s

/-- Hold-up has run out (R238): 0x0805 for each running guarded stage, and the end of hold-up. -/
def exhaust (s : State) : State :=
  if s.balance.holdup && decide (2 ≤ s.balance.vOut) then
    let l := (guardedStages (secs s)).filter (stageOn s)
    let s := endHoldup { s with balance := { s.balance with exhausted := true } }
    l.foldl (fun s g => pulseFault 0x0805 (stageScope s g) (pay [g]) s) s
  else s

/-- Balance computes the values of the next period (R220). A late computation publishes nothing and raises 0x0804. -/
def computeLedger (s : State) : State :=
  let q := secs s
  let n := period s + 1
  let s := (declaredStrings q).foldl (fun s b => weigh b s) s
  let c := computeSet s
  let f := drawFree s
  let s := if c.noDraw then f.2 else s
  let b := s.balance
  let set := if c.noDraw then { c.set with remain := signedOf 32 (f.1 % 2 ^ 32) } else c.set
  let s := { s with balance := { b with
    next := some set, computed := n, vbus := c.vbus, vbusKnown := c.vbusKnown, pextf := c.pextf, eCh := c.eCh, divert := c.divert
    sLow := runOf b.sLow (decide (c.sraw < baHoldS q))
    vLow := runOf b.vLow (c.vbusKnown && decide (c.vbus < baHoldTrig q))
    vOut := runOf b.vOut (c.vbusKnown && b.holdup && decide (c.vbus < baHoldMin q))
    unmet := runOf b.unmet c.unmet, undiverted := runOf b.undiverted c.undiverted } }
  let s := watchAbort (notePeak c.pStr (watchShort c.short s))
  let s := watchRecords (chopperFault s)
  exhaust (runFault 0x0802 (runOf b.undiverted c.undiverted) (runFault 0x0806 (runOf b.unmet c.unmet) s))

/-! ### CAPO (R233 to R235) -/

/-- D in µs of a value (R233). -/
def capoHigh (q : Secs) (k : Nat) (v : Int) : Nat :=
  let fs := max 1 (capoScale q k)
  5 + 90 * (clampI 0 fs v).toNat / fs

/-- A value takes effect: the last ten are kept, and a lower one cuts the running period's high time (R233, R234). -/
def capoLedger (k : Nat) (s : State) : State :=
  let q := secs s
  if !capoOn q k then s
  else
    let x := Tab.get {} s.balance.capos k
    let v := quantity s.balance.cur (capoQuantity q k)
    let x := { x with values := (v :: x.values).take 10 }
    let d := capoHigh q k v
    let us := (rackTime s - x.start) / usTicks
    let x :=
      if x.running && !x.fallen && decide (us < x.high) && decide (d < x.high) then
        if us < d then { x with high := d } else { x with high := us, fallen := true }
      else x
    { s with balance := { s.balance with capos := Tab.set s.balance.capos k x } }

/-! ### Hold-up (R236, R237) -/

/-- The rack is up for hold-up: RUN, or SERVICE or SAFE entered with the rack up, until the power-down completes. -/
def holdupUp (s : State) : Bool :=
  rackUp s || s.mode == .safe && s.collector.enteredUp && s.seq.phase != .idle

/-- The trigger that holds now. -/
def holdupCause (s : State) : Option Nat :=
  let b := s.balance
  let guarded := (guardedStages (secs s)).any (stageOn s)
  let safe := decide (2 ≤ s.collector.heldLevel) && guarded
  if poweringDown s then (if safe then some 3 else none)
  else if 2 ≤ b.sLow then some 1
  else if 2 ≤ b.vLow then some 2
  else if safe then some 3
  else if sourceStopped s then some 4
  else none

/-- A hold-up order names a stage (R188, R237). -/
def nameStage (g : Nat) (s : State) : State :=
  let s := stopStage g s
  s.setStage g { s.stage g with holdupNamed := true }

/-- Hold-up is entered at a ledger boundary: steps H1 to H3. -/
def enterHoldup (trigger : Nat) (s : State) : State :=
  let q := secs s
  let s := event 0x8801 [trigger] { s with balance := { s.balance with
    holdup := true, holdupUsed := true, holdupTrigger := trigger, holdupAt := rackTime s, divert := false, vOut := 0
    exhausted := false, cur := { s.balance.cur with traction := 0, regen := 0, chopper := 0 } } }
  let s := holdupSignal (endRest 2 s)
  ((declaredStages q).filter (fun g => !stGuarded q g && bsHold q g == 0)).foldl (fun s g => nameStage g s) s

/-- Balance at T_n: the values take effect, or 0x0804 where none were computed; hold-up; the CAPO pins (R220, R236). -/
def balanceLedger (s : State) : State :=
  let n := period s
  let b := s.balance
  let s :=
    match b.next with
    | some c => if c.tag = n then { s with balance := { b with cur := c, next := none } } else { s with balance := { b with next := none } }
    | none => s
  let s := if s.balance.computed < n then chipPulse 0x0804 [] { s with balance := { s.balance with computed := n } } else s
  let s :=
    if holdupUp s && !s.balance.holdup && !s.balance.holdupUsed then
      match holdupCause s with
      | some k => enterHoldup k s
      | none => s
    else s
  (List.range 4).foldl (fun s k => capoLedger k s) s

/-! ### Induced rest (R239) -/

/-- The peaks of the last REST_LOOKBACK whole seconds, discharge and charge. -/
def peaksOf (s : State) : Nat × Nat :=
  let b := s.balance
  let n := baRestLookback (secs s)
  let ago := rackTime s / secTicks - b.peakAt
  let l := if ago = 0 then b.peaks.take n else (b.peakNow :: b.peaks).take (n + 1 - ago)
  ((l.map (·.1)).foldl max 0, (l.map (·.2)).foldl max 0)

/-- A pending request of string r may be granted (R239). -/
def restOk (s : State) (r : Nat) : Bool :=
  let q := secs s
  let b := s.balance
  let x := Tab.get {} b.strings r
  let others := b.cur.strings.filter (fun y => y.1 != r)
  let pk := peaksOf s
  (s.str r).restReq && bit (baRestEnable q) r && (stringStage q r).any (ranAt s)
    && x.lastAbort.all (fun a => decide (a + baRestRetry q * secTicks ≤ rackTime s))
    && decide ((100 + baRestMargin q) * pk.1 ≤ 100 * (others.map (·.2.dis)).sum)
    && decide ((100 + baRestMargin q) * pk.2 ≤ 100 * (others.map (·.2.chg)).sum)

/-- The string whose last completed rest lies furthest back, never-rested ones first, ties by number. -/
def restPick (s : State) (l : List Nat) : Option Nat :=
  let age (b : Nat) : Nat := (Tab.get {} s.balance.strings b).lastRest.elim 0 (· + 1)
  let m := (l.map age).foldl min ((l.map age).headD 0)
  l.find? (fun b => age b == m)

end Sys2Proof.Machine
end

