-- ==== Sys2Proof/Machine/Balance.lean ====
section
/-! DEFINITION. The events of Balance (chapter 08) but for the ledger boundary itself. -/

namespace Sys2Proof.Machine

/-- Balance computes the next period's values once the measurement window has closed (R220). After T_n − 320 nothing is
published, and 0x0804 is raised. -/
def execLedgerCompute (t : Nat) (s : State) : Out :=
  let s := advance t s
  let at_ := rackTime s % ledgerTicks
  if !running s || period s + 1 ≤ s.balance.computed || at_ < 51200 then .next s
  else if at_ ≤ 63680 then .next (computeLedger s)
  else .next (chipPulse 0x0804 [] { s with balance := { s.balance with computed := period s + 1 } })

/-- A CAPO period starts with the least of the last ten values (R233). -/
def execCapoPeriodStart (t capo : Nat) (s : State) : Out :=
  let s := advance t s
  let q := secs s
  if running s && decide (capo < 4) && capoOn q capo && period s % 10 == 0 then
    let x := Tab.get {} s.balance.capos capo
    let c := x.values.foldl min (x.values.headD 0)
    .next { s with balance := { s.balance with capos := Tab.set s.balance.capos capo { x with
      running := true, start := period s * ledgerTicks, high := capoHigh q capo c, fallen := false } } }
  else .next s

/-- HOLDUP_HOLD of a stage has passed since hold-up was entered (R237, step H4). -/
def execHoldupStageNamed (t stage : Nat) (s : State) : Out :=
  let s := advance t s
  let q := secs s
  if running s && s.balance.holdup && stageDeclared q stage && !stGuarded q stage && !(s.stage stage).holdupNamed
      && decide (s.balance.holdupAt + bsHold q stage * msTicks ≤ rackTime s) then
    .next (nameStage stage s)
  else .next s

/-- A consumer's limit has stayed below its demand for SHORT_TIME (R226). -/
def execSupplyShort (t consumer : Nat) (s : State) : Out :=
  let s := advance t s
  let b := s.balance
  match Tab.find b.shortSince consumer with
  | some a =>
    if running s && !b.shortTold.contains consumer && decide (a + baShortTime (secs s) * msTicks ≤ rackTime s) then
      .next (raiseFault 0x0801 (shortScope s consumer) (pay [consumer])
        { s with balance := { b with shortTold := consumer :: b.shortTold } })
    else .next s
  | none => .next s

/-- A 1 s boundary: a pending rest request may be granted (R239, R240). -/
def execRestGrant (t : Nat) (s : State) : Out :=
  let s := advance t s
  let q := secs s
  let b := s.balance
  let k := rackTime s / secTicks
  if !running s || k ≤ b.grantAt then .next s
  else
    let s := { s with balance := { b with grantAt := k } }
    if b.rest.isSome || b.holdup || s.collector.heldLevel != 0 then .next s
    else
      match restPick s ((declaredStrings q).filter (restOk s)) with
      | none => .next s
      | some r =>
        let x := Tab.get {} b.strings r
        .next (event 0x8803 [r] { s with balance := { s.balance with
          rest := some { string := r, startAt := rackTime s, from_ := (Tab.get {} b.cur.strings r).share.natAbs }
          strings := Tab.set b.strings r { x with restReqSince := none } } })

/-- The phase of the rest in progress changes. -/
def restTo (p : RestPhase) (r : Rest) (s : State) : State :=
  { s with balance := { s.balance with rest := some { r with
    phase := p, startAt := rackTime s, from_ := envelopeAt (secs s) r (rackTime s), shortSince := none } } }

/-- The envelope has come down to 0 (R240). -/
def execRestRampDownEnd (t : Nat) (s : State) : Out :=
  let s := advance t s
  match s.balance.rest with
  | some r =>
    if running s && r.phase == .rampDown && envelopeAt (secs s) r (rackTime s) == 0 then .next (restTo .resting r s) else .next s
  | none => .next s

/-- REST_WINDOW has passed in RESTING (R240). -/
def execRestWindowEnd (t : Nat) (s : State) : Out :=
  let s := advance t s
  match s.balance.rest with
  | some r =>
    if running s && r.phase == .resting && decide (r.startAt + baRestWindow (secs s) * secTicks ≤ rackTime s) then
      .next (restTo .rampUp r s)
    else .next s
  | none => .next s

/-- The envelope has reached the string's limit (R240): the rest ends with its cause. -/
def execRestRampUpEnd (t : Nat) (s : State) : Out :=
  let s := advance t s
  match s.balance.rest with
  | some r =>
    let x := Tab.get {} s.balance.cur.strings r.string
    if running s && r.phase == .rampUp && decide (max x.disFree x.chgFree ≤ envelopeAt (secs s) r (rackTime s)) then
      .next (endRest r.cause s)
    else .next s
  | none => .next s

/-- The other strings have fallen short for REST_ABORT_TIME (R241). -/
def execRestAbort (t : Nat) (s : State) : Out :=
  let s := advance t s
  match s.balance.rest with
  | some r =>
    let due := r.shortSince.any (fun a => decide (a + baRestAbort (secs s) * msTicks ≤ rackTime s))
    if running s && (r.phase == .rampDown || r.phase == .resting) && due then
      let s := restTo .rampUp { r with cause := 1 } s
      .next { s with balance := { s.balance with
        strings := Tab.upd {} s.balance.strings r.string (fun x => { x with lastAbort := some (rackTime s) }) } }
    else .next s
  | none => .next s

/-- A rest request has been pending for REST_WAIT_MAX (R242). -/
def execRestWaitExpiry (t string : Nat) (s : State) : Out :=
  let s := advance t s
  let x := Tab.get {} s.balance.strings string
  let due := x.restReqSince.any (fun a => decide (a + baRestWait (secs s) * secTicks ≤ rackTime s))
  if running s && due && !x.noRest then
    .next (event 0x8805 [string] { s with balance := { s.balance with
      strings := Tab.set s.balance.strings string { x with noRest := true } } })
  else .next s

end Sys2Proof.Machine
end

