-- ==== Sys2Proof/Machine/Certs.lean ====
section
/-! DEFINITION. The certificates of the hallmark (R395, R406): X.509 v3 in DER form, as far as R406 examines them. The
object identifiers and the DER rules come from the standards R406 cites (assumption 10). -/

namespace Sys2Proof.Machine

/-- A DER element: tag, content, and its whole encoding. -/
structure Der where
  tag : Nat
  body : Bytes
  whole : Bytes
  deriving DecidableEq, Repr

/-- The first element of a byte string and what follows it; lengths up to two octets. -/
def derHead (b : Bytes) : Option (Der × Bytes) :=
  let l := u8 b 1
  let hdr := if l < 128 then 2 else 2 + (l - 128)
  let len := if l < 128 then l else if l ≤ 130 then beNat (slice b 2 (l - 128)) else 0
  if b.length < 2 ∨ 130 < l ∨ l = 128 ∨ b.length < hdr + len then none
  else some ({ tag := u8 b 0, body := slice b hdr len, whole := b.take (hdr + len) }, b.drop (hdr + len))

/-- The elements of a byte string, `n` at most; none when it does not parse to its end. -/
def derList : Nat → Bytes → Option (List Der)
  | _, [] => some []
  | 0, _ => none
  | n + 1, b =>
    match derHead b with
    | none => none
    | some (d, rest) => (derList n rest).map (fun l => d :: l)

/-- The elements inside a constructed element. -/
def derKids (d : Der) : List Der := (derList d.body.length d.body).getD []

/-- Element `i` inside an element. -/
def derKid (d : Der) (i : Nat) : Der := (derKids d).getD i { tag := 0, body := [], whole := [] }

/-- The one element a byte string is. -/
def derWhole (b : Bytes) : Option Der :=
  match derHead b with
  | some (d, []) => some d
  | _ => none

def oidEcdsaSha384 : Bytes := [0x2A, 0x86, 0x48, 0xCE, 0x3D, 0x04, 0x03, 0x03]
def oidEcPublicKey : Bytes := [0x2A, 0x86, 0x48, 0xCE, 0x3D, 0x02, 0x01]
def oidP384 : Bytes := [0x2B, 0x81, 0x04, 0x00, 0x22]
def oidBasicConstraints : Bytes := [0x55, 0x1D, 0x13]
def oidKeyUsage : Bytes := [0x55, 0x1D, 0x0F]
def oidSerialNumber : Bytes := [0x55, 0x04, 0x05]

/-- What R406 looks at in one certificate. -/
structure Cert where
  tbs : Bytes
  sigR : Bytes
  sigS : Bytes
  key : Bytes
  /-- Extensions: object identifier, critical, value. -/
  exts : List (Bytes × Bool × Bytes)
  serial : Bytes
  deriving DecidableEq, Repr

/-- The extensions inside the [3] element of a certificate. -/
def certExts (d : Der) : List (Bytes × Bool × Bytes) :=
  (derKids (derKid d 0)).map (fun e =>
    let k := derKids e
    let crit := k.any (fun x => x.tag == 1 && x.body == [0xFF])
    ((derKid e 0).body, crit, ((k.getLast?).map (·.body)).getD []))

/-- The subject's serialNumber attribute. -/
def certSerial (subject : Der) : Bytes :=
  ((((derKids subject).flatMap derKids).find? (fun a => (derKid a 0).body == oidSerialNumber)).map
    (fun a => (derKid a 1).body)).getD []

/-- A certificate of R406: X.509 v3 in DER, at most 1,024 bytes, ecdsa-with-SHA384, an uncompressed P-384 key. -/
def parseCert (b : Bytes) : Option Cert :=
  match derWhole b with
  | none => none
  | some c =>
    let tbs := derKid c 0
    let ver := derKid tbs 0
    let spki := derKid tbs 6
    let sig := (derKid c 2).body
    let rs := (derWhole (sig.drop 1)).getD { tag := 0, body := [], whole := [] }
    let kids := derKids tbs
    if 1024 < b.length ∨ c.tag ≠ 0x30 ∨ ver.tag ≠ 0xA0 ∨ (derKid ver 0).body ≠ [2]
        ∨ (derKid (derKid c 1) 0).body ≠ oidEcdsaSha384 ∨ (derKid (derKid tbs 2) 0).body ≠ oidEcdsaSha384
        ∨ (derKid (derKid spki 0) 0).body ≠ oidEcPublicKey ∨ (derKid (derKid spki 0) 1).body ≠ oidP384 then none
    else some
      { tbs := tbs.whole, sigR := (derKid rs 0).body, sigS := (derKid rs 1).body, key := (derKid spki 1).body.drop 1,
        exts := ((kids.find? (fun k => k.tag == 0xA3)).map certExts).getD [], serial := certSerial (derKid tbs 5) }

/-- The value of an extension. -/
def extOf (c : Cert) (oid : Bytes) : Option Bytes := (c.exts.find? (fun e => e.1 == oid)).map (·.2.2)

/-- basicConstraints of a certificate: cA and pathLenConstraint. -/
def basicOf (c : Cert) : Bool × Option Nat :=
  match (extOf c oidBasicConstraints).bind derWhole with
  | none => (false, none)
  | some d =>
    let k := derKids d
    (k.any (fun x => x.tag == 1 && x.body == [0xFF]), (k.find? (fun x => x.tag == 2)).map (fun x => beNat x.body))

/-- keyUsage of a certificate, its first octet of bits. -/
def usageOf (c : Cert) : Nat :=
  match (extOf c oidKeyUsage).bind derWhole with
  | none => 0
  | some d => u8 d.body 1

/-- No critical extension other than basicConstraints and keyUsage (R406). -/
def criticalOk (c : Cert) : Bool :=
  c.exts.all (fun e => !e.2.1 || e.1 == oidBasicConstraints || e.1 == oidKeyUsage)

/-- The chain of R406: a device certificate and its intermediate under the Kreilo root key. Answers the device key and
the subject serialNumber. -/
def checkChain (root : Bytes) (chain : Bytes) : Option (Bytes × Bytes) :=
  match derHead chain with
  | none => none
  | some (d, rest) =>
    match parseCert d.whole, parseCert rest with
    | some dev, some mid =>
      if ecdsaVerify root (sha384 mid.tbs) mid.sigR mid.sigS
          && basicOf mid == (true, some 0) && bit (usageOf mid) 2
          && ecdsaVerify mid.key (sha384 dev.tbs) dev.sigR dev.sigS
          && !(basicOf dev).1 && bit (usageOf dev) 7 && (pubKeyPoint dev.key).isSome
          && criticalOk dev && criticalOk mid then some (dev.key, dev.serial)
      else none
    | _, _ => none

end Sys2Proof.Machine
end

