-- ==== Sys2Proof/Machine/HostOps.lean ====
section
/-! DEFINITION. The dispatcher of the host ports: authentication (R408 to R411), the order of checks (R443, R444), the
answer (R418, R419, Table 15.2) and the final status of accepted commands (R419, R445). -/

namespace Sys2Proof.Machine

/-! ### Authentication -/

/-- The TRUST content that authenticates commands now: the running image's, or in BOOT without an image that of R422. -/
def trustOf (s : State) : Bytes := if isLive s then sec (secs s) tyTrust else s.loader.fallbackTrust

/-- The bytes a command's MAC covers (R408). -/
def macMessage (nonce : Bytes) (object inst : Nat) (payload : Bytes) (t : Trailer) : Bytes :=
  ascii "KCMD" ++ nonce ++ leBytes 2 object ++ leBytes 2 inst ++ leBytes 2 payload.length ++ payload
    ++ leBytes 4 t.counter ++ leBytes 1 t.channel ++ leBytes 3 t.resv

/-- The MAC of a command under a key (Table 14.6). -/
def commandMac (key nonce : Bytes) (object inst : Nat) (payload : Bytes) (t : Trailer) : Bytes :=
  (cmac key (macMessage nonce object inst payload t)).take 8

/-- The payload of an authenticated request (R421). -/
def macPayload (r : Request) : Bytes :=
  leBytes 4 r.offset ++ (if r.op = 4 then leBytes 2 r.length else r.data)

/-- How an authentication ends: a refusal and whether its answer carries a MAC, or a pass. -/
inductive AuthEnd where
  | refused (status : Nat) (mac : Bool)
  | passed
  deriving DecidableEq, Repr

/-- A MAC failure is counted; AUTH_FAIL_LIMIT of them within one second lock the channel out with 0x0D03 (R410). -/
def macFailure (c : Nat) (s : State) : State :=
  let tr := trustOf s
  let recent := s.now :: ((Tab.get [] s.benra.macFails c).filter (fun t => s.now < t + secTicks))
  if trFailLimit tr ≤ recent.length then
    chipFault 0x0D03 [c] { s with benra := { s.benra with
      macFails := Tab.set s.benra.macFails c []
      lockedUntil := Tab.set s.benra.lockedUntil c (s.now + trLockout tr * secTicks) } }
  else { s with benra := { s.benra with macFails := Tab.set s.benra.macFails c recent } }

/-- The channel is declared, enabled, takes this port, is not locked out, and its key exists (Table 14.7, check 1). -/
def channelServes (s : State) (port : HostPort) (c : Nat) : Bool :=
  let tr := trustOf s
  decide (c < trChannelCount tr) && chanOn tr c && bit (u8 (trChannel tr c) 2) (portNo port)
    && decide (Tab.get 0 s.benra.lockedUntil c ≤ s.now) && (Tab.find s.benra.cmdKeys c).isSome

/-- A fresh counter is taken; 0xFFFFFFFF exhausts the channel with 0x0D07 (R408, R410). -/
def takeCounter (t : Trailer) (s : State) : State :=
  let c := t.channel
  let s := { s with benra := { s.benra with last := Tab.set s.benra.last c t.counter } }
  if t.counter = 0xFFFFFFFF then
    chipFault 0x0D07 [c] { s with benra := { s.benra with exhausted := c :: s.benra.exhausted } }
  else s

/-- The channel lacks the role a command needs (Table 14.7, check 4). -/
def roleLacks (role : Option Nat) (c : Nat) (s : State) : Bool :=
  role.any (fun b => !bit (u32 (trChannel (trustOf s) c) 4) b)

/-- The session check (Table 14.7, check 5): the session's own channel keeps it open. -/
def sessionCheck (serviceOnly : Bool) (c : Nat) (s : State) : AuthEnd × State :=
  match s.benra.session with
  | none => (.passed, s)
  | some ss =>
    if ss.channel = c then
      (.passed, { s with benra := { s.benra with session := some { ss with lastCmd := s.now } } })
    else if serviceOnly then (.refused stDenied true, s)
    else (.passed, s)

/-- The checks of Table 14.7 up to the session check (R409). `role` is the command's role bit, none for an object that
needs none; `serviceOnly` marks a command its chapter accepts only in SERVICE. -/
def authenticate (role : Option Nat) (serviceOnly : Bool) (r : Request) (t : Trailer) (s : State) : AuthEnd × State :=
  let c := t.channel
  if !channelServes s r.port c || s.benra.debugUnlocked then (.refused stDenied false, s)
  else if commandMac (Tab.get [] s.benra.cmdKeys c) s.benra.bootNonce r.object r.inst (macPayload r) t != t.mac then
    (.refused stDenied false, macFailure c s)
  else if t.counter ≤ Tab.get 0 s.benra.last c then (.refused stStale true, s)
  else if roleLacks role c (takeCounter t s) then (.refused stDenied true, takeCounter t s)
  else sessionCheck serviceOnly c (takeCounter t s)

/-! ### Requests -/

/-- A request becomes complete at the dispatcher and is counted, once. On the two-wire port it replaces one answered
PENDING, whose result is lost (R418, R426, R439). -/
def takeRequest (r : Request) (s : State) : State :=
  let n := portNo r.port
  let p := s.hport n
  let p :=
    if p.serving == some r.tag || p.lost.contains r.tag then p
    else
      let q := { p with requests := sat32 p.requests 1, pec := r.pec.isSome }
      match p.serving with
      | none => q
      | some t => { q with serving := none, pendingSent := false, final := none, lost := if p.final.isSome then p.lost else t :: p.lost }
  { s.setHport n p with plinth := { s.plinth with lastHostCmd := s.now } }

/-- The ports do not answer at all (R444, R74, Table 3.1): DORMANT, reset, before the host ports answer. -/
def portsMute (s : State) : Bool :=
  s.mode == .dormant || s.phase == .inReset || s.phase == .started || s.host.silent

/-- A port is enabled in the settings in force (R438, Tables 15.8, 15.10, 15.11). -/
def portOn (s : State) : HostPort → Bool
  | .tw => !(s.hport 0).hostSettings || hoTwEnable (secs s)
  | .can0 => canEnabled s 0
  | .can1 => canEnabled s 1

/-- A request R420 discards: an undefined OP, a LENGTH outside its range, or other bytes than OP and LENGTH require. -/
def malformed (r : Request) : Bool :=
  if r.op = 1 ∨ r.op = 4 then
    !within 1 1088 r.length || !r.data.isEmpty || r.trailer.isSome != decide (r.op = 4)
  else if r.op = 2 ∨ r.op = 3 then
    !within 1 288 r.length || r.data.length != r.length || r.trailer.isSome != decide (r.op = 3)
  else true

/-- A two-wire request lacks the PEC byte that PEC_REQUIRED asks for (R425). -/
def pecMissing (r : Request) (s : State) : Bool :=
  r.port == .tw && (s.hport 0).hostSettings && hoPecRequired (secs s) && r.pec.isNone

/-- The bytes of a request (Tables 15.1, 14.6). -/
def requestBytes (r : Request) : Bytes :=
  leBytes 1 r.op ++ leBytes 1 r.tag ++ leBytes 2 r.object ++ leBytes 2 r.inst ++ leBytes 4 r.offset ++ leBytes 2 r.length ++ r.data
    ++ (match r.trailer with
      | some t => leBytes 4 t.counter ++ leBytes 1 t.channel ++ leBytes 3 t.resv ++ t.mac
      | none => [])

/-- The PEC of a write transfer: over the target's address byte and the bytes that follow it (R425). -/
def writePec (s : State) (b : Bytes) : Nat := crc8 (byte (2 * (0x58 + s.plinth.straps)) :: b)

/-- A two-wire request ends with a PEC byte that does not match (R425). -/
def pecWrong (r : Request) (s : State) : Bool := r.port == .tw && r.pec.any (fun x => x != writePec s (requestBytes r))

/-- A request with its PEC error counted (R425, R439). -/
def countPec (n : Nat) (wrong : Bool) (s : State) : State :=
  s.setHport n { s.hport n with pecErr := sat32 (s.hport n).pecErr (flag wrong) }

/-- A CAN request is answered BUSY and not executed while the controller's previous one is being served (R435). -/
def answerBusy (r : Request) (s : State) : State :=
  let n := portNo r.port
  let p := s.hport n
  let a : Response := { status := 0x02, tag := r.tag, attention := s.host.causes != 0 }
  let s := s.setHport n { p with busy := sat32 p.busy 1 }
  queueResponse (n - 1) a { s with host := { s.host with lastAnswer := some (n, a) } }

/-- What becomes of a request that does not reach the dispatcher: no answer from a port that is off, the discard of R420,
BUSY of R435; none for one that does. -/
def gate (r : Request) (s : State) : Option State :=
  if portsMute s || !portOn s r.port then some s
  else if malformed r || pecMissing r s || pecWrong r s then
    let u := countPec (portNo r.port) (pecWrong r s) s
    some (discardRequest r.port (u.setHport (portNo r.port) { u.hport (portNo r.port) with pec := r.pec.isSome }))
  else if r.port != .tw && (s.hport (portNo r.port)).serving.any (fun t => t != r.tag) then some (answerBusy r s)
  else none

/-! ### Commands -/

/-- What Table 16.2 and Table 14.9 say of a command object. -/
structure CmdSpec where
  object : Nat
  inst : Nat := 0
  role : Option Nat
  serviceOnly : Bool := false
  /-- Least and greatest DATA length (R445). -/
  lo : Nat
  hi : Nat
  /-- Reserved DATA bytes that must be 0 (R7). -/
  resv : List Nat := []
  /-- Served in BOOT without an image: 0 no, 1 under R42, 2 under R42 and R74 (R444). -/
  held : Nat := 0
  /-- ATTEST: a plain WRITE, served before activation too. -/
  plain : Bool := false

/-- The request a command's operand stands for. -/
def requestOf (c : CmdSpec) (rq : CmdReq) : Request :=
  { port := rq.port, op := if rq.trailer.isSome then 3 else 2, tag := rq.tag, object := c.object, inst := c.inst,
    offset := rq.offset, length := rq.data.length, data := rq.data, trailer := rq.trailer, pec := rq.pec }

/-- The mode restrictions of R444, taken before authentication (assumption 7). -/
def modeRefuses (c : CmdSpec) (s : State) : Bool :=
  if s.mode == .boot then
    if s.phase == .noImage then c.held = 0 && !c.plain
    else if s.phase == .repairFailed then c.held ≠ 2 && !c.plain
    else if s.phase == .selfTestFailed then true
    else !c.plain
  else s.mode == .test

/-- Size, reserved fields and an accepted command still running (R443 steps 5 to 7, R445). -/
def argStatus (c : CmdSpec) (r : Request) (s : State) : Nat :=
  if r.offset ≠ 0 then stRange
  else if c.hi < r.data.length then stOversize
  else if r.data.length < c.lo then stRange
  else if c.resv.any (fun i => u8 r.data i != 0) || r.trailer.any (fun t => t.resv != 0) then stRange
  else if (Tab.find s.host.accepted c.object).isSome then stBusy
  else stDone

/-- What a command answers: its status, result DATA, and the state after. -/
abbrev CmdEnd := Nat × Bytes × State

/-- No answer yet: the command's chapter answers it when its act is done. -/
def stLater : Nat := 256

/-- An ACCEPTED command is remembered until its final status (R445). -/
def settle (keys : Tab Bytes) (c : CmdSpec) (r : Request) (e : CmdEnd) : State :=
  let s := e.2.2
  let a : Accepted := { port := portNo r.port, inst := c.inst, tag := r.tag }
  let s :=
    if e.1 = stAccepted then
      { s with host := { s.host with accepted := Tab.set s.host.accepted c.object a } }
    else s
  if e.1 = stLater then s.setHport (portNo r.port) { s.hport (portNo r.port) with serving := some r.tag }
  else answerBy keys r true e.1 e.2.1 s

/-- A command request, checked in the order of R443 and run by `body` when every check passes; `after` takes the status
once the answer is given. -/
def runThen (c : CmdSpec) (rq : CmdReq) (body : Bytes → State → CmdEnd) (after : Nat → State → State) (s : State) : State :=
  let r := requestOf c rq
  match gate r s with
  | some s => s
  | none =>
    let s := takeRequest r s
    if modeRefuses c s then answer r false stWrongMode [] s
    else
      let run (s : State) : State :=
        let st := argStatus c r s
        if st ≠ stDone then answer r r.trailer.isSome st [] s
        else
          let e := body r.data s
          after e.1 (settle s.benra.cmdKeys c r e)
      match r.trailer with
      | none => if !c.plain then answer r false stDenied [] s else run s
      | some t =>
        match authenticate c.role c.serviceOnly r t s with
        | (.refused st mac, s) => answer r mac st [] s
        | (.passed, s) => run s

/-- A command whose answer ends it. -/
def runCommand (c : CmdSpec) (rq : CmdReq) (body : Bytes → State → CmdEnd) (s : State) : State :=
  runThen c rq body (fun _ s => s) s

/-- An answer without result data. -/
def say (status : Nat) (s : State) : CmdEnd := (status, [], s)

/-- The four zero bytes of a command without arguments (R445). -/
def noArgs : List Nat := [0, 1, 2, 3]

/-- The channel of an authenticated command's trailer. -/
def channelOf (rq : CmdReq) : Nat := rq.trailer.elim 0 (·.channel)

end Sys2Proof.Machine
end

