-- ==== Sys2Proof/Machine/Image.lean ====
section
/-! DEFINITION. The Ibforak image container and its verification in the order of Table 2.8 (R28 to R38, R44). -/

namespace Sys2Proof.Machine

/-- Reason codes of Table 2.8. -/
def rNoCommit : Nat := 0x01
def rBadMagic : Nat := 0x02
def rFormat : Nat := 0x03
def rHeaderCrc : Nat := 0x04
def rLayout : Nat := 0x05
def rDirCrc : Nat := 0x06
def rSectionMissing : Nat := 0x07
def rSectionUnknown : Nat := 0x08
def rKeyHash : Nat := 0x09
def rRollback : Nat := 0x0A
def rSignature : Nat := 0x0B
def rSectionCrc : Nat := 0x0C
def rSectionContent : Nat := 0x0D
def rPatchSignature : Nat := 0x0E
def rMember : Nat := 0x0F
def rFlashRead : Nat := 0x10

/-- The largest image (Table 2.11). -/
def maxImage : Nat := 16773120

/-- The flash address of slot A (0) or B (1) (Table 2.1). -/
def slotBase (slot : Nat) : Nat := slot * 0x1000000

/-- The flash address of a slot's commit sector. -/
def commitBase (slot : Nat) : Nat := slotBase slot + 0x0FFF000

/-- A slot's commit record (R28, Table 2.2): SEQUENCE and IMAGE_LEN where it is valid. -/
def commitRecord (m : Flash) (slot : Nat) : Option (Nat × Nat) :=
  let r := flashRead m (commitBase slot) 16
  if slice r 0 4 == ascii "IBCM" && within 1 0xFFFFFFFE (u32 r 4) && within 1 maxImage (u32 r 8)
      && u32 r 12 == crc32c (r.take 12) then some (u32 r 4, u32 r 8) else none

/-- seq(s) of R41: 0 for a slot without a valid commit record. -/
def commitSeq (m : Flash) (slot : Nat) : Nat :=
  match commitRecord m slot with
  | some r => r.1
  | none => 0

/-- A commit record's 16 bytes (Table 2.2). -/
def commitBytes (seq len : Nat) : Bytes :=
  let r := ascii "IBCM" ++ leBytes 4 seq ++ leBytes 4 len
  r ++ leBytes 4 (crc32c r)

/-- A directory entry (Table 2.4). -/
structure DirEntry where
  type : Nat
  format : Nat
  part : Nat
  offset : Nat
  length : Nat
  crc : Nat
  deriving DecidableEq, Repr

/-- Directory entry `i` of an image. -/
def dirEntry (b : Bytes) (i : Nat) : DirEntry :=
  let e := slice b (64 + 16 * i) 16
  { type := u16 e 0, format := u8 e 2, part := u8 e 3, offset := u32 e 4, length := u32 e 8, crc := u32 e 12 }

/-- The directory of an image. -/
def directory (b : Bytes) : List DirEntry := (List.range (u16 b 18)).map (dirEntry b)

/-- R32 along the directory: `prev` is the entry before, `next` the offset the entry must have; the result is the
first multiple of 16 after the last section. -/
def dirLaidOut : Option DirEntry → Nat → List DirEntry → Option Nat
  | _, next, [] => some next
  | prev, next, e :: es =>
    let follows :=
      match prev with
      | none => e.part == 0
      | some p => if p.type = e.type then e.part == p.part + 1 && e.format == p.format
                  else decide (p.type < e.type) && e.part == 0
    if follows && e.offset == next && within 1 16772672 e.length && decide (e.part ≤ 63) then
      dirLaidOut (some e) (align16 (e.offset + e.length)) es
    else none

/-- The section types of Table 2.6. -/
def knownTypes : List Nat :=
  [tyIdent, tyClockPower, tyTileMap, tySense, tyLoopContexts, tySchedules, tyStages, tyBalance, tyMaquette,
   tySequence, tyCoupling, tyFaults, tyVitrine, tyHost, tyTrust, tyPatch]

/-- The types Table 2.6 requires without condition. -/
def requiredTypes : List Nat :=
  [tyIdent, tyClockPower, tyTileMap, tySense, tyLoopContexts, tyStages, tyBalance, tySequence, tyFaults, tyVitrine,
   tyHost, tyTrust]

/-- The content of every type, parts joined in part order (R31). -/
def joinSections (b : Bytes) (es : List DirEntry) : Secs :=
  es.foldl (fun q e => Tab.upd [] q e.type (fun c => c ++ slice b e.offset e.length)) []

/-- The padding after each section, and after the directory trailer, is 0 (R32, step 12). -/
def paddingOk (b : Bytes) (es : List DirEntry) : Bool :=
  let t := 64 + 16 * es.length + 16
  zeroAt b t (align16 t - t)
    && es.all (fun e => zeroAt b (e.offset + e.length) (align16 (e.offset + e.length) - (e.offset + e.length)))

/-- What a verification needs besides the bytes. -/
structure VerifyEnv where
  rom : Nat
  patchKeys : List Bytes
  /-- The active owner key hash; none in an unenrolled chip (R39). -/
  ownerHash : Option Bytes
  rollback : Nat
  patchRollback : Nat
  /-- Step 16 over every owner. -/
  content : Secs → Verdict

/-- The result of a verification: the first failing step's reason and whether it is malformed (R44), or the image. -/
inductive Verified where
  | fails (reason : Nat) (malformed : Bool) (trust : Option Bytes)
  | passes (image : Image)
  deriving DecidableEq, Repr

/-- Steps 3 to 5: the header, from the bytes and the length the commit record or the session declares. -/
def headerFault (b : Bytes) (len : Nat) : Option (Nat × Bool) :=
  let sig := u32 b 24
  let n := u16 b 18
  if slice b 0 4 != ascii "IBFK" then some (rBadMagic, false)
  else if u16 b 6 != 64 || u32 b 20 != 64 || u8 b 5 != 1 then some (rFormat, false)
  else if u32 b 60 != crc32c (b.take 60) then some (rHeaderCrc, false)
  else if maxImage < u32 b 28 then some (rLayout, true)
  else if u32 b 28 != sig + 256 || u32 b 28 != len then some (rLayout, false)
  else if sig < 64 + 16 * n + 16 then some (rLayout, true)
  else if !within 1 64 n then some (rLayout, false)
  else if 64 < u16 b 16 || !zeroAt b 32 28 then some (rLayout, false)
  else none

/-- Steps 6 to 9: directory, types, signature block form. -/
def directoryFault (b : Bytes) : Option (Nat × Bool) :=
  let sig := u32 b 24
  let n := u16 b 18
  let es := directory b
  let g := slice b sig 256
  if u32 b (64 + 16 * n) != crc32c (slice b 64 (16 * n)) || !zeroAt b (64 + 16 * n + 4) 12 then some (rDirCrc, false)
  else if es.any (fun e => decide (sig < e.offset + e.length)) then some (rLayout, true)
  else if dirLaidOut none (align16 (64 + 16 * n + 16)) es != some sig then some (rLayout, false)
  else if es.any (fun e => !knownTypes.contains e.type) then some (rSectionUnknown, false)
  else if requiredTypes.any (fun t => !es.any (fun e => e.type == t)) then some (rSectionMissing, false)
  else if slice g 0 4 != ascii "IBSG" || u16 g 4 != 1 || u16 g 6 != 1 || u32 g 8 != sig + 128
      || !zeroAt g 12 4 || !zeroAt g 113 15 || !zeroAt g 224 32 then some (rFormat, false)
  else none

/-- Steps 10 to 13: owner key, rollback, section CRCs and padding, signature. -/
def authFault (v : VerifyEnv) (b : Bytes) : Option (Nat × Bool) :=
  let sig := u32 b 24
  let es := directory b
  let g := slice b sig 256
  let key := slice g 16 97
  if (match v.ownerHash with
      | some h => sha384 key != h
      | none => false) then some (rKeyHash, false)
  else if u16 b 16 < v.rollback then some (rRollback, false)
  else if es.any (fun e => e.crc != crc32c (slice b e.offset e.length)) || !paddingOk b es then
    some (rSectionCrc, false)
  else if !ecdsaVerify key (sha384 (b.take (sig + 128))) (slice g 128 48) (slice g 176 48) then
    some (rSignature, false)
  else none

/-- Steps 14 to 16: IDENT, FIRMWARE_PATCH, every owner's parse. -/
def contentFault (v : VerifyEnv) (b : Bytes) (q : Secs) : Option (Nat × Bool) :=
  if !identOk v.rom (sec q tyIdent) then some (rMember, false)
  else
    match if hasSec q tyPatch then patchVerdict v.rom v.patchKeys v.patchRollback (sec q tyPatch) else .ok with
    | .malformed => some (rPatchSignature, true)
    | .bad => some (rPatchSignature, false)
    | .missing => some (rPatchSignature, false)
    | .ok =>
      if (directory b).any (fun e => e.format != 1) then some (rSectionContent, v.content q == .malformed)
      else
        match v.content q with
        | .ok => none
        | .bad => some (rSectionContent, false)
        | .malformed => some (rSectionContent, true)
        | .missing => some (rSectionMissing, false)

/-- Steps 2 to 16 of Table 2.8 on the bytes of a slot (R38): the first failing step decides. -/
def verifyImage (v : VerifyEnv) (slot : Nat) (readOk : Bool) (b : Bytes) (len : Nat) : Verified :=
  if !readOk then .fails rFlashRead false none
  else
    match headerFault b len with
    | some f => .fails f.1 f.2 none
    | none =>
      match directoryFault b with
      | some f => .fails f.1 f.2 none
      | none =>
        match authFault v b with
        | some f => .fails f.1 f.2 none
        | none =>
          let q := joinSections b (directory b)
          match contentFault v b q with
          | some f => .fails f.1 f.2 (some (sec q tyTrust))
          | none =>
            let sig := u32 b 24
            .passes { slot := slot, version := u64 b 8, rollbackIndex := u16 b 16,
                      ownerKey := slice b (sig + 16) 97, signedHash := sha384 (b.take (sig + 128)), sections := q }

end Sys2Proof.Machine
end

