-- ==== Sys2Proof/Machine/RecorderOps.lean ====
section
/-! DEFINITION. Vitrine's operations on the recorder flash (chapter 13): sectors, the TAIL chain, the mount's scans, the
odometer, the last-breath slots. -/

namespace Sys2Proof.Machine

/-! ### Layout (Table 13.1) -/

def logBase : Nat := 0x30000
def breathBase (i : Nat) : Nat := 0x22000 + 0x1000 * i

/-- The number of log sectors of the device. -/
def logSectors (s : State) : Nat := (s.vitrine.deviceBytes - logBase) / 4096

/-- The address of log sector `i`. -/
def logAddr (i : Nat) : Nat := logBase + 4096 * i

/-- The usable sectors (R380): the lowest that are not spares nor retired, plus one spare for each retired sector. -/
def sectorUsable (s : State) (a : Nat) : Bool :=
  let spares := viSpareSectors (secs s)
  let i := (a - logBase) / 4096
  let firstSpare := logSectors s - spares
  let retired := s.vitrine.retired
  !retired.contains a
    && (decide (i < firstSpare)
      || decide (i < logSectors s) && decide ((i - firstSpare) - (retired.filter (fun r => decide (logAddr firstSpare ≤ r) && decide (r < a))).length < retired.length))

/-- The first free usable sector, searching `n` sectors from sector `i` (R380: ascending address order). -/
def freeSectorFrom (s : State) : Nat → Nat → Option Nat
  | 0, _ => none
  | n + 1, i =>
    if sectorUsable s (logAddr i) && !s.vitrine.sectors.any (fun x => x.addr == logAddr i) then some (logAddr i)
    else freeSectorFrom s n (i + 1)

/-- The first free usable sector. -/
def freeSector (s : State) : Option Nat := freeSectorFrom s (logSectors s) 0

/-! ### Sector headers (Table 13.2) -/

/-- The 48 payload bytes of a sector header. -/
def sectorHeader (sectorSeq gen first : Nat) (prevTail : Bytes) : Bytes :=
  let b := ascii "VTSH" ++ leBytes 4 sectorSeq ++ leBytes 1 gen ++ zeros 3 ++ leBytes 4 first ++ fit 16 prevTail ++ zeros 12
  b ++ leBytes 4 (crc32c b)

/-- The 16 bytes of a sector's commit record. -/
def sectorCommit (sectorSeq : Nat) : Bytes :=
  let b := ascii "VTCM" ++ leBytes 4 sectorSeq ++ leBytes 4 48
  b ++ leBytes 4 (crc32c b)

/-- A sector header is committed (R370): both CRCs match and COMMIT_SEQ equals SECTOR_SEQ. -/
def headerCommitted (h : Bytes) : Bool :=
  slice h 0 4 == ascii "VTSH" && u32 h 44 == crc32c (h.take 44) && slice h 48 4 == ascii "VTCM"
    && u32 h 52 == u32 h 4 && u32 h 60 == crc32c (slice h 48 12)

/-- A sector whose operation (1 erase, 2 program, 3 read-back; assumption 77) failed is retired, with events 0x8B06 and, once spares are exhausted, 0x8B07 (R380). -/
def retireSector (addr op : Nat) (s : State) : State :=
  let v := s.vitrine
  let current := (v.sectors.getLast?.map (·.addr)) == some addr
  let s := { s with vitrine := { v with
    retired := addr :: v.retired, append := if current then 4096 else v.append } }
  let s := pushOwn 0x8B06 (pay [addr, op]) s
  if viSpareSectors (secs s) < s.vitrine.retired.length && !v.sparesTold then
    pushOwn 0x8B07 (pay [s.vitrine.retired.length]) { s with vitrine := { s.vitrine with sparesTold := true } }
  else s

/-- A new log sector is erased, its header programmed and committed (R370); records follow from byte 64. -/
def openSector (addr first : Nat) (s : State) : State :=
  let v := s.vitrine
  let q := v.highestSectorSeq + 1
  let m := flashErase s.cs1 addr 4096
  let m := flashProgram m addr (sectorHeader q v.generation first v.tail ++ sectorCommit q)
  { s with
    cs1 := m
    vitrine := { v with
      highestSectorSeq := q, append := 64
      sectors := v.sectors ++ [{ addr := addr, sectorSeq := q, firstSeq := first, lastSeq := first }] } }

/-! ### Records (Table 13.3, R376) -/

/-- The header and payload bytes of a record. -/
def recordBody (r : Staged) : Bytes :=
  let n := ceilDiv r.payload.length 4
  leBytes 2 r.code ++ leBytes 1 n ++ leBytes 3 r.powerCycles ++ leBytes 2 (r.rep + r.severity * 8192)
    ++ leBytes 4 (r.seq.getD 0) ++ leBytes 4 r.opSeconds ++ fit (4 * n) r.payload

/-- The TAIL of a record (R376). -/
def recordTail (key prev : Bytes) (body : Bytes) : Bytes := (hmac384 key (body ++ prev)).take 16

/-- A record is sealed and programmed at the append point of the current sector. -/
def writeRecord (key : Bytes) (r : Staged) (s : State) : State :=
  let v := s.vitrine
  match v.sectors.getLast? with
  | none => s
  | some cur =>
    let body := recordBody r
    let tail := recordTail key v.tail body
    let q := r.seq.getD 0
    { s with
      cs1 := flashProgram s.cs1 (cur.addr + v.append) (body ++ tail)
      plinth := { s.plinth with flashedSeq := q }
      vitrine := { v with
        append := v.append + body.length + 16, tail := tail, flashedSeq := q
        sectors := v.sectors.dropLast ++ [{ cur with highSev := max cur.highSev r.severity, lastSeq := q }] } }

/-- A record that the log itself adds, with the next INDEX (assumption 8). -/
def ownRecord (code sev : Nat) (payload : Bytes) (s : State) : Staged × State :=
  let v := s.vitrine
  ({ code := code, severity := sev, payload := payload, opSeconds := s.plinth.opSeconds,
     powerCycles := s.plinth.powerCycles, seq := some (seqOf v.generation v.nextIndex), stagedAt := s.now },
   { s with vitrine := { v with nextIndex := min (v.nextIndex + 1) 0xFFFFFF } })

/-- Start-up, test or recovery, as the recorder policy defines them (Table 0.3). -/
def specialService (s : State) : Bool :=
  s.mode == .boot || s.mode == .service || s.mode == .test || s.mode == .safe || poweringUp s || poweringDown s
    || decide (s.now < s.collector.recoveryUntil)

/-- Room for `n` bytes in the current sector. -/
def fitsCurrent (n : Nat) (s : State) : Bool := !s.vitrine.sectors.isEmpty && decide (s.vitrine.append + n ≤ 4096)

/-- The log is full for a record of `n` bytes (R378, R379). -/
def logFull (n : Nat) (s : State) : Bool :=
  s.vitrine.nextIndex == 0xFFFFFF || ((freeSector s).isNone && !fitsCurrent (n + 36) s)

/-- The victim of R379 for severity `sev`: the live sector other than the current one with the lowest highest severity
below `sev`, the lowest SECTOR_SEQ on a tie. -/
def victim (sev : Nat) (s : State) : Option LogSector :=
  (s.vitrine.sectors.dropLast.filter (fun x => decide (x.highSev < sev) && !s.vitrine.retired.contains x.addr)).foldl
    (fun (best : Option LogSector) x =>
      match best with
      | none => some x
      | some b => if x.highSev < b.highSev ∨ (x.highSev = b.highSev ∧ x.sectorSeq < b.sectorSeq) then some x else best)
    none

/-- A refused record is dropped and counted (R378, R379). -/
def dropFull (s : State) : State := { s with vitrine := { s.vitrine with fullDrop := sat32 s.vitrine.fullDrop 1 } }

/-- A sealed record is placed in the log: in the current sector, or at byte 64 of a newly opened one (R376). -/
def placeRecord (key : Bytes) (r : Staged) (s : State) : State :=
  if fitsCurrent (recordBytes r) s then writeRecord key r s
  else
    match freeSector s with
    | some a => writeRecord key r (openSector a (r.seq.getD 0) s)
    | none => writeRecord key r s

/-- One record is flushed (R376), with the full-log rules of R378 and R379. -/
def flushRecord (key : Bytes) (r : Staged) (s : State) : State :=
  if !logFull (recordBytes r) s && (!s.vitrine.fullWritten || specialService s) then placeRecord key r s
  else if s.vitrine.nextIndex = 0xFFFFFF then dropFull s
  else if specialService s then
    match victim r.severity s with
    | none => dropFull s
    | some x =>
      let v := s.vitrine
      let s := { s with vitrine := { v with sectors := v.sectors.filter (· ≠ x), overwrites := sat32 v.overwrites 1 } }
      let o := ownRecord 0x8B0C 4 (pay [x.firstSeq, x.lastSeq, x.highSev]) s
      let s := openSector x.addr (o.1.seq.getD 0) o.2
      let s := writeRecord key o.1 s
      let s := { s with vitrine := { s.vitrine with oldestSeq := (s.vitrine.sectors.head?.map (·.firstSeq)).getD 0 } }
      writeRecord key r s
  else if s.vitrine.fullWritten then dropFull s
  else
    let o := ownRecord 0x8B02 6 (pay [r.code + r.severity * 65536]) s
    let s := setCause 3 (dropFull { o.2 with vitrine := { o.2.vitrine with fullWritten := true } })
    if fitsCurrent 36 s then writeRecord key o.1 s else s

/-- The sector the flush of a record opens, if it opens one (R376, R379). -/
def openedBy (r : Staged) (s : State) : Option Nat :=
  if !logFull (recordBytes r) s && (!s.vitrine.fullWritten || specialService s) then
    if fitsCurrent (recordBytes r) s then none else freeSector s
  else if s.vitrine.nextIndex = 0xFFFFFF || !specialService s then none
  else (victim r.severity s).map (·.addr)

/-- The opening of a sector that does not reach its commit program (R370): erased, its header programmed unless the erase
itself failed, and free. -/
def abandonOpening (addr : Nat) (header : Bool) (s : State) : State :=
  let v := s.vitrine
  let m := if header then
      flashProgram (flashErase s.cs1 addr 4096) addr (sectorHeader (v.highestSectorSeq + 1) v.generation v.nextIndex v.tail)
    else s.cs1
  { s with cs1 := m, vitrine := { v with sectors := v.sectors.filter (fun x => x.addr ≠ addr) } }

/-- The flush of the oldest staged record fails in an operation (R380): the sector it opens, or the current one, is
retired; the record stays staged. An erase belongs to an opening alone. -/
def flushFails (op : Nat) (r : Staged) (s : State) : State :=
  match openedBy r s, s.vitrine.sectors.getLast? with
  | some a, _ => retireSector a op (abandonOpening a (op ≠ 1) s)
  | none, some cur => if op = 1 then s else retireSector cur.addr op s
  | none, none => s

/-- PWR_FAIL_N asserts in the flush of the oldest staged record (R370, R388): an opening is abandoned, and the record stays
staged. -/
def flushCut (r : Staged) (s : State) : State :=
  match openedBy r s with
  | some a => abandonOpening a true s
  | none => s

/-- The oldest staged record is flushed; nothing is programmed without a mount, without the recorder key, or while
PWR_FAIL_N counts as asserted (R388, R413). -/
def flushOldest (s : State) : State :=
  match s.benra.recorderKey, s.vitrine.staged with
  | some key, r :: rest =>
    if s.vitrine.mount == .mounted && !s.pins.pwrFail then
      flushRecord key r { s with vitrine := { s.vitrine with staged := rest } }
    else s
  | _, _ => s

/-- Staging is flushed in SEQUENCE order, `n` records. -/
def flushMany : Nat → State → State
  | 0, s => s
  | n + 1, s => flushMany n (flushOldest s)

/-- The whole of staging is flushed. -/
def flushAll (s : State) : State := flushMany s.vitrine.staged.length s

/-! ### Last breath (Table 13.6, R389, R390) -/

/-- The last-breath record of the moment. -/
def breathBytes (trigger : Nat) (s : State) : Bytes :=
  let p := s.plinth
  let b := ascii "LBRT" ++ leBytes 4 p.opSeconds ++ leBytes 4 p.powerCycles ++ leBytes 1 trigger
    ++ leBytes 1 (modeCode s.mode) ++ leBytes 1 s.collector.heldLevel
    ++ leBytes 1 (flag s.vitrine.eraseSuspended + 2 * flag s.vitrine.programPending)
    ++ leBytes 4 p.newestSeq ++ leBytes 4 p.flashedSeq ++ fit 8 (p.lastFaults.flatMap (leBytes 2))
    ++ leBytes 4 p.undischarged ++ zeros 24
  b ++ leBytes 4 (crc32c b)

/-- What CS1 is doing when power fails (R388, R389, Table 13.6). Of a store write or a clear in progress the commands do
not tell how far it has come: a free value says whether an erase, a program or the commit program is under way
(assumption 34). One whose commit program has not started is abandoned (R270, R384). -/
def capturePending (s : State) : State :=
  if s.maq.write.isSome || s.vitrine.clear.isSome then
    let f := drawFree s
    let k := f.1 % 3
    let s := f.2
    { s with
      vitrine := { s.vitrine with
        eraseSuspended := k == 0, programPending := k != 0
        clear := s.vitrine.clear.map (fun c => { c with cut := c.cut || k != 2 }) }
      maq := { s.maq with failed := s.maq.failed || s.maq.write.isSome && k != 2 } }
  else { s with vitrine := { s.vitrine with eraseSuspended := false, programPending := false } }

/-- The Plinth programs the last-breath record into the armed slot, and disarms it (R389). -/
def writeBreath (trigger : Nat) (s : State) : State :=
  match s.plinth.lbNext with
  | none => s
  | some a =>
    { s with cs1 := flashProgram s.cs1 a (breathBytes trigger s), plinth := { s.plinth with lbNext := none } }

/-- The slots of both last-breath sectors: address and bytes. -/
def breathSlots (m : Flash) : List (Nat × Bytes) :=
  [0, 1].flatMap (fun d => (List.range 64).map (fun i => (breathBase d + 64 * i, flashRead m (breathBase d + 64 * i) 64)))

/-- A last-breath record's MAGIC and LB_CRC match (R390). -/
def breathValid (e : Bytes) : Bool := slice e 0 4 == ascii "LBRT" && u32 e 60 == crc32c (e.take 60)

/-- Insertion by ascending POWER_CYCLES, later slots after equal ones. -/
def insertBreath (e : Bytes) : List Bytes → List Bytes
  | [] => [e]
  | x :: xs => if u32 e 8 < u32 x 8 then e :: x :: xs else x :: insertBreath e xs

/-- The valid last-breath records in ascending POWER_CYCLES order (R390). -/
def breaths (m : Flash) : List Bytes :=
  (((breathSlots m).map (·.2)).filter breathValid).foldl (fun l e => insertBreath e l) []

/-- The lowest erased slot of a last-breath sector. -/
def breathFree (m : Flash) (d : Nat) : Option Nat :=
  ((List.range 64).map (fun i => breathBase d + 64 * i)).find? (fun a => flashBlank m a 64)

/-- The last-breath sector in use: B1 while it holds records and B0 none, otherwise B0. -/
def breathSector (m : Flash) : Nat := if flashBlank m (breathBase 0) 4096 && !flashBlank m (breathBase 1) 4096 then 1 else 0

/-- LB_NEXT is armed after a mount: the lowest erased slot of the sector in use, which is erased and left for the other
when it has none and its records have reached the log (R390); not at all on a slow flash (R369). -/
def armBreath (s : State) : State :=
  if 800 < s.vitrine.programUs || s.vitrine.mount != .mounted then { s with plinth := { s.plinth with lbNext := none } }
  else
    let d := breathSector s.cs1
    match breathFree s.cs1 d with
    | some a => { s with plinth := { s.plinth with lbNext := some a } }
    | none =>
      let m := if s.vitrine.staged.any (·.code == 0x8B05) then s.cs1 else flashErase s.cs1 (breathBase d) 4096
      { s with cs1 := m, plinth := { s.plinth with lbNext := breathFree m (1 - d) } }

/-! ### Mount (R369, R370, R377, R385) -/

/-- The log sectors that hold any programmed byte, ascending. -/
def touchedSectors (s : State) : List Nat :=
  ((s.cs1.filter (fun c => decide (logBase ≤ c.1) && decide (c.1 < s.vitrine.deviceBytes))).map
    (fun c => logAddr ((c.1 - logBase) / 4096))).foldl (fun l a => if l.getLast? = some a then l else l ++ [a]) []

/-- Insertion of a sector by ascending SECTOR_SEQ. -/
def insertSector (x : Nat × Bytes) : List (Nat × Bytes) → List (Nat × Bytes)
  | [] => [x]
  | y :: ys => if u32 x.2 4 < u32 y.2 4 then x :: y :: ys else y :: insertSector x ys

/-- The committed sectors with their headers, ascending by SECTOR_SEQ. -/
def committedSectors (s : State) : List (Nat × Bytes) :=
  (((touchedSectors s).map (fun a => (a, flashRead s.cs1 a 64))).filter (fun x => headerCommitted x.2)).foldl
    (fun l x => insertSector x l) []

/-- What the scan of a sector finds (R377). -/
structure Scan where
  append : Nat := 64
  tail : Bytes
  highSev : Nat := 0
  /-- INDEX that follows the last record. -/
  next : Nat
  /-- Corrupt records: offset and stored SEQUENCE. -/
  corrupt : List (Nat × Nat) := []
  /-- The sector ends in a corrupt record, so no record is appended to it. -/
  closed : Bool := false
  /-- A log-full record has been read (R378). -/
  full : Bool := false

/-- The scan of a live sector from byte `off` (R377), `n` records at most; the check of a record takes the stored TAIL
of its predecessor. A corrupt record counts as the next INDEX, whatever it stores. -/
def scanSector (key : Option Bytes) (m : Flash) (addr : Nat) : Nat → Scan → Scan
  | 0, x => x
  | n + 1, x =>
    if 4064 < x.append then x
    else
      let h := flashRead m (addr + x.append) 16
      if u16 h 0 = 0xFFFF then x
      else
        let len := 32 + 4 * u8 h 2
        if 4096 < x.append + len then
          { x with next := min (x.next + 1) 0xFFFFFF, corrupt := x.corrupt ++ [(x.append, u32 h 8)], closed := true }
        else
          let r := flashRead m (addr + x.append) len
          let body := r.take (len - 16)
          let tail := r.drop (len - 16)
          let good :=
            match key with
            | some k => recordTail k x.tail body == tail
            | none => true
          scanSector key m addr n
            { append := x.append + len, tail := tail, highSev := max x.highSev (u16 h 6 / 8192),
              next := min ((if good then u32 h 8 % 2 ^ 24 else x.next) + 1) 0xFFFFFF,
              corrupt := if good then x.corrupt else x.corrupt ++ [(x.append, u32 h 8)], closed := !good,
              full := x.full || u16 h 0 == 0x8B02 }

/-- The scan of a whole sector from its header. -/
def scanWhole (key : Option Bytes) (m : Flash) (addr : Nat) (h : Bytes) : Scan :=
  scanSector key m addr 126 { tail := slice h 16 16, next := u32 h 12 % 2 ^ 24 }

/-- SEQUENCE assigned to the staged records that lack one, in order (R375). -/
def numberStaged (gen : Nat) : Nat → List Staged → List Staged × Nat
  | i, [] => ([], i)
  | i, r :: rs =>
    match r.seq with
    | some _ => let x := numberStaged gen i rs; (r :: x.1, x.2)
    | none =>
      let x := numberStaged gen (min (i + 1) 0xFFFFFF) rs
      ({ r with seq := some (seqOf gen i) } :: x.1, x.2)

/-- SEQUENCE numbers reach staging, and the mirrors follow (R375). -/
def assignSequences (s : State) : State :=
  let v := s.vitrine
  let x := numberStaged v.generation v.nextIndex v.staged
  let newest := ((x.1.getLast?).bind (·.seq)).getD v.newestSeq
  let first := ((x.1.head?).bind (·.seq)).getD 0
  { s with
    plinth := { s.plinth with newestSeq := newest }
    vitrine := { v with
      staged := x.1, nextIndex := x.2, newestSeq := newest
      oldestSeq := if v.sectors.isEmpty then first else v.oldestSeq } }

/-- The mount fails (R369): 0x8B0B with the cause, generation 0 from INDEX 0 (R375). -/
def mountFails (cause : Nat) (s : State) : State :=
  let s := pushOwn 0x8B0B (pay [cause]) s
  let s := assignSequences { s with vitrine := { s.vitrine with generation := 0, nextIndex := 0 } }
  { s with vitrine := { s.vitrine with mount := .failed } }

/-- The meters restored after a loss of VAO_3V3 (R56, R387): the winning entry's values are added to the Plinth's and to
every staged record's. -/
def restoreOdometer (s : State) : State :=
  if !s.plinth.afterVaoLoss then s
  else
    let e := ((odoWinner s.cs1).map (·.2.2)).getD []
    let ops := u32 e 4
    let cyc := u32 e 8
    let p := s.plinth
    let counts := (List.range 8).foldl (fun t i => Tab.upd 0 t (i + 1) (fun n => sat16 n (u16 e (12 + 2 * i)))) p.resetCounts
    let s := { s with
      plinth := { p with
        opSeconds := sat32 p.opSeconds ops, powerCycles := sat32 p.powerCycles cyc, afterVaoLoss := false
        resetCounts := if e.isEmpty then p.resetCounts else counts }
      vitrine := { s.vitrine with staged := s.vitrine.staged.map (fun r =>
        { r with opSeconds := sat32 r.opSeconds ops, powerCycles := sat32 r.powerCycles cyc }) } }
    pushOwn 0x8B0A (pay [ops, cyc]) s

/-- The newest live sector gives the append point; a corrupt end closes it (R377). A log-full record of this generation is
not written again (R378). -/
def adoptLog (s : State) : State :=
  let all := committedSectors s
  match all.getLast? with
  | none => s
  | some top =>
    let gen := u8 top.2 8
    let live := all.filter (fun x => u8 x.2 8 == gen)
    let scans := live.map (fun x => (x, scanWhole s.benra.recorderKey s.cs1 x.1 x.2))
    let last := scanWhole s.benra.recorderKey s.cs1 top.1 top.2
    let v := s.vitrine
    let newest := seqOf gen (last.next - 1)
    let s := { s with
      plinth := { s.plinth with flashedSeq := newest }
      vitrine := { v with
        generation := gen, nextIndex := last.next
        highestSectorSeq := u32 top.2 4, tail := last.tail
        append := if last.closed then 4096 else last.append
        flashedSeq := newest, newestSeq := newest, fullWritten := scans.any (fun x => x.2.full)
        oldestSeq := (live.head?.map (fun x => u32 x.2 12)).getD 0
        sectors := scans.map (fun x =>
          { addr := x.1.1, sectorSeq := u32 x.1.2 4, highSev := x.2.highSev, firstSeq := u32 x.1.2 12, lastSeq := seqOf gen (x.2.next - 1) }) } }
    last.corrupt.foldl (fun s c => pushOwn 0x8B08 (pay [top.1, c.1, c.2]) s) s

/-- The first record of a new log, 0x8B0D (R385). -/
def firstRecord (s : State) : State :=
  match s.benra.recorderKey with
  | some key => writeRecord key (ownRecord 0x8B0D 7 [] s).1 (ownRecord 0x8B0D 7 [] s).2
  | none => s

/-- Generation 0 is created where no sector is committed (R385): the lowest usable sector, first record 0x8B0D. -/
def createLog (s : State) : State :=
  match freeSector s with
  | none => s
  | some a =>
    firstRecord (openSector a (seqOf 0 0)
      { s with vitrine := { s.vitrine with generation := 0, nextIndex := 0, tail := zeros 16 } })

/-- The last-breath copies are staged before the records of this BOOT, with SEQUENCE in that order (R390). -/
def copyBreaths (s : State) : State :=
  let copies := (breaths s.cs1).map (fun b =>
    ({ code := 0x8B05, severity := 6, payload := b, opSeconds := s.plinth.opSeconds,
       powerCycles := s.plinth.powerCycles, seq := none, stagedAt := s.now } : Staged))
  { s with vitrine := { s.vitrine with staged := copies ++ s.vitrine.staged } }

/-- The mount of the recorder flash, in the order of R369. -/
def mountRecorder (bytes programUs : Nat) (s : State) : State :=
  let s := { s with vitrine := { s.vitrine with deviceBytes := bytes, programUs := programUs } }
  let w := odoWinner s.cs1
  let s := { s with vitrine := { s.vitrine with
    odoSector := (w.map (·.1)).getD 0, odoNext := (w.map (·.2.1 + 1)).getD 0, odoSeq := (w.map (fun e => u32 e.2.2 52)).getD 0 } }
  let restore := s.plinth.afterVaoLoss
  let s := restoreOdometer s
  let s := if (committedSectors s).isEmpty then createLog s else adoptLog s
  let s := assignSequences (copyBreaths s)
  let s := { s with vitrine := { s.vitrine with mount := .mounted } }
  let s := if restore then writeOdometer s else s
  let s := if 800 < programUs then pushOwn 0x8B0E (pay [programUs]) s else s
  let v := s.vitrine
  pushOwn 0x8B01 (pay [v.generation, v.oldestSeq, v.newestSeq, v.retired.length]) s

end Sys2Proof.Machine
end

