-- ==== Sys2Proof/Machine/TrustOps.lean ====
section
/-! DEFINITION. Benra's shared operations (chapter 14): the fuse array, the keys, tokens, signatures. -/

namespace Sys2Proof.Machine

/-! ### Fuses (Table 14.2, R397) -/

def fuse (s : State) (k : Nat) : Bool := s.benra.fuses.testBit k
/-- A double bit reads blown when either physical bit does. -/
def fuse2 (s : State) (k : Nat) : Bool := fuse s k || fuse s (k + 1)
/-- `n` fuse bits from `k` as a number. -/
def fuseField (s : State) (k n : Nat) : Nat := (s.benra.fuses >>> k) % 2 ^ n

def fuseSerial (s : State) : Nat := fuseField s 256 64
/-- LIFECYCLE: 1 SHIPPED, 0 MANUFACTURE. -/
def fuseShipped (s : State) : Bool := fuse2 s 320

def ownerBase (i : Nat) : Nat := 512 + 448 * i
/-- The hash of owner slot `i` as its 48 bytes. -/
def ownerHash (s : State) (i : Nat) : Bytes := leBytes 48 (fuseField s (ownerBase i) 384)
/-- A slot is valid when LOCK reads blown and the CRC matches (R397). -/
def ownerValid (s : State) (i : Nat) : Bool :=
  fuse2 s (ownerBase i + 416) && fuseField s (ownerBase i + 384) 32 == crc32c (ownerHash s i)
/-- A slot with any bit blown. -/
def ownerTouched (s : State) (i : Nat) : Bool := fuseField s (ownerBase i) 448 != 0
/-- The active owner slot: the highest valid one. -/
def ownerSlot (s : State) : Option Nat := [3, 2, 1, 0].find? (ownerValid s)
/-- The active owner key hash, none in an unenrolled chip. -/
def activeOwner (s : State) : Option Bytes := (ownerSlot s).map (ownerHash s)
/-- The next unspent slot: the lowest that is neither valid nor spent. -/
def nextOwnerSlot (s : State) : Option Nat := [0, 1, 2, 3].find? (fun i => !ownerTouched s i)

/-- 1 plus the highest blown step, 0 when none is (R397). -/
def stepCount (s : State) (base n : Nat) : Nat :=
  (List.range n).foldl (fun c k => if fuse2 s (base + 2 * k) then k + 1 else c) 0
def rollbackCount (s : State) : Nat := stepCount s 2304 64
def patchRollbackCount (s : State) : Nat := stepCount s 2432 16

/-- The fused repairs of a bank: the columns of its valid entries. -/
def fusedRepairs (s : State) (b : Nat) : List Nat :=
  ((List.range 8).filter (fun e => fuse2 s (2464 + 16 * (8 * b + e) + 12))).map (fun e => fuseField s (2464 + 16 * (8 * b + e)) 12)

/-- The first unused repair entry of a bank. -/
def freeRepair (s : State) (b : Nat) : Option Nat :=
  (List.range 8).find? (fun e => fuseField s (2464 + 16 * (8 * b + e)) 16 == 0)

/-- The second physical bits owed by rollback steps with only one bit blown (R398). -/
def owedBits (s : State) : List Nat :=
  let one (k : Nat) : List Nat := if fuse s k && !fuse s (k + 1) then [k + 1] else if fuse s (k + 1) && !fuse s k then [k] else []
  ((List.range 64).flatMap (fun k => one (2304 + 2 * k))) ++ ((List.range 16).flatMap (fun k => one (2432 + 2 * k)))

/-- The bits of a number's ones, from a fuse position. -/
def onesFrom (base n v : Nat) : List Nat := (bitsOf n v).map (base + ·)

/-- The bits of the steps from `lo` to `hi - 1`. -/
def stepBits (base lo hi : Nat) : List Nat :=
  ((List.range hi).filter (lo ≤ ·)).flatMap (fun k => [base + 2 * k, base + 2 * k + 1])

/-- The bits an owner slot needs for a hash, in the order of R398: hash, CRC, LOCK. -/
def ownerBits (slot : Nat) (hash : Bytes) : List Nat :=
  onesFrom (ownerBase slot) 384 (leNat hash) ++ onesFrom (ownerBase slot + 384) 32 (crc32c hash)
    ++ [ownerBase slot + 416, ownerBase slot + 417]

/-- The bits of a repair entry: column, then VALID. -/
def repairBits (b e column : Nat) : List Nat :=
  let base := 2464 + 16 * (8 * b + e)
  onesFrom base 12 column ++ [base + 12, base + 13]

/-- The object of the command a fuse operation serves. -/
def fuseObject : FuseFor → Option Nat
  | .rollback => some 0x0D15
  | .patchRollback => some 0x0D16
  | .enrol _ => some 0x0D19
  | .transfer _ => some 0x0D1A
  | .repair _ _ => none

/-- VPP_FUSE, in mV, lies within 1.71 to 1.89 V (R398). -/
def vppIn (mv : Nat) : Bool := within 1710 1890 mv

/-- A fuse bit may start (R398): PWR_FAIL_N deasserted, in STANDBY or SERVICE. -/
def fuseMayStart (s : State) : Bool := !s.pins.pwrFail && (s.mode == .standby || s.mode == .service)

/-- A fuse operation stops: fault 0x0D04 with the bit, and INTEGRITY as the command's final status (R43, R398). -/
def fuseStop (o : FuseOp) (bitNo : Nat) (s : State) : State :=
  let s := chipPulse 0x0D04 [bitNo] { s with benra := { s.benra with fuseOp := none } }
  match fuseObject o.purpose with
  | some ob => finishCommand ob stIntegrity 0 s
  | none => s

/-- The next soft repair starts burning, where an entry is free (R75): VPP_FUSE is checked before its first bit, which waits
while no bit may start (R398). -/
def startRepair : List (Nat × Nat) → State → State
  | [], s => { s with benra := { s.benra with fuseOp := none } }
  | (b, c) :: rest, s =>
    match freeRepair s b with
    | none => startRepair rest s
    | some e =>
      let o : FuseOp :=
        { purpose := .repair b c, bits := owedBits s ++ repairBits b e c, held := !fuseMayStart s, repairsLeft := rest }
      if vppIn s.pins.vppFuse then { s with benra := { s.benra with fuseOp := some o } } else fuseStop o (o.bits.headD 0) s

/-- A fuse operation ends well: its event and the final status of its command (R43, R75, R400, R401, R404). -/
def fuseDone (o : FuseOp) (s : State) : State :=
  let s := { s with benra := { s.benra with fuseOp := none } }
  match o.purpose with
  | .rollback => finishCommand 0x0D15 stDone 0 (event 0x8D14 [rollbackCount s] s)
  | .patchRollback => finishCommand 0x0D16 stDone 0 (event 0x8D04 [patchRollbackCount s] s)
  | .enrol i => finishCommand 0x0D19 stDone 0 (event 0x8D01 [i] s)
  | .transfer i => finishCommand 0x0D1A stDone 0 (event 0x8D02 [i] s)
  | .repair b c => startRepair o.repairsLeft (event 0x8203 [b, c] s)

/-- A fuse operation starts with the owed second bits (R398); one with nothing to program is done at once. -/
def fuseStart (purpose : FuseFor) (bits : List Nat) (s : State) : State :=
  let o : FuseOp := { purpose := purpose, bits := owedBits s ++ bits.filter (fun b => !fuse s b) }
  match o.bits with
  | [] => fuseDone o s
  | _ => { s with benra := { s.benra with fuseOp := some { o with held := !fuseMayStart s } } }

/-- One bit's pulse and verify end (R398): retried once, then the operation stops; the next bit starts only with
VPP_FUSE in range, and waits while no bit may start. -/
def fuseBit (verified : Bool) (s : State) : State :=
  match s.benra.fuseOp with
  | none => s
  | some o =>
    match o.bits with
    | [] => fuseDone o s
    | b :: rest =>
      let wait := !fuseMayStart s
      if o.held && wait then s
      else if verified then
        let s := { s with benra := { s.benra with fuses := s.benra.fuses ||| (1 <<< b) } }
        match rest with
        | [] => fuseDone o s
        | n :: _ =>
          if vppIn s.pins.vppFuse then
            { s with benra := { s.benra with fuseOp := some { o with bits := rest, retried := false, held := wait } } }
          else fuseStop o n s
      else if o.retried then fuseStop o b s
      else { s with benra := { s.benra with fuseOp := some { o with retried := true, held := wait } } }

/-! ### Keys (Table 14.1, R393) -/

/-- The DUS as 32 bytes. -/
def dusBytes (s : State) : Bytes := leBytes 32 (fuseField s 0 256)

/-- DEVICE_KEY from the DUS. -/
def deriveDeviceKey (s : State) : Nat :=
  beNat (hkdf384 (dusBytes s) (ascii "KST192 DEVICE KEY v1") 56) % (p384N - 1) + 1

/-- RECORDER_KEY from the DUS. -/
def deriveRecorderKey (s : State) : Bytes := hkdf384 (dusBytes s) (ascii "KST192 VITRINE HMAC v1") 48

/-- CMD_KEY[c] from DEVICE_KEY and COMMAND_AUTHORITY. -/
def deriveCmdKey (d : Nat) (authority : Bytes) (c : Nat) : Bytes :=
  match pubKeyPoint authority with
  | none => []
  | some q => hkdf384 (beBytes 48 (ecMul d q).1) (ascii "KST192 CMD v1" ++ [byte c]) 32

/-- The command keys of a TRUST section, for the channels it declares. -/
def deriveCmdKeys (trust : Bytes) (s : State) : Tab Bytes :=
  match s.benra.deviceKey with
  | none => []
  | some d => (List.range (trChannelCount trust)).map (fun c => (c, deriveCmdKey d (trCommandAuthority trust) c))

/-- The two certificates at the start of the certificate area (R405). -/
def certChain (s : State) : Bytes :=
  match derHead s.benra.certArea with
  | some (d, rest) =>
    match derHead rest with
    | some (e, _) => d.whole ++ e.whole
    | none => d.whole
  | none => []

/-- The certificate store is valid (R395): the chain of R406, and the device key's own public key. -/
def certStoreOk (d : Nat) (s : State) : Bool :=
  match checkChain Config.kreiloRootKey (certChain s) with
  | none => false
  | some (key, _) => key == pubKeyOf d

/-- A signature by DEVICE_KEY over a message's SHA-384 with a secret from the DRBG (R394). -/
def deviceSign (msg : Bytes) (s : State) : (Bytes × Bytes) × State :=
  let x := drbg s
  match s.benra.deviceKey with
  | none => ((zeros 48, zeros 48), x.2)
  | some d => (ecdsaSign d (x.1 % (p384N - 1) + 1) (sha384 msg), x.2)

/-! ### Service tokens (Table 14.8, R412) -/

/-- A token is accepted for an act: bit 0 RECORDER_CLEAR, bit 1 DEBUG_UNLOCK. -/
def tokenOk (act : Nat) (k : Bytes) (s : State) : Bool :=
  let tr := trustOf s
  slice k 0 4 == ascii "KSTK" && u8 k 4 == 1 && decide (u8 k 5 < 4) && decide (u8 k 6 < 2) && zeroAt k 7 1
    && zeroAt k 28 4 && zeroAt k 40 8
    && ecdsaVerify (trTokenAuthority tr) (sha384 (k.take 48)) (slice k 48 48) (slice k 96 48)
    && u64 k 8 == fuseSerial s && within (u32 k 20) (u32 k 24) s.plinth.opSeconds
    && decide (u32 k 24 ≤ u32 k 20 + trTokenSpan tr * 3600)
    && bit (u8 k 5) act && bit (u8 k 6) 0 && slice k 32 8 == s.benra.bootNonce

/-- A token examined: 0x8D07 with TOKEN_ID and the act, or fault 0x0D08 with TOKEN_ID (R412). -/
def useToken (act : Nat) (k : Bytes) (s : State) : Bool × State :=
  if tokenOk act k s then (true, event 0x8D07 [u32 k 16, act] s) else (false, chipPulse 0x0D08 [u32 k 16] s)

end Sys2Proof.Machine
end

