-- ==== Sys2Proof/Machine/ClaspOps.lean ====
section
/-! DEFINITION. Clasp's acts on received messages and on its timers (chapter 11): acceptance, identity, contracts,
transitions, swaps, modes, resets. -/

namespace Sys2Proof.Machine

/-! ### The message (R306 to R308) -/

/-- Fields of the header (Table 11.2), of the bytes after the sync word. -/
def msgType (b : Bytes) : Nat := u8 b 0 / 4
def msgCount (b : Bytes) : Nat := u8 b 0 % 4 * 2 + u8 b 1 / 128
def msgRole (b : Bytes) : Nat := u8 b 1 / 64 % 2
def msgRev (b : Bytes) : Nat := u8 b 1 / 16 % 4
def msgLen (b : Bytes) : Nat := u8 b 1 % 16 * 16 + u8 b 2 / 16
def msgPayload (b : Bytes) : Bytes := slice b 4 (msgLen b)

/-- Big-endian numbers of a payload. -/
def be16 (p : Bytes) (o : Nat) : Nat := beNat (slice p o 2)
def be32 (p : Bytes) (o : Nat) : Nat := beNat (slice p o 4)

/-- Fields of a VDM header (Table 11.11). -/
def vdmVendor (p : Bytes) : Nat := be16 p 0
def vdmType (p : Bytes) : Nat := u8 p 2 / 64
def vdmCommand (p : Bytes) : Nat := u8 p 2 % 64
def vdmMode (p : Bytes) : Nat := u8 p 3

/-- The frame lengths CAN FD knows. -/
def canLength (n : Nat) : Bool := decide (n ≤ 8) || [12, 16, 20, 24, 32, 48, 64].contains n

/-- The length and the inner counts of a Kreilo VDM (R308). -/
def vdmOk (p : Bytes) : Bool :=
  let n := p.length
  let c := vdmCommand p
  if vdmVendor p ≠ 0x4B52 then true
  else if vdmType p = 0 then
    if c = 1 then n == 36
    else if c = 3 then n == (if vdmMode p = 1 then 5 else 4)
    else if c = 5 then n == 5
    else if c = 0x10 then decide (9 ≤ n) && canLength (u8 p 8) && n == 9 + u8 p 8
    else true
  else if vdmType p = 1 then
    if c = 1 then decide (9 ≤ n) && within 1 10 (u8 p 5)
    else if c = 2 then decide (5 ≤ n) && n == 5 + u8 p 4
    else if c = 3 then n == (if vdmMode p = 1 then 5 else 4)
    else true
  else true

/-- The payload length of a type (Table 11.3); an ACCEPT has 6 bytes where it answers a REQUEST. -/
def payloadOk (s : State) (ty : Nat) (p : Bytes) : Bool :=
  let n := p.length
  let c := s.clasp
  if ty = 0x02 then if c.asked.isSome then n == 6 || c.swapAsked && n == 0 else n == 0
  else if ty = 0x03 ∨ ty = 0x13 then n == 2
  else if ty = 0x04 ∨ ty = 0x05 ∨ ty = 0x06 ∨ ty = 0x07 ∨ ty = 0x08 ∨ ty = 0x0A then n == 0
  else if ty = 0x09 then n == 1
  else if ty = 0x10 then decide (20 ≤ n) && decide (u8 p 5 ≤ 8) && n == 20 + 12 * u8 p 5
  else if ty = 0x11 then n == 12
  else if ty = 0x12 then n == 8
  else if ty = 0x20 then decide (4 ≤ n) && vdmOk p
  else true

/-- What the receiver makes of what arrived (R308). -/
inductive RxVerdict where
  | ok | crcError | discard
  deriving DecidableEq, Repr

def rxVerdict (s : State) (m : PilotMsg) : RxVerdict :=
  let b := m.bytes
  let n := msgLen b
  if m.leadIn < 12 || !m.cellsOk || b.length < 8 || 240 < n || b.length != 8 + n then .discard
  else if crcErdun (b.take (4 + n)) != beNat (b.drop (4 + n)) then .crcError
  else if msgRev b != 1 || !payloadOk s (msgType b) (msgPayload b) then .discard
  else .ok

/-- What a message is, one kind per command of the table. -/
inductive RxKind where
  | accept | reject | wait | settled | capsQuery | roleSwap | resync | endCoupling | notSupported | unknown | caps | request
  | status | alert | identity | chunk | modes | enter | exit | attention | bridge | customer | reply | kreiloUnknown
  deriving DecidableEq, Repr

/-- The kind of a VDM. -/
def vdmKind (p : Bytes) : RxKind :=
  let c := vdmCommand p
  if vdmVendor p ≠ 0x4B52 then .customer
  else if vdmType p = 0 then
    if c = 1 then .identity else if c = 2 then .modes else if c = 3 then .enter else if c = 4 then .exit
    else if c = 5 then .attention else if c = 0x10 then .bridge else .kreiloUnknown
  else if c = 1 ∧ vdmType p = 1 then .chunk
  else .reply

def rxKind (b : Bytes) : RxKind :=
  let t := msgType b
  if t = 0x02 then .accept else if t = 0x03 then .reject else if t = 0x04 then .wait else if t = 0x05 then .settled
  else if t = 0x06 then .capsQuery else if t = 0x07 then .roleSwap else if t = 0x08 then .resync
  else if t = 0x09 then .endCoupling else if t = 0x0A then .notSupported else if t = 0x10 then .caps
  else if t = 0x11 then .request else if t = 0x12 then .status else if t = 0x13 then .alert
  else if t = 0x20 then vdmKind (msgPayload b) else .unknown

/-- The receipt byte (R310). -/
def receiptByte (count : Nat) (again : Bool) : Nat :=
  let n := count + 8 * flag again
  n + 16 * (15 - n)

/-- An accepted message is counted and receipted (R308, R310), the receipt from 10 µs after it (R309; assumption 55). -/
def noteRx (b : Bytes) (again : Bool) (s : State) : State :=
  let s := claspCount 0 s
  let n := receiptByte (msgCount b) again
  s.setClasp { s.clasp with
    lastValidAt := s.now, lastAccepted := some (msgType b, msgCount b), receiptTx := n
    lineTx := receiptCells n, lineFrom := s.now + 10 * usTicks, lineEnd := s.now + 50 * usTicks }

/-- A message of one kind comes in: `body` acts on its payload unless it is a repeat (R310). -/
def onMessage (k : RxKind) (t : Nat) (m : PilotMsg) (body : Bytes → State → State) (s : State) : State :=
  let s := advance t s
  let b := m.bytes
  if !claspActive s || !pilotUsed s.clasp.phase || rxVerdict s m != .ok || rxKind b != k then s
  else
    let again := s.clasp.lastAccepted == some (msgType b, msgCount b)
    let s := noteRx b again s
    if again && k != .resync then s else body (msgPayload b) s

/-! ### Contracts and transitions (R317, R322, R324) -/

/-- V_c is set as the course of V_r from where it stands, and the transition runs. -/
def beginTransition (k : Contract) (old : Option Contract) (closing : Bool) (vr : Int) (s : State) : State :=
  let dv := ((k.vc : Int) - vr).natAbs
  let s := s.setClasp { s.clasp with
    contract := some k, vr := vr, powerOff := false
    transition := some { old := old, closing := closing, startAt := s.now
                         limit := (dv * msTicks) / (1000 * max 1 k.po.ramp) + 100 * msTicks } }
  tellStatus (steer k.vc k.po.ramp s)

/-- A REQUEST has been granted: READY from DISCOVER, a transition in CONTRACT, from the measured link voltage after a swap
(R317, R325). -/
def takeContract (k : Contract) (s : State) : State :=
  let c := s.clasp
  let s := s.setClasp { c with asked := none }
  if c.phase = .discover then enterClasp .ready (s.setClasp { s.clasp with contract := some k })
  else if c.phase = .ready then s.setClasp { s.clasp with contract := some k }
  else if c.phase = .contract then
    if c.powerOff then beginTransition k c.contract true (linkNewest s) (s.setClasp { s.clasp with swap := none })
    else if c.contract.any (fun o => o.vc == k.vc && o.pc == k.pc) then s.setClasp { s.clasp with contract := some k }
    else beginTransition k c.contract false c.vr s
  else s

/-- What is put off to the end of a transition or swap follows (R316, R322, R323). -/
def afterBusy (s : State) : State :=
  let s := s.setClasp { s.clasp with waited := s.clasp.waited && decide (s.now < s.clasp.askAfter) }
  let s := if s.clasp.capsOwed && s.clasp.role == some 1 then newCaps s else s
  if s.clasp.askOwed then askContract s else s

/-- SETTLED: the new values alone apply (R322). The first of a coupling records 0x8E02, a later one 0x8E03. -/
def completeTransition (s : State) : State :=
  match s.clasp.transition, s.clasp.contract with
  | some t, some k =>
    let c := s.clasp
    let s := s.setClasp { c with
      transition := none, settled := true, vr := k.vc, vrTarget := k.vc, vSafe := k.vc, settledAt := s.now, lockouts := 0 }
    let s := if c.phase = .closing then enterClasp .contract s else s
    let s := if t.closing then event 0x8E02 [c.role.getD 0, k.vc, k.pc] s else event 0x8E03 [] s
    afterBusy (tellStatus s)
  | _, _ => s

/-- The Source starts the closing transition (R319). -/
def tryClosing (s : State) : State :=
  let c := s.clasp
  let q := secs s
  match c.contract with
  | some k =>
    if c.phase = .closing ∧ c.role = some 1 ∧ c.transition.isNone ∧ c.partnerClosed ∧ (s.ka (coKaPos q)).running
        ∧ (s.ka (coKaNeg q)).running then beginTransition k none true (linkNewest s) s
    else s
  | none => s

/-- The checks of a REQUEST in the order of R317: a reason, or the contract it makes. 0 stands for WAIT. -/
def requestAnswer (p : Bytes) (s : State) : Contract ⊕ Nat :=
  let c := s.clasp
  let q := secs s
  if c.role ≠ some 1 ∨ c.phase = .ending then .inr 6
  else if claspBusy s then .inr 0
  else
    match c.own with
    | none => .inr 2
    | some own =>
      if be16 p 0 ≠ own.seq then .inr 2
      else
        let v := be16 p 4
        match own.pos[u8 p 2]? with
        | none => .inr 1
        | some po =>
          let grant := min (min (be16 p 6) po.pMax) (if c.verified then 65535 else coUnauth q / 100)
          if v < po.vMin ∨ po.vMax < v ∨ v * (1000 - coDroop q) ≤ po.vMin * 1000 then .inr 1
          else if 2 ≤ worstPatina s then .inr 4
          else if coHallmarkReq q && !c.verified then .inr 5
          else if grant < 10 then .inr 3
          else .inl { vc := v * 100, pc := grant * 100, ic := min (be16 p 8) po.iMax * 100, droop := coDroop q, po := po }

/-- A REQUEST is answered (R317). -/
def onRequestMsg (p : Bytes) (s : State) : State :=
  match requestAnswer p s with
  | .inr r => if r = 0 then sendAnswer tWait [] s else sendAnswer tReject [byte r, 0] s
  | .inl k =>
    let s := sendAnswer tAccept (beBytes 2 (k.pc / 100) ++ beBytes 2 (k.ic / 100) ++ [byte k.droop, 0]) s
    takeContract k s

/-! ### Role swap (R325, R326) -/

/-- The swap starts: the agreements ramp to 0 over END_RAMP. `mine` where this end's ROLE_SWAP was accepted; one that was
not keeps waiting for its answer (R326). -/
def startSwap (mine : Bool) (s : State) : State :=
  let c := s.clasp
  rampAway (coEndRamp (secs s) * msTicks) (s.setClasp { c with
    swap := some { mine := mine, wasSource := c.role == some 1, since := s.now }, asked := none, swapAsked := c.swapAsked && !mine })

/-- The swap is complete: 0x8E04, DONE to the host that asked for it; this end's other request is not revived (R326). The
new Sink asks, and its contract is the last step (R325). -/
def completeSwap (s : State) : State :=
  let mine := s.clasp.swap.any (·.mine)
  let s := if !mine then denySwap s else if s.clasp.swapByHost then finishCommand 0x0E11 stDone 0 s else s
  let s := event 0x8E04 [] (s.setClasp { s.clasp with
    swap := s.clasp.swap.map (fun w => { w with step := 5, since := s.now }), swapByHost := false, ramp := none, settled := false
    waited := s.clasp.waited && decide (s.now < s.clasp.askAfter) })
  if s.clasp.role = some 0 then askContract s else s

/-- This end can take the other role. -/
def canSwap (s : State) : Bool :=
  let q := secs s
  if s.clasp.role = some 1 then coSinkCap q else coSourceCap q && decide (0 < coPoCount q)

/-- A ROLE_SWAP still waiting to be sent. -/
def swapQueued (s : State) : Bool := s.clasp.outbox.any (fun m => m.type == tRoleSwap)

/-- A received ROLE_SWAP is answered (R325, R326). -/
def onRoleSwap (s : State) : State :=
  let c := s.clasp
  if claspBusy s then sendAnswer tWait [] s
  else if c.phase != .contract then sendAnswer tReject [6, 0] s
  else if c.role == some 1 && (c.swapAsked || swapQueued s) then sendAnswer tWait [] s
  else
    let s := if swapQueued s then
        denySwap (s.setClasp { c with outbox := c.outbox.filter (fun m => m.type != tRoleSwap) }) else s
    if s.clasp.tandem then sendAnswer tReject [7, 0] s
    else if !canSwap s then sendAnswer tReject [8, 0] s
    else startSwap false (sendAnswer tAccept [] s)

/-- The old Sink receives SETTLED with ROLE 0: it is the new Source, sends CAPABILITIES and SETTLED. -/
def takeSource (s : State) : State :=
  let s := s.setClasp { s.clasp with
    role := some 1, powerOff := true, ramp := none, swap := s.clasp.swap.map (fun w => { w with step := 4, since := s.now }) }
  sendMsg { type := tSettled, purpose := .swapDone } (newCaps s)

/-- A received SETTLED (R322, R325). -/
def onSettled (s : State) : State :=
  match s.clasp.swap with
  | some w => if 5 ≤ w.step then s else if w.wasSource then completeSwap s else takeSource s
  | none => if s.clasp.role = some 0 then completeTransition s else s

/-! ### CAPABILITIES (R315, R316) -/

/-- A power object from the wire. -/
def parsePo (b : Bytes) : PowerObj :=
  { vMin := be16 b 0, vMax := be16 b 2, iMax := be16 b 4, pMax := be16 b 6, ramp := be16 b 8, tandem := bit (u8 b 10) 0 }

/-- CAPABILITIES from the wire (Table 11.4). -/
def parseCaps (p : Bytes) : Caps :=
  { vendor := be16 p 2, flags := u8 p 4, seq := be16 p 6, tie := be32 p 8, sinkVMin := be16 p 12, sinkVMax := be16 p 14
    sinkPMax := be16 p 16, patina := u8 p 18, pos := (List.range (u8 p 5)).map (fun k => parsePo (slice p (20 + 12 * k) 12)) }

/-- DISCOVER_IDENTITY goes out with a nonce (R328); not while the DRBG is halted (R415). -/
def askIdentity (s : State) : State :=
  if s.benra.drbgHalted then s
  else
    let f := drbg s
    let nonce := leBytes 32 (f.1 % 2 ^ 256)
    let s := sendVdm 0 1 0 nonce f.2
    s.setClasp { s.clasp with
      identity := some { nonce := nonce }, identityTries := s.clasp.identityTries + 1, identityRetryAt := none }

/-- Received CAPABILITIES: roles in DISCOVER, the partner's identity, its modes at the first ones (Table 11.9; assumption
55), the Sink's REQUEST (R315, R316, R328). -/
def onCaps (p : Bytes) (s : State) : State :=
  let x := parseCaps p
  let first := s.clasp.phase == .discover && s.clasp.partner.isNone
  let s := s.setClasp { s.clasp with partner := some x, partnerPatina := min 3 x.patina }
  let s :=
    match s.clasp.phase, s.clasp.own with
    | .discover, some own =>
      let r := resolveRoles own x
      if r.2 then newCaps (drawTie s) else s.setClasp { s.clasp with role := r.1 }
    | _, _ => s
  let c := s.clasp
  let s := if bit x.flags 4 && !c.verified && !c.untrusted && c.identityTries == 0 then askIdentity s else s
  let s := if first then sendVdm 0 2 0 [] s else s
  tellStatus (askContract s)

/-! ### Identity (R328, R405, R406) -/

/-- The bytes a hallmark signature covers. -/
def hallmarkBytes (nonceI nonceR : Bytes) (tie : Nat) : Bytes := ascii "ERDUN HALLMARK 1" ++ nonceI ++ nonceR ++ beBytes 4 tie

/-- The blob in chunks of 232 bytes. -/
def sendChunks (blob : Bytes) (s : State) : State :=
  let n := ceilDiv blob.length 232
  (List.range n).foldl (fun s k =>
    sendVdm 1 1 0 ([byte k, byte n] ++ beBytes 2 blob.length ++ slice blob (232 * k) 232) s) s

/-- DISCOVER_IDENTITY is answered (R405), refused after 0x0D06 (R395), and left alone while the DRBG is halted (R415). -/
def onIdentity (p : Bytes) (s : State) : State :=
  if s.benra.drbgHalted then s
  else if s.benra.certInvalid || s.benra.deviceKey.isNone then sendVdm 2 1 0 [] s
  else
    let f := drbg s
    let nonceR := leBytes 32 (f.1 % 2 ^ 256)
    let chain := certChain s
    let g := deviceSign (hallmarkBytes (slice p 4 32) nonceR ((s.clasp.own.map (·.tie)).getD 0)) f.2
    sendChunks (beBytes 2 chain.length ++ chain ++ nonceR ++ g.1.1 ++ g.1.2) g.2

/-- The partner's identity has failed: 0x0E02, untrusted until the next attach. -/
def untrust (s : State) : State :=
  tellStatus (chipPulse 0x0E02 [] (s.setClasp { s.clasp with identity := none, untrusted := true, identityRetryAt := none }))

/-- The whole identity is discarded: one more request after 1 s, or failure. -/
def dropIdentity (s : State) : State :=
  let s := claspCount 2 s
  if 2 ≤ s.clasp.identityTries then untrust s
  else s.setClasp { s.clasp with identity := none, identityRetryAt := some (s.now + secTicks) }

/-- An identity chunk (Table 11.13). -/
def onChunk (p : Bytes) (s : State) : State :=
  match s.clasp.identity with
  | none => s
  | some x =>
    let idx := u8 p 4
    let cnt := u8 p 5
    let len := be16 p 6
    let d := p.drop 8
    let blob := x.blob ++ d
    let fits := idx == x.next && decide (idx < cnt) && (x.next == 0 || cnt == x.count && len == x.length)
      && decide (len ≤ 2178) && decide (d.length ≤ 232) && decide (blob.length ≤ len)
      && (idx + 1 == cnt || d.length == 232) && (idx != 0 || decide (be16 blob 0 ≤ 2048))
    if x.whole then s
    else if !fits then dropIdentity s
    else if idx + 1 = cnt then
      if blob.length = len ∧ len = 2 + be16 blob 0 + 128 then
        s.setClasp { s.clasp with identity := some { x with blob := blob, next := cnt, count := cnt, length := len, whole := true } }
      else dropIdentity s
    else s.setClasp { s.clasp with identity := some { x with blob := blob, next := idx + 1, count := cnt, length := len } }

/-- The serial number of 16 upper-case hexadecimal digits. -/
def hexSerial (b : Bytes) : Nat :=
  b.foldl (fun a d => 16 * a + (if d.toNat < 58 then d.toNat - 48 else d.toNat - 55)) 0 % 2 ^ 64

/-- Benra's verdict on a whole identity (R406): the serial of a good one. -/
def verifyIdentity (x : Identity) (tie : Nat) : Option Nat :=
  let n := be16 x.blob 0
  let at_ := 2 + n
  match checkChain Config.kreiloRootKey (slice x.blob 2 n) with
  | none => none
  | some (key, serial) =>
    let d := sha384 (hallmarkBytes x.nonce (slice x.blob at_ 32) tie)
    if ecdsaVerify key d (slice x.blob (at_ + 32) 48) (slice x.blob (at_ + 80) 48) then some (hexSerial serial) else none

/-- The partner is verified: 0x8E08 with its serial, low word first; the Source offers again (R317, R328). -/
def markVerified (serial : Nat) (s : State) : State :=
  let s := s.setClasp { s.clasp with verified := true, identity := none, partnerSerial := serial }
  let s := event 0x8E08 [serial % 2 ^ 32, serial / 2 ^ 32] s
  tellStatus (if s.clasp.role = some 1 then newCaps s else s)

/-! ### Modes (R329, R330) -/

/-- A mode is on here in the image. -/
def modeEnabled (q : Secs) (m : Nat) : Bool := m == 1 && coTandemEn q || m == 2 && coBridgeEn q

/-- Both ends are verified. -/
def bothVerified (s : State) : Bool := s.clasp.verified && bit s.clasp.partnerFlags 4

/-- The reason an ENTER_MODE is refused; 0 for none (R329, R330, Table 11.7). -/
def enterRefused (m : Nat) (s : State) : Nat :=
  let c := s.clasp
  if !modeEnabled (secs s) m then 7
  else if m = 1 ∧ ¬ (c.phase = .contract ∧ c.transition.isNone ∧ ¬ c.powerOff) then 6
  else if !bothVerified s then 5
  else if m = 1 ∧ worstPatina s ≠ 0 then 4
  else if m = 1 ∧ ¬ c.contract.any (·.po.tandem) then 7
  else 0

/-- A mode begins: event 0x8E05 with mode and 1 (R329, R330). -/
def enterMode (m droop : Nat) (s : State) : State :=
  let s := s.setClasp (if m = 1 then { s.clasp with tandem := true, tandemDroop := min (coTandemDroop (secs s)) droop }
    else { s.clasp with bridge := true })
  tellStatus (event 0x8E05 [m, 1] s)

/-- A mode ends: event 0x8E05 with mode and 0. -/
def exitMode (m : Nat) (s : State) : State :=
  let c := s.clasp
  if m = 1 ∧ c.tandem then tellStatus (event 0x8E05 [1, 0] (s.setClasp { c with tandem := false }))
  else if m = 2 ∧ c.bridge then tellStatus (event 0x8E05 [2, 0] (s.setClasp { c with bridge := false }))
  else s

/-- WAIT or BUSY: a swap or mode is asked for again no sooner than 10 ms later, and no sooner than the end of the
transition or swap (R323). -/
def askLater (s : State) : State := s.setClasp { s.clasp with askAfter := s.now + 10 * msTicks, waited := true }

/-- ENTER_MODE is answered. -/
def onEnterMode (p : Bytes) (s : State) : State :=
  let m := vdmMode p
  let r := enterRefused m s
  if claspBusy s || s.clasp.role == some 1 && s.clasp.modeAsked.isSome then sendVdm 3 3 m [] s
  else if r ≠ 0 then sendVdm 2 3 m [byte r] s
  else enterMode m (u8 p 4) (sendVdm 1 3 m (if m = 1 then [byte (coTandemDroop (secs s))] else []) s)

/-- EXIT_MODE is answered. -/
def onExitMode (p : Bytes) (s : State) : State :=
  let m := vdmMode p
  if claspBusy s then sendVdm 3 4 m [] s else exitMode m (sendVdm 1 4 m [] s)

/-- The answer to this end's ENTER_MODE or EXIT_MODE (R323, R329), and the partner's modes. A partner that this end has not
verified enters no mode (R328). -/
def onModeReply (p : Bytes) (s : State) : State :=
  let m := vdmMode p
  let c := vdmCommand p
  if c = 2 ∧ vdmType p = 1 then
    s.setClasp { s.clasp with partnerModes := some (maskOf ((p.drop 5).map (·.toNat))) }
  else
  match s.clasp.modeAsked with
  | none => s
  | some k =>
    if (c = 3 ∧ k = 2 * m + 1) ∨ (c = 4 ∧ k = 2 * m) then
      if vdmType p = 1 && (c == 4 || s.clasp.verified) then
        let s := if s.clasp.modeByHost then finishCommand 0x0E12 stDone 0 s else s
        let s := s.setClasp { s.clasp with modeAsked := none, modeByHost := false }
        if c = 3 then enterMode m (u8 p 4) s else exitMode m s
      else denyMode (if vdmType p = 3 then askLater s else s)
    else s

/-! ### Answers to this end's requests -/

/-- A received ACCEPT (R317, R325). -/
def onAccept (p : Bytes) (s : State) : State :=
  if p.isEmpty then (if s.clasp.swapAsked && !swapping s then startSwap true s else s)
  else
    match s.clasp.asked with
    | some k => takeContract { k with pc := be16 p 0 * 100, ic := be16 p 2 * 100, droop := u8 p 4 } s
    | none => s

/-- A received REJECT: reasons MODE and ROLE answer a ROLE_SWAP. -/
def onReject (p : Bytes) (s : State) : State :=
  let c := s.clasp
  if c.swapAsked && (7 ≤ u8 p 0 || c.asked.isNone) then denySwap s else s.setClasp { c with asked := none }

/-- A received WAIT (R323, Table 11.18). -/
def onWait (s : State) : State :=
  let c := s.clasp
  if c.swapAsked then denySwap (askLater s)
  else if c.asked.isSome then s.setClasp { c with asked := none, askOwed := true, askAfter := s.now + 10 * msTicks }
  else s

/-! ### STATUS and ALERT -/

def onStatus (p : Bytes) (s : State) : State :=
  tryClosing (s.setClasp { s.clasp with
    partnerLinkP := 100 * signedOf 16 (be16 p 2), partnerPatina := min 3 (u8 p 4), partnerFlags := u8 p 5
    partnerClosed := bit (u8 p 5) 0 })

def onAlert (p : Bytes) (s : State) : State := s.setClasp { s.clasp with partnerPatina := min 3 (u8 p 1) }

/-- A customer VDM is relayed to the lowest free mailbox entry (R327, R447), or answered NOT_SUPPORTED. -/
def onCustomer (p : Bytes) (s : State) : State :=
  if !coVdmRelay (secs s) then send tNotSupported [] s
  else
    match (List.range 4).find? (fun k => (Tab.find s.clasp.mailbox k).isNone) with
    | none => claspCount 8 s
    | some k =>
      let c := s.clasp
      setCause 4 (s.setClasp { c with
        relayed := c.relayed + 1
        mailbox := Tab.set c.mailbox k { order := c.relayed % 256, rxTime := s.plinth.opSeconds, vdm := p } })

/-- A bridged frame goes out on BRIDGE_CAN (R330). The identifier keeps IDE, FDF and BRS as the VDM carries them. -/
def onBridge (p : Bytes) (s : State) : State :=
  let k := coBridgeCan (secs s)
  if !s.clasp.bridge || 1 < k then s
  else
    queueFrames k [{ id := be32 p 4, data := p.drop 9, kind := 3 }] s

/-! ### Resets (R311 to R313) -/

/-- A hard reset from this end: a line break of 2 ms, 0x0E03, LOCKOUT (R313). -/
def hardReset (s : State) : State :=
  let s := claspCount 6 s
  chipPulse 0x0E03 [] (claspHardReset (s.setClasp { s.clasp with breakUntil := s.now + 2 * msTicks, out := none, outbox := [] }))

/-- A soft reset is due: RESYNC, or a hard reset once SOFT_RESET_COUNT is 3 (R312). -/
def softReset (s : State) : State :=
  if s.clasp.softCount = 3 then hardReset s
  else
    let s := dropHostVdm (event 0x8E07 [] (claspCount 5 (resyncActs s)))
    s.setClasp { s.clasp with
      softCount := s.clasp.softCount + 1, out := none
      outbox := { type := tResync, purpose := .resync } :: s.clasp.outbox }

/-- The couple is split in Tandem: three misses in a row and no valid message for 5 ms (R334). -/
def splitDue (s : State) : Bool :=
  let c := s.clasp
  c.phase == .contract && c.tandem && decide (3 ≤ c.missRun) && decide (c.lastValidAt + 5 * msTicks ≤ s.now)

/-- The split: no further retry, the coupling ends, 0x0E04, LOCKOUT (R334). -/
def splitCouple (s : State) : State :=
  chipPulse 0x0E04 [] (endCoupling ceSplit true false (s.setClasp { s.clasp with out := none, outbox := [] }))

/-- A missed acknowledgement (R311, R334); after a split nothing is sent again. -/
def missAck (o : Outstanding) (s : State) : State :=
  let s := claspCount 3 s
  let s := s.setClasp { s.clasp with missRun := s.clasp.missRun + 1 }
  if splitDue s then splitCouple s
  else if s.clasp.ending.any (fun e => e.cause == ceSplit) then s.setClasp { s.clasp with out := none }
  else if o.retries < 3 then s.setClasp { s.clasp with out := some { o with retries := o.retries + 1, again := true } }
  else softReset s

/-- The outstanding message is acknowledged (R310, R312). -/
def acked (o : Outstanding) (s : State) : State :=
  let s := s.setClasp { s.clasp with
    out := none, missRun := 0, softCount := if o.msg.type = tResync then s.clasp.softCount else 0 }
  match o.msg.purpose with
  | .hostVdm => answerHostVdm stDone s
  | .swapDone => completeSwap s
  | _ => s

/-! ### Sending (R306, R309) -/

/-- The bytes of a message after the sync word. -/
def wireBytes (type count role : Nat) (p : Bytes) : Bytes :=
  let h := beBytes 4 (type * 2 ^ 26 + count * 2 ^ 23 + role * 2 ^ 22 + 2 ^ 20 + p.length * 2 ^ 12)
  h ++ p ++ beBytes 4 (crcErdun (h ++ p))

/-- Ticks a message takes on the line: 104 + 8 × LENGTH bit cells of 1 µs. -/
def lineTicks (p : Bytes) : Nat := (104 + 8 * p.length) * usTicks

/-- A message starts on the line. -/
def launch (o : Outstanding) (s : State) : State :=
  s.setClasp { s.clasp with
    out := some { o with again := false, endsAt := s.now + lineTicks o.msg.payload }
    lineTx := messageCells (wireBytes o.msg.type o.count o.role o.msg.payload)
    lineFrom := s.now, lineEnd := s.now + lineTicks o.msg.payload }

/-- A ROLE_SWAP counts as asked once it is sent (R326); a swap or mode request that had waited has gone (R323). -/
def noteSent (m : OutMsg) (s : State) : State :=
  let s := if isAsk m && m.type != tRequest then s.setClasp { s.clasp with waited := false } else s
  if m.type = tRoleSwap then s.setClasp { s.clasp with swapAsked := true } else s

/-- A swap or mode request that WAIT or BUSY has put off (R323). -/
def heldBack (s : State) (m : OutMsg) : Bool :=
  s.clasp.waited && isAsk m && m.type != tRequest && (decide (s.now < s.clasp.askAfter) || claspBusy s)

/-- The next message of the outbox, bridged frames behind everything else (R330). -/
def nextMsg (s : State) : Option (OutMsg × List OutMsg) :=
  let l := s.clasp.outbox
  let i := (l.findIdx? (fun m => m.purpose != .bridge && !heldBack s m)).orElse
    (fun _ => l.findIdx? (fun m => !heldBack s m))
  i.bind (fun i => l[i]?.map (fun m => (m, l.eraseIdx i)))

/-- The next message starts, with its MSG_COUNT; RESYNC carries 0 (R306, R312). -/
def transmitNext (s : State) : State :=
  let c := s.clasp
  match c.out with
  | some o => if o.again then launch o s else s
  | none =>
    match nextMsg s with
    | none => s
    | some (m, rest) =>
      let count := if m.purpose = .resync then 0 else c.nextCount
      let s := s.setClasp { c with
        outbox := rest, nextCount := if m.purpose = .resync then 0 else (c.nextCount + 1) % 8 }
      noteSent m (launch { msg := m, count := count, role := c.role.getD 0, endsAt := 0 } s)

/-! ### Patina (R331, R332) -/

/-- A product compared with a scaled product, both with the 1,500,000 µV of the pin range divided out. -/
def excOk (q : Secs) (uv : Nat) : Bool := within (4500 * 1500000) (5500 * 1500000) (uv * coExcScale q)

/-- R_f in kΩ, limited to 32 bits. -/
def rIns (q : Secs) (exc leak : Nat) : Nat :=
  let d := leak * coLeakScale q
  if d = 0 then 0xFFFFFFFF else min 0xFFFFFFFF (1000 * exc * coExcScale q / d)

/-- R_c in µΩ. -/
def rCon (q : Secs) (kelvin : Nat) : Nat := 1000 * kelvin * coKelvinScale q / (1500000 * max 1 (coITest q))

/-- R_f against a bound in MΩ: −1 below, 0 at or above. -/
def insBelow (q : Secs) (exc leak mohm : Nat) : Bool := decide (exc * coExcScale q < mohm * (leak * coLeakScale q))
def insAbove (q : Secs) (exc leak mohm : Nat) : Bool := decide (mohm * (leak * coLeakScale q) < exc * coExcScale q)

/-- The class of a check (Table 11.15): 0 DRY, 1 DAMP, 2 WET, 3 CORRODED. -/
def patinaClass (q : Secs) (p : PatinaMeasure) : Nat :=
  let bad := decide (50 * 1500000 * coITest q < p.kelvin * coKelvinScale q)
  if insBelow q p.exc100 p.leak100 1 || insBelow q p.exc10k p.leak10k 1 then 2
  else if bad then 3
  else if insAbove q p.exc100 p.leak100 10 && insAbove q p.exc10k p.leak10k 10 then 0
  else 1

/-- The class changes: event 0x8E01, STATUS (R332). -/
def setPatina (k : Nat) (s : State) : State :=
  if s.clasp.patina = k then s else tellStatus (event 0x8E01 [k] (s.setClasp { s.clasp with patina := k }))

/-- A check's result: the class in force; DRY after DAMP only at the second in a row (R332). -/
def patinaResult (r : Nat) (s : State) : State :=
  let c := s.clasp
  let run := if r = 0 then c.dryRun + 1 else 0
  let k := if r = 0 ∧ c.patina = 1 ∧ run < 2 then 1 else r
  let s := setPatina k (s.setClasp { c with dryRun := run, patinaAt := s.now, patinaRunning := false })
  let p := s.clasp.phase
  if p = .check then (if k < 2 then enterDiscover s else enterClasp .blocked s)
  else if p = .blocked then (if k < 2 then enterDiscover s else s)
  else if 2 ≤ k ∧ (p = .closing ∨ p = .contract) then chipPulse 0x0E01 [k] (endCoupling cePatina false true s)
  else if 2 ≤ k ∧ p = .ending then
    chipPulse 0x0E01 [k] (s.setClasp { s.clasp with ending := s.clasp.ending.map (fun e => { e with blocked := true }) })
  else s

end Sys2Proof.Machine
end

