-- ==== Sys2Proof/Machine/Clasp.lean ====
section
/-! DEFINITION. The events of Clasp and its host commands (chapter 11). -/

namespace Sys2Proof.Machine

/-! ### Plug and patina -/

/-- CP_PROX has been low for PROX_MATE_FILTER (Table 11.9): the attach, with a new TIE (Table 11.4). -/
def execProxMate (t : Nat) (s : State) : Out :=
  let s := advance t s
  if claspActive s && s.clasp.phase == .detached then .next (enterCheck (drawTie (s.setClasp { s.clasp with mated := true }))) else .next s

/-- A patina check ends (R331, R332): 0x0E08 and WET when an excitation lies outside 4.5 to 5.5 V. -/
def execPatinaCheckComplete (t : Nat) (p : PatinaMeasure) (s : State) : Out :=
  let s := advance t s
  if claspActive s && s.clasp.patinaRunning then
    let q := secs s
    let ok := excOk q p.exc100 && excOk q p.exc10k && excOk q p.excHigh
    let s := s.setClasp { s.clasp with
      rIns := min (rIns q p.exc100 p.leak100) (rIns q p.exc10k p.leak10k), rC := min 0xFFFFFFFF (rCon q p.kelvin) }
    let s := if ok then s else chipPulse 0x0E08 [] s
    .next (if isLive s then patinaResult (if ok then patinaClass q p else 2) s else s)
  else .next s

/-- The retest time of the class in force has passed (R332). -/
def execPatinaRetest (t : Nat) (s : State) : Out :=
  let s := advance t s
  let c := s.clasp
  let wait := if c.patina = 0 then coDryRetest (secs s) else 60
  if claspActive s && !c.patinaRunning && (pilotUsed c.phase || c.phase == .blocked)
      && decide (c.patinaAt + wait * secTicks ≤ s.now) then
    .next (s.setClasp { c with patinaRunning := true, patinaSince := s.now })
  else .next s

/-! ### Received messages -/

/-- A message that fails R308 is counted and nothing else. -/
def execMessageDiscarded (t : Nat) (m : PilotMsg) (s : State) : Out :=
  let s := advance t s
  if !claspActive s || !pilotUsed s.clasp.phase then .next s
  else
    let r := s.setClasp { s.clasp with lineEnd := max s.clasp.lineEnd s.now }
    match rxVerdict s m with
    | .ok => .next s
    | .crcError => .next (claspCount 1 r)
    | .discard => .next (claspCount 2 r)

def execAccept (t : Nat) (m : PilotMsg) (s : State) : Out := .next (onMessage .accept t m onAccept s)
def execReject (t : Nat) (m : PilotMsg) (s : State) : Out := .next (onMessage .reject t m onReject s)
def execWait (t : Nat) (m : PilotMsg) (s : State) : Out := .next (onMessage .wait t m (fun _ s => onWait s) s)
def execSettled (t : Nat) (m : PilotMsg) (s : State) : Out := .next (onMessage .settled t m (fun _ s => onSettled s) s)
def execCapsQuery (t : Nat) (m : PilotMsg) (s : State) : Out := .next (onMessage .capsQuery t m (fun _ s => repeatCaps s) s)
def execRoleSwap (t : Nat) (m : PilotMsg) (s : State) : Out := .next (onMessage .roleSwap t m (fun _ s => onRoleSwap s) s)
/-- RESYNC is always processed; the end forgets the message it was (R310, R312). -/
def execResync (t : Nat) (m : PilotMsg) (s : State) : Out := .next (onMessage .resync t m (fun _ s => resyncActs s) s)
/-- The partner ends the coupling; this side ends in the same way (R333). -/
def execEndCoupling (t : Nat) (m : PilotMsg) (s : State) : Out :=
  .next (onMessage .endCoupling t m
    (fun p s => endCoupling (u8 p 0) (u8 p 0 == ceHardReset || u8 p 0 == ceSplit) false s) s)
/-- NOT_SUPPORTED is receipted and asks for nothing (Table 11.3). -/
def execNotSupported (t : Nat) (m : PilotMsg) (s : State) : Out := .next (onMessage .notSupported t m (fun _ s => s) s)
def execUnknownType (t : Nat) (m : PilotMsg) (s : State) : Out :=
  .next (onMessage .unknown t m (fun _ s => send tNotSupported [] s) s)
def execCapabilities (t : Nat) (m : PilotMsg) (s : State) : Out := .next (onMessage .caps t m onCaps s)
def execRequest (t : Nat) (m : PilotMsg) (s : State) : Out := .next (onMessage .request t m onRequestMsg s)
def execStatus (t : Nat) (m : PilotMsg) (s : State) : Out := .next (onMessage .status t m onStatus s)
def execAlert (t : Nat) (m : PilotMsg) (s : State) : Out := .next (onMessage .alert t m onAlert s)
def execDiscoverIdentity (t : Nat) (m : PilotMsg) (s : State) : Out := .next (onMessage .identity t m onIdentity s)
def execIdentityChunk (t : Nat) (m : PilotMsg) (s : State) : Out := .next (onMessage .chunk t m onChunk s)
/-- DISCOVER_MODES: the count of enabled modes and their codes (Table 11.12). -/
def execDiscoverModes (t : Nat) (m : PilotMsg) (s : State) : Out :=
  .next (onMessage .modes t m (fun _ s =>
    let l := [1, 2].filter (modeEnabled (secs s))
    sendVdm 1 2 0 (byte l.length :: l.map byte) s) s)
def execEnterMode (t : Nat) (m : PilotMsg) (s : State) : Out := .next (onMessage .enter t m onEnterMode s)
def execExitMode (t : Nat) (m : PilotMsg) (s : State) : Out := .next (onMessage .exit t m onExitMode s)
def execAttention (t : Nat) (m : PilotMsg) (s : State) : Out := .next (onMessage .attention t m (fun _ s => sendStatus s) s)
def execBridgeFrame (t : Nat) (m : PilotMsg) (s : State) : Out := .next (onMessage .bridge t m onBridge s)
def execCustomerVdm (t : Nat) (m : PilotMsg) (s : State) : Out := .next (onMessage .customer t m onCustomer s)
def execVdmReply (t : Nat) (m : PilotMsg) (s : State) : Out := .next (onMessage .reply t m onModeReply s)
/-- An unknown Kreilo COMMAND is answered NAK (R327). -/
def execKreiloVdmUnknown (t : Nat) (m : PilotMsg) (s : State) : Out :=
  .next (onMessage .kreiloUnknown t m (fun p s => sendVdm 2 (vdmCommand p) (vdmMode p) [] s) s)

/-! ### The pilot line -/

/-- A receipt arrives (R310): taken when its complement and its count match the message awaited. -/
def execReceipt (t byte : Nat) (cellsOk : Bool) (s : State) : Out :=
  let s := advance t s
  match s.clasp.out with
  | some o =>
    if claspActive s && pilotUsed s.clasp.phase && cellsOk && byte / 16 % 16 == 15 - byte % 16 && byte % 8 == o.count
        && !o.again then .next (acked o (s.setClasp { s.clasp with lineEnd := max s.clasp.lineEnd s.now }))
    else .next s
  | none => .next s

/-- No receipt has come in time (R311): 0.9 ms after the last trailer cell. -/
def execAckTimeout (t : Nat) (s : State) : Out :=
  let s := advance t s
  match s.clasp.out with
  | some o =>
    if claspActive s && pilotUsed s.clasp.phase && !o.again && decide (o.endsAt + 900 * usTicks ≤ s.now) then .next (missAck o s)
    else .next s
  | none => .next s

/-- The line does not follow this end's drive (R309): released, sent again after the back-off of the role. -/
def execCollision (t : Nat) (s : State) : Out :=
  let s := advance t s
  match s.clasp.out with
  | some o =>
    if claspActive s && pilotUsed s.clasp.phase && !o.again && decide (s.now < o.endsAt) then
      let f := drbg s
      let s := claspCount 4 (if s.clasp.role.isNone then f.2 else s)
      let us := match s.clasp.role with
        | some 1 => 250
        | some _ => 750
        | none => 200 + f.1 % 801
      .next (s.setClasp { s.clasp with out := some { o with again := true }, holdUntil := s.now + us * usTicks, lineEnd := s.now })
    else .next s
  | none => .next s

/-- A message starts once the line has been idle for 200 µs, as far as this end knows, a back-off is over and no line break
is being sent (R309, R313). -/
def execPilotTransmitStart (t : Nat) (s : State) : Out :=
  let s := advance t s
  if claspActive s && pilotUsed s.clasp.phase && decide (s.clasp.holdUntil ≤ s.now)
      && decide (s.clasp.lineEnd + 200 * usTicks ≤ s.now) && decide (s.clasp.breakUntil ≤ s.now) then .next (transmitNext s) else .next s

/-- The line has been dominant for 1 ms: a hard reset of the partner (R313). -/
def execLineBreak (t : Nat) (s : State) : Out :=
  let s := advance t s
  if claspActive s && pilotUsed s.clasp.phase then .next (chipPulse 0x0E03 [] (claspHardReset (claspCount 6 s))) else .next s

/-- 100 ms after its own CAPABILITIES none has come (R314). -/
def execCapsWaitTimeout (t : Nat) (s : State) : Out :=
  let s := advance t s
  let c := s.clasp
  match c.capsSentAt with
  | some a =>
    if claspActive s && c.phase == .discover && c.partner.isNone && decide (a + 100 * msTicks ≤ s.now) then
      .next (send tCapsQuery [] (s.setClasp { c with capsSentAt := some s.now }))
    else .next s
  | none => .next s

/-- The period of STATUS has passed (Table 11.9). -/
def execStatusTimer (t : Nat) (s : State) : Out :=
  let s := advance t s
  let c := s.clasp
  let ms := if c.tandem ∧ c.phase = .contract then 2 else 20
  if claspActive s && (c.phase == .ready || c.phase == .closing || c.phase == .contract)
      && decide (c.statusAt + ms * msTicks ≤ s.now) then .next (sendStatus s)
  else .next s

/-! ### Closing and contract -/

/-- The conditions of R319 hold: the coupling keep-alives start, where their interlocks pass (R290, R292). -/
def execClosingStart (t : Nat) (s : State) : Out :=
  let s := advance t s
  let q := secs s
  let g := coStage q
  if claspActive s && s.clasp.phase == .ready && s.mode == .run && stageRunning s g && !covered s g
      && (linkVoltage s).any (fun v => decide (v ≤ coCloseMax q)) then
    match [coKaPos q, coKaNeg q].filter (fun k => !ilkPasses s k) with
    | [] =>
      let s := enterClasp .closing (startKa (coKaNeg q) (startKa (coKaPos q) s))
      let s :=
        match s.clasp.role, s.clasp.contract with
        | some 0, some k => beginTransition k none true (linkNewest s) s
        | _, _ => s
      .next (tryClosing (tellStatus s))
    | l => .next (l.foldl (fun s k => chipPulse 0x0904 [0xFF, k] s) s)
  else .next s

/-- 500 ms in CLOSING without SETTLED (Table 11.9). -/
def execClosingTimeout (t : Nat) (s : State) : Out :=
  let s := advance t s
  if claspActive s && s.clasp.phase == .closing && decide (s.clasp.phaseSince + 500 * msTicks ≤ s.now) then
    .next (endCoupling ceTimeout true false s)
  else .next s

/-- The Source has reached V_c and the link has held for 5 ms: SETTLED (R322). -/
def execTransitionSettle (t : Nat) (s : State) : Out :=
  let s := advance t s
  match s.clasp.transition with
  | some x =>
    if claspActive s && s.clasp.role == some 1 && x.steadySince.any (fun a => decide (a + 5 * msTicks ≤ s.now)) then
      .next (completeTransition (send tSettled [] s))
    else .next s
  | none => .next s

/-- SETTLED has not come in time (R324): abandoned, with a soft reset by the Sink. In CLOSING its own 500 ms apply. -/
def execTransitionAbandon (t : Nat) (s : State) : Out :=
  let s := advance t s
  match s.clasp.transition with
  | some x =>
    if claspActive s && s.clasp.phase == .contract && decide (x.startAt + x.limit ≤ s.now) then
      let sink := s.clasp.role == some 0
      let s := abandonTransition s
      .next (if sink then softReset s else s)
    else .next s
  | none => .next s

/-- A swap step has taken 500 ms (R325). -/
def execSwapStepTimeout (t : Nat) (s : State) : Out :=
  let s := advance t s
  match s.clasp.swap with
  | some w =>
    if claspActive s && decide (w.since + 500 * msTicks ≤ s.now) then .next (endCoupling ceTimeout false false s) else .next s
  | none => .next s

/-- ALERT with the cause, then the end of the coupling and the fault (R321). -/
def alertEnd (cause code : Nat) (s : State) : State :=
  chipPulse code [] (endCoupling cause false false (send tAlert [byte cause, byte s.clasp.patina] s))

/-- The link voltage has been out for LINK_V_FILTER (R321). -/
def execLinkVoltage (t : Nat) (s : State) : Out :=
  let s := advance t s
  match s.clasp.linkOutSince with
  | some a =>
    if claspActive s && s.clasp.phase == .contract && decide (a + coLinkFilter (secs s) * msTicks ≤ s.now) then
      .next (alertEnd ceLinkVoltage 0x0E06 s)
    else .next s
  | none => .next s

/-- The mean imbalance of 100 ms, 10,000 ledger periods, is above IMBAL_LIMIT (R321). -/
def execLinkImbalance (t : Nat) (s : State) : Out :=
  let s := advance t s
  if claspActive s && s.clasp.phase == .contract && s.clasp.imbalance.length == 100
      && decide (10000 * coImbal (secs s) < s.clasp.imbalance.sum) then .next (alertEnd ceImbalance 0x0E07 s)
  else .next s

/-- The keep-alives of an ending coupling stop (R333); once they are static and END_COUPLING has gone, 10 ms after the
cause at the latest, ENDING is left (Table 11.9). -/
def execCouplingEndComplete (t : Nat) (s : State) : Out :=
  let s := advance t s
  match s.clasp.ending with
  | some e =>
    let late := decide (e.startAt + 10 * msTicks ≤ s.now)
    if claspActive s && s.clasp.phase == .ending
        && (e.lowSince.any (fun a => decide (a + msTicks ≤ s.now)) || late || couplingOpen s) then
      .next (if late || endSent s then finishEnding s else stopCouplingKas s)
    else .next s
  | none => .next s

/-- The split rule (R334). -/
def execSplit (t : Nat) (s : State) : Out :=
  let s := advance t s
  if claspActive s && splitDue s then .next (splitCouple s) else .next s

/-- A proximity break (R335). -/
def execCablePulled (t : Nat) (s : State) : Out :=
  let s := advance t s
  let c := s.clasp
  if claspActive s && c.mated then
    let was := coupled s
    let safe := c.vSafe
    let s := rampAway (400 * usTicks) (abandonTransition s)
    let s := enterClasp .detached (forgetPartner (forgetCoupling (dropHostVdm (dropPending s))))
    let s := s.setClasp { s.clasp with mated := false, untrusted := false, patinaRunning := false, dryRun := 0, vr := safe, vrTarget := safe, vSafe := safe }
    let s := if was then event 0x8E06 [cePulled] (s.setClasp { s.clasp with lastEnd := cePulled }) else s
    .next (chipPulse 0x0E05 [] s)
  else .next s

/-- LOCKOUT is over: after 1 s, or 60 s from the third in a row (R336, Table 11.9). -/
def execLockoutExpiry (t : Nat) (s : State) : Out :=
  let s := advance t s
  let c := s.clasp
  if claspActive s && c.phase == .lockout
      && decide (c.phaseSince + (if c.lockouts < 3 then 1 else 60) * secTicks ≤ s.now) then
    .next (enterCheck s)
  else .next s

/-- Benra has finished with the partner's identity (R406). -/
def execHallmarkVerifyComplete (t : Nat) (s : State) : Out :=
  let s := advance t s
  match s.clasp.identity with
  | some x =>
    if claspActive s && x.whole then
      match verifyIdentity x ((s.clasp.partner.map (·.tie)).getD 0) with
      | some n => .next (markVerified n s)
      | none => .next (untrust s)
    else .next s
  | none => .next s

/-- A discarded identity is asked for once more after 1 s (R328). -/
def execHallmarkRetry (t : Nat) (s : State) : Out :=
  let s := advance t s
  match s.clasp.identityRetryAt with
  | some a => if claspActive s && pilotUsed s.clasp.phase && decide (a ≤ s.now) then .next (askIdentity s) else .next s
  | none => .next s

/-- The Sink asks again: the bus has left V_c for 1 s, or a request was put off (R316, R323). -/
def execSinkRequestResend (t : Nat) (s : State) : Out :=
  let s := advance t s
  let c := s.clasp
  let away := c.phase == .contract && c.deviateSince.any (fun a => decide (a + secTicks ≤ s.now))
    && decide (c.settledAt + secTicks ≤ s.now)
  if claspActive s && pilotUsed c.phase && c.phase != .ending && c.asked.isNone && (away || c.askOwed) then .next (askContract s)
  else .next s

/-- A matching frame on BRIDGE_CAN joins the 16 that may wait (R330). -/
def execBridgeCanRx (t id : Nat) (fdf brs : Bool) (data : Bytes) (s : State) : Out :=
  let s := advance t s
  let q := secs s
  let c := s.clasp
  if claspActive s && c.bridge && fdf && canLength data.length && (Nat.xor id (coBridgeId0 q)) &&& (coBridgeMask0 q) == 0 then
    let full := decide (16 ≤ (c.outbox.filter (fun m => m.purpose == .bridge)).length)
    let box := if full then c.outbox.eraseIdx ((c.outbox.findIdx? (fun m => m.purpose == .bridge)).getD 0) else c.outbox
    let s := if full then claspCount 7 s else s
    let w := id % 2 ^ 29 + (id / 2 ^ 31) % 2 * 2 ^ 31 + 2 ^ 30 * flag fdf + 2 ^ 29 * flag brs
    let m : OutMsg := { type := tVdm, payload := vdmHead 0 0x10 0 ++ beBytes 4 w ++ [byte data.length] ++ data, purpose := .bridge }
    .next (s.setClasp { s.clasp with outbox := box ++ [m] })
  else .next s

/-! ### Host commands (R337, Table 11.18) -/

/-- A command of role COUPLING. -/
def couplingSpec (object lo hi : Nat) (resv : List Nat) : CmdSpec :=
  { object := object, role := some 6, lo := lo, hi := hi, resv := resv }

/-- The modes in which Clasp accepts commands. -/
def claspServes (s : State) : Bool := s.mode == .standby || s.mode == .run || s.mode == .service

def couplingEnd (s : State) : CmdEnd :=
  if !claspServes s || !(s.clasp.phase == .closing || s.clasp.phase == .contract) then say stWrongMode s
  else say stDone (endCoupling ceRequested false false s)

def execCouplingEnd (t : Nat) (rq : CmdReq) (s : State) : Out :=
  .next (runCommand (couplingSpec 0x0E10 4 4 noArgs) rq (fun _ s => couplingEnd s) (advance t s))

/-- In a mode no ROLE_SWAP may be sent (R325): refused as the partner would refuse it. -/
def couplingRoleSwap (s : State) : CmdEnd :=
  let c := s.clasp
  if !claspServes s then say stWrongMode s
  else if c.transition.isSome || swapping s then say stBusy s
  else if c.phase != .contract then say stWrongMode s
  else if c.tandem || c.bridge then say stDenied s
  else say stAccepted (send tRoleSwap [] (s.setClasp { c with swapByHost := true }))

def execCouplingRoleSwap (t : Nat) (rq : CmdReq) (s : State) : Out :=
  .next (runCommand (couplingSpec 0x0E11 4 4 noArgs) rq (fun _ s => couplingRoleSwap s) (advance t s))

/-- ENTER_MODE or EXIT_MODE goes out; without a partner on the pilot there is none to grant it, and a partner not verified
enters no mode (R328; assumption 55). -/
def couplingMode (d : Bytes) (s : State) : CmdEnd :=
  let m := u8 d 0
  let a := u8 d 1
  if !within 1 2 m || 1 < a then say stRange s
  else if !claspServes s then say stWrongMode s
  else if !modeEnabled (secs s) m || !pilotUsed s.clasp.phase || a == 1 && !s.clasp.verified then say stDenied s
  else
    let body := if a = 1 ∧ m = 1 then [byte (coTandemDroop (secs s))] else []
    let s := sendVdm 0 (if a = 1 then 3 else 4) m body s
    say stAccepted (s.setClasp { s.clasp with modeAsked := some (2 * m + a), modeByHost := true })

def execCouplingMode (t : Nat) (rq : CmdReq) (s : State) : Out :=
  .next (runCommand (couplingSpec 0x0E12 4 4 [2, 3]) rq couplingMode (advance t s))

/-- A customer VDM goes out; its answer waits for the acknowledgement. -/
def couplingVdmSend (rq : CmdReq) (d : Bytes) (s : State) : CmdEnd :=
  let c := s.clasp
  if 63 < u8 d 2 || 3 < u8 d 3 then say stRange s
  else if !claspServes s then say stWrongMode s
  else if u16 d 0 = 0x4B52 || !coVdmRelay (secs s) || !pilotUsed c.phase then say stDenied s
  else if c.vdmWait.isSome then say stBusy s
  else
    let p := beBytes 2 (u16 d 0) ++ [byte (u8 d 3 * 64 + u8 d 2), byte (u8 d 4)] ++ d.drop 8
    let s := sendMsg { type := tVdm, payload := p, purpose := .hostVdm } s
    say stLater (s.setClasp { s.clasp with vdmWait := some { request := requestOf (couplingSpec 0x0E13 8 244 [5, 6, 7]) rq } })

def execCouplingVdmSend (t : Nat) (rq : CmdReq) (s : State) : Out :=
  .next (runCommand (couplingSpec 0x0E13 8 244 [5, 6, 7]) rq (couplingVdmSend rq) (advance t s))

end Sys2Proof.Machine
end

