-- ==== Sys2Proof/Machine/CheckAll.lean ====
section
/-! DEFINITION. Step 16 of Table 2.8 over every owner, in the order of the section types (R35, R36, R38, R44). -/

namespace Sys2Proof.Machine

/-- A yes-or-no check as a verdict. -/
def plainVerdict (b : Bool) : Verdict := if b then .ok else .bad

/-- The first owner that does not pass decides. -/
def firstVerdict : List Verdict → Verdict
  | [] => .ok
  | .ok :: l => firstVerdict l
  | v :: _ => v

/-- What every owner finds, in the order of the section types. -/
def ownerVerdicts (q : Secs) : List Verdict :=
  [plainVerdict (identContentOk (sec q tyIdent)), plainVerdict (clockPowerOk q), tileMapVerdict q,
    (if !(cellStrings q).isEmpty && !hasSec q tyMaquette then .missing else .ok), plainVerdict (senseOk q), loopVerdict q,
    schedVerdict q, stagesVerdict q]
  ++ [plainVerdict (balanceOk q), maquetteVerdict q, sequenceVerdict q, couplingVerdict q, faultsVerdict q, vitrineVerdict q,
    hostVerdict q, trustVerdict (sec q tyTrust)]

/-- Step 16 over all owners. A malformed unit counts whichever owner comes first (R44); otherwise the first owner that
does not pass gives the reason (assumption 66). -/
def contentVerdict (q : Secs) : Verdict :=
  if (ownerVerdicts q).contains .malformed then .malformed else firstVerdict (ownerVerdicts q)

end Sys2Proof.Machine
end

