-- ==== Sys2Proof/Machine/Fabric.lean ====
section
/-! DEFINITION. Accesses of the memory banks over the fabric: ownership, conflicts, parity and SECDED (R67, R69 to R71). -/

namespace Sys2Proof.Machine

/-- The masters of R67 in the numbering of CONFLICT_COUNTERS. -/
inductive Master where
  | supervisorA | supervisorB | loopEngines | pave | modulator | balance | maquette | vitrine
  | collector | sequencer | benra | tilePorts | hostPorts | clasp | xspi | testAccess
  deriving DecidableEq, Repr

def bankMasters : List Master :=
  [.supervisorA, .supervisorB, .loopEngines, .pave, .modulator, .balance, .maquette, .vitrine]
  ++ [.collector, .sequencer, .benra, .tilePorts, .hostPorts, .clasp, .xspi, .testAccess]

/-- The master of a number. -/
def bankMaster (n : Nat) : Master := (bankMasters[n]?).getD .testAccess

/-- Table 3.7: whether a bank serves a master's access in a mode. The image loader is Benra's, and bank 6 serves Benra
alone; bank 2 is written by the loop engines, by the loader in BOOT and by the supervisor complex in SERVICE. -/
def bankAllows (mode : Mode) (bank : Nat) (m : Master) (write : Bool) : Bool :=
  if bank = 6 then m == .benra
  else if bank = 2 && write then
    m == .loopEngines || mode == .boot && m == .benra
      || mode == .service && (m == .supervisorA || m == .supervisorB)
  else true

/-- An access of a master waited because another master held the bank (R69): its counter moves on, and event 0x8205 is
recorded once per start when the counter reaches CONFLICT_ALERT. -/
def noteConflict (m : Nat) (s : State) : State :=
  let n := sat32 (Tab.get 0 s.armature.conflicts m) 1
  let s := { s with armature := { s.armature with conflicts := Tab.set s.armature.conflicts m n } }
  let alert := cpConflictAlert (secs s)
  if alert != 0 && decide (alert ≤ n) && !s.armature.alerted.contains m then
    event 0x8205 [m] { s with armature := { s.armature with alerted := m :: s.armature.alerted } }
  else s

/-- The answer a master receives: an error or not. -/
def answerMaster (m : Nat) (error : Bool) (s : State) : State :=
  { s with armature := { s.armature with failed := Tab.set s.armature.failed m error } }

/-- One access of a bank: a transfer with a parity error is discarded (R71), an access the table refuses is answered with an
error (R67), and a read corrects one wrong bit and withholds a word with two (R70). -/
def bankAccess (bank : Nat) (a : BankAccess) (s : State) : State :=
  let s := if a.waited then noteConflict a.master s else s
  if a.parityBad then chipPulse 0x0207 [a.master, bank] (answerMaster a.master true s)
  else if !bankAllows s.mode bank (bankMaster a.master) a.write then
    chipPulse 0x0206 [a.master, bank] (answerMaster a.master true s)
  else if a.write || a.wrongBits = 0 then answerMaster a.master false s
  else
    let b := s.bank bank
    if a.wrongBits = 1 then
      answerMaster a.master false (s.setBank bank { b with corrections := sat32 b.corrections 1 })
    else
      chipPulse 0x0201 [bank, a.word]
        (answerMaster a.master true (s.setBank bank { b with doubleErrors := sat32 b.doubleErrors 1 }))

/-- The accesses of a bank in their order, as long as the chip runs. -/
def bankAccesses (bank : Nat) (l : List BankAccess) (s : State) : State :=
  l.foldl (fun s a => if isLive s then bankAccess bank a s else s) s

end Sys2Proof.Machine
end

