-- ==== Sys2Proof/Machine/RackStart.lean ====
section
/-! DEFINITION. What activation, STANDBY entry and the recorder's mount do in the rack's units. -/

namespace Sys2Proof.Machine

/-! ### Activation -/

/-- The engines after the proofs of activation: LE0 to LE7 that passed, completed by LE8 if one failed (R179). -/
def poolEngines (proofs : List Nat) (s : State) : State :=
  let now (k : Nat) : Nat := (rackTime s - 640000 * k) / 6400000 + 1
  let whole := (List.range 8).all (fun k => proofs.contains k)
  (List.range 9).foldl (fun s k =>
    let ok := proofs.contains k
    s.setEngine k {
      state := if !ok then 2 else if k = 8 && whole then 1 else 0
      passed := ok, proofs := if ok then 16 else 0, fails := flag !ok
      failedAt := if ok then 0 else s.plinth.opSeconds, provedIn := now k }) s

/-- The CRCs of R365: each context's common part and body, and each schedule grid at 0x1000 above its context. -/
def contextCrcs (q : Secs) : Tab Nat :=
  (lcRecords q).map (fun r => (u16 r 0, crc32c (r.take 32 ++ ctxBody r)))
    ++ (scRecords q).map (fun r => (0x1000 + u16 r 0, crc32c (slice r 88 (3 * scCoefs r * (scN0 r * scN1 r)))))

/-- The rack's units take their sections at activation: no ledger period, model step or proof interval of the past is
owed. After VAO_POR has lost the mask every declared rail counts as undischarged (R297). -/
def activateRack (proofs : List Nat) (s : State) : State :=
  let q := secs s
  let s := poolEngines proofs (initMaquette s)
  let second := rackTime s / secTicks
  let s := { s with
    ledger := period s + 1
    collector := { s.collector with contextCrc := contextCrcs q }
    balance := { s.balance with computed := period s + 1, peakAt := second, grantAt := second }
    maq := { s.maq with step := rackTime s / (10 * msTicks), second := second }
    plinth := { s.plinth with
      undischarged := if s.plinth.maskLost then maskOf (rails q) else s.plinth.undischarged, maskLost := false } }
  if ((List.range 9).filter (fun k => proofs.contains k)).length < 8 then
    chipPulse 0x0602 [] s
  else s

/-! ### STANDBY entry -/

/-- Tile ports begin training, each tile's primary lane the active one (R58, R81); a RACK_ON filtered high is an on request
(R277). -/
def standbyRack (s : State) : State :=
  let s := (tmEntries (secs s)).foldl (fun s e => (tePorts e).foldl (fun s p =>
    startTraining p (s.setPort p { s.port p with activeLane := p == tePrimary e })) s) s
  if s.pins.rackOn then onRequest s else s

/-! ### The recorder's mount -/

/-- Maquette reads its store at the mount (R272); 0x0A03 without a winning slot, 0x0A09 on a slow flash (R269). With no
mounted device the wear records are fresh ones, which event 0x8705 tells of each (R211). -/
def mountRack (s : State) : State :=
  if !isLive s then s
  else if s.vitrine.mount != .mounted then
    ((List.range 192).filter (fun k => phRole (secs s) k != 0)).foldl (fun s k => event 0x8705 [k] s) s
  else
    let win := storeWinner s.cs1
    let s := readStore s
    let s := if win.isNone then chipPulse 0x0A03 [] s else s
    if s.maq.barred && isLive s then chipPulse 0x0A09 [] s else s

end Sys2Proof.Machine
end

