-- ==== Sys2Proof/Machine/Start.lean ====
section
/-! DEFINITION. Chip start, resets, dormancy, memory banks (chapter 03) and the choice of the image (R41). -/

namespace Sys2Proof.Machine

/-! ### Resets and BOOT entry -/

/-- BOOT is entered (R52, R55, R65): straps sampled, power cycles counted, event 0x8101. The inputs of CLEAR_MODE RESTART
clear, each with its event (R358). -/
def enterBoot (straps : Nat) (s : State) : State :=
  let p := s.plinth
  let p := { p with
    straps := straps % 8, powerCycles := sat32 p.powerCycles 1, wakeHeld := false, ck12 := true, wdtServed := s.now }
  let s := setMode .boot { s with phase := .started, plinth := p, pins := { s.pins with powerGood := true } }
  let restart := s.collector.inputs
  let s := event 0x8101 [p.resetCause, p.powerCycles, p.opSeconds] { s with collector := {} }
  restart.foldl (fun s i => event 0x8C03 [keyCode i.1, keyScope i.1] s) s

/-- A loss of VAO_3V3 clears PD0 too (Table 3.5, R56, R65). -/
def execVaoPor (t : Nat) (s : State) : Out :=
  let s := resetChip 0x01 (advance t s)
  .next { s with plinth := coldPlinth, collector := {}, pins := { s.pins with powerGood := false } }

/-- Power-good begins BOOT after a reset, and releases a wake held in DORMANT (R52, R53). -/
def execPowerGood (t straps : Nat) (s : State) : Out :=
  let s := advance t s
  if s.phase == .inReset && (s.mode != .dormant || s.plinth.wakeHeld) then .next (enterBoot straps s)
  else .next { s with pins := { s.pins with powerGood := true } }

/-- A main supply out of range resets the chip; in DORMANT the main supplies may be absent (R63). -/
def execSupplyLoss (t : Nat) (s : State) : Out :=
  let s := advance t s
  let s := { s with pins := { s.pins with powerGood := false } }
  if s.mode = .dormant then .next s else .next (resetChip 0x02 s)

/-- RST_N low for 1 µs (R63). -/
def execRstN (t : Nat) (s : State) : Out :=
  let s := advance t s
  .next (resetChip 0x03 { s with pins := { s.pins with powerGood := false } })

/-- The PLL loses lock (R62); in DORMANT and in reset it does not run. -/
def execPllLoss (t : Nat) (s : State) : Out :=
  let s := advance t s
  if s.phase == .inReset || s.phase == .started then .next s else .next (resetChip 0x07 s)

/-- The watchdog's timeout: the ROM's 1,000 ms, WDT_TIMEOUT from activation onward (R66). -/
def wdtTimeout (s : State) : Nat := (if isLive s then cpWdtTimeout (secs s) else 1000) * msTicks

/-- The least time between two services: WDT_WINDOW from activation onward (R66). -/
def wdtWindow (s : State) : Nat := (if isLive s then cpWdtWindow (secs s) else 0) * msTicks

/-- The watchdog trips (R66): last-breath record (R389), reset, fault 0x0101. -/
def wdtTrip (s : State) : State := chipPulse 0x0101 [] (resetChip 0x04 (writeBreath 2 (capturePending s)))

/-- The Plinth watchdog is serviced (`brought`), or its time is looked at (R66): a service inside its window starts the timeout again,
one before the window trips it, and so does no service within the timeout. It does not run in DORMANT and TEST. -/
def execWatchdogExpiry (x : At Bool) (s : State) : Out :=
  let s := advance x.time s
  let since := s.now - s.plinth.wdtServed
  if s.mode = .dormant ∨ s.mode = .test ∨ s.phase = .inReset then .next s
  else if wdtTimeout s ≤ since ∨ x.brought = true ∧ since < wdtWindow s then .next (wdtTrip s)
  else if x.brought then .next { s with plinth := { s.plinth with wdtServed := s.now } }
  else .next s

/-! ### The steps of BOOT (Table 3.1) -/

/-- The domains BOOT switches on, in their order, one at a time (R60, Table 3.1). -/
def bootDomains : List Nat := [1, 2, 3, 4, 5, 6, 7, 8, 9, 10, 11]

/-- One domain's switch closes. -/
def domainOn (s : State) (d : Nat) : State := { s with pins := { s.pins with domains := s.pins.domains ||| 1 <<< d } }

/-- The PLL locks; rack time counts from here (R61, R12), and PD1 to PD11 are switched on in their order (R60). -/
def execPllLocked (t : Nat) (s : State) : Out :=
  let s := advance t s
  if s.phase == .started then .next (bootDomains.foldl domainOn { s with phase := .clocked, epoch := s.now }) else .next s

/-- The columns of a bank that need a spare: those that newly fail MBIST (R73), and those on the suspect list whether or
not they fail it, a column replaced before among them (R76). -/
def columnsToRepair (s : State) (failing : List (Nat × Nat)) (b : Nat) : List Nat :=
  let new := ((failing.filter (fun x => x.1 == b)).map (·.2)).filter (fun c => !(fusedRepairs s b).contains c)
  (new ++ Tab.get [] s.plinth.suspects b).foldl (fun l c => if l.contains c then l else l ++ [c]) []

/-- A bank has more failing columns than free spares (R74). -/
def bankFails (s : State) (failing : List (Nat × Nat)) (b : Nat) : Bool :=
  decide (8 < (columnsToRepair s failing b).length + (fusedRepairs s b).length)

/-- Soft repairs of one bank, an event each (R73), or fault 0x0203 (R74). -/
def repairBank (failing : List (Nat × Nat)) (s : State) (b : Nat) : State :=
  if bankFails s failing b then chipFault 0x0203 [b] s
  else
    let cols := columnsToRepair s failing b
    cols.foldl (fun s c => event 0x8202 [b, c] s) (s.setBank b { s.bank b with softRepairs := cols })

/-- MBIST of all banks completes, with the failing columns it found besides the fused repairs (R73, R74, R76). -/
def execMbistComplete (t : Nat) (failing : List (Nat × Nat)) (s : State) : Out :=
  let s := advance t s
  if s.phase != .clocked then .next s
  else
    let failed := (List.range 8).filter (bankFails s failing)
    let r := (List.range 8).foldl (repairBank failing) s
    .next { r with
      phase := if failed.isEmpty then .repaired else .repairFailed
      host := { r.host with silent := failed.contains 0 && failed.contains 1 }
      tap := { r.tap with mbistResult := leNat ((List.range 8).map (fun b => byte (flag (failing.any (·.1 == b))))) }
      plinth := { r.plinth with suspects := r.plinth.suspects.filter (fun x => failed.contains x.1) } }

/-- Benra seeds its DRBG, derives its keys, draws BOOT_NONCE and checks the certificate store (R393, R395, R408). -/
def startBenra (raw : Bytes) (s : State) : State :=
  let d := deriveDeviceKey s
  let x := drbg (seedDrbg raw s)
  let s := x.2
  let ok := certStoreOk d s
  let s := { s with benra := { s.benra with
    deviceKey := some d, recorderKey := some (deriveRecorderKey s), bootNonce := leBytes 8 x.1, certInvalid := !ok } }
  if ok then s else chipFault 0x0D06 [] s

/-- Two reads of the fuse array agree, or the two reads that follow a mismatch do (R396). -/
def readsAgree : List Nat → Bool
  | a :: b :: rest =>
    a == b || (match rest with
      | c :: d :: _ => c == d
      | _ => false)
  | _ => false

/-- Benra's self-tests and fuse reads end (R396, R415): the results of the known-answer test and of its retry, the raw bits of
the start-up test and of its retry, and the reads of the fuse array. -/
def execSelfTestComplete (t : Nat) (kat : List Bool) (trng : List Bytes) (fuseReads : List Nat) (s : State) : Out :=
  let s := advance t s
  if !(s.phase == .repaired || s.phase == .repairFailed && s.benra.deviceKey.isNone) then .next s
  else if !(kat.take 2).any id then .next (chipFault 0x0D01 [] { s with phase := .selfTestFailed })
  else
    match (trng.take 2).find? startupPasses with
    | none => .next (chipFault 0x0D02 [] { s with phase := .selfTestFailed })
    | some raw =>
      if !readsAgree fuseReads || !fuseShipped s then
        .next (chipFault 0x0D05 [] { s with phase := if s.phase == .repaired then .noImage else s.phase })
      else
        let s := startBenra raw s
        .next { s with phase := if s.phase == .repaired then .tested else s.phase }

/-- The mode the controller reads with: 8D-8D-8D where declared, otherwise the fastest declared mode, at the highest
divided clock it declares (R27): bytes per eight clocks and MHz. Of two modes equally fast the one listed first is taken
(DESIGN CHOICE, assumption 70: R27 names no order). -/
def xspiClock (m : XspiMode) : Nat := (([200, 100, 50, 25].filter (· ≤ m.mhz)).head?).getD 25
def xspiRate (m : XspiMode) : Nat := m.lines * (if m.ddr then 2 else 1) * xspiClock m
def xspiPick (l : List XspiMode) : XspiMode :=
  match l.find? (fun m => m.lines == 8 && m.ddr) with
  | some m => m
  | none => l.foldl (fun a m => if xspiRate a < xspiRate m then m else a) { lines := 1, ddr := false, mhz := 25 }

/-- The slots in the order of R41, those without a valid commit record left out. -/
def slotOrder (s : State) : List Nat :=
  let a := commitSeq s.cs0 0
  let b := commitSeq s.cs0 1
  (if a < b then [1, 0] else [0, 1]).filter (fun i => commitSeq s.cs0 i != 0)

/-- No slot verified (R41, R42): fault 0x0D11, BOOT without an image, commands under the fallback TRUST (R422). -/
def noBootableImage (s : State) : State :=
  let s := { s with benra := { s.benra with
    cmdKeys := if s.loader.fallbackTrust.isEmpty then [] else deriveCmdKeys s.loader.fallbackTrust s } }
  if s.phase == .repairFailed then s else chipFault 0x0D11 [] { s with phase := .noImage }

/-- The SFDP table on CS0 is read and its fastest mode taken, then the commit records (R27, R41, Table 3.1). -/
def execSfdpRead (t : Nat) (modes : List XspiMode) (s : State) : Out :=
  let s := advance t s
  if !(s.phase == .tested || s.phase == .repairFailed && s.benra.deviceKey.isSome && s.loader.toTry.isEmpty
      && s.loader.fallbackTrust.isEmpty) then .next s
  else
    let m := xspiPick modes
    let order := slotOrder s
    let s := { s with
      phase := if s.phase == .tested then .flashRead else s.phase
      loader := { s.loader with
        xspiBits := m.lines, xspiDdr := m.ddr, xspiMhz := xspiClock m, toTry := order, firstTry := order.head?.getD 0 } }
    let s := if m.lines == 8 && m.ddr then s else event 0x8D15 [m.lines, flag m.ddr, xspiClock m] s
    .next (if order.isEmpty then noBootableImage s else s)

/-- What a verification of this chip needs (Table 2.8). -/
def verifyEnv (s : State) : VerifyEnv :=
  { rom := Config.romVersion, patchKeys := Config.patchKeyHashes, ownerHash := activeOwner s,
    rollback := rollbackCount s, patchRollback := patchRollbackCount s, content := contentVerdict }

/-- The verification of a committed slot. -/
def verifySlot (s : State) (slot : Nat) (readOk : Bool) : Verified :=
  match commitRecord s.cs0 slot with
  | none => .fails rNoCommit false none
  | some c => verifyImage (verifyEnv s) slot readOk (flashRead s.cs0 (slotBase slot) (max 64 c.2)) c.2

/-- One slot's verification ends (R38, R40, R41, R44, R422). In BOOT after a repair failure the slots serve only to find
the TRUST section of R422 (R74). -/
def execSlotVerifyComplete (t : Nat) (readOk : Bool) (s : State) : Out :=
  let s := advance t s
  match s.loader.toTry with
  | [] => .next s
  | slot :: rest =>
    if !(s.phase == .flashRead || s.phase == .repairFailed) then .next s
    else
      let s := { s with loader := { s.loader with toTry := rest } }
      match verifySlot s slot readOk with
      | .passes i =>
        if s.phase == .repairFailed then
          .next (noBootableImage { s with loader := { s.loader with fallbackTrust := sec i.sections tyTrust, toTry := [] } })
        else .next { s with phase := .verified, loader := { s.loader with shadow := some i } }
      | .fails reason malformed trust =>
        let l := s.loader
        let s := { s with loader := { l with
          malformed := if malformed then sat16 l.malformed 1 else l.malformed
          reason := Tab.set l.reason slot reason
          fallbackTrust := if l.fallbackTrust.isEmpty then trust.getD [] else l.fallbackTrust } }
        let s := if s.phase == .repairFailed then s else chipPulse 0x0D10 [slot, reason, commitSeq s.cs0 slot] s
        .next (if rest.isEmpty then noBootableImage s else s)

/-- The reactions of every input latched at activation (R350); a chip reset among them ends the rest. -/
def reactLatched (s : State) : State :=
  (latchedInputs s).foldl (fun s x => if isLive s then react x.1 x.2 (s.input x.1 x.2).payload s else s) s

/-- A latched input whose code takes another scope in the loaded map is carried there (R350). Every fault of BOOT is of
class CHIP, so each stays at scope 0. -/
def execActivation (t : Nat) (proofs : List Nat) (s : State) : Out :=
  let s := advance t s
  match s.loader.shadow with
  | none => .next s
  | some i =>
    if s.phase != .verified then .next s
    else
      let s := { s with
        phase := .live, loader := { s.loader with live := some i, shadow := none, toTry := [] }
        plinth := { s.plinth with wdtServed := s.now } }
      let tr := sec i.sections tyTrust
      let fp := sec i.sections tyPatch
      let s := { s with benra := { s.benra with
        cmdKeys := deriveCmdKeys tr s, patch := if fp.isEmpty then none else some (u32 fp 4, u8 fp 12) } }
      let s := activateRack proofs s
      let s := if i.slot = s.loader.firstTry then s else event 0x8D12 [i.slot] s
      let s := if s.plinth.wokenByAddress then
          event 0x8F01 [] { s with plinth := { s.plinth with wokenByAddress := false } } else s
      .next (reactLatched s)

/-- STANDBY is entered after activation (R41, R58): ports train unless the chip is unenrolled (R399), a level already
held brings SAFE (R357), and the soft repairs are burnt (R75). -/
def execStandbyEntry (t : Nat) (vpp : Nat) (s : State) : Out :=
  let s := advance t s
  if !(isLive s && s.mode == .boot) then .next s
  else
    let s := setMode .standby { s with under := .standby, pins := { s.pins with
      vppFuse := vpp, domains := s.pins.domains ||| (cpDomainEnable (secs s) &&& 0xF000) } }
    let s := if (activeOwner s).isSome then
        standbyRack { s with pins := { s.pins with transmitters := true } } else s
    let s := startClasp s
    let held := s.collector.heldLevel
    let first := (latchedInputs s).find? (fun x => decide (levelOf (reactionOf s x.1 x.2) = held))
    let s := if held = 0 then s else enterSafe held (match first with | some x => inputNo s x.1 x.2 | none => 255) s
    let soft := s.armature.banks.flatMap (fun b => b.2.softRepairs.map (fun c => (b.1, c)))
    .next (if cpRepairBurn (secs s) && vppIn vpp && isLive s then startRepair soft s else s)

/-! ### Dormancy (R53, R54, R428) -/

/-- The conditions of R54. -/
def dormantAllowed (s : State) : Bool :=
  let d := cpDormantDelay (secs s) * secTicks
  s.mode == .standby && cpDormantEnable (secs s) && !s.pins.rackOn && decide (s.pins.rackOnLowSince + d ≤ s.now)
    && decide (s.plinth.lastHostCmd + d ≤ s.now) && s.benra.session.isNone && s.loader.session.isNone

/-- DORMANT is entered: staging flushed, odometer written, PD1 to PD15 off (R54, R60). -/
def execDormantEntry (t : Nat) (s : State) : Out :=
  let s := advance t s
  if !dormantAllowed s then .next s
  else
    let q := secs s
    let s := writeOdometer (flushAll s)
    let p := { s.plinth with
      wakeSources := cpWakeSources q, wakeInterval := cpWakeInterval q, dormantSince := s.now }
    .next { offDomains s with mode := .dormant, plinth := p }

/-- A wake: BOOT at once with power good, otherwise held (R53). -/
def wake (straps : Nat) (s : State) : State :=
  if s.pins.powerGood then enterBoot straps s else { s with plinth := { s.plinth with wakeHeld := true } }

/-- A rising edge of RACK_ON, or a change of CP_PROX where enabled, in DORMANT (R53). -/
def execDormantWake (t : Nat) (source : WakeSource) (straps : Nat) (s : State) : Out :=
  let s := advance t s
  if s.mode != .dormant then .next s
  else
    match source with
    | .rackOn => .next (wake straps { s with pins := { s.pins with rackOn := true } })
    | .cpProx => if bit s.plinth.wakeSources 3 then .next (wake straps s) else .next s

/-- The wake interval expires (R53, Table 3.9). -/
def execWakeIntervalExpiry (t straps : Nat) (s : State) : Out :=
  let s := advance t s
  if s.mode == .dormant && bit s.plinth.wakeSources 2 && s.plinth.wakeInterval != 0
      && decide (s.plinth.dormantSince + s.plinth.wakeInterval * secTicks ≤ s.now) then .next (wake straps s)
  else .next s

/-- The target's two-wire address from the straps (R423). -/
def twAddress (s : State) : Nat := 0x58 + s.plinth.straps

/-- The Plinth NACKs its address in DORMANT and counts it; with WAKE_SOURCES bit 1 the first match wakes (R428). -/
def execTwDormantAddressMatch (t address straps : Nat) (s : State) : Out :=
  let s := advance t s
  if s.mode == .dormant && address == twAddress s then
    let p := s.plinth
    let s := { s with plinth := { p with wakeNack := sat16 p.wakeNack 1 } }
    if bit p.wakeSources 1 && !p.wakeHeld then
      .next (wake straps { s with plinth := { s.plinth with wokenByAddress := true } })
    else .next s
  else .next s

/-! ### Scrubbing, temperature -/

/-- A column is suspected (R76): fault 0x0204 and the PD0 list of up to eight. -/
def suspect (b c : Nat) (s : State) : State :=
  let l := Tab.get [] s.plinth.suspects b
  let s := if l.contains c || 8 ≤ l.length then s
    else { s with plinth := { s.plinth with suspects := Tab.set s.plinth.suspects b (l ++ [c]) } }
  chipPulse 0x0204 [b, c] s

/-- The bytes a scrub pass read of a record of R365 no longer give its CRC (R365). -/
def crcDiffers (s : State) (c : Nat × Bytes) : Bool :=
  match Tab.find s.collector.contextCrc c.1 with
  | some v => crc32c c.2 != v
  | none => false

/-- The scrubber's own part of a pass of a bank that ends (R70, R72, R76, R365). -/
def scrubPass (bank : Nat) (columns : List (Nat × Nat)) (doubles : List Nat) (contexts : List (Nat × Bytes)) (s : State) : State :=
  let b := s.bank bank
  let s := s.setBank bank { b with
    corrections := sat32 b.corrections ((columns.map (·.2)).sum), scrubPasses := sat32 b.scrubPasses 1
    doubleErrors := sat32 b.doubleErrors doubles.length }
  let bad := columns.filter (fun c => decide (cpColumnSuspect (secs s) < c.2))
  let s := bad.foldl (fun s c => if isLive s then suspect bank c.1 s else s) s
  let s := doubles.foldl (fun s w => if isLive s then chipPulse 0x0201 [bank, w] s else s) s
  contexts.foldl (fun s c => if isLive s && bank == 2 && crcDiffers s c then chipPulse 0x0C06 [c.1 % 0x1000] s else s) s

/-- A scrub pass of a bank ends, with the masters' accesses of the bank since the pass before (R67 to R71), the corrections
per column, the words read with two bits in error, and the bytes read of the records whose CRC the collector holds (R70,
R72, R76, R365). -/
def execScrubPassComplete (t bank : Nat) (accesses : List BankAccess) (words : ScrubWords)
    (contexts : List (Nat × Bytes)) (s : State) : Out :=
  let s := advance t s
  if !running s || 8 ≤ bank then .next s
  else
    let s := bankAccesses bank accesses s
    .next (if running s then scrubPass bank words.columns words.doubles contexts s else s)

/-- The die temperature is sampled (Table 3.9): 0x0104 at or above TJ_WARN, 0x0103 at or above TJ_LIMIT. -/
def execDieTempUpdate (t : Nat) (tj : Int) (s : State) : Out :=
  let s := advance t s
  let s := { s with pins := { s.pins with tj := tj } }
  if !running s then .next s
  else
    let q := secs s
    let s := if cpTjWarn q ≤ tj then (if (s.input 0x0104 0).asserted then s else chipFault 0x0104 [] s) else lowerFault 0x0104 0 s
    if !isLive s then .next s
    else if cpTjLimit q ≤ tj then (if (s.input 0x0103 0).asserted then .next s else .next (chipFault 0x0103 [] s))
    else .next (lowerFault 0x0103 0 s)

/-- PWR_FAIL_N counts as deasserted (R79); an erase that waited goes on (R388). -/
def execPwrFailDeassert (t : Nat) (s : State) : Out :=
  let s := advance t s
  .next { s with pins := { s.pins with pwrFail := false }, vitrine := { s.vitrine with eraseSuspended := false, programPending := false } }

end Sys2Proof.Machine
end

