-- ==== Sys2Proof/Machine/LoaderCmds.lean ====
section
/-! DEFINITION. The commands of the image loader: staging (R46 to R51, R475), rollback (R43), restart (Table 3.5). -/

namespace Sys2Proof.Machine

/-- The inactive slot (chapter 02): the other than the active one; without an image the slot with the lower SEQUENCE, A
when equal, as the commit records stand at each command (assumption 67). -/
def inactiveSlot (s : State) : Nat :=
  match s.loader.live with
  | some i => 1 - i.slot
  | none => if commitSeq s.cs0 1 < commitSeq s.cs0 0 then 1 else 0

/-- A staging command of role IMAGE. -/
def stageSpec (object lo hi : Nat) : CmdSpec := { object := object, role := some 0, lo := lo, hi := hi, held := 1 }

/-- The session's idle limit starts again (R47): by every staging command that reaches the session, refused with OVERSIZE
or DENIED too, but not by one refused with RANGE or BUSY before that (assumption 68). -/
def stageTouch (s : State) : State :=
  { s with loader := { s.loader with session := s.loader.session.map (fun x => { x with lastCmd := s.now }) } }

/-- A passing verification is spent (R49): by a WRITE or OPEN that takes effect, a COMMIT that programs and an ABORT, not
by one that is refused (assumption 69). -/
def spendVerify (s : State) : State :=
  { s with loader := { s.loader with verified := false, tainted := true } }

/-- IMAGE_STAGE_OPEN (Table 2.9): the commit sector is erased at once, the image sectors when the erase completes. -/
def stageOpen (d : Bytes) (s : State) : CmdEnd :=
  let n := u32 d 0
  let l := s.loader
  if n % 16 ≠ 0 ∨ n < 16 then say stRange s
  else if l.erasing || l.session.isSome || l.verifying then say stBusy s
  else if maxImage < n then say stOversize s
  else
    let s := spendVerify s
    (stAccepted, [], { s with
      cs0 := flashErase s.cs0 (commitBase (inactiveSlot s)) 4096
      loader := { s.loader with session := some { declared := n, lastCmd := s.now }, erasing := true, eraseLength := n } })

def execImageStageOpen (t : Nat) (rq : CmdReq) (s : State) : Out :=
  .next (runCommand (stageSpec 0x0D10 4 4) rq stageOpen (advance t s))

/-- The opening erase ends, over the sectors of the declared length (Table 2.9), whether or not the session is still
open (R47). -/
def execStageEraseComplete (t : Nat) (s : State) : Out :=
  let s := advance t s
  if s.loader.erasing then
    let s := { s with
      cs0 := flashErase s.cs0 (slotBase (inactiveSlot s)) (ceilDiv s.loader.eraseLength 4096 * 4096)
      loader := { s.loader with erasing := false } }
    .next (finishCommand 0x0D10 stDone 0 s)
  else .next s

/-- IMAGE_STAGE_WRITE (Table 2.9, R48). -/
def stageWrite (d : Bytes) (s : State) : CmdEnd :=
  let off := u32 d 0
  let b := d.drop 4
  if off % 16 ≠ 0 ∨ b.length % 16 ≠ 0 then say stRange s
  else if s.loader.erasing then say stBusy s
  else
    match s.loader.session with
    | none => say stWrongMode s
    | some x =>
      let units := (List.range (b.length / 16)).map (off / 16 + ·)
      let s := stageTouch s
      if x.declared < off + b.length then say stOversize s
      else if units.any x.written.contains then say stDenied s
      else
        let s := spendVerify s
        (stDone, [], { s with
          cs0 := flashProgram s.cs0 (slotBase (inactiveSlot s) + off) b
          loader := { s.loader with session := some { x with written := units ++ x.written, lastCmd := s.now } } })

def execImageStageWrite (t : Nat) (rq : CmdReq) (s : State) : Out :=
  .next (runCommand (stageSpec 0x0D11 20 260) rq stageWrite (advance t s))

/-- IMAGE_STAGE_VERIFY (Table 2.9). -/
def stageVerify (_d : Bytes) (s : State) : CmdEnd :=
  if s.loader.erasing then say stBusy s
  else
    let s := stageTouch s
    (stAccepted, [], { s with loader := { s.loader with verifying := true, tainted := false } })

def execImageStageVerify (t : Nat) (rq : CmdReq) (s : State) : Out :=
  .next (runCommand { stageSpec 0x0D12 4 4 with resv := noArgs } rq stageVerify (advance t s))

/-- The length a staging verification takes: the declared one, or that of the stored header (R49). -/
def stageLength (s : State) : Nat :=
  match s.loader.session with
  | some x => x.declared
  | none => u32 (flashRead s.cs0 (slotBase (inactiveSlot s)) 64) 28

/-- The verification of the inactive slot (R49): a header that fails is not read past. -/
def verifyStaged (s : State) (readOk : Bool) : Verified :=
  let slot := inactiveSlot s
  let len := stageLength s
  let head := flashRead s.cs0 (slotBase slot) 64
  if readOk && (headerFault head len).isSome then verifyImage (verifyEnv s) slot readOk head len
  else verifyImage (verifyEnv s) slot readOk (flashRead s.cs0 (slotBase slot) (max 64 len)) len

/-- A staging verification ends: DONE, or INTEGRITY with the reason (Table 2.9, Table 16.5, R44). -/
def execStageVerifyComplete (t : Nat) (readOk : Bool) (s : State) : Out :=
  let s := advance t s
  if !s.loader.verifying then .next s
  else
    let l := { s.loader with verifying := false }
    match verifyStaged s readOk with
    | .passes _ =>
      .next (finishCommand 0x0D12 stDone 0 { s with loader := { l with verified := !l.tainted, stageReason := 0 } })
    | .fails reason malformed _ =>
      .next (finishCommand 0x0D12 stIntegrity reason { s with loader := { l with
        verified := false, stageReason := reason, malformed := if malformed then sat16 l.malformed 1 else l.malformed } })

/-- IMAGE_STAGE_COMMIT (Table 2.9, R49 to R51). A commit sector that is not blank is erased first (assumption 14). -/
def stageCommit (_d : Bytes) (s : State) : CmdEnd :=
  let slot := inactiveSlot s
  let seq := max (commitSeq s.cs0 0) (commitSeq s.cs0 1) + 1
  if s.loader.erasing then say stBusy s
  else if !s.loader.verified then say stDenied (stageTouch s)
  else if 0xFFFFFFFE < seq then say stRange (stageTouch s)
  else if s.pins.pwrFail then say stBusy (stageTouch s)
  else
    let len := stageLength s
    let head := flashRead s.cs0 (slotBase slot) 64
    let a := commitBase slot
    let m := if flashBlank s.cs0 a 4096 then s.cs0 else flashErase s.cs0 a 4096
    let s := spendVerify { s with
      cs0 := flashProgram m a (commitBytes seq len)
      loader := { s.loader with session := none, pendingSlot := some slot } }
    (stDone, [], stageRecord 0x8D13 0 (pay [slot, seq] ++ slice head 8 8 ++ pay [u16 head 16]) s)

def execImageStageCommit (t : Nat) (rq : CmdReq) (s : State) : Out :=
  .next (runCommand { stageSpec 0x0D13 4 4 with resv := noArgs } rq stageCommit (advance t s))

/-- IMAGE_STAGE_ABORT (Table 2.9). -/
def stageAbort (_d : Bytes) (s : State) : CmdEnd :=
  if s.loader.erasing then say stBusy s
  else
    let s := spendVerify s
    (stDone, [], { s with loader := { s.loader with session := none } })

def execImageStageAbort (t : Nat) (rq : CmdReq) (s : State) : Out :=
  .next (runCommand { stageSpec 0x0D14 4 4 with resv := noArgs } rq stageAbort (advance t s))

/-- 60 s without a staging command close the session, its opening erase running or not (R47). -/
def execStageSessionTimeout (t : Nat) (s : State) : Out :=
  let s := advance t s
  match s.loader.session with
  | some x =>
    if x.lastCmd + 60 * secTicks ≤ s.now then
      .next { s with loader := { s.loader with session := none } }
    else .next s
  | none => .next s

/-- CHIP_RESTART (Table 3.5): answered, then the chip is reset. -/
def chipRestart (_d : Bytes) (s : State) : CmdEnd :=
  if s.mode == .run then say stWrongMode s else say stDone s

def execChipRestart (t : Nat) (rq : CmdReq) (s : State) : Out :=
  .next (runThen { object := 0x0101, inst := 1, role := some 4, lo := 4, hi := 4, resv := noArgs, held := 2 } rq
    chipRestart (fun st s => if st = stDone then resetChip 0x06 s else s) (advance t s))

/-- Whether a rollback command may start (R43, R404): its answer. -/
def rollbackStatus (s : State) (wanted : Option Nat) (count : Nat) : Nat :=
  if !(s.mode == .standby || s.mode == .service) then stWrongMode
  else if !vppIn s.pins.vppFuse then stDenied
  else
    match wanted with
    | none => stRange
    | some n => if n ≤ count then stRange else if s.benra.fuseOp.isSome then stBusy else stAccepted

/-- IMAGE_ROLLBACK_ADVANCE (R43). -/
def rollbackBody (_d : Bytes) (s : State) : CmdEnd :=
  say (rollbackStatus s (s.loader.live.map (·.rollbackIndex)) (rollbackCount s)) s

/-- The fuse steps up to the running image's index start to blow (R43, R398). -/
def rollbackStart (s : State) : State :=
  match s.loader.live with
  | some i => fuseStart .rollback (stepBits 2304 (rollbackCount s) i.rollbackIndex) s
  | none => s

def execImageRollbackAdvance (t : Nat) (rq : CmdReq) (vpp : Nat) (s : State) : Out :=
  let s := advance t s
  .next (runThen { object := 0x0D15, role := some 1, lo := 4, hi := 4, resv := noArgs } rq rollbackBody
    (fun st s => if st = stAccepted then rollbackStart s else s) { s with pins := { s.pins with vppFuse := vpp } })

/-- One fuse bit's pulse and verify read end, with VPP_FUSE as it stands for the next bit (R398). -/
def execFuseBitComplete (t : Nat) (verified : Bool) (vpp : Nat) (s : State) : Out :=
  let s := advance t s
  .next (fuseBit verified { s with pins := { s.pins with vppFuse := vpp } })

end Sys2Proof.Machine
end

