-- ==== Sys2Proof/Machine/Trust.lean ====
section
/-! DEFINITION. The commands and events of the trust core (chapter 14). -/

namespace Sys2Proof.Machine

/-- LOCKOUT_S of a channel has passed (R410); 0x0D03 deasserts with the last lockout. -/
def execAuthLockoutExpiry (t channel : Nat) (s : State) : Out :=
  let s := advance t s
  match Tab.find s.benra.lockedUntil channel with
  | none => .next s
  | some u =>
    if u ≤ s.now then
      let s := { s with benra := { s.benra with lockedUntil := Tab.del s.benra.lockedUntil channel } }
      .next (if s.benra.lockedUntil.isEmpty then lowerFault 0x0D03 0 s else s)
    else .next s

/-- SERVICE_OPEN (R411). -/
def serviceOpen (c : Nat) (_d : Bytes) (s : State) : CmdEnd :=
  if s.benra.session.isSome then say stBusy s
  else if !(s.mode == .standby || s.mode == .run) || (activeOwner s).isNone then say stWrongMode s
  else
    let s := { s with under := s.mode, benra := { s.benra with session := some { channel := c, lastCmd := s.now } } }
    say stDone (event 0x8D05 [c] (setMode .service s))

def execServiceOpen (t : Nat) (rq : CmdReq) (s : State) : Out :=
  .next (runCommand { object := 0x0D17, role := some 2, lo := 4, hi := 4, resv := noArgs } rq (serviceOpen (channelOf rq))
    (advance t s))

/-- The session ends and the chip returns to the underlying mode (R411, Table 3.2). -/
def leaveService (cause : Nat) (s : State) : State :=
  let s := endSession cause s
  if s.mode == .service then setMode s.under s else s

/-- SERVICE_CLOSE (R411). -/
def serviceClose (_d : Bytes) (s : State) : CmdEnd :=
  if s.benra.session.isNone then say stWrongMode s else say stDone (leaveService 1 s)

def execServiceClose (t : Nat) (rq : CmdReq) (s : State) : Out :=
  .next (runCommand { object := 0x0D18, role := some 2, serviceOnly := true, lo := 4, hi := 4, resv := noArgs } rq
    serviceClose (advance t s))

/-- SERVICE_TIMEOUT seconds without an accepted command from the session's channel (R411). -/
def execServiceTimeout (t : Nat) (s : State) : Out :=
  let s := advance t s
  match s.benra.session with
  | some x =>
    if x.lastCmd + trServiceTimeout (trustOf s) * secTicks ≤ s.now then .next (leaveService 2 s) else .next s
  | none => .next s

/-- The answer of OWNER_ENROL (Table 14.4). -/
def enrolStatus (s : State) : Nat :=
  if s.mode != .standby || s.benra.session.isSome then stWrongMode
  else if !trEnrolAllowed (trustOf s) || !vppIn s.pins.vppFuse then stDenied
  else if (activeOwner s).isSome then stWrongMode
  else if (nextOwnerSlot s).isNone then stRange
  else if s.benra.fuseOp.isSome then stBusy
  else stAccepted

/-- The running image's owner key hash starts to be programmed into the next slot (R400). -/
def enrolStart (s : State) : State :=
  match s.loader.live, nextOwnerSlot s with
  | some i, some n => fuseStart (.enrol n) (ownerBits n (sha384 i.ownerKey)) s
  | _, _ => s

def execOwnerEnrol (t : Nat) (rq : CmdReq) (vpp : Nat) (s : State) : Out :=
  let s := advance t s
  .next (runThen { object := 0x0D19, role := some 8, lo := 4, hi := 4, resv := noArgs } rq (fun _ s => say (enrolStatus s) s)
    (fun st s => if st = stAccepted then enrolStart s else s) { s with pins := { s.pins with vppFuse := vpp } })

/-- The signature of OWNER_TRANSFER (R401), and the running key still the active owner's. -/
def transferSigned (d : Bytes) (s : State) : Bool :=
  match s.loader.live with
  | none => false
  | some i =>
    let msg := ascii "KST192 OWNER TRANSFER v1" ++ leBytes 8 (fuseSerial s) ++ slice d 0 1 ++ slice d 4 48
    ecdsaVerify i.ownerKey (sha384 msg) (slice d 52 48) (slice d 100 48)
      && (match activeOwner s with
          | some h => sha384 i.ownerKey == h
          | none => true)

/-- The answer of OWNER_TRANSFER (Table 14.4). -/
def transferStatus (d : Bytes) (s : State) : Nat :=
  if s.mode != .standby || s.benra.session.isSome then stWrongMode
  else if !vppIn s.pins.vppFuse || !transferSigned d s then stDenied
  else if (activeOwner s).isNone then stWrongMode
  else if nextOwnerSlot s != some (u8 d 0) then stRange
  else if s.benra.fuseOp.isSome then stBusy
  else stAccepted

def execOwnerTransfer (t : Nat) (rq : CmdReq) (vpp : Nat) (s : State) : Out :=
  let s := advance t s
  .next (runThen { object := 0x0D1A, role := some 8, lo := 148, hi := 148, resv := [1, 2, 3] } rq
    (fun d s => say (transferStatus d s) s)
    (fun st s => if st = stAccepted then
        fuseStart (.transfer (u8 rq.data 0)) (ownerBits (u8 rq.data 0) (slice rq.data 4 48)) s else s)
    { s with pins := { s.pins with vppFuse := vpp } })

/-- PATCH_ROLLBACK_ADVANCE (R404). -/
def execPatchRollbackAdvance (t : Nat) (rq : CmdReq) (vpp : Nat) (s : State) : Out :=
  let s := advance t s
  .next (runThen { object := 0x0D16, role := some 1, lo := 4, hi := 4, resv := noArgs } rq
    (fun _ s => say (rollbackStatus s (s.benra.patch.map (·.2)) (patchRollbackCount s)) s)
    (fun st s =>
      if st = stAccepted then
        fuseStart .patchRollback (stepBits 2432 (patchRollbackCount s) ((s.benra.patch.map (·.2)).getD 0)) s
      else s)
    { s with pins := { s.pins with vppFuse := vpp } })

/-- DEBUG_UNLOCK (R413): the token, event 0x8D08 flushed, the keys erased, debug access open. -/
def debugUnlock (d : Bytes) (s : State) : CmdEnd :=
  if s.mode != .standby || s.benra.session.isSome then say stWrongMode s
  else
    match useToken 1 d s with
    | (false, s) => say stDenied s
    | (true, s) =>
      let s := flushAll (event 0x8D08 [] s)
      say stDone { s with benra := { s.benra with
        deviceKey := none, recorderKey := none, cmdKeys := [], debugUnlocked := true } }

def execDebugUnlock (t : Nat) (rq : CmdReq) (s : State) : Out :=
  .next (runCommand { object := 0x0D1B, role := some 8, lo := 144, hi := 144 } rq debugUnlock (advance t s))

/-- Bytes 0 to 163 of the ATTEST result (R407, R450). -/
def attestData (nonce : Bytes) (s : State) : Bytes :=
  let slot := ownerSlot s
  let img := s.loader.live
  fit 32 nonce ++ leBytes 8 (fuseSerial s) ++ leBytes 1 (flag (fuseShipped s)) ++ leBytes 1 (slot.getD 0xFF)
    ++ (activeOwner s).getD (zeros 48) ++ fit 48 ((img.map (·.signedHash)).getD []) ++ leBytes 8 ((img.map (·.version)).getD 0)
    ++ leBytes 1 (rollbackCount s) ++ leBytes 1 (patchRollbackCount s) ++ leBytes 4 ((s.benra.patch.map (·.1)).getD 0)
    ++ leBytes 4 Config.romVersion ++ leBytes 1 (flag s.benra.debugUnlocked) ++ zeros 3 ++ leBytes 4 s.plinth.opSeconds

/-- ATTEST (R407, R413, R415): DONE with the signed data; INTEGRITY without a valid certificate or without the key. -/
def attest (d : Bytes) (s : State) : CmdEnd :=
  if s.benra.drbgHalted then say stBusy s
  else if s.benra.debugUnlocked then (stIntegrity, attestData d s ++ zeros 96, s)
  else if s.benra.certInvalid || s.benra.deviceKey.isNone then say stIntegrity s
  else
    let b := attestData d s
    let x := deviceSign (ascii "KST192 ATTEST v1" ++ b) s
    (stDone, b ++ x.1.1 ++ x.1.2, x.2)

def execAttest (t : Nat) (rq : CmdReq) (s : State) : Out :=
  .next (runCommand { object := 0x0D01, inst := 1, role := none, lo := 32, hi := 32, plain := true } rq attest (advance t s))

/-- Raw bits the noise source delivers after BOOT: one that fails a continuous health test halts the DRBG, with 0x0D02 (R414,
R415). -/
def execTrngHealth (x : At Bytes) (s : State) : Out :=
  let s := advance x.time s
  if s.mode == .dormant || s.mode == .boot && !bootHeld s || rawHealthy x.brought then .next s
  else .next (chipFault 0x0D02 [] { s with benra := { s.benra with drbgHalted := true, retestAt := s.now + secTicks } })

/-- The start-up test, repeated every 1 s while the DRBG is halted (R415): a pass ends the halt and seeds the DRBG afresh. -/
def execTrngRetest (t : Nat) (raw : Bytes) (s : State) : Out :=
  let s := advance t s
  if !s.benra.drbgHalted || decide (s.now < s.benra.retestAt) then .next s
  else if startupPasses raw then
    .next (lowerFault 0x0D02 0 (seedDrbg raw { s with benra := { s.benra with drbgHalted := false } }))
  else .next { s with benra := { s.benra with retestAt := s.now + secTicks } }

/-- The DRBG is reseeded from 1,024 raw bits after 2^16 requests (R414). -/
def execDrbgReseed (x : At Bytes) (s : State) : Out :=
  let s := advance x.time s
  if 65536 ≤ s.benra.drbgRequests && decide (128 ≤ x.brought.length) && rawHealthy x.brought then .next (reseedDrbg x.brought s) else .next s

end Sys2Proof.Machine
end

