-- ==== Sys2Proof/Machine/Recorder.lean ====
section
/-! DEFINITION. The commands and events of Vitrine (chapter 13). -/

namespace Sys2Proof.Machine

/-- The mount of CS1 ends (R369): failure with its cause, or the log, odometer and last-breath slots, then the flush of
what BOOT staged and the arming of a last-breath slot (R390). It does not end while PWR_FAIL_N counts as asserted, since it may erase and program (R388). -/
def execRecorderMount (t : Nat) (device : Option CsDevice) (s : State) : Out :=
  let s := advance t s
  if !(running s && s.vitrine.mount == .notYet) || s.pins.pwrFail then .next s
  else
    match device with
    | none => .next (mountRack (mountFails 1 s))
    | some d =>
      if d.bytes < 134217728 then .next (mountRack (mountFails 2 s))
      else if !d.erase4k || !d.suspend then .next (mountRack (mountFails 3 s))
      else
        let s := mountRecorder d.bytes d.programUs s
        .next (mountRack (armBreath (flushAll { s with vitrine := { s.vitrine with odoAt := s.plinth.opSeconds } })))

/-- A record arrives from another unit (R375); at most 255 payload words (R371). -/
def execRecordStage (t code scope : Nat) (payload : Bytes) (s : State) : Out :=
  let s := advance t s
  if s.phase == .inReset then .next s else .next (stageRecord code scope (payload.take 1020) s)

/-- A RATE code's bucket gains a token, REFILL ms after the one before (R373). -/
def execTokenRefill (t code : Nat) (s : State) : Out :=
  let s := advance t s
  let c := recordClass s code 0
  match Tab.find s.vitrine.buckets code with
  | none => .next s
  | some b =>
    if s.now < b.due then .next s
    else .next { s with vitrine := { s.vitrine with
      buckets := Tab.set s.vitrine.buckets code
        { b with tokens := min c.2.2 (b.tokens + 1), due := b.due + refillTicks s code } } }

/-- The oldest staged record is sealed and programmed (R376); an operation that fails retires its sector (R380), and one cut
by PWR_FAIL_N leaves the sector it was opening free (R370). -/
def execRecordFlush (t : Nat) (ended : FlashEnd) (s : State) : Out :=
  let s := advance t s
  match s.vitrine.staged with
  | [] => .next s
  | r :: _ =>
    if s.vitrine.mount != .mounted || s.vitrine.clear.isSome || s.benra.recorderKey.isNone then .next s
    else
      match ended with
      | .cut => .next (if s.pins.pwrFail then flushCut r s else s)
      | .ok => .next (if s.pins.pwrFail then s else tellDrops (flushOldest s))
      | .failed op => .next (if s.pins.pwrFail then s else flushFails op r s)

/-- An odometer entry every ODO_PERIOD minutes of operating time (R386). -/
def execOdometerWrite (t : Nat) (s : State) : Out :=
  let s := advance t s
  if s.vitrine.odoAt + viOdoPeriod (secs s) * 60 ≤ s.plinth.opSeconds then .next (writeOdometer s) else .next s

/-- PWR_FAIL_N counts as asserted (R388, R398, R50): no erase or program starts from here on. -/
def execPowerFail (t : Nat) (s : State) : Out :=
  let s := advance t s
  .next (capturePending { s with pins := { s.pins with pwrFail := true } })

/-- A learned-value commit program that PWR_FAIL_N found started runs on (R271, R389). -/
def commitRuns (s : State) : Bool := s.maq.write.isSome && !s.maq.failed

/-- The Plinth writes the last-breath record for PWR_FAIL_N, once a started learned-value commit has completed (R389); the
record of a watchdog expiry is written with that reset. -/
def execLastBreath (t trigger : Nat) (s : State) : Out :=
  let s := advance t s
  if trigger = 1 ∧ s.pins.pwrFail = true ∧ s.mode ≠ .dormant ∧ commitRuns s = false then .next (writeBreath 1 s) else .next s

/-- RECORDER_SEAL (R383, R450). -/
def recorderSeal (d : Bytes) (s : State) : CmdEnd :=
  if s.benra.drbgHalted then say stBusy s
  else
    let v := s.vitrine
    let b := leBytes 4 v.flashedSeq ++ fit 16 v.tail ++ leBytes 4 s.plinth.opSeconds
    let x := deviceSign (d ++ b) s
    (stDone, b ++ x.1.1 ++ x.1.2, x.2)

def execRecorderSeal (t : Nat) (rq : CmdReq) (s : State) : Out :=
  .next (runCommand { object := 0x0B10, role := some 7, lo := 32, hi := 32 } rq recorderSeal (advance t s))

/-- The sector a clear takes (R384): a free usable one, or the live one with the lowest SECTOR_SEQ but the current. -/
def clearSector (s : State) : Option Nat :=
  match freeSector s with
  | some a => some a
  | none => (s.vitrine.sectors.dropLast.find? (fun x => !s.vitrine.retired.contains x.addr)).map (·.addr)

/-- The clear record of a new generation (R384). -/
def clearRecord (tokenId : Nat) (s : State) : Staged :=
  let v := s.vitrine
  { code := 0x8B09, severity := 7, payload := pay [v.generation, v.oldestSeq, v.flashedSeq, tokenId, v.fullDrop],
    opSeconds := s.plinth.opSeconds, powerCycles := s.plinth.powerCycles,
    seq := some (seqOf ((v.generation + 1) % 256) 0), stagedAt := s.now }

/-- Steps 1 to 5 of R384: staging flushed, the sector erased, header and clear record programmed, no commit yet. -/
def beginClear (addr tokenId : Nat) (s : State) : State :=
  let v := s.vitrine
  let q := v.highestSectorSeq + 1
  let gen := (v.generation + 1) % 256
  let r := clearRecord tokenId s
  let key := s.benra.recorderKey.getD []
  let m := flashErase s.cs1 addr 4096
  let m := flashProgram m addr (sectorHeader q gen (seqOf gen 0) v.tail)
  let m := flashProgram m (addr + 64) (recordBody r ++ recordTail key v.tail (recordBody r))
  { s with
    cs1 := m
    vitrine := { v with
      programRunning := true, sectors := v.sectors.filter (fun x => x.addr ≠ addr)
      oldestSeq := ((v.sectors.find? (fun x => x.addr ≠ addr)).map (·.firstSeq)).getD v.oldestSeq
      clear := some { addr := addr, sectorSeq := q, generation := gen, tokenId := tokenId } } }

/-- RECORDER_CLEAR (R384), in the order of its table; BUSY also while PWR_FAIL_N lets no erase start (R388). -/
def recorderClear (d : Bytes) (s : State) : CmdEnd :=
  if !(s.mode == .standby || s.mode == .service) then say stWrongMode s
  else
    match useToken 0 d s with
    | (false, s) => say stDenied s
    | (true, s) =>
      if s.vitrine.clear.isSome || s.vitrine.mount != .mounted || s.pins.pwrFail then say stBusy s
      else
        let s := flushAll s
        match clearSector s with
        | none => say stBusy s
        | some a => (stAccepted, [], beginClear a (u32 d 16) s)

def execRecorderClear (t : Nat) (rq : CmdReq) (s : State) : Out :=
  .next (runCommand { object := 0x0B11, role := some 7, lo := 144, hi := 144 } rq recorderClear (advance t s))

/-- The commit program of a clear ends (R384): the new generation begins; a failed or abandoned one leaves the old log. -/
def execRecorderClearComplete (t : Nat) (programOk : Bool) (s : State) : Out :=
  let s := advance t s
  match s.vitrine.clear with
  | none => .next s
  | some c =>
    let v := { s.vitrine with clear := none, programRunning := false }
    if c.cut then .next (finishCommand 0x0B11 stIntegrity 0 { s with vitrine := v })
    else if !programOk then
      .next (finishCommand 0x0B11 stIntegrity 0 (retireSector c.addr 2 { s with vitrine := v }))
    else
      let q := seqOf c.generation 0
      let len := 32 + 4 * u8 (flashRead s.cs1 (c.addr + 64) 4) 2
      let renumbered := numberStaged c.generation 1 (v.staged.map (fun r => { r with seq := none }))
      let newest := ((renumbered.1.getLast?).bind (·.seq)).getD q
      .next (finishCommand 0x0B11 stDone 0 { s with
        cs1 := flashProgram s.cs1 (c.addr + 48) (sectorCommit c.sectorSeq)
        plinth := { s.plinth with flashedSeq := q, newestSeq := newest }
        vitrine := { v with
          generation := c.generation, nextIndex := renumbered.2, staged := renumbered.1, oldestSeq := q, newestSeq := newest
          flashedSeq := q, fullDrop := 0, fullWritten := false, highestSectorSeq := c.sectorSeq, append := 64 + len
          tail := flashRead s.cs1 (c.addr + 64 + len - 16) 16
          sectors := [{ addr := c.addr, sectorSeq := c.sectorSeq, highSev := 7, firstSeq := q, lastSeq := q }] } })

end Sys2Proof.Machine
end

