-- ==== Sys2Proof/Machine/Collector.lean ====
section
/-! DEFINITION. The commands and events of the fault collector (chapter 12). -/

namespace Sys2Proof.Machine

/-- An input exists for a code and scope: before activation any, from then on those the FAULTS section binds (R344,
R350). The collector is off in DORMANT and in reset. -/
def inputExists (s : State) (code scope : Nat) : Bool :=
  s.phase != .inReset && (!isLive s || (faultIndex (secs s) code scope).isSome)

/-- The last n samples of a pair, one per CK0 cycle, all hold a condition of F and F_N. -/
def lastCycles (n : Nat) (c : Bool × Bool → Bool) (pairs : List (Bool × Bool)) : Bool :=
  decide (n ≤ pairs.length) && (pairs.drop (pairs.length - n)).all c

/-- A pair in the asserted state, in the idle state, and with equal levels (R340, R341). -/
def pairAsserted (p : Bool × Bool) : Bool := p.1 && !p.2
def pairIdle (p : Bool × Bool) : Bool := !p.1 && p.2
def pairEqual (p : Bool × Bool) : Bool := p.1 == p.2

/-- A raising subsystem drives its pair to the asserted state, with the numbers of its payload (R340, R344, R345): 2
consecutive cycles assert the input, and fewer are filtered. -/
def execFaultInputAssert (x : At (List (Bool × Bool))) (code scope : Nat) (payload : List Nat) (s : State) : Out :=
  let s := advance x.time s
  if inputExists s code scope && lastCycles 2 pairAsserted x.brought then .next (raiseFault code scope (pay payload) s)
  else .next s

/-- An input returns to idle: 2 consecutive cycles of its pair (R340). -/
def execFaultInputDeassert (x : At (List (Bool × Bool))) (code scope : Nat) (s : State) : Out :=
  let s := advance x.time s
  if lastCycles 2 pairIdle x.brought then .next (lowerFault code scope s) else .next s

/-- Equal levels on a pair in 8 consecutive cycles (R341): the input counts as asserted with its reaction, and 0x0C01 is
raised. -/
def execPairMismatch (x : At (List (Bool × Bool))) (code scope : Nat) (s : State) : Out :=
  let s := advance x.time s
  if !inputExists s code scope || !lastCycles 8 pairEqual x.brought then .next s
  else
    let s := s.setInput code scope { s.input code scope with mismatch := true }
    let s := chipPulse 0x0C01 [inputNo s code scope] s
    if s.phase == .inReset then .next s else .next (assertInput code scope [] s)

/-- The test pulse of a polarity is missing in a slot of 1 ms: no sample shows both wires at its level (R342). -/
def pulseMissed (high : Bool) (slot : List (Bool × Bool)) : Bool := slot.all (fun p => p != (high, high))

/-- The last two slots of one polarity, as sampled on a pair: with the test pulse missed in both, 0x0C02 (R342). An asserted
input is not tested, and the pair keeps its function. -/
def execInputStuck (t code scope : Nat) (test : TestPulses) (s : State) : Out :=
  let s := advance t s
  if !inputExists s code scope || (s.input code scope).asserted then .next s
  else if decide (2 ≤ test.slots.length) && (test.slots.drop (test.slots.length - 2)).all (pulseMissed test.high) then
    let s := s.setInput code scope { s.input code scope with testMissed := true }
    .next (chipPulse 0x0C02 [inputNo s code scope, flag test.high] s)
  else .next s

/-- The parity of bytes: their bits in 1, modulo 2. -/
def parityOf (b : Bytes) : Nat := (b.map (fun x => (bitsOf 8 x.toNat).length)).sum % 2

/-- The periodic parity check of an entry as the collector's registers hold it, against the bit stored with the loaded entry:
a bad one acts as the fail-safe reaction from then on, and raises 0x0C05 (R349). -/
def execReactionParity (t : Nat) (entry : HeldEntry) (s : State) : Out :=
  let s := advance t s
  if !isLive s || faEntryCount (secs s) ≤ entry.entry || s.collector.parityBad.contains entry.entry
      || parityOf entry.bytes == parityOf (faEntry (secs s) entry.entry) then .next s
  else .next (chipPulse 0x0C05 [entry.entry] { s with collector := { s.collector with
    parityBad := entry.entry :: s.collector.parityBad } })

/-- S1_CONFIRM runs out with a stage of the S1 set not STOPPED (R351): the level rises to S2, fault 0x0C04. -/
def execS1Escalated (t : Nat) (s : State) : Out :=
  let s := advance t s
  let past := s.collector.s1Waits.filter (fun w => decide (w.1 ≤ s.now))
  let s := { s with collector := { s.collector with
    s1Waits := s.collector.s1Waits.filter (fun w => decide (s.now < w.1)) } }
  if past.all (fun w => stagesStopped w.2 s) then .next s
  else
    let no := inputNo s 0x0C04 0
    .next (chipPulse 0x0C04 [] (enterSafe 2 no (applyLevel 2 0 0 s)))

/-- Any latched input that still demands a safe level (R360). -/
def levelLatched (s : State) : Bool := (latchedInputs s).any (fun x => levelOf (reactionOf s x.1 x.2) != 0)

/-- When every input holding S1 has cleared, the power-down with cause CLEAR starts at once (R357). -/
def afterClear (s : State) : State :=
  if s.collector.s1UpSince.isSome && !levelLatched s then
    powerDown causeClear { s with collector := { s.collector with s1UpSince := none } }
  else s

/-- An AUTO input deasserted for HOLD_OFF clears (R358). -/
def execClearHoldOffExpiry (t code scope : Nat) (s : State) : Out :=
  let s := advance t s
  let i := s.input code scope
  match entryOf s code scope with
  | none => .next s
  | some e =>
    if i.latched && !i.asserted && u8 e 5 == 0 && decide (i.deassertedAt + u16 e 6 * msTicks ≤ s.now) then
      .next (afterClear (clearInput code scope s))
    else .next s

/-- The inputs ALL names (R359): latched, and not of CLEAR_MODE RESTART. -/
def clearAllNames (s : State) : List (Nat × Nat) := (latchedInputs s).filter (fun x => clearModeOf s x.1 x.2 != 2)

/-- FAULT_CLEAR evaluated on its DATA: the cases of Table 12.6 in their order (R359). -/
def faultClear (d : Bytes) (s : State) : Nat × State :=
  let code := u16 d 0
  let scope := u8 d 2
  if code = 0xFFFF then
    let names := clearAllNames s
    let idle := names.filter (fun x => !(s.input x.1 x.2).asserted)
    (if idle.length < names.length then stCauseActive else stDone,
      afterClear (idle.foldl (fun s x => clearInput x.1 x.2 s) s))
  else if (entryOf s code scope).isNone then (stRange, s)
  else if clearModeOf s code scope = 2 then (stDenied, s)
  else if (s.input code scope).asserted then (stCauseActive, s)
  else if (s.input code scope).latched then (stDone, afterClear (clearInput code scope s))
  else (stDone, s)

def faultClearSpec : CmdSpec := { object := 0x0C10, role := some 3, lo := 4, hi := 4, resv := [3] }

/-- A FAULT_CLEAR that passes its checks waits for the next ledger boundary (R359). -/
def execFaultClear (t : Nat) (rq : CmdReq) (s : State) : Out :=
  .next (runCommand faultClearSpec rq (fun _ s => say stLater
    { s with collector := { s.collector with clearWaits := s.collector.clearWaits ++ [requestOf faultClearSpec rq] } })
    (advance t s))

/-- The FAULT_CLEAR requests that wait are evaluated and answered, in their order (R359). -/
def serveClears (s : State) : State :=
  s.collector.clearWaits.foldl (fun s r => answer r true (faultClear r.data s).1 [] (faultClear r.data s).2)
    { s with collector := { s.collector with clearWaits := [] } }

/-- The filter time of SAFE_IN_N: SAFE_IN_FILTER, and 0.2 µs before activation (R356, R79). -/
def safeInTicks (s : State) : Nat := if isLive s then faSafeInFilter (secs s) * 640 else 1280

/-- SAFE_IN_N has held a level for a time without interruption (R356): low for the filter time asserts 0x0C03, high for the
same time deasserts it. -/
def execSafeIn (x : At HeldLevel) (s : State) : Out :=
  let s := advance x.time s
  if x.brought.held < safeInTicks s then .next s
  else
    let s := { s with pins := { s.pins with safeIn := x.brought.low } }
    if s.phase == .inReset then .next s
    else if x.brought.low then .next (chipFault 0x0C03 [] s)
    else .next (lowerFault 0x0C03 0 s)

/-- S1 held with the rack up for GUARD_WAIT (R357): power-down with cause CLEAR. -/
def execS1GuardWaitExpiry (t : Nat) (s : State) : Out :=
  let s := advance t s
  match s.collector.s1UpSince with
  | none => .next s
  | some u =>
    if s.mode == .safe && decide (u + sqGuardWait (secs s) * secTicks ≤ s.now) then
      .next (powerDown causeClear { s with collector := { s.collector with s1UpSince := none } })
    else .next s

end Sys2Proof.Machine
end

