-- ==== Sys2Proof/Machine/PaveOps.lean ====
section
/-! DEFINITION. Pavé's arithmetic and intake (chapter 05): decimators, scaling, the fast path, cell sets. -/

namespace Sys2Proof.Machine

/-! ### Decimation (R121, R128) -/

/-- n(n − 1) ÷ 2. -/
def choose2 (n : Int) : Int := if n < 2 then 0 else n * (n - 1) / 2

/-- h(i) of the sinc3 filter of ratio N: the coefficients of ((1 − z^−N) ÷ (1 − z^−1))^3. -/
def sincTap (n i : Nat) : Int :=
  let k : Int := i + 2
  choose2 k - 3 * choose2 (k - n) + 3 * choose2 (k - 2 * n) - choose2 (k - 3 * n)

/-- S of R121 over a bit history. -/
def sincSum (n bits : Nat) : Int :=
  (List.range (3 * n - 2)).foldl (fun a i => if bits.testBit i then a + sincTap n i else a) 0

/-- x of a window in Q1.23, rounded half away from zero and saturated (R121). -/
def sincX (n bits : Nat) : Int :=
  min 8388607 (divRound ((2 * sincSum n bits - (n ^ 3 : Nat)) * 8388608) (n ^ 3))

/-- The support of a window holds no missing slot (R122). -/
def supportWhole (n gap : Nat) : Bool := gap % 2 ^ (3 * n - 2) == 0

/-! ### Scaling (R124 to R126) -/

/-- LIN(t, u) times 10, in 0.01 °C, u in Q1.23 (R125). -/
def linTemp (q : Secs) (t : Nat) (u : Int) : Int :=
  let p := (clampI (-8388608) 8388608 u + 8388608).toNat
  let k := min 15 (p / 1048576)
  let r := p - k * 1048576
  divRound (10 * (seLin q t k * 1048576 + (seLin q t (k + 1) - seLin q t k) * r)) 1048576

/-- The current of a normalised value with temperature in 0.01 °C (R124). -/
def scaleI (e : Bytes) (off x tc : Int) : Int :=
  divRound (spIGain e * (x - off) * (100000000 + spITc e * (tc - 10 * spITcRef e))) (8388608 * 100000000)

/-- The voltage of a normalised value (R124). -/
def scaleV (e : Bytes) (x : Int) : Int := divRound (spVGain e * (x - spVOff e)) 8388608

/-- The int24 bounds (R126). -/
def fits24 (v : Int) : Bool := withinI (-8388608) 8388607 v
def clamp24 (v : Int) : Int := clampI (-8388608) 8388607 v

/-- I_OFFSET in force (R127). -/
def iOffset (e : Bytes) (x : PhaseSense) : Int := x.zero.getD (spIOff e)

/-- The newest temperature of the slot is valid and at most 1 ms old (R124). -/
def tempFresh (now : Nat) (x : PhaseSense) : Bool := x.t.valid && decide (now ≤ x.t.close + msTicks)

/-- OC_LIMIT (R129) from a temperature in 0.01 °C. -/
def ocLimitOf (e : Bytes) (t : Int) : Int :=
  if t ≤ 10 * spOcKnee e then spOcMax e
  else max (spOcMin e) (divRound (100 * spOcMax e - (spOcSlope e : Int) * (t - 10 * spOcKnee e)) 100)

/-- A fault of a phase (R343). -/
def phasePulse (code ph : Nat) (l : List Nat) (s : State) : State :=
  pulseFault code (phaseScope s ph) (pay (ph :: l)) s

/-! ### Frame intake (R119, R122, R128 to R130) -/

/-- A byte of eight slots turned so that the newest slot is bit 0. -/
def newestFirst (b : Nat) : Nat := (List.range 8).foldl (fun a j => 2 * a + flag (b.testBit j)) 0

/-- Eight slots enter a stream's history. -/
def pushBits (h b : Nat) : Nat := (h * 256 + b) % 2 ^ 768

/-- The fast path of one stream's protection: the run of consecutive compared windows at or over the limit. -/
def fastRun (above : Bool) (run : Nat) : Nat := if above then run + 1 else 0

/-- Another phase of the scope still has its run at `n`: the input stays asserted (R340). -/
def runHeld (s : State) (ph n : Nat) (run : PhaseSense → Nat) : Bool :=
  s.pave.phases.any (fun y => y.1 != ph && decide (n ≤ run y.2) && phaseScope s y.1 == phaseScope s ph)

/-- A run of consecutive windows has moved from `was` to `now`: the fault of its phase asserts when the run reaches `n`
and ends when it is broken and no phase of the scope keeps it (R130, R131, R340). -/
def trackRun (code ph n was now : Nat) (run : PhaseSense → Nat) (s : State) : State :=
  if now = n then raiseFault code (phaseScope s ph) (pay [ph]) s
  else if now = 0 && n ≤ was && !runHeld s ph n run then lowerFault code (phaseScope s ph) s
  else s

/-- A fast window closes (R128 to R130): over-current and over-voltage runs and their faults. -/
def fastWindow (ph : Nat) (s : State) : State :=
  let q := secs s
  let e := sePhase q ph
  let x := s.sense ph
  let now := 2560 * x.frame
  if !supportWhole 8 x.gap then s.setSense ph { x with fast := (none :: x.fast).take 32 }
  else
    let fresh := tempFresh now x
    let tc := if fresh then x.t.value else 10 * spITcRef e
    let i := scaleI e (iOffset e x) (sincX 8 x.bits0) tc
    let v := scaleV e (sincX 8 x.bits1)
    let limit := if fresh then x.ocLimit else spOcMin e
    let oc := fastRun (decide (limit ≤ (i.natAbs : Int))) x.ocRun
    let ov := fastRun (spOvMax e != 0 && decide (spOvMax e ≤ v)) x.ovRun
    let s := s.setSense ph { x with ocRun := oc, ovRun := ov, fast := (some i :: x.fast).take 32 }
    let n := seFastCount q
    let s := trackRun 0x0501 ph n x.ocRun oc (·.ocRun) s
    if isLive s then trackRun 0x0502 ph n x.ovRun ov (·.ovRun) s else s

/-- `k` windows of every stream of a phase are missing (R122). -/
def addMissing (k : Nat) (x : PhaseSense) : PhaseSense :=
  { x with missing0 := sat32 x.missing0 k, missing1 := sat32 x.missing1 k, missing2 := sat32 x.missing2 k }

/-- A main window of the phase closes at its newest frame and has not been handled (R120). -/
def windowOpen (e : Bytes) (x : PhaseSense) : Bool :=
  spOsr e != 0 && x.frame % spOsr e == spWin e && x.window != x.frame

/-- A main window whose support holds a missing slot is not published: it is counted, and the sample stays (R122). -/
def skipWindow (e : Bytes) (x : PhaseSense) : PhaseSense :=
  if windowOpen e x && !supportWhole (8 * spOsr e) x.gap then addMissing 1 { x with window := x.frame } else x

/-- The number of main windows that close at frames after `a`, up to `b` (R120). -/
def windowsIn (e : Bytes) (a b : Nat) : Nat :=
  if spOsr e = 0 then 0 else (b + spOsr e - spWin e) / spOsr e - (a + spOsr e - spWin e) / spOsr e

/-- One frame's eight slots of one phase: the streams' bytes, or the fill of a missing frame. -/
def takeBits (ph slot f : Nat) (body : Option Bytes) (s : State) : State :=
  let x := s.sense ph
  let fill := newestFirst 0x55
  let b (c : Nat) : Nat :=
    match body with
    | some d => newestFirst (u8 d (4 + 3 * slot + c))
    | none => fill
  let x := { x with
    bits0 := pushBits x.bits0 (b 0), bits1 := pushBits x.bits1 (b 1), bits2 := pushBits x.bits2 (b 2)
    gap := pushBits x.gap (if body.isSome then 0 else 255), frame := f }
  fastWindow ph (s.setSense ph (skipWindow (sePhase (secs s) ph) x))

/-- The full frame number of a number mod 65,536 that arrives now: frame F completes near the end of period F + 1. -/
def fullFrame (s : State) (f : Nat) : Nat :=
  let est : Int := (rackTime s / frameTicks : Nat) - 1
  let d : Int := (((f : Int) - est + 32768) % 65536) - 32768
  (est + d).toNat

/-- Frames that came on no lane, up to frame `f`, enter a phase's streams as missing: every window that closed at one of
them is counted, and the histories take the last 96, all they hold (R122). -/
def fillMissing (ph slot f : Nat) (s : State) : State :=
  let x := s.sense ph
  if x.frame = 0 || f ≤ x.frame then s
  else
    let lost := min 96 (f - x.frame)
    let early := windowsIn (sePhase (secs s) ph) x.frame (f - lost)
    (List.range lost).foldl (fun s k => takeBits ph slot (f - lost + 1 + k) none s) (s.setSense ph (addMissing early x))

/-- The newest frame whose characters have all come by now (R86). -/
def dueFrame (s : State) : Nat := (rackTime s - 3520) / frameTicks

/-- A phase whose tile delivers on no lane takes the frames that should have come by now as missing (R122). -/
def fillSilent (ph : Nat) (s : State) : State :=
  match phaseSeat (secs s) ph with
  | some x => if (activePort s x.1).isSome then s else fillMissing ph x.2 (dueFrame s) s
  | none => s

/-- A frame of a tile, or its absence, enters every stream of its slots; frames that never came fill as missing. -/
def paveFrame (e : Bytes) (f : Nat) (body : Option Bytes) (s : State) : State :=
  let full := fullFrame s f
  (teSlots e).foldl (fun s x =>
    if !isLive s || full ≤ (s.sense x.2).frame then s
    else
      let s := fillMissing x.2 x.1 (full - 1) s
      let s := takeBits x.2 x.1 full body s
      match s.pave.zeroRun, body with
      | some z, some b =>
        if phStage (secs s) x.2 == z.stage && phRole (secs s) x.2 != 0 && (bit (u8 b (28 + x.1)) 3 || bit (u8 b (28 + x.1)) 4) then
          { s with pave := { s.pave with zeroRun := some { z with gated := true } } }
        else s
      | _, _ => s) s

/-! ### Main windows (R120 to R126, R131) -/

/-- The cross-check of R131: the mean of the compared fast values of this window against its value. -/
def crossCheck (ph : Nat) (s : State) : State :=
  let q := secs s
  let e := sePhase q ph
  let x := s.sense ph
  let vals := (x.fast.take (spOsr e)).filterMap id
  let n : Int := vals.length
  if vals.isEmpty then s
  else
    let sum := vals.foldl (· + ·) 0
    let apart := decide ((seXchkPct q : Int) * spIGain e * n < 100 * ((x.i.value * n - sum).natAbs : Int))
    let run := if apart then x.xchk + 1 else 0
    trackRun 0x0506 ph 2 x.xchk run (·.xchk) (s.setSense ph { x with xchk := run })

/-- A result clamped to int24 raises 0x0504 with the phase and the channel (R126). -/
def satFault (ph c : Nat) (sat : Bool) (s : State) : State := if sat && isLive s then phasePulse 0x0504 ph [c] s else s

/-- x0 of a valid window is added to a running SENSE_ZERO, up to 256 windows (R127). -/
def addZero (ph : Nat) (x0 : Int) (s : State) : State :=
  match s.pave.zeroRun with
  | none => s
  | some z =>
    let a := Tab.get (0, 0) z.sums ph
    if phStage (secs s) ph == z.stage && phRole (secs s) ph != 0 && a.2 < 256 then
      { s with pave := { s.pave with zeroRun := some { z with sums := Tab.set z.sums ph (a.1 + x0, a.2 + 1) } } }
    else s

/-- A whole main window closes at the newest frame: temperature, voltage, current (R124). A window with a missing slot is
counted where its frame comes in (`skipWindow`). -/
def mainWindow (ph : Nat) (s : State) : State :=
  let q := secs s
  let e := sePhase q ph
  let x := s.sense ph
  let n := 8 * spOsr e
  let close := 2560 * x.frame
  let x0 := sincX n x.bits0
  let tRaw := linTemp q (spLin e) (sincX n x.bits2 - spTOff e)
  let vRaw := scaleV e (sincX n x.bits1)
  let iRaw := scaleI e (iOffset e x) x0 (clamp24 tRaw)
  let mk (v : Int) : Sample := { value := clamp24 v, valid := true, sat := !fits24 v, close := close, tag := period s }
  let s := s.setSense ph { x with
    window := x.frame, i := mk iRaw, v := mk vRaw, t := mk tRaw, ocLimit := ocLimitOf e (clamp24 tRaw)
    recent := ((close, clamp24 iRaw, clamp24 vRaw, clamp24 tRaw) :: x.recent).take 32 }
  let s := satFault ph 0 (!fits24 iRaw) (satFault ph 1 (!fits24 vRaw) (satFault ph 2 (!fits24 tRaw) s))
  if isLive s then crossCheck ph (addZero ph x0 s) else s

/-! ### Cell sets (R132 to R136) -/

/-- The cells of a string that its tiles cover. -/
def stringCells (q : Secs) (b : Nat) : List Nat :=
  (cellTiles q b).flatMap (fun e => (List.range (teCount e)).map (teFirstCell e + ·))

/-- The sensors of a tile, as numbers of a set. -/
def tileSensors (e : Bytes) : List Nat := (List.range (teTempCount e)).map (32 * teIndex e + ·)

/-- Every value of a set's tiles is there (R134). -/
def setComplete (q : Secs) (x : CellData) : Bool :=
  x.tiles.all (fun i =>
    match tileEntry q i with
    | none => true
    | some e =>
      (List.range (teCount e)).all (fun c => (Tab.find x.volts (teFirstCell e + c)).isSome)
        && (!x.wantTemps || (tileSensors e).all (fun k => (Tab.find x.temps k).isSome)))

/-- The tiles of a set that still owe a value. -/
def owingTiles (q : Secs) (x : CellData) : List Nat := x.tiles.filter (fun i => !setComplete q { x with tiles := [i] })

/-- A set as it is published: the missing mask marks every cell without a value or with 0xFFFF, and the sensors without one
or with 0x8000 (R134). -/
def closeSet (s : State) (x : CellData) : CellData :=
  let es := x.tiles.filterMap (tileEntry (secs s))
  let cells := es.flatMap (fun e => (List.range (teCount e)).map (teFirstCell e + ·))
  { x with
    missing := maskOf (cells.filter (fun c => Tab.get 0xFFFF x.volts c == 0xFFFF))
    missingTemps := if x.wantTemps then (es.flatMap tileSensors).filter (fun k => Tab.get (-32768) x.temps k == -32768) else []
    tag := period s }

/-- The values of one frame enter a set; a value received twice replaces the first (R133). -/
def addCells (e body : Bytes) (x : CellData) : CellData :=
  let first := u8 body 6 % 128
  let n := u8 body 7 % 64
  let x := if bit (u8 body 7) 7 && !x.late.contains (teIndex e) then { x with late := teIndex e :: x.late } else x
  if bit (u8 body 6) 7 then
    (List.range n).foldl (fun x k => { x with temps := Tab.set x.temps (32 * teIndex e + first + k) (i16 body (8 + 2 * k)) }) x
  else
    (List.range n).foldl (fun x k => { x with volts := Tab.set x.volts (teFirstCell e + first + k) (u16 body (8 + 2 * k)) }) x

/-- Cell data of a valid frame (R133, R136); discarded and counted when COUNT, the index or SET_ID does not fit. -/
def cellFrame (e body : Bytes) (s : State) : State :=
  let id := u16 body 4
  let first := u8 body 6 % 128
  let n := u8 body 7 % 64
  let limit := if bit (u8 body 6) 7 then teTempCount e else teCount e
  let discard (s : State) : State :=
    match activePort s e with
    | some p => s.setPort p { s.port p with cellDiscard := sat32 (s.port p).cellDiscard 1 }
    | none => s
  if n = 0 && id = 0 then s
  else if 40 < n || limit < first + n then discard s
  else if id = 0 then
    if !(bit (u8 body 7) 6 && bit (u8 body 0) 2) then s else
    let fresh : CellData := { at_ := rackTime s, auto := true, wantTemps := teTempCount e != 0, tiles := [teIndex e] }
    let x := Tab.get fresh s.pave.autoSets (teIndex e)
    { s with pave := { s.pave with autoSets := Tab.set s.pave.autoSets (teIndex e) (addCells e body x) } }
  else
    match Tab.find s.pave.openSets (teString e) with
    | none => discard s
    | some x =>
      if x.setId = id && x.tiles.contains (teIndex e) then
        { s with pave := { s.pave with openSets := Tab.set s.pave.openSets (teString e) (addCells e body x) } }
      else discard s

/-- A SAMPLE for every cell tile of a string (R132); Maquette's bleed command rides in the same block. -/
def issueSample (b : Nat) (wantTemps bleeding : Bool) (s : State) : State :=
  let q := secs s
  let es := (cellTiles q b).filter (fun e => (activePort s e).isSome)
  let id := if s.pave.setId = 65535 then 1 else s.pave.setId + 1
  let count := Tab.get 0 s.pave.setCount b + 1
  let temps := wantTemps || count % 10 == 0
  let at_ := nextLaunch s + 8192000
  let s := es.foldl (fun s e =>
    match activePort s e with
    | some p =>
      let x := s.port p
      s.setPort p { x with cell := some { (x.cell.getD {}) with
        sample := true, sampleAt := at_, setId := id, temps := temps, bleedPause := bleeding } }
    | none => s) s
  { s with pave := { s.pave with
      setId := id, setCount := Tab.set s.pave.setCount b count
      openSets := Tab.set s.pave.openSets b
        { setId := id, at_ := at_, wantTemps := temps, tiles := (cellTiles q b).map teIndex } } }

/-- A BLEED command for one tile rides in its next frame (R114, R132). -/
def issueBleed (e : Bytes) (mask time : Nat) (s : State) : State :=
  match activePort s e with
  | some p =>
    let x := s.port p
    s.setPort p { x with cell := some { (x.cell.getD {}) with bleed := true, bleedMask := mask, bleedTime := time } }
  | none => s

/-- BLEED_PAUSE of the SAMPLE commands still waiting for a string follows its bleed mask (R132). -/
def pauseBleed (b : Nat) (on : Bool) (s : State) : State :=
  (cellTiles (secs s) b).foldl (fun s e =>
    match activePort s e with
    | some p =>
      let x := s.port p
      s.setPort p { x with cell := x.cell.map (fun c => { c with bleedPause := c.sample && on }) }
    | none => s) s

/-! ### Set-point inputs (R140 to R143) -/

/-- The linear map of a reading given as a fraction `num/den` between two ends. -/
def mapLinear (lo hi vlo vhi : Int) (num : Int) (den : Nat) : Int :=
  vlo + divRound ((num - lo * den) * (vhi - vlo)) ((hi - lo).toNat * den)

/-- The measured value is published with the ledger period of publication (R140). -/
def publishIn (k : Nat) (v : Int) (fallback : Bool) (s : State) : State :=
  let x := s.setIn k
  s.setSetIn k { x with
    word := { value := clamp24 v, valid := true, mark := fallback, close := rackTime s, tag := period s }, tag := period s }

/-- Fallback is entered (R142, R143): 0x0509 with the input. -/
def enterFallback (k : Nat) (s : State) : State :=
  let x := s.setIn k
  if x.fallback then s else chipFault 0x0509 [k] (s.setSetIn k { x with fallback := true, good := 0 })

/-- Fallback is left (R143): event 0x8501; 0x0509 ends with the last input in fallback. -/
def leaveFallback (k : Nat) (s : State) : State :=
  let s := event 0x8501 [k] (s.setSetIn k { s.setIn k with fallback := false, good := 0 })
  if s.pave.setIns.any (·.2.fallback) then s else lowerFault 0x0509 0 s

/-- One SPA sample (R141 to R143), at the ledger tick. -/
def spaSample (k code : Nat) (s : State) : State :=
  let q := secs s
  let e := seSetIn q k
  if !setInOn e then s
  else
    let x := s.setIn k
    let ok := within (u16 e 4) (u16 e 6) code
    let held := max (u16 e 8) (min (u16 e 10) code)
    let codes := ((if ok then some held else none) :: x.codes).take (2 ^ u8 e 3)
    let valid := codes.filterMap id
    let m := mapLinear (u16 e 8) (u16 e 10) (i32 e 12) (i32 e 16) valid.sum (max 1 valid.length)
    let x := { x with
      codes := codes, bad := if ok then 0 else x.bad + 1, good := if ok then x.good + 1 else 0
      measured := if valid.isEmpty then x.measured else m, measuredValid := x.measuredValid || !valid.isEmpty, raw := code }
    let s := s.setSetIn k x
    let s := if x.fallback && u8 e 26 ≤ x.good then leaveFallback k s else s
    let y := s.setIn k
    let s := if y.fallback then publishIn k (setInFallback q k) true s
      else if y.measuredValid then publishIn k y.measured false s else s
    if !y.fallback && u16 e 24 ≤ y.bad then enterFallback k s else s

/-- SPP inputs at the ledger tick: FALLBACK or the newest duty under the new period's tag (R140, R143). -/
def sppLedger (k : Nat) (s : State) : State :=
  let q := secs s
  let x := s.setIn k
  if !setInOn (seSetIn q k) then s
  else if x.fallback then publishIn k (setInFallback q k) true s
  else if x.measuredValid then publishIn k x.measured false s
  else s

end Sys2Proof.Machine
end

