-- ==== Sys2Proof/Machine/ModOps.lean ====
section
/-! DEFINITION. The Modulator (chapter 07): forming and placing pulses (R194 to R200), tracking start and braking (R204,
R206), the crowbar (R207), wear (R209 to R213), and its work at a ledger boundary (R190, R201, R205, R215). -/

namespace Sys2Proof.Machine

/-- A fault of a stage (R343). -/
def stagePulse (code g : Nat) (l : List Nat) (s : State) : State := pulseFault code (stageScope s g) (pay (g :: l)) s

/-! ### Forming a pulse (R194, R200) -/

/-- The minimum-pulse rule: the width, 0 for no pulse, and the new ACC (R200). -/
def minimumPulse (q : Secs) (g acc : Nat) (w : Int) : Nat × Nat :=
  let m := stMinPulse q g
  if w ≤ 0 then (0, acc)
  else
    let w := w.toNat
    if m ≤ w then (w, 0)
    else if stMinMode q g = 0 then (m, acc)
    else if stMinMode q g = 1 then (0, acc)
    else if m ≤ acc + w then (acc + w, 0)
    else (0, acc + w)

/-- RISE and FALL of a width in the carrier period from `start` (R194). -/
def pulseEdges (q : Secs) (g start w : Nat) : Nat × Nat :=
  if stCentred q g then
    let r := start + stPeriod q g / 2 - w / 2
    (r, r + w)
  else (start, start + w)

/-- What an output makes of a carrier period: RISE, FALL, width, ACC, whether RISE was clamped; none for no pulse. -/
structure Formed where
  rise : Nat := 0
  fall : Nat := 0
  acc : Nat := 0
  pulse : Bool := false
  clamped : Bool := false
  minSkip : Bool := false

/-- The pulse of R194 from an output. -/
def formOf (s : State) (g p start : Nat) (o : PulseOut) : Formed :=
  let q := secs s
  let t := stPeriod q g
  let x := s.ph p
  let w := divRound (o.duty * t) 8388608
  let w := if stShared q g then w + x.trim else w
  let m := minimumPulse q g x.acc w
  let n := min m.1 (t - 16 * stDtMax q g)
  let e := pulseEdges q g start n
  { rise := e.1, fall := e.2, acc := m.2, pulse := n != 0, minSkip := decide (0 < w) && m.1 == 0 }

/-- RISE moved to an update point, FALL unchanged (R195). -/
def clampRise (f : Formed) (u : Nat) : Formed :=
  if f.pulse && decide (f.rise < u) then
    if u < f.fall then { f with rise := u, clamped := true } else { f with pulse := false, clamped := true }
  else f

/-- The governing pulse of the available outputs, newest first (R195), with the output that governs. -/
def governing (s : State) (g p start : Nat) : List PulseOut → Option (Formed × PulseOut)
  | [] => none
  | o :: older =>
    let f := formOf s g p start o
    if f.pulse && decide (f.rise < o.update) then
      match older with
      | [] => some (clampRise f o.update, o)
      | b :: _ =>
        let h := formOf s g p start b
        if h.pulse && decide (h.rise < o.update) then some (clampRise h b.update, b)
        else some (clampRise f o.update, o)
    else some (f, o)

/-- The nominal update instants of the carrier period from `start` (R193). -/
def nominals (q : Secs) (g start : Nat) : List Nat :=
  if stageRate q g = 2 then [start, start + stPeriod q g / 2] else [start]

/-- The outputs of the pulse of `start`, newest first: of the phase's own context, or of the master's evaluation that
serves the same part of the period (R186, R193). -/
def outputsOf (s : State) (g p start : Nat) : List PulseOut :=
  let q := secs s
  if stShared q g then
    match masterOf s g with
    | none => []
    | some m =>
      let l := Tab.get [] s.loops.outs m
      let step := stPeriod q g / stageRate q g
      ((nominals q g start).filterMap (fun n =>
        l.find? (fun o => decide (o.nominal ≤ n) && decide (n < o.nominal + step)))).reverse
  else
    let l := Tab.get [] s.loops.outs p
    ((nominals q g start).filterMap (fun n => l.find? (fun o => o.nominal == n))).reverse

/-! ### Dead time (R199) -/

/-- Bytes kept for the mean. -/
def byteWindow (q : Secs) : Nat := 2 ^ sgAdtLog2 q

/-- The trail that the mean of the newest bytes asks for. -/
def trailGoal (q : Secs) (g : Nat) (l : List Nat) : Nat :=
  max (stDtMin q g) (min (stDtMax q g) (ceilDiv l.sum (max 1 l.length) + stDtMargin q g))

/-- The dead times of a pulse, and the phase after it (R199). -/
def deadTimes (s : State) (g p fall : Nat) (cur : Int) : Nat × Nat × Phase :=
  let q := secs s
  let x := s.ph p
  let m := stAdtMin q g
  if m < cur then
    let full := decide (byteWindow q ≤ x.bytes.length)
    let t :=
      if x.held || !full then stDtMax q g
      else
        let goal := trailGoal q g (x.bytes.take (byteWindow q))
        if x.trail < goal then x.trail + 1 else if goal < x.trail then x.trail - 1 else x.trail
    (stDtMin q g, t, { x with
      trail := t, awaiting := (x.awaiting ++ [fall]).drop (x.awaiting.length - 3), noByte := x.noByte + (x.awaiting.length - 3) })
  else if cur < -m then (stDtLeadNeg q g, stDtMin q g, x)
  else (stDtLight q g, stDtLight q g, x)

/-- 1,024 pulses without a valid byte (R199). -/
def transitionLost (g p : Nat) (s : State) : State :=
  let x := s.ph p
  if 1024 ≤ x.noByte && !x.held then
    phasePulse 0x0706 p [] (s.setPh p { x with held := true, bytes := [], trail := stDtMax (secs s) g })
  else s

/-- The transition byte of an upstream frame of a phase's slot (R199): FALL to crossing, 0xFF not valid, of the newest
pulse; pulses before it that were never seen yielded none. -/
def takeTransition (p b1 launch : Nat) (s : State) : State :=
  let x := s.ph p
  let n := (x.awaiting.filter (fun f => decide (f + 2048 ≤ launch))).length
  if n = 0 then s
  else
    let rest := x.awaiting.drop n
    if b1 = 0xFF then
      transitionLost (phStage (secs s) p) p (s.setPh p { x with awaiting := rest, noByte := x.noByte + n })
    else
      let l := (b1 :: x.bytes).take 64
      s.setPh p { x with
        awaiting := rest, noByte := 0, bytes := l, held := x.held && decide (l.length < byteWindow (secs s)) }

/-! ### Placing (R195 to R198) -/

/-- The next carrier period of a phase after the one from `start` (R192); none for a phase that leaves the active set,
whose pulse was its last (R202, R213). -/
def nextCarrier (q : Secs) (g start : Nat) (x : Phase) : Phase :=
  { x with curS := some start, nextS := if x.lastOff.isSome then none else some (carrierNext q g x start) }

/-- A skipped pulse: an OFF_AT at its carrier start in its place (R196). -/
def skipPulse (g p start : Nat) (s : State) : State :=
  let x := s.ph p
  let d := if x.dtLead = 0 then stDtMin (secs s) g else x.dtLead
  let s := pushOff p (start + 8 * d) s
  s.setPh p (nextCarrier (secs s) g start (s.ph p))

/-- A pulse whose period brings no output in time (R196): 0x0701 at the fourth in a row. -/
def missPulse (g p start : Nat) (s : State) : State :=
  let x := s.ph p
  let s := s.setPh p { x with missed := sat32 x.missed 1, missedRun := x.missedRun + 1 }
  let s := skipPulse g p start s
  if x.missedRun = 3 then phasePulse 0x0701 p [] s else s

/-- A governing output becomes an entry, or an OFF_AT where it yields no pulse (R196, R198, R204). -/
def placeFormed (g p start : Nat) (f : Formed) (o : PulseOut) (s : State) : State :=
  let q := secs s
  let x := s.ph p
  let s := s.setPh p { x with missedRun := 0 }
  if o.stale then
    skipPulse g p start (s.setPh p { s.ph p with staleSkip := sat32 x.staleSkip 1 })
  else if !f.pulse then
    skipPulse g p start (s.setPh p { s.ph p with
      acc := f.acc, minSkip := if f.minSkip then sat32 x.minSkip 1 else x.minSkip
      riseClamped := if f.clamped then sat32 x.riseClamped 1 else x.riseClamped })
  else
    let cur := Tab.get (s.sense p).i.value o.curs p
    let d := deadTimes s g p f.fall cur
    let s := s.setPh p { d.2.2 with
      acc := f.acc, riseClamped := if f.clamped then sat32 x.riseClamped 1 else x.riseClamped }
    let s := pushEdge p 1 f.rise f.fall d.1 d.2.1 (!x.tracking) s
    let n := if x.tracking then x.trackPulses + 1 else 0
    let y := s.ph p
    transitionLost g p (s.setPh p (nextCarrier q g start { y with
      busyEnd := f.fall + 8 * d.2.1, lastRise := f.rise, lastFall := f.fall, lastLead := d.1, lastTrail := d.2.1, lastLs := !x.tracking
      prevFall := x.lastFall, prevTrail := x.lastTrail, prevLs := x.lastLs
      trackPulses := n, tracking := x.tracking && decide (n < 64), onTime := y.onTime + (f.fall - f.rise)
      onPulses := y.onPulses + 1 }))

/-- The Modulator at a frame's cut-off, for one phase with an unsent pulse (R195, R206). -/
def cutoffPhase (l g p : Nat) (s : State) : State :=
  let q := secs s
  let x := s.ph p
  match x.nextS with
  | none => s
  | some start =>
    let d := 8 * (if x.dtLead = 0 then stDtMin q g else x.dtLead)
    if (s.stage g).mode == .braking then
      if start < l + 2560 + 5120 then skipPulse g p start s else s
    else
      let all := outputsOf s g p start
      let ready := all.filter (fun o => decide (o.at_ + 960 ≤ l))
      let latest := (if stCentred q g then start + stPeriod q g / 2 else start) - d
      match governing s g p start ready with
      | none => if latest < l + 2560 + 5120 then missPulse g p start s else s
      | some (f, o) =>
        let cur := Tab.get (s.sense p).i.value o.curs p
        let lead := if f.pulse && !o.stale then f.rise - 8 * (deadTimes s g p f.fall cur).1 else start
        let final := decide (ready.length = (nominals q g start).length) || decide (lead < l + 2560 + 5120)
        if final then placeFormed g p start f o s else s

/-- The OFF_AT of a phase that was shed or retired, at its next carrier start (R202, R213). -/
def cutoffLast (l p : Nat) (s : State) : State :=
  let x := s.ph p
  match x.lastOff with
  | some start =>
    if start < l + 2560 + 5120 then
      let s := pushOff p (start + 8 * (if x.dtLead = 0 then stDtMin (secs s) (phStage (secs s) p) else x.dtLead)) s
      s.setPh p { s.ph p with lastOff := none, nextS := none }
    else s
  | none => s

/-- The crowbar's frames (R207): SLOT_OFF in frame A, the CROWBAR entries in frame B. -/
def cutoffCrowbar (f g : Nat) (s : State) : State :=
  let x := s.stage g
  match x.crowbarFrame with
  | some a =>
    if a < f then
      let q := secs s
      let d := stDtMin q g
      let s := (availPhases s g).foldl (fun s p => pushEdge p 3 (a * frameTicks + 11200 + 8 * d) 0 d d (!(s.ph p).tracking) s) s
      s.setStage g { s.stage g with crowbarFrame := none }
    else s
  | none => s

/-- The phases of a stage that switches join with their port, and leave with it. -/
def joinPhases (g : Nat) (s : State) : State :=
  (stagePhases (secs s) g).foldl (fun s p =>
    let x := s.ph p
    if !works s p || x.shed then s
    else if phaseUp s p then
      (if x.nextS.isNone && x.lastOff.isNone then respread g (beginPhase g p (nextLedger s) s) else s)
    else if x.nextS.isSome then respread g (s.setPh p { x with nextS := none, newOffset := none, awaiting := [] })
    else s) s

/-- The stage leaves STARTING when every active phase has left tracking start (Table 7.2). -/
def startedUp (g : Nat) (s : State) : State :=
  let x := s.stage g
  if x.mode == .starting && !(activePhases s g).isEmpty && (activePhases s g).all (fun p => !(s.ph p).tracking) then
    s.setStage g { x with
      mode := .running, steadyAt := rackTime s, shedSince := none, reached := x.reached || !hasRamp (secs s) g }
  else s

/-- One stage at a cut-off. -/
def cutoffStage (f g : Nat) (s : State) : State :=
  let l := f * frameTicks
  let s := cutoffCrowbar f g s
  let s := (stagePhases (secs s) g).foldl (fun s p => if isLive s then cutoffLast l p s else s) s
  if !stageOn s g || stKind (secs s) g = 0 then s
  else
    let s := joinPhases g s
    let s := (stagePhases (secs s) g).foldl (fun s p =>
      if isLive s && ((activePhases s g).contains p || (s.ph p).lastOff.isSome) then cutoffPhase l g p s else s) s
    if isLive s then startedUp g s else s

/-- Entries that no later frame can carry leave the queue: a PULSE is counted in FRAME_FULL and raises 0x0705 (R197); any
other entry takes the earliest stamp R99 allows. -/
def dropLate (f t : Nat) (s : State) : State :=
  let x := s.port t
  let next := (f + 1) * frameTicks
  let late := x.entries.filter (fun e => !edgeInTime next e && e.kind == 1)
  let keep := (x.entries.filter (fun e => edgeInTime next e || e.kind != 1)).map (fun e =>
    if edgeInTime next e then e else { e with rise := next + 5120 + 8 * e.dtLead })
  if x.entries.isEmpty then s
  else
    let s := s.setPort t { x with entries := keep }
    late.foldl (fun s e =>
      if !isLive s then s
      else
        match tileOfPort (secs s) t with
        | none => s
        | some b =>
          let p := teSlotPhase b e.slot
          let s := s.setPh p { s.ph p with frameFull := sat32 (s.ph p).frameFull 1 }
          pulseFault 0x0705 (portScope s t) (pay [t]) s) s

/-! ### Tracking start, braking (R204, R206) -/

/-- A valid window of a phase in tracking start (R204). -/
def trackWindow (g p : Nat) (i : Int) (s : State) : State :=
  let x := s.ph p
  if !x.tracking then s
  else
    let n := if stAdtMin (secs s) g < i then x.aboveRun + 1 else 0
    s.setPh p { x with aboveRun := n, tracking := decide (n < 2) }

/-- The time a stage's selected value is of: the close of a sample, the publication of an output or of a set-point input,
the oldest sample of a sum, the ledger period of a Balance quantity (R12, R190). -/
def selStamp (s : State) (g sel : Nat) : Nat :=
  match selKind sel with
  | 2 => (s.sense (selIndex sel)).i.close
  | 3 => (s.sense (selIndex sel)).v.close
  | 4 => (s.sense (selIndex sel)).t.close
  | 5 => (Tab.get ({} : Ain) s.pave.ains (selIndex sel)).word.close
  | 6 => (s.ctx (stageCtx (selIndex sel % 64))).at_
  | 7 => (workingPhases s (selIndex sel)).foldl (fun t p => min t (s.sense p).i.close) (rackTime s)
  | 8 => ((setInFor (secs s) g 1).map (fun k => (s.setIn k).word.close)).getD 0
  | 9 => s.balance.cur.tag * ledgerTicks
  | _ => rackTime s

/-- FB of a stage in its set-point unit, if it is valid. -/
def stageFb (s : State) (g : Nat) : Option Int :=
  (selValue s (stageCtx g) (ctxFb (lcRec (secs s) (stageCtx g))) 0).map (fun v => toExp v.1 v.2 23)

/-- BRAKING ends (R206): the stage returns to STARTING, its phases to tracking start. -/
def endBrake (g cause : Nat) (s : State) : State :=
  let s := brakeEvent g cause s
  let s := s.setStage g { s.stage g with mode := .starting, steadyAt := rackTime s, reached := (s.stage g).reached && hasRamp (secs s) g }
  (activePhases s g).foldl (fun s p =>
    let x := s.ph p
    (s.setPh p { x with tracking := true, trackPulses := 0, aboveRun := 0 }).setCtx p { s.ctx p with trackDue := true }) s

/-- FB of a stage, where it is valid, meets a test against its ramp value (R206). -/
def fbAgainst (s : State) (g : Nat) (test : Int → Int → Bool) : Bool :=
  match (s.stage g).ramp, stageFb s g with
  | some r, some fb => test r fb
  | _, _ => false

/-- Braking entry and exit, at a window (R206). -/
def brakeCheck (g : Nat) (s : State) : State :=
  let q := secs s
  let x := s.stage g
  if x.mode == .running && stBrakeEn q g && fbAgainst s g (fun r fb => decide (r * (1000 + stBrakeEnter q g) ≤ fb * 100000)) then
    s.setStage g { x with mode := .braking, brakeSince := rackTime s, quiet := false }
  else if x.mode == .braking then
    if fbAgainst s g (fun r fb => decide (fb * 100000 ≤ r * (1000 + stBrakeExit q g))) then endBrake g 1 s
    else if (activePhases s g).all (fun p => decide ((s.sense p).i.value ≤ 0)) then endBrake g 2 s
    else s
  else s

/-- The stages whose FB source is a selector, beside one: braking is watched at each of its windows (R206). -/
def brakeWatch (sel but : Nat) (s : State) : State :=
  ((declaredStages (secs s)).filter (fun g =>
    g != but && stBrakeEn (secs s) g && ctxFb (lcRec (secs s) (stageCtx g)) == sel)).foldl (fun s g => brakeCheck g s) s

/-! ### The crowbar (R207) -/

/-- The crowbar of a stage fires: SLOT_OFF in the next frame, unsent entries discarded, event 0x8703. -/
def fireCrowbar (g : Nat) (s : State) : State :=
  let q := secs s
  let x := s.stage g
  let s := if x.mode == .braking then brakeEvent g 4 s else s
  let s := s.setStage g { x with mode := .crowbar, crowbarFrame := some (nextLaunch s / frameTicks), ramp := none }
  let s := s.setStage g { s.stage g with reached := false, margin := 0, marginUsed := 0 }
  let s := (stagePhases q g).foldl (fun s p =>
    let s := s.setPh p { s.ph p with nextS := none, lastOff := none, acc := 0, awaiting := [] }
    match phaseSeat q p with
    | some (e, slot) =>
      match activePort s e with
      | some t =>
        let y := s.port t
        s.setPort t { y with slotOff := y.slotOff ||| (1 <<< slot), entries := y.entries.filter (fun d => d.slot != slot) }
      | none => s
    | none => s) s
  event 0x8703 [g] (closeStageLoops g s)

/-! ### Wear (R209 to R213) -/

/-- The drift of a record as a fraction of its BASELINE, 0 without one (R210). -/
def drift (w : Wear) : Int × Nat := if w.baseline = 0 then (0, 1) else ((w.present : Int) - w.baseline, w.baseline)
/-- One drift is below another. -/
def driftLt (a b : Wear) : Bool := decide ((drift a).1 * (drift b).2 < (drift b).1 * (drift a).2)
/-- The drift of a record in whole percent, 0 below 0, as the limits of R210 compare it. -/
def driftPct (w : Wear) : Nat := if w.baseline = 0 then 0 else (w.present - w.baseline) * 100 / w.baseline
/-- The drift in 0.01 %, for STAGE_STATUS (Table 16.15). -/
def driftBp (w : Wear) : Nat := if w.baseline = 0 then 0 else (w.present - w.baseline) * 10000 / w.baseline

/-- A wear state changes (Table 7.5). -/
def wearTo (p : Nat) (st : WearState) (s : State) : State :=
  let x := s.ph p
  s.setPh p { x with wear := { x.wear with state := st, changed := s.plinth.opSeconds } }

/-- An accepted drop enters the record (R210). -/
def wearDrop (g p : Nat) (drop : Int) (s : State) : State :=
  let q := secs s
  let x := s.ph p
  let w := x.wear
  let w :=
    if w.samples < 1024 then
      let sum := w.sum + drop
      let present := (clampI 0 65535 (divRound sum (w.samples + 1))).toNat
      { w with sum := sum, samples := w.samples + 1, present := present, baseline := if w.samples = 1023 then present else 0 }
    else
      { w with samples := min 65535 (w.samples + 1)
               present := (clampI 0 65535 ((w.present : Int) + divRound (drop - w.present) 256)).toNat }
  let s := s.setPh p { x with wear := w }
  let d := driftPct w
  let s :=
    if stWearWarn q g ≤ d && !w.warned then
      let s := s.setPh p { s.ph p with wear := { (s.ph p).wear with warned := true } }
      let s := if w.state == .normal then wearTo p .warn s else s
      event 0x8704 [p, d] s
    else s
  if stWearRetire q g ≤ d && !w.worn then
    let s := s.setPh p { s.ph p with wear := { (s.ph p).wear with worn := true } }
    if works s p && (s.ph p).wear.state != .retirePending then
      phasePulse 0x0703 p [d] (wearTo p .retirePending s)
    else s
  else s

/-- A main window as a conduction sample (R209). -/
def wearWindow (g p : Nat) (s : State) : State :=
  let q := secs s
  let x := s.sense p
  let f := s.ph p
  let iref := stWearIRef q g
  if iref = 0 || phRole q p = 0 then s
  else
    let open_ := x.i.close - 2560 * spOsr (sePhase q p)
    let after := f.lastFall != 0 && f.lastLs && decide (f.lastFall + 8 * f.lastTrail + 640 ≤ open_)
    let before := f.prevFall != 0 && f.prevLs && decide (f.prevFall + 8 * f.prevTrail + 640 ≤ open_)
      && decide (x.i.close + 8 * f.lastLead ≤ f.lastRise)
    let clear := (after || before) && (f.offAt = 0 || decide (x.i.close ≤ f.offAt)
      || after && decide (f.offAt ≤ f.lastFall) || !after && (decide (f.offAt ≤ f.prevFall) || decide (f.lastRise ≤ f.offAt)))
    let near := decide (100 * (x.i.value - iref).natAbs ≤ sgWearITol q * iref)
      && decide ((x.t.value - 10 * stWearTRef q g).natAbs ≤ 100 * sgWearTTol q)
    if clear && near && (f.wearAt = 0 || decide (f.wearAt + msTicks ≤ x.i.close + 1)) then
      let drop := divRound (-x.v.value * 100 * iref) x.i.value.toNat
      wearDrop g p drop (s.setPh p { s.ph p with wearAt := x.i.close + 1 })
    else s

/-! ### Sheds, promotions, ramps at the ledger boundary -/

/-- A phase leaves the active set: its last pulse comes from its carrier period in progress, then one OFF_AT (R202). -/
def releasePhase (g p : Nat) (s : State) : State :=
  let x := s.ph p
  let t := max 1 (stPeriod (secs s) g)
  match x.nextS with
  | some a =>
    if a ≤ rackTime s then s.setPh p { x with lastOff := some (onGrid (a + t) t x.offset), newOffset := none }
    else s.setPh p { x with lastOff := some a, nextS := none, newOffset := none }
  | none => s

/-- The phase to shed: the largest drift, then the highest channel; to restore: the smallest, then the lowest (R202). -/
def shedPick (s : State) (g : Nat) : Option Nat :=
  (activePhases s g).foldl (fun b p =>
    match b with
    | none => some p
    | some c => if driftLt (s.ph p).wear (s.ph c).wear then some c else some p) none
def restorePick (s : State) (g : Nat) : Option Nat :=
  ((availPhases s g).filter (fun p => (s.ph p).shed)).foldl (fun b p =>
    match b with
    | none => some p
    | some c => if driftLt (s.ph p).wear (s.ph c).wear then some p else some c) none

/-- Shed phases are picked until `n` are active (R201), at most `k` of them. -/
def restorePicks (g : Nat) : Nat → Nat → State → List Nat × State
  | 0, _, s => ([], s)
  | k + 1, n, s =>
    if n ≤ nAct s g then ([], s)
    else
      match restorePick s g with
      | none => ([], s)
      | some p =>
        let r := restorePicks g k n (s.setPh p { s.ph p with shed := false })
        (p :: r.1, r.2)

/-- Phases restored until `n` are active (R201): each starts on the grid of the whole new set, from the next ledger period
on (R192, R202). -/
def restoreTo (g n : Nat) (s : State) : State :=
  let r := restorePicks g 32 n s
  respread g (r.1.foldl (fun s p => beginPhase g p (nextLedger s) s) r.2)

/-- R201 for one stage. -/
def shedStage (g : Nat) (s : State) : State :=
  let q := secs s
  let x := s.stage g
  let avail := (availPhases s g).length
  if !(stShedEn q g && x.mode == .running) then
    let s := if x.shedSince.isSome then s.setStage g { x with shedSince := none } else s
    if (availPhases s g).any (fun p => (s.ph p).shed) && stageOn s g then restoreTo g avail s
    else
      (workingPhases s g).foldl (fun s p => if (s.ph p).shed then s.setPh p { s.ph p with shed := false } else s) s
  else
    let per := stPhRated q g * stShedFill q g
    let need := max (stShedMin q g) (ceilDiv (100 * (out0 s g).natAbs) (max 1 per))
    let need := min need avail
    let act := nAct s g
    if act < need then restoreTo g need (s.setStage g { x with shedSince := none })
    else if need < act then
      match x.shedSince with
      | none => s.setStage g { x with shedSince := some (rackTime s) }
      | some t =>
        if t + stShedDelay q g * msTicks ≤ rackTime s then
          match shedPick s g with
          | none => s
          | some p =>
            let s := s.setStage g { x with shedSince := some (rackTime s) }
            respread g (releasePhase g p (s.setPh p { s.ph p with shed := true }))
        else s
    else s.setStage g { x with shedSince := none }

/-- The fit reserves of a stage (R213). -/
def fitReserves (s : State) (g : Nat) : List Nat :=
  (rolePhases (secs s) g 2).filter (fun p =>
    let w := (s.ph p).wear
    (w.state == .normal || w.state == .warn) && !w.worn && phaseUp s p)

/-- The stage is at a quiet point (R212). -/
def atQuietPoint (s : State) (g : Nat) : Bool :=
  let x := s.stage g
  (x.mode == .stopped || x.quiet && x.mode == .running && x.reached)
    && !s.balance.holdup && !(s.loops.inject.any (fun j => ctxStage (secs s) j.ctx == g))

/-- A RETIRE_PENDING phase finds no fit reserve at a quiet point: 0x0704 (R213). -/
def noReserve (g : Nat) (s : State) : State :=
  raiseFault 0x0704 (stageScope s g) (pay [g]) (s.setStage g { s.stage g with noReserve := true })

/-- The condition of 0x0704 ends for a stage; the input returns to idle with the last stage of its scope. -/
def reserveFound (g : Nat) (s : State) : State :=
  if !(s.stage g).noReserve then s
  else
    let s := s.setStage g { s.stage g with noReserve := false }
    if s.modul.stages.any (fun x => x.2.noReserve && stageScope s x.1 == stageScope s g) then s
    else lowerFault 0x0704 (stageScope s g) s

/-- One exchange of a retiring phase for a reserve (R213); none was made when no reserve is fit. -/
def promote (g : Nat) (s : State) : State × Bool :=
  match (workingPhases s g).find? (fun p => (s.ph p).wear.state == .retirePending) with
  | none => (reserveFound g s, false)
  | some r =>
    if !atQuietPoint s g then (s, false)
    else
      match (fitReserves s g).head? with
      | none => (if (s.stage g).noReserve then s else noReserve g s, false)
      | some n =>
        let x := s.ph r
        let y := s.ph n
        let s := releasePhase g r (reserveFound g s)
        let start := (s.ph r).lastOff
        let s := wearTo n .promoted (wearTo r .retired s)
        let s := s.setPh n { s.ph n with seat := some (seatOf s r), offset := x.offset }
        let s :=
          match start with
          | some t =>
            let s := s.setPh n { s.ph n with
              nextS := some t, curS := none, tracking := true, trackPulses := 0, aboveRun := 0, trim := 0
              trail := if y.trail = 0 then stDtMax (secs s) g else y.trail }
            s.setCtx n { s.ctx n with trackDue := true }
          | none => s
        (event 0x8701 [g, r, n] s, true)

/-- New carrier offsets take effect in their ledger period (R192). -/
def applyOffsets (g : Nat) (s : State) : State :=
  let t := max 1 (stPeriod (secs s) g)
  (stagePhases (secs s) g).foldl (fun s p =>
    let x := s.ph p
    match x.newOffset, x.nextS with
    | some (n, o), some a =>
      if n ≤ period s then
        s.setPh p { x with offset := o, newOffset := none, nextS := some (if rackTime s ≤ a then onGrid a t o else a) }
      else s
    | some _, none => s.setPh p { x with newOffset := none }
    | _, _ => s) s

/-- The base target from the stage's own source, in its set-point unit (R190, Pavé's TRIM and SETPOINT inputs). -/
def ownBase (s : State) (g : Nat) : Option Int :=
  let q := secs s
  let r := lcRec q (stageCtx g)
  if selKind (ctxRef r) = 8 then setInputValue s g 1
  else
    let b := toExp (ctxSetpoint r) (ctxSe r) 23
    match setInFor q g 3 with
    | none => some b
    | some _ => (setInputValue s g 3).map (fun v => divRound (b * (65536 + v)) 65536)

/-- Tracking goes on (R205). -/
def trackingNow (s : State) (g : Nat) : Bool :=
  let l := s.stage (stLeader (secs s) g)
  (s.stage g).tracking && l.mode != .stopped && l.mode != .crowbar && !l.reached

/-- The base target in force: tracking's, or the stage's own (R205). -/
def baseNow (s : State) (g : Nat) (own : Option Int) : Option Int :=
  if !trackingNow s g then own
  else
    let q := secs s
    let l := stLeader q g
    match own, stageFb s l with
    | some f, some v =>
      if stTrackMode q g = 1 then some (min f v)
      else
        let t := (s.stage l).target
        if t ≤ 0 then (s.stage g).base else some (divRound (f * v * 100) t.toNat)
    | _, _ => (s.stage g).base

/-- T := B × (1 + M) in hundredths (R243). -/
def targetOf (b margin : Int) : Int := divRound (100 * b * (400 + margin)) 400

/-- Margining's rate in hundredths per ledger period, from MARGIN_RATE per ms. -/
def marginRate (q : Secs) : Nat := sqMarginRate q

/-- The lower of two rates, 0 being a step. -/
def lowerRate (a b : Nat) : Nat := if a = 0 then b else if b = 0 then a else min a b

/-- A move of at most `rate` toward a target; rate 0 jumps. -/
def rampMove (v t : Int) (rate : Nat) : Int :=
  if rate = 0 then t else if v < t then min t (v + rate) else max t (v - rate)

/-- The ramp of a stage in one ledger period (R190, R205, R243, R244). `own` is its own base target. -/
def rampStage (g : Nat) (own : Option Int) (s : State) : State :=
  let q := secs s
  let x := s.stage g
  if !stageOn s g then s
  else if !hasRamp q g then s.setStage g { x with reached := x.mode == .running }
  else
    let track := trackingNow s g
    let b := baseNow s g own
    let x := { x with tracking := track }
    let x :=
      match b with
      | none => x
      | some v =>
        let dB := x.base != some v
        let dM := x.marginUsed != x.margin
        let rate := if dB && dM then lowerRate (stSlew q g) (marginRate q) else if dM then marginRate q else stSlew q g
        if dB || dM then
          { x with base := some v, marginUsed := x.margin, target := targetOf v x.margin, rate := rate, reached := false }
        else x
    let x :=
      match x.ramp with
      | none =>
        match stageFb s g with
        | some f =>
          if x.startAt ≤ selStamp s g (ctxFb (lcRec q (stageCtx g))) then { x with ramp := some (100 * f), target := if x.base.isNone then 100 * f else x.target }
          else x
        | none => x
      | some v => { x with ramp := some (if x.base.isNone then v else rampMove v x.target x.rate) }
    let final := x.base.isSome && !track
    let x := { x with reached := x.reached || (final && x.ramp == some x.target) }
    s.setStage g x

/-- The quiet interval of a stage begins or breaks (R212). -/
def quietWatch (g : Nat) (s : State) : State :=
  let q := secs s
  let x := s.stage g
  let low := decide (100 * (out0 s g).natAbs ≤ stQuietPct q g * ((availPhases s g).length * stPhRated q g))
  if x.mode == .running && low then (if x.quietSince.isNone then s.setStage g { x with quietSince := some (rackTime s) } else s)
  else if x.quietSince.isSome || x.quiet then s.setStage g { x with quietSince := none, quiet := false }
  else s

/-- What the Modulator publishes for a stage, and 0x0708 for a RUNNING stage without a phase (R215). -/
def publishStage (g : Nat) (s : State) : State :=
  let q := secs s
  let w := workingPhases s g
  let n := (availPhases s g).length
  let x := s.stage g
  let s := s.setStage g { x with nAct := nAct s g, pub :=
    { mode := x.mode, nWork := w.length, nAvail := n, nAct := nAct s g, reservesFit := (fitReserves s g).length
      retirePending := (w.filter (fun p => (s.ph p).wear.state == .retirePending)).length
      maxDrift := (w.map (fun p => driftBp (s.ph p).wear)).foldl max 0, capacity := n * stPhPower q g, tag := period s } }
  if x.mode == .running && n = 0 then stagePulse 0x0708 g [] (stopStage g s) else s

/-- The duty and current watch starts a new period (R363). -/
def rollDuty (g : Nat) (s : State) : State :=
  (stagePhases (secs s) g).foldl (fun s p =>
    let x := s.ph p
    if x.onPulses = 0 && x.duty.2 = 0 then s
    else s.setPh p { x with duty := (x.onTime, x.onPulses), onTime := 0, onPulses := 0 }) s

/-- The Modulator at the first tick of a ledger period, for one stage (R201, R212, R213, R215). -/
def ledgerStage (g : Nat) (own : Option Int) (s : State) : State :=
  if stKind (secs s) g = 0 then rampStage g own s
  else
    let s := rollDuty g (applyOffsets g (startedUp g s))
    let s := if stageOn s g then respread g s else s
    let s := rampStage g own s
    let r := promote g (quietWatch g s)
    let s := if r.2 then r.1 else shedStage g r.1
    if isLive s then publishStage g s else s

end Sys2Proof.Machine
end

