-- ==== Sys2Proof/Machine/Link.lean ====
section
/-! DEFINITION. The commands and events of the ST192's tile ports (chapter 04). -/

namespace Sys2Proof.Machine

/-- A fault of a port, with the scope of its tile (R343). -/
def portPulse (code p : Nat) (l : List Nat) (s : State) : State :=
  pulseFault code (portScope s p) (pay (p :: l)) s

/-- A fault of a port that stays asserted. -/
def portFault (code p : Nat) (l : List Nat) (s : State) : State :=
  raiseFault code (portScope s p) (pay (p :: l)) s

/-- The link acts on ports only while the chip runs with its transmitters on. -/
def linkUp (s : State) : Bool := running s && s.pins.transmitters

/-! ### Training -/

/-- A training attempt fails (R93): the next attempt after 10 ms, or FAILED with 0x0402 after the last. The lane carries
TS1 either way (Table 4.12). A fault of the attempt may have reset the chip, and then no port is left. -/
def attemptFails (p : Nat) (s : State) : State :=
  let x := s.port p
  let n := x.attempts + 1
  let x := sendLine ts1Chars { x with
    attempts := n, measured := false, checked := false, readBack := [], svc := none, svcQueue := [], failedAt := rackTime s }
  if !linkUp s then s
  else if x.failedBefore then s.setPort p { x with phase := .failed }
  else if tmTrainAttempts (secs s) ≤ n then
    portFault 0x0402 p [] (s.setPort p { x with phase := .failed, failedBefore := true })
  else s.setPort p { x with phase := .trainLock, waiting := true }

/-- CTLE_MODE of a port: 0 adaptive, otherwise the fixed step plus one (Table 4.21). -/
def ctleMode (s : State) (p : Nat) : Nat := tmPortWord (secs s) p / 16 % 32

/-- The equaliser's settings after an update by LMS (R83): a fixed CTLE step stays, the DFE's three coefficients follow. -/
def equalise83 (s : State) (p : Nat) (eq : Equaliser) (x : TPort) : TPort :=
  { x with ctle := if ctleMode s p = 0 then min eq.ctle 15 else ctleMode s p - 1, dfe := (eq.dfe ++ [0, 0, 0]).take 3 }

/-- The receiver locks and is adapted on the tile's TS1 (Table 4.12, R83). -/
def execTrainLockComplete (t port : Nat) (eq : Equaliser) (s : State) : Out :=
  let s := advance t s
  let x := s.port port
  if linkUp s && x.phase == .trainLock && !x.waiting then
    .next (s.setPort port (sendLine (ts2Down port) (equalise83 s port eq { x with phase := .trainId, lockLost := false })))
  else .next s

/-- The tile's TS2 arrives (R93): it matches TILE_MAP, or raises 0x0403 and ends the attempt. -/
def execTs2Received (t port echo kind maker count : Nat) (s : State) : Out :=
  let s := advance t s
  let x := s.port port
  match tileOfPort (secs s) port with
  | none => .next s
  | some e =>
    if !(linkUp s && x.phase == .trainId) then .next s
    else if kind != u8 e 1 || (teMaker e != 0xFFFF && maker != teMaker e) || count != teCount e then
      .next (attemptFails port (portPulse 0x0403 port [] s))
    else if echo != port then .next (attemptFails port s)
    else .next (s.setPort port { x with phase := .trainTime })

/-- The registers TRAIN_TIME writes and reads back (R93, Table 4.18): SLOT_CFG of every used slot, or AUTO_PERIOD. -/
def regWrites (e : Bytes) : Tab Nat :=
  if teIsPhase e then (teSlots e).map (fun x => (0x10 + x.1, teLsMax e + 2 ^ 24 * teMinDt e)) else [(0x18, teAutoPeriod e)]

/-- The 64 round trips are measured (R95), their sum and TA_TILE in sixteenths of a tick: LAT goes out in ALIGN, with the
register writes of R93; above 640 ticks the attempt fails with 0x0404. -/
def execLatencyMeasured (t port rttSum16 taTile : Nat) (s : State) : Out :=
  let s := advance t s
  let x := s.port port
  let q := secs s
  match tileOfPort q port with
  | none => .next s
  | some e =>
    if !(linkUp s && x.phase == .trainTime) then .next s
    else
      let lat := divRound ((rttSum16 : Int) - 64 * taTile + 128 * tmAsym q port) 128
      if 10240 < lat then .next (attemptFails port (portPulse 0x0404 port [] s))
      else
        let s := s.setPort port { x with
          measured := true, lat := (lat % 65536).toNat, upLat := lat - 2 * tmAsym q port, trimSum := 0 }
        let s := queueSvc port 0x10 0 (lat % 65536).toNat s
        let writes := regWrites e
        let s := s.setPort port { s.port port with readBack := writes }
        let s := queueSvc port 0x01 0x02 0 (queueSvc port 0x01 0x01 0 s)
        .next (writes.foldl (fun s w => queueSvc port 0x01 w.1 0 (queueSvc port 0x02 w.1 w.2 s)) s)

/-- A port has reached ACTIVE: its tile is released where R108 says so. -/
def releaseOnActive (e : Bytes) (p : Nat) (s : State) : State :=
  if teIsCell e || stagesStartingOn e s then startClear p s else queueSvc p 0x01 0x07 0 s

/-- 0x0402 of a port ends, unless another port of its scope is still FAILED (R93). -/
def trainFaultEnds (p : Nat) (s : State) : State :=
  if s.ports.any (fun y => y.1 != p && y.2.failedBefore && portScope s y.1 == portScope s p) then s
  else lowerFault 0x0402 (portScope s p) s

/-- A port has become the active lane of its tile: event 0x8401 (R94), and its release as R108 says. -/
def becomeActive (e : Bytes) (p : Nat) (s : State) : State :=
  let x := s.port p
  releaseOnActive e p (event 0x8401 [p, x.lat, x.eyeV, x.eyeH] (trainFaultEnds p s))

/-- What the new active lane `x` of a tile takes over from the lane `y` that was active: its unsent entries and commands, and
the tile's newest report (R110, R111). -/
def takeOver (y x : TPort) : TPort :=
  { x with
    activeLane := true, entries := y.entries, offLatch := y.offLatch, offCause := y.offCause, offCount := y.offCount
    slotClear := y.slotClear, slotOff := y.slotOff, cell := y.cell, slotStatus := y.slotStatus, upLast := y.upLast
    offHold := x.offHold || y.offHold }

/-- A lane ends its training (R81, R94, Table 4.12): exactly one lane of a tile is active afterwards, the active lane, or the standby lane of a dual-homed tile. The primary
takes over from an alternate that was trained first. -/
def portTrained (e : Bytes) (p : Nat) (s : State) : State :=
  let x := s.port p
  let done : TPort := { x with attempts := 0, waiting := false, failedBefore := false }
  match otherLane (secs s) p with
  | none => becomeActive e p (s.setPort p { done with phase := .active, activeLane := true, offLatch := true })
  | some o =>
    let y := s.port o
    if y.phase == .active && (y.tookOver || tePrimary e != p) then
      trainFaultEnds p (s.setPort p { done with phase := .standbyLane, activeLane := false })
    else if y.phase == .active then
      let s := s.setPort o { y with phase := .standbyLane, activeLane := false, entries := [], slotOff := 0, cell := none }
      becomeActive e p (s.setPort p (takeOver y { done with phase := .active }))
    else
      let s := s.setPort o { y with activeLane := false }
      becomeActive e p (s.setPort p { done with phase := .active, activeLane := true, offLatch := true })

/-- The attempt has succeeded once the arrival is checked and every register has been read back (R93, Table 4.12). -/
def finishTraining (e : Bytes) (p : Nat) (s : State) : State :=
  let x := s.port p
  if x.phase == .trainTime && x.checked && x.readBack.isEmpty then portTrained e p s else s

/-- Upstream frames have been checked against the expected arrival, with the sum of their residuals: 256 end the check (R95). -/
def execAlignCheckComplete (t port : Nat) (residualSum16 : Int) (frames : Nat) (s : State) : Out :=
  let s := advance t s
  let x := s.port port
  match tileOfPort (secs s) port with
  | none => .next s
  | some e =>
    if !(linkUp s && x.phase == .trainTime && x.measured && frames == 256) then .next s
    else if 256 * 96 < residualSum16.natAbs then .next (attemptFails port (portPulse 0x0404 port [] s))
    else .next (finishTraining e port (s.setPort port { x with checked := true }))

/-- The 3 ms of an attempt run out (R93). -/
def execTrainAttemptTimeout (t port : Nat) (s : State) : Out :=
  let s := advance t s
  let x := s.port port
  if linkUp s && !x.waiting && (x.phase == .trainLock || x.phase == .trainId || x.phase == .trainTime)
      && decide (x.attemptAt + 3 * msTicks ≤ rackTime s) then
    .next (attemptFails port s)
  else .next s

/-- The next attempt begins, 10 ms after the last one began or 1 s after FAILED (R93, assumption 72). -/
def execTrainAttemptStart (t port : Nat) (s : State) : Out :=
  let s := advance t s
  let x := s.port port
  let due := if x.phase == .failed then x.failedAt + secTicks else x.attemptAt + 10 * msTicks
  if linkUp s && (x.phase == .failed || x.waiting) && decide (due ≤ rackTime s) then
    .next (s.setPort port { x with phase := .trainLock, waiting := false, attemptAt := rackTime s, rxPlus := none })
  else .next s

/-! ### Lanes lost (R111) -/

/-- The new active lane of a tile that is latched off releases it where R108 says so. -/
def releaseOnFailover (o : Nat) (s : State) : State :=
  match tileOfPort (secs s) o with
  | some e => if teIsCell e || stagesStartingOn e s then startClear o s else s
  | none => s

/-- A trigger of R111 on a lane: failover, or 0x0401, SLOT_OFF in four frames and retraining; a standby lane lost raises
0x0409. Nothing is acted on while the port is held by its all-off generator. -/
def linkTrigger (trigger p : Nat) (s : State) : State :=
  let x := s.port p
  if bit s.collector.forcedPorts p then s
  else if x.slotOffFrames != 0 then s
  else if x.phase == .standbyLane then retrainPort p (portPulse 0x0409 p [] s)
  else if x.phase != .active then s
  else
    let standby := (otherLane (secs s) p).filter (fun o => (s.port o).phase == .standbyLane)
    match standby with
    | some o =>
      let y := s.port o
      let s := s.setPort o (takeOver x { y with phase := .active, tookOver := true })
      let s := s.setPort p { x with
        failover := sat32 x.failover 1, activeLane := false, slotClear := 0, slotOff := 0, cell := none }
      releaseOnFailover o (event 0x8402 [p, o, trigger] (retrainPort p s))
    | none =>
      let s := portPulse 0x0401 p [] s
      if !isLive s then s
      else s.setPort p { s.port p with slotOffFrames := 4, entries := [] }

/-- The receiver of a trained port loses lock (R111, R116). -/
def execReceiverLockLoss (t port : Nat) (s : State) : Out :=
  let s := advance t s
  let x := s.port port
  if linkUp s && (x.phase == .active || x.phase == .standbyLane) then
    .next (linkTrigger 1 port (s.setPort port { x with upLockLoss := sat32 x.upLockLoss 1, lockLost := true }))
  else .next s

/-! ### Upstream frames -/

/-- The slots whose SLOT_STATUS bit `b` is newly set in a report, against the last. -/
def newlySet (x : TPort) (body : Bytes) (b : Nat) : List Nat :=
  (List.range 8).filter (fun n => bit (u8 body (28 + n)) b && !bit (Tab.get 0 x.slotStatus n) b)

/-- Any slot of any tile of a scope still reports bit `b`. -/
def anyReports (s : State) (scope b : Nat) : Bool :=
  s.ports.any (fun p => p.2.phase == .active && portScope s p.1 == scope && p.2.slotStatus.any (fun v => bit v.2 b))

/-- The faults of one status bit (Table 4.19): raised for each slot that newly reports it, ended when none does (R476). -/
def statusFault (code b p : Nat) (fresh : List Nat) (s : State) : State :=
  let scope := portScope s p
  let s := fresh.foldl (fun s n =>
    if isLive s then raiseFault code scope ([byte p, byte n, byte scope] ++ zeros 5) s else s) s
  if isLive s && !anyReports s scope b then lowerFault code scope s else s

/-- LATE flags counted, and 0x0408 when they come to rise by more than LATE_ALERT within 1 ms. -/
def countLate (p n : Nat) (s : State) : State :=
  if n = 0 then s
  else
    let x := s.port p
    let recent := x.lateTimes.filter (fun y => decide (s.now < y.1 + msTicks))
    let rise := (recent.map (·.2)).sum
    let s := s.setPort p { x with late := sat32 x.late n, lateTimes := (s.now, n) :: recent }
    let limit := tmLateAlert (secs s)
    if limit != 0 && decide (limit < rise + n) && !decide (limit < rise) then portPulse 0x0408 p [] s else s

/-- A release of the tile begins: OFF_HOLD goes 0 in the frames of both its lanes (R107, R108). -/
def endHold (p : Nat) (s : State) : State :=
  let s := s.setPort p { s.port p with offHold := false }
  match otherLane (secs s) p with
  | some o => s.setPort o { s.port o with offHold := false }
  | none => s

/-- A register read back in training (R93): a value that differs from the one written ends the attempt. -/
def takeReadBack (p addr v : Nat) (s : State) : State :=
  let x := s.port p
  match Tab.find x.readBack addr with
  | none => s
  | some want => if v = want then s.setPort p { x with readBack := Tab.del x.readBack addr } else attemptFails p s

/-- Both halves of the serial number make it known (Table 4.18). -/
def noteSerial (x : TPort) : TPort :=
  match x.serialLo, x.serialHi with
  | some lo, some hi => { x with serial := some (lo + 2 ^ 32 * hi) }
  | _, _ => x

/-- The answer to the operation outstanding (R88): a read of 0x07 gives OFF_COUNT, one of 0x06 the standby lane's
TIME_DIFF (R102), one of 0x01 or 0x02 the serial number, and in training the registers written; the next operation
follows. -/
def takeResponse (p : Nat) (r : Bytes) (s : State) : State :=
  let x := s.port p
  match x.svc with
  | none => s
  | some w =>
    if u8 r 0 != w.op.op || u8 r 1 != w.op.tag || u8 r 2 != w.op.addr || u8 r 0 = 0 then s
    else
      let x := { x with svc := none }
      if w.op.op = 0x01 && w.op.addr = 0x01 then s.setPort p (noteSerial { x with serialLo := some (u32 r 4) })
      else if w.op.op = 0x01 && w.op.addr = 0x02 then s.setPort p (noteSerial { x with serialHi := some (u32 r 4) })
      else if w.op.op = 0x01 && x.phase == .trainTime && decide (0x10 ≤ w.op.addr) then
        takeReadBack p w.op.addr (u32 r 4) (s.setPort p x)
      else if w.op.op = 0x01 && w.op.addr = 0x07 then
        let s := s.setPort p { x with
          offCount := u32 r 4 % 65536, clear := x.clear.map (fun c => { c with waiting := false }) }
        if x.clear.isSome then endHold p s else s
      else if w.op.op = 0x01 && w.op.addr = 0x06 then
        let d := signedOf 16 (u32 r 4 % 65536)
        let s := s.setPort p x
        if x.phase == .standbyLane && decide (64 < d.natAbs) then portPulse 0x0409 p [] s else s
      else s.setPort p x

/-- The off latch of the tile, as reported (R106, R108, Table 4.19). -/
def takeLatch (e : Bytes) (p : Nat) (body : Bytes) (s : State) : State :=
  let x := s.port p
  let latched := bit (u8 body 0) 2
  let cause := u8 body 1 % 16
  let fresh := latched && (!x.offLatch || x.offCause != cause)
  let s := s.setPort p { x with offLatch := latched, offCause := cause, timeAligned := bit (u8 body 0) 5,
                                clear := if latched then x.clear else none }
  let s := if x.offLatch && !latched then event 0x8403 [p] s else s
  let s :=
    if fresh && (cause = 3 || cause = 5) && !bit s.collector.forcedPorts p then portPulse 0x0407 p [] s else s
  if !isLive s then s
  else
    let s := if latched && teIsCell e then startClear p s else s
    if (s.port p).phase == .active && !bit (u8 body 0) 5 then retrainPort p s else s

/-- Every tile that carries an active phase of a stage reports its off latch, from 1 ms after the start request: a stop
cause (R188). -/
def latchStops (e : Bytes) (s : State) : State :=
  (teStages (secs s) e).foldl (fun s g =>
    let l := activePhases s g
    let latched (p : Nat) : Bool :=
      match phaseSeat (secs s) p with
      | some (b, _) => (activePort s b).any (fun t => (s.port t).offLatch)
      | none => false
    if stageOn s g && !l.isEmpty && l.all latched && decide ((s.stage g).startAt + msTicks ≤ rackTime s) then stopStage g s
    else s) s

/-- The transition bytes of a phase tile's slots go to the Modulator (R199). -/
def transitions (e : Bytes) (f : Nat) (body : Bytes) (s : State) : State :=
  (teSlots e).foldl (fun s x =>
    if isLive s then takeTransition x.2 (u8 body (37 + 2 * x.1)) (fullFrame s f * frameTicks + 320) s else s) s

/-- The body of frame F from a tile, taken once: from the active lane, or from the standby lane when the active lane's
was not valid. It passes the two-entry FIFO to the filters (R110). -/
def handOn (e : Bytes) (p f : Nat) (body : Option Bytes) (s : State) : State :=
  let x := s.port p
  let s := s.setPort p { x with upLast := some f, upOwed := none, fifo := ((f, body) :: x.fifo).take 2 }
  if teIsPhase e then paveFrame e f body s
  else
    match body with
    | some b => cellFrame e b s
    | none => s

/-- The frame owed by the active lane is given up: its body came valid on neither lane (R110). -/
def endOwed (e : Bytes) (p : Nat) (s : State) : State :=
  match (s.port p).upOwed with
  | some f => handOn e p f none s
  | none => s

/-- A valid frame on the standby lane `p`: it serves at once where the active lane owes that frame, and is kept otherwise
for the case that the active lane's is not valid (R110). -/
def keepSpare (e : Bytes) (p f : Nat) (body : Bytes) (s : State) : State :=
  let s := s.setPort p { s.port p with upSpare := some (f, body) }
  match (otherLane (secs s) p).filter (fun o => (s.port o).phase == .active && (s.port o).upOwed == some f) with
  | some o => handOn e o f (some body) s
  | none => s

/-- A frame number is newer than the last one handed on. -/
def newerUp (x : TPort) (f : Nat) : Bool :=
  match x.upLast with
  | none => true
  | some l => within 1 32767 ((f + 65536 - l) % 65536)

/-- The frame number the active lane would have delivered next. -/
def nextUp (x : TPort) : Nat := ((x.upLast.map (· + 1)).getD 0) % 65536

/-- An invalid frame of a trained lane (R87, R110, R111): the standby lane's body of that frame takes its place, the one
that has come or the one still to come. -/
def invalidUp (e : Bytes) (p : Nat) (s : State) : State :=
  let x := s.port p
  let s := s.setPort p { x with upInvalid := sat32 x.upInvalid 1, invalidRun := x.invalidRun + 1 }
  let s :=
    if x.phase != .active then s
    else
      let s := endOwed e p s
      let f := nextUp (s.port p)
      match (otherLane (secs s) p).filter (fun o => (s.port o).phase == .standbyLane) with
      | none => handOn e p f none s
      | some o =>
        match (s.port o).upSpare.filter (fun y => y.1 == f) with
        | some y => handOn e p f (some y.2) s
        | none => s.setPort p { s.port p with upOwed := some f }
  if isLive s && 3 ≤ (s.port p).invalidRun then linkTrigger 2 p s else s

/-- A valid frame: counters, status, latch, answer, bits (R87, R110, R116). -/
def validUp (e : Bytes) (p : Nat) (body : Bytes) (s : State) : State :=
  let x := s.port p
  let f := u16 body 2
  let err := u16 body 54
  let delta := if x.linkErrSeen then (err + 65536 - x.linkErr) % 65536 else 0
  let phaseTile := teIsPhase e
  let desat := if phaseTile then newlySet x body 0 else []
  let oc := if phaseTile then newlySet x body 1 else []
  let drv := if phaseTile then newlySet x body 5 else []
  let lateN := if phaseTile then ((List.range 8).filter (fun n => bit (u8 body (28 + n)) 6)).length else 0
  let x := { x with
    invalidRun := 0, lockLost := false, linkErr := if phaseTile then err else x.linkErr, linkErrSeen := phaseTile
    dnInvalid := if phaseTile then sat32 x.dnInvalid delta else x.dnInvalid
    slotStatus := if phaseTile then (List.range 8).map (fun n => (n, u8 body (28 + n))) else []
    transition := if phaseTile then (List.range 8).map (fun n => (n, (u8 body (36 + 2 * n), u8 body (37 + 2 * n)))) else []
    boardTemp := if phaseTile then i16 body 52 else x.boardTemp }
  let s := takeResponse p (slice body 88 8) (s.setPort p x)
  if !linkUp s then s
  else if (s.port p).phase == .trainTime then finishTraining e p s
  else if (s.port p).phase != .active && (s.port p).phase != .standbyLane then s
  else
    let s := if (s.port p).phase == .active then
        countLate p lateN (statusFault 0x040A 5 p drv (statusFault 0x0406 1 p oc (statusFault 0x0405 0 p desat s))) else s
    if !isLive s then s
    else
      let s := if (s.port p).phase == .active then takeLatch e p body s else s
      if !isLive s then s
      else if (s.port p).phase == .active then
        let s := if newerUp (s.port p) f then
            let s := if (s.port p).upOwed == some f then s else endOwed e p s
            if isLive s then handOn e p f (some body) s else s
          else s
        let s := if isLive s then latchStops e (transitions e f body s) else s
        if isLive s && bit (u8 body 0) 4 then linkTrigger 3 p s else s
      else
        let s := keepSpare e p f body s
        if !isLive s then s else
        let s := s.setPort p { s.port p with offLatch := bit (u8 body 0) 2, timeAligned := bit (u8 body 0) 5 }
        if bit (u8 body 0) 4 then
          match otherLane (secs s) p with
          | some o => if (s.port o).phase == .active then linkTrigger 3 o s else s
          | none => s
        else s

/-- An upstream frame arrives on a port (R80, R87). -/
def execUpstreamFrame (t port : Nat) (frame : WireFrame) (s : State) : Out :=
  let s := advance t s
  let x := s.port port
  match tileOfPort (secs s) port with
  | none => .next s
  | some e =>
    if !(linkUp s && (x.phase == .active || x.phase == .standbyLane || x.phase == .trainTime)) then .next s
    else
      let r := s.setPort port { x with rxPlus := rxAfter x.rxPlus frame }
      match acceptFrame x.rxPlus frame with
      | some body => .next (validUp e port body r)
      | none =>
        if x.phase == .trainTime then .next (r.setPort port { r.port port with upInvalid := sat32 x.upInvalid 1 })
        else .next (invalidUp e port r)

/-! ### Timed acts -/

/-- 16 frame periods without an answer (R88): the operation is repeated once, then counted as a service timeout. -/
def execServiceOpTimeout (t port : Nat) (s : State) : Out :=
  let s := advance t s
  let x := s.port port
  match x.svc with
  | none => .next s
  | some w =>
    match w.sentAt with
    | none => .next s
    | some l =>
      if rackTime s < l + 16 * frameTicks then .next s
      else if !w.repeated then .next (s.setPort port { x with svc := some { w with repeated := true, sentAt := none } })
      else
        let lost := w.op.op == 0x01 && w.op.addr == 0x07
        .next (s.setPort port { x with
          svc := none, svcTimeout := sat32 x.svcTimeout 1
          clear := if lost then x.clear.filter (fun c => !c.waiting) else x.clear })

/-- The mean upstream residual of a millisecond, in sixteenths of a tick (R96); a standby lane's TIME_DIFF is read with
it (R102). -/
def execResidualTrim (t port : Nat) (mean16 : Int) (s : State) : Out :=
  let s := advance t s
  let x := s.port port
  if !(linkUp s && (x.phase == .active || x.phase == .standbyLane)) then .next s
  else
    let s := if x.phase == .standbyLane then queueSvc port 0x01 0x06 0 s else s
    if mean16.natAbs < 16 then .next s
    else
      let x := s.port port
      let trim := clampI (-32) 32 (divRound mean16 2)
      let s := s.setPort port { x with
        trimSum := x.trimSum + trim, upLat := x.upLat + trim, lat := (((x.lat : Int) + trim) % 65536).toNat
        trim := sat32 x.trim 1 }
      let s := queueSvc port 0x11 0 (trim % 65536).toNat s
      let limit := tmRealignLimit (secs s) * 16
      if limit < (x.trimSum + trim).natAbs && x.trimSum.natAbs ≤ limit then .next (portPulse 0x0404 port [] s)
      else .next s

/-- The eye margin is measured every 100 ms at a receiver that has lock, and the equaliser has moved on by then (R83). -/
def execEyeMarginMeasure (t port mv ui64 : Nat) (eq : Equaliser) (s : State) : Out :=
  let s := advance t s
  let x := s.port port
  let locked := x.phase == .trainId || x.phase == .trainTime || x.phase == .active || x.phase == .standbyLane
  if linkUp s && locked && !x.lockLost then .next (s.setPort port (equalise83 s port eq { x with eyeV := mv, eyeH := ui64 }))
  else .next s

/-- Sixteen frame periods after the first ALL_CLEAR frame the tile is still latched (R108): once more, then 0x0407. -/
def execAllClearRetry (t port : Nat) (s : State) : Out :=
  let s := advance t s
  let x := s.port port
  match x.clear with
  | none => .next s
  | some c =>
    if c.waiting || c.left != 0 || rackTime s < c.first + 16 * frameTicks then .next s
    else if c.repeated then .next (portPulse 0x0407 port [] (s.setPort port { x with clear := none }))
    else if !mayClear port s then .next (s.setPort port { x with clear := none })
    else .next (queueSvc port 0x01 0x07 0 (s.setPort port { x with
      clear := some { tag := x.nextTag, repeated := true }, nextTag := (x.nextTag + 1) % 256 }))

/-- SLOT_CLEAR goes out once for the slots owed, after the tile's release (R476). -/
def execSlotClear (t port : Nat) (s : State) : Out :=
  let s := advance t s
  let x := s.port port
  if x.slotClear != 0 && !x.offLatch && x.phase == .active then
    .next (queueSvc port 0x20 0 x.slotClear (s.setPort port { x with slotClear := 0 }))
  else .next s

end Sys2Proof.Machine
end

