-- ==== Sys2Proof/Machine/Loops.lean ====
section
/-! DEFINITION. The loop engines' events and commands (chapter 06). -/

namespace Sys2Proof.Machine

/-! ### Issue (R146 to R151) -/

/-- The starts of `n` carrier periods of a phase from one on, a new grid followed from its ledger period on (R192). -/
def carriers (q : Secs) (g : Nat) (x : Phase) : Nat → Nat → List Nat
  | 0, _ => []
  | n + 1, a => a :: carriers q g x n (carrierNext q g x a)

/-- The nominal update instants of a phase in a half-open interval of `w` ticks from `a` (R193): those of the carrier
period whose pulse went out last, of the next one, from `start`, and of the periods after it. -/
def phaseInstants (q : Secs) (g : Nat) (x : Phase) (start a w : Nat) : List Nat :=
  let n := (a + w - start) / max 1 (stPeriod q g) + 1
  ((x.curS.toList ++ carriers q g x n start).flatMap (nominals q g)).filter (fun t => decide (a ≤ t) && decide (t < a + w))

/-- The evaluations of a phase anchored on the window that closed at `c` (R149). -/
def phaseDues (q : Secs) (s : State) (g p c : Nat) : List Due :=
  let e := sePhase q p
  let x := s.ph p
  match x.nextS with
  | none => []
  | some start =>
    if spOsr e = 0 || c / 2560 % spOsr e != spWin e then []
    else
      (phaseInstants q g x start (c + 16640) (2560 * spOsr e)).map (fun n => { ctx := p, nominal := n, close := c })

/-- f_s of a stage context: the frame of the ledger period that its evaluations anchor on (R151). -/
def stageFrame (q : Secs) (g : Nat) : Nat := (((declaredStages q).findIdx? (· == g)).getD 0) % 25

/-- A stage context is due on the frame boundary `c` (R151). -/
def stageDue (q : Secs) (g c : Nat) : List Due :=
  let f := c / 2560
  if f % 25 = stageFrame q g && f / 25 % max 1 (ctxRate (lcRec q (stageCtx g))) = 0 then [{ ctx := stageCtx g, close := c }] else []

/-- The evaluations that become due at an issue instant, 4,480 ticks after a frame boundary. -/
def newDues (s : State) : List Due :=
  let q := secs s
  let r := rackTime s
  if r < 4480 || (r - 4480) % 2560 != 0 then []
  else
    let c := r - 4480
    (declaredStages q).flatMap (fun g =>
      if !stageOn s g then []
      else (evaluatedPhases s g).flatMap (fun p => phaseDues q s g p c) ++ stageDue q g c)

/-- The free slots of an engine: eight less those in use, less a running proof (R146, R176). -/
def freeSlots (s : State) (k : Nat) : Nat :=
  8 - (s.loops.flights.filter (fun f => f.engine == k)).length - flag (decide (rackTime s < (s.engine k).proofUntil))

/-- An engine of the pool with a free slot (R147). -/
def freeEngine (s : State) : Option Nat :=
  (List.range 9).find? (fun k => (s.engine k).state == 0 && freeSlots s k != 0)

/-- A new master takes the old master's integrator before its first evaluation (R186). -/
def passMaster (g p : Nat) (s : State) : State :=
  let x := s.stage g
  if !stShared (secs s) g || x.master == some p then s
  else
    let s := s.setStage g { x with master := some p }
    match x.master with
    | some o => s.setCtx p { s.ctx p with i := (s.ctx o).i, trackDue := false }
    | none => s

/-- An evaluation starts on an engine; one that could not be placed by C + 4,800 has moved (R150). -/
def issueOne (d : Due) (k : Nat) (s : State) : State :=
  let q := secs s
  let moved := decide (d.close + 4800 < rackTime s)
  let g := ctxStage q d.ctx
  let s := if isPhaseCtx d.ctx then passMaster g d.ctx s else s
  let f := evaluate d k (d.close + 16640 + (if moved then 2560 else 0)) s
  let inj := injectInto s d.ctx
  let s := { s with loops := { s.loops with flights := s.loops.flights ++ [f] } }
  let s :=
    match inj with
    | some j =>
      match injectStep j with
      | some n => { s with loops := { s.loops with inject := some n } }
      | none => stopInject injEnd s
    | none => s
  if moved then
    let s := s.setCtx d.ctx { s.ctx d.ctx with slip := sat32 (s.ctx d.ctx).slip 1 }
    pulseFault 0x0603 (stageScope s g) (pay [d.ctx]) s
  else s

/-- The waiting evaluations are placed in order; what finds no slot, or whose context is in flight, waits on. -/
def placeDues : List Due → State → State
  | [], s => s
  | d :: ds, s =>
    if !isLive s then s
    else if !stageOn s (ctxStage (secs s) d.ctx) then placeDues ds s
    else
      match freeEngine s with
      | some k =>
        if s.loops.flights.any (fun f => f.due.ctx == d.ctx) then
          placeDues ds { s with loops := { s.loops with due := s.loops.due ++ [d] } }
        else placeDues ds (issueOne d k s)
      | none => placeDues ds { s with loops := { s.loops with due := s.loops.due ++ [d] } }

/-- At the next frame boundary a failed engine leaves the pool: its evaluations in flight are discarded, LE8 takes its
place if it has passed its latest proof, and 0x0601 is raised; 0x0602 when no passing spare remains (R177, R178). -/
def removeEngine (k : Nat) (s : State) : State :=
  let e := s.engine k
  let s := s.setEngine k { e with state := 2, removeAt := none }
  let s := { s with loops := { s.loops with flights := s.loops.flights.filter (fun f => f.engine != k) } }
  let spare := (s.engine 8).state == 1 && (s.engine 8).passed
  let s := if spare then s.setEngine 8 { s.engine 8 with state := 0 } else s
  let s := event 0x8601 [k, e.lastVector] (chipPulse 0x0601 [k] s)
  if spare || !isLive s then s else chipPulse 0x0602 [k] s

/-- The engines whose frame boundary has come leave the pool (R177). -/
def settleEngines (s : State) : State :=
  (List.range 9).foldl (fun s k =>
    match (s.engine k).removeAt with
    | some b => if isLive s && decide (b ≤ rackTime s) then removeEngine k s else s
    | none => s) s

/-- An issue instant (R146): rack time is a multiple of 320 ticks. -/
def execEvaluationIssue (t : Nat) (s : State) : Out :=
  let s := settleEngines (advance t s)
  if !running s || rackTime s % 320 != 0 then .next s
  else
    let ds := s.loops.due ++ newDues s
    .next (placeDues ds { s with loops := { s.loops with due := [] } })

/-! ### Completion (R148, R164, R175, R203, R477) -/

/-- No context of a scope waits for an input any more: 0x0606 ends (R477). -/
def endWaiting (c : Nat) (s : State) : State :=
  let x := s.ctx c
  if !x.waiting then s
  else
    let s := s.setCtx c { x with waiting := false }
    let sc := stageScope s (ctxStage (secs s) c)
    if s.loops.ctxs.any (fun y => y.2.waiting && stageScope s (ctxStage (secs s) y.1) == sc) then s
    else lowerFault 0x0606 sc s

/-- An input is stale: 0x0606 with the context and the input (R477). -/
def beginWaiting (c k : Nat) (s : State) : State :=
  let x := s.ctx c
  if x.waiting then s
  else raiseFault 0x0606 (stageScope s (ctxStage (secs s) c)) (pay [c, k]) (s.setCtx c { x with waiting := true })

/-- Current equalisation at an evaluation of the master (R203). EQ_GAIN 0 holds every trim at 0, and none is watched. -/
def equalise (g : Nat) (s : State) : State :=
  let q := secs s
  let l := (activePhases s g).filter (fun p => (s.sense p).i.valid)
  if l.isEmpty || stEqGain q g = 0 then s
  else
    let n := l.length
    let sum := (l.map (fun p => (s.sense p).i.value)).sum
    let step (p : Nat) : Int :=
      (s.ph p).trim - divRound (stEqGain q g * ((s.sense p).i.value * n - sum)) (1000 * n)
    let mean := divRound ((l.map step).sum) n
    let lim : Int := stEqMax q g
    l.foldl (fun s p =>
      let x := s.ph p
      let v := clampI (-lim) lim (step p - mean)
      let at_ := v = lim ∨ v = -lim
      s.setPh p { x with
        trim := v, trimSince := if at_ then some (x.trimSince.getD (rackTime s)) else none, trimTold := x.trimTold && decide at_ }) s

/-- The value of a capture signal in an evaluation, at the exponent the capture states for it (R174, R175). -/
def signalValue (f : Flight) (k kind : Nat) (e : Int) : Int :=
  match kind with
  | 1 => f.u0
  | 2 => f.result.y
  | 3 => f.result.ySat
  | 4 => upper f.result.i
  | 5 => satM (toExp f.inj f.injExp e)
  | 6 => f.sel.getD k 0
  | _ => 0

/-- Signal 0 crosses the level in the named direction. -/
def crosses (k : Capture) (v : Int) : Bool :=
  match k.lastLevel with
  | none => false
  | some o => if k.falling then decide (k.level < o) && decide (v ≤ k.level) else decide (o < k.level) && decide (k.level ≤ v)

/-- A capture sample in the capture context's evaluation slot (R175). -/
def takeCapture (f : Flight) (s : State) : State :=
  let k := s.loops.capture
  if k.ctx != f.due.ctx || !(k.state = 1 ∨ k.state = 2) then s
  else if k.skip != 0 then { s with loops := { s.loops with capture := { k with skip := k.skip - 1 } } }
  else
    let vs := ((List.range k.signals.length).zip k.signals).map (fun x => signalValue f x.1 x.2.1 (k.exps.getD x.1 23))
    let v := vs.headD 0
    let s := if k.state = 1 && k.trigger = 3 && crosses k v then triggerCapture s else s
    let k := s.loops.capture
    let keep := (f.issued, vs) :: k.samples
    let k := { k with
      skip := k.decimation - 1, lastLevel := some v, samples := if k.state = 1 then keep.take k.pre else keep
      count := if k.state = 1 then min k.pre keep.length else keep.length }
    let s := { s with loops := { s.loops with capture := k } }
    if k.state = 2 && decide (65536 ≤ keep.length) then stopCapture 1 s else s

/-- A phase's output goes to the Modulator (R193). -/
def publishOut (f : Flight) (s : State) : State :=
  let o : PulseOut :=
    { nominal := f.due.nominal, update := f.update, duty := f.result.ySat, at_ := rackTime s, stale := f.stale.isSome,
      curs := f.curs, tag := period s }
  { s with loops := { s.loops with outs := Tab.upd [] s.loops.outs f.due.ctx (fun l => (o :: l).take 8) } }

/-- The checks of R164: 0x0605 with the context and the failing check. -/
def checkFaults (f : Flight) (s : State) : State :=
  (bitsOf 3 f.checks).foldl (fun s k =>
    if isLive s then pulseFault 0x0605 (stageScope s (ctxStage (secs s) f.due.ctx)) (pay [f.due.ctx, k + 1]) s else s) s

/-- An evaluation finishes (R148). -/
def execEvaluationComplete (t context : Nat) (s : State) : Out :=
  let s := settleEngines (advance t s)
  match s.loops.flights.find? (fun f => f.due.ctx == context) with
  | none => .next s
  | some f =>
    let s := { s with loops := { s.loops with flights := s.loops.flights.filter (fun g => g.due.ctx != context) } }
    if !running s then .next s
    else
      let s := s.setCtx context (writeBack f (f.issued / ledgerTicks) (rackTime s) (s.ctx context))
      let g := ctxStage (secs s) context
      let s := takeCapture f (if isPhaseCtx context then publishOut f s else s)
      let s := if isPhaseCtx context && stShared (secs s) g then equalise g s else s
      let s :=
        match f.stale with
        | some k => if stageOn s g then beginWaiting context k s else s
        | none => endWaiting context s
      .next (if isLive s then checkFaults f s else s)

/-- A trim held at its limit for 100 ms raises 0x0707 with the phase (R203). -/
def execEqualiseLimit (t phase : Nat) (s : State) : Out :=
  let s := advance t s
  let x := s.ph phase
  match x.trimSince with
  | some a =>
    if running s && !x.trimTold && decide (a + 100 * msTicks ≤ rackTime s) then
      .next (phasePulse 0x0707 phase [] (s.setPh phase { x with trimTold := true }))
    else .next s
  | none => .next s

/-! ### Proofs (R176 to R178) -/

/-- The proof interval of an engine now (R176). -/
def proofInterval (s : State) (k : Nat) : Option Nat :=
  if rackTime s < 640000 * k then none else some ((rackTime s - 640000 * k) / 6400000)

/-- An engine fails its proof (R177, R178): the spare at once, an engine of the pool with the next frame boundary. -/
def engineFails (k v : Nat) (s : State) : State :=
  let e := s.engine k
  let s := s.setEngine k { e with
    fails := sat32 e.fails 1, passed := false, lastVector := v, state := if e.state = 1 then 2 else e.state
    removeAt := if e.state = 0 then some (onGrid (rackTime s) frameTicks 0) else e.removeAt
    failedAt := if e.failedAt = 0 then s.plinth.opSeconds else e.failedAt }
  if e.state = 1 then chipPulse 0x0604 [k] s else settleEngines s

/-- Engine k evaluates its proof vector; `passed` is the checker's finding (R176). -/
def execProofEvaluation (t engine : Nat) (passed : Bool) (s : State) : Out :=
  let s := settleEngines (advance t s)
  match proofInterval s engine with
  | none => .next s
  | some m =>
    let e := s.engine engine
    if !running s || 9 ≤ engine || rackTime s % 320 != 0 || e.provedIn == m + 1 || freeSlots s engine = 0 then .next s
    else
      let s := s.setEngine engine { e with provedIn := m + 1, proofUntil := rackTime s + 2560, lastVector := m % 16 }
      if passed then
        .next (s.setEngine engine { s.engine engine with proofs := sat32 e.proofs 1, passed := true })
      else .next (engineFails engine (m % 16) s)

/-- A proof interval ends without a proof of the engine (R177). -/
def execProofIntervalEnd (t engine : Nat) (s : State) : Out :=
  let s := settleEngines (advance t s)
  match proofInterval s engine with
  | none => .next s
  | some m =>
    let e := s.engine engine
    if !running s || 9 ≤ engine || m = 0 || m ≤ e.provedIn then .next s
    else .next (engineFails engine ((m - 1) % 16) (s.setEngine engine { e with provedIn := m }))

/-! ### Loop commands (Table 6.5) -/

/-- A command of role SERVICE that its chapter accepts only in SERVICE. -/
def serviceSpec (object lo hi : Nat) (resv : List Nat) : CmdSpec :=
  { object := object, role := some 2, serviceOnly := true, lo := lo, hi := hi, resv := resv }

/-- The context argument names a context of the image. -/
def ctxArgOk (s : State) (c : Nat) : Bool := lcHas (secs s) c

/-- A manual value within OUT_MIN to OUT_MAX. -/
def manualOk (s : State) (c : Nat) (v : Int) : Bool :=
  withinI (ctxOutMin (lcRec (secs s) c)) (ctxOutMax (lcRec (secs s) c)) v

/-- LOOP_OPEN. -/
def loopOpen (d : Bytes) (s : State) : CmdEnd :=
  let c := u16 d 0
  let g := ctxStage (secs s) c
  if !ctxArgOk s c || 1 < u8 d 2 then say stRange s
  else if s.mode != .service || !stageRunning s g then say stWrongMode s
  else if !ctxOpenable (lcRec (secs s) c) || stGuarded (secs s) g then say stDenied s
  else if u8 d 2 = 1 && !manualOk s c (i32 d 4) then say stRange s
  else
    let x := s.ctx c
    say stDone (event 0x8603 [c, loopOpened] (s.setCtx c { x with
      mode := if u8 d 2 = 0 then .hold else .manual, manual := i32 d 4, closeK := 0 }))

def execLoopOpen (t : Nat) (rq : CmdReq) (s : State) : Out :=
  .next (runCommand (serviceSpec 0x0610 8 8 [3]) rq loopOpen (advance t s))

/-- LOOP_SET. -/
def loopSet (d : Bytes) (s : State) : CmdEnd :=
  let c := u16 d 0
  if !ctxArgOk s c then say stRange s
  else if s.mode != .service || (s.ctx c).mode != .manual then say stWrongMode s
  else if !manualOk s c (i32 d 4) then say stRange s
  else say stDone (s.setCtx c { s.ctx c with manual := i32 d 4 })

def execLoopSet (t : Nat) (rq : CmdReq) (s : State) : Out :=
  .next (runCommand (serviceSpec 0x0611 8 8 [2, 3]) rq loopSet (advance t s))

/-- The collector's CRC of a context follows a write made under SERVICE (R365). -/
def storeCrc (k : Nat) (b : Bytes) (s : State) : State :=
  { s with collector := { s.collector with contextCrc := Tab.set s.collector.contextCrc k (crc32c b) } }

/-- The reserved bytes of a body (Tables 6.10 to 6.13). -/
def reservedOffsets (form : Nat) (b : Bytes) : List Nat :=
  if form = 1 then [1, 14, 15]
  else if form = 4 then [1, 14, 15, 23]
  else if form = 2 then
    [1, 2, 3] ++ (List.range (u8 b 0)).flatMap (fun k => [21 + 20 * k, 22 + 20 * k, 23 + 20 * k]) ++ [11 + 20 * u8 b 0]
  else [7]

/-- What a write at an offset of a body leaves 0: reserved bytes, and bits [7:6] of the exponents (R153, R443). -/
def reservedZero (form : Nat) (b : Bytes) (off : Nat) (w : Bytes) : Bool :=
  let inside (o : Nat) : Bool := decide (off ≤ o) && decide (o < off + w.length)
  (reservedOffsets form b).all (fun o => !inside o || u8 w (o - off) == 0)
    && (expOffsets form b).all (fun o => !inside o || decide (u8 w (o - off) < 64))

/-- A write covers whole coefficient and exponent fields of a body, each in its range; reserved bytes are 0. -/
def bodyWriteOk (r : Bytes) (off : Nat) (w b : Bytes) : Bool :=
  let form := ctxForm r
  let cs := coefOffsets form b
  let es := expOffsets form b
  let n := w.length
  let new := putBytes b off w
  let inside (o : Nat) : Bool := decide (off ≤ o) && decide (o < off + n)
  cs.all (fun o => (inside o && inside (o + 2)) || !(inside o || inside (o + 1) || inside (o + 2)))
  && es.all (fun o => !inside o || decide (u8 new o < 64))
  && (List.range n).all (fun k =>
      let o := off + k
      es.contains o || cs.any (fun c => decide (c ≤ o) && decide (o < c + 3)) || (u8 b o == 0 && u8 new o == 0))
  && (ctxBackcalc r || !(form == 1 || form == 4) || i24 new 11 == 0)

/-- CTX_COEF_WRITE. -/
def coefWrite (d : Bytes) (s : State) : CmdEnd :=
  let q := secs s
  let c := u16 d 0
  let i0 := u8 d 2
  let i1 := u8 d 3
  let off := u16 d 4
  let w := d.drop 8
  let r := lcRec q c
  let sr := scRec q c
  let body := i0 == 0xFF && i1 == 0xFF
  if !ctxArgOk s c || !(body || (ctxScheduled r && decide (i0 < scN0 sr) && decide (i1 < scN1 sr)))
      || (body && !reservedZero (ctxForm r) (ctxBody r) off w) then say stRange s
  else if s.mode != .service || (s.ctx c).mode == .closed then say stWrongMode s
  else
    let x := s.ctx c
    if body then
      let b := x.pending.getD (bodyOf s c)
      if b.length < off + w.length then say stOversize s
      else if !bodyWriteOk r off w b then say stRange s
      else
        let n := putBytes b off w
        say stDone (storeCrc c (r.take 32 ++ n) (s.setCtx c { x with pending := some n }))
    else
      let k := i1 * scN0 sr + i0
      let b := Tab.get (Tab.get (scPoint sr i0 i1) x.points k) x.pendPoints k
      if b.length < off + w.length then say stOversize s
      else if off % 3 != 0 || w.length % 3 != 0 then say stRange s
      else
        let s := s.setCtx c { x with pendPoints := Tab.set x.pendPoints k (putBytes b off w) }
        say stDone (storeCrc (0x1000 + c) (gridBytes s c) s)
where
  /-- The schedule grid of a context with the points written in SERVICE. -/
  gridBytes (s : State) (c : Nat) : Bytes :=
    let sr := scRec (secs s) c
    let x := s.ctx c
    (List.range (scN0 sr * scN1 sr)).flatMap (fun k =>
      Tab.get (Tab.get (scPoint sr (k % max 1 (scN0 sr)) (k / max 1 (scN0 sr))) x.points k) x.pendPoints k)

def execCtxCoefWrite (t : Nat) (rq : CmdReq) (s : State) : Out :=
  .next (runCommand (serviceSpec 0x0612 11 71 [6, 7]) rq coefWrite (advance t s))

/-- LOOP_CLOSE. -/
def loopClose (d : Bytes) (s : State) : CmdEnd :=
  let c := u16 d 0
  if !ctxArgOk s c then say stRange s
  else if (s.ctx c).mode == .closed then say stWrongMode s
  else say stDone (closeLoop c loopClosed s)

def execLoopClose (t : Nat) (rq : CmdReq) (s : State) : Out :=
  .next (runCommand (serviceSpec 0x0613 4 4 [2, 3]) rq loopClose (advance t s))

/-! ### Injection and capture (R172 to R175) -/

/-- The amplitude is within INJ_LIMIT_PCT (R172). -/
def amplitudeOk (s : State) (c point : Nat) (a : Int) : Bool :=
  let r := lcRec (secs s) c
  let span : Int := if point = 2 then ctxOutMax r - ctxOutMin r else 16777216
  decide (100 * (a.natAbs : Int) ≤ lcInjPct (secs s) * span)

/-- The exponent of a capture signal's mantissa (R175); the injection value's follows the point of the injection `j`. -/
def signalExp (s : State) (j : Option Inject) (c : Nat) (x : Nat × Nat) : Int :=
  let r := lcRec (secs s) c
  match x.1 with
  | 1 => ctxSe r
  | 2 => ctxRe r
  | 3 => ctxRe r
  | 4 => ctxRe r
  | 5 => if j.any (fun j => j.point == 2) then ctxRe r else ctxSe r
  | 6 =>
    if selKind x.2 = 6 then ctxRe (lcRec (secs s) (stageCtx (selIndex x.2 % 64)))
    else if selKind x.2 = 1 then ctxSe r else 23
  | _ => 0

/-- The exponents an armed capture of the injected context states from the injection's start. -/
def restate (s : State) (j : Inject) (k : Capture) : List Int := k.signals.map (signalExp s (some j) k.ctx)

/-- INJECT_START: the state of the PRBS register is not stated, so it is a free value, never 0. -/
def injectStart (d : Bytes) (s : State) : CmdEnd :=
  let c := u16 d 0
  let point := u8 d 2
  let wave := u8 d 3
  if !ctxArgOk s c || 2 < point || 3 < wave || (wave = 0 && !within 100 5000000 (u32 d 8))
      || (2 ≤ wave && !within 1 65536 (u32 d 12)) then say stRange s
  else if s.mode != .service then say stWrongMode s
  else if s.loops.inject.isSome then say stBusy s
  else if stGuarded (secs s) (ctxStage (secs s) c) then say stDenied s
  else if !amplitudeOk s c point (i32 d 4) then say stRange s
  else
    let r := drawFree s
    let j : Inject :=
      { ctx := c, point := point, wave := wave, amplitude := i32 d 4, freq := u32 d 8, length := u32 d 12
        lfsr := r.1 % (2 ^ 31 - 1) + 1, start := rackTime s }
    let k := r.2.loops.capture
    let s : State := { r.2 with loops := { r.2.loops with
      inject := some j, capture := if k.state = 1 && k.ctx == c then { k with exps := restate r.2 j k } else k } }
    say stDone (if s.loops.capture.trigger = 1 then triggerCapture s else s)

def execInjectStart (t : Nat) (rq : CmdReq) (s : State) : Out :=
  .next (runCommand (serviceSpec 0x0614 16 16 []) rq injectStart (advance t s))

def execInjectStop (t : Nat) (rq : CmdReq) (s : State) : Out :=
  .next (runCommand (serviceSpec 0x0615 4 4 noArgs) rq (fun _ s =>
    if s.mode != .service then say stWrongMode s else say stDone (stopInject injStop s)) (advance t s))

/-- CAPTURE_ARM. -/
def captureArm (d : Bytes) (s : State) : CmdEnd :=
  let c := u16 d 0
  let sigs := (List.range 4).map (fun k => (u8 d (16 + 4 * k), u16 d (18 + 4 * k)))
  if !ctxArgOk s c || !within 1 256 (u16 d 2) || 3 < u8 d 6 || 1 < u8 d 7
      || !sigs.all (fun x => decide (x.1 ≤ 6) && (x.1 != 6 || selectorOk (secs s) x.2)) then say stRange s
  else if !(s.mode == .standby || s.mode == .run || s.mode == .service) then say stWrongMode s
  else if s.loops.capture.state = 1 ∨ s.loops.capture.state = 2 then say stBusy s
  else
    let k : Capture :=
      { state := 1, ctx := c, decimation := u16 d 2, pre := u16 d 4, trigger := u8 d 6, falling := u8 d 7 == 1
        faultCode := u16 d 8, level := i32 d 12, signals := sigs, exps := sigs.map (signalExp s (s.loops.inject.filter (fun j => j.ctx == c)) c) }
    let s := { s with loops := { s.loops with capture := k } }
    say stDone (if u8 d 6 = 0 then triggerCapture s else s)

def execCaptureArm (t : Nat) (rq : CmdReq) (s : State) : Out :=
  .next (runCommand { object := 0x0616, role := some 5, lo := 32, hi := 32, resv := [10, 11, 17, 21, 25, 29] } rq captureArm (advance t s))

def execCaptureAbort (t : Nat) (rq : CmdReq) (s : State) : Out :=
  .next (runCommand { object := 0x0617, role := some 5, lo := 4, hi := 4, resv := noArgs } rq (fun _ s =>
    say stDone (stopCapture 2 s)) (advance t s))

end Sys2Proof.Machine
end

