-- ==== Sys2Proof/Machine/Modulator.lean ====
section
/-! DEFINITION. The Modulator's events and commands (chapter 07), and the downstream frame cut-off (R85, R195). -/

namespace Sys2Proof.Machine

/-- A downstream frame's cut-off: the Modulator forms, chooses and places pulses, the framer builds each port's frame
(R195 to R197, R99), and a port whose four SLOT_OFF frames have gone retrains (R111). -/
def execFrameCutoff (t frameNo : Nat) (s : State) : Out :=
  let s := advance t s
  let l := frameNo * frameTicks
  if !(linkUp s && decide (l ≤ rackTime s + 320) && decide (rackTime s ≤ l) && decide (s.modul.cutFrame ≤ frameNo)) then .next s
  else
    let q := secs s
    let s := (declaredStages q).foldl (fun s g => if isLive s then cutoffStage frameNo g s else s) s
    let s := (declaredPorts q).foldl (fun s p =>
      if !isLive s then s
      else
        let owed := (s.port p).slotOffFrames
        let s := dropLate frameNo p (buildFrame frameNo p s)
        if isLive s && owed = 1 && (s.port p).slotOffFrames = 0 then retrainPort p s else s) s
    .next (if isLive s then { s with modul := { s.modul with cutFrame := max s.modul.cutFrame (frameNo + 1) } } else s)

/-- BRAKE_MAX_TIME elapses in BRAKING (R206). -/
def execBrakeMaxTimeExpiry (t stage : Nat) (s : State) : Out :=
  let s := advance t s
  let x := s.stage stage
  if running s && x.mode == .braking && decide (x.brakeSince + sgBrakeMax (secs s) * usTicks ≤ rackTime s) then
    .next (endBrake stage 3 s)
  else .next s

/-- Fault 0x0502 of a phase reaches the Modulator (R207). -/
def execCrowbarFire (t phase : Nat) (s : State) : Out :=
  let s := advance t s
  let q := secs s
  let g := phStage q phase
  if running s && phRole q phase != 0 && stCrowbarEn q g && stageOn s g && (s.input 0x0502 (phaseScope s phase)).asserted then
    .next (fireCrowbar g s)
  else .next s

/-- QUIET_TIME has run without interruption (R212). -/
def execQuietPoint (t stage : Nat) (s : State) : Out :=
  let s := advance t s
  let x := s.stage stage
  match x.quietSince with
  | some a =>
    if running s && x.mode == .running && decide (a + sgQuietTime (secs s) * msTicks ≤ rackTime s) then
      .next (s.setStage stage { x with quiet := true })
    else .next s
  | none => .next s

/-- PHASE_RETIRE (Table 7.7). -/
def phaseRetire (d : Bytes) (s : State) : CmdEnd :=
  let p := u8 d 0
  let g := phStage (secs s) p
  if 192 ≤ p then say stRange s
  else if s.mode != .service then say stWrongMode s
  else if stGuarded (secs s) g && activePhases s g == [p] then say stDenied s
  else if !works s p then say stRange s
  else
    let s := if (s.ph p).wear.state == .retirePending then s else wearTo p .retirePending s
    say stDone (if (s.stage g).mode == .stopped then (promote g s).1 else s)

def execPhaseRetire (t : Nat) (rq : CmdReq) (s : State) : Out :=
  .next (runCommand (serviceSpec 0x0710 4 4 [1, 2, 3]) rq phaseRetire (advance t s))

/-- A fresh wear record with STATE kept; event 0x8705 (R211, Table 7.7). -/
def freshWear (p : Nat) (s : State) : State :=
  let x := s.ph p
  event 0x8705 [p] (s.setPh p { x with wear := { x.wear with
    baseline := 0, present := 0, samples := 0, sum := 0, warned := false, worn := false } })

/-- WEAR_RESET (Table 7.7). -/
def wearReset (d : Bytes) (s : State) : CmdEnd :=
  let p := u8 d 0
  if 192 ≤ p then say stRange s
  else if s.mode != .service then say stWrongMode s
  else if phRole (secs s) p = 0 then say stRange s
  else say stDone (freshWear p s)

def execWearReset (t : Nat) (rq : CmdReq) (s : State) : Out :=
  .next (runCommand (serviceSpec 0x0711 4 4 [1, 2, 3]) rq wearReset (advance t s))

end Sys2Proof.Machine
end

