-- ==== Sys2Proof/Machine/MaqOps.lean ====
section
/-! DEFINITION. Maquette's acts (chapter 09): counting, the 10 ms step, cell sets, reads, learning and the record
and its limits. -/

namespace Sys2Proof.Machine

/-- The cells of a string, mapped with their numbers. -/
def mapCells (f : Nat → Cell → Cell) (x : StringM) : StringM := { x with cells := x.cells.map (fun c => (c.1, f c.1 c.2)) }

/-- A flag of a string changes: its fault asserts with the string, and deasserts with the last string's flag. -/
def flagFault (code b : Nat) (was is_ : Bool) (any : StringM → Bool) (s : State) : State :=
  if is_ && !was then chipFault code [b] s
  else if was && !is_ && !s.maq.strings.any (fun x => any x.2) then lowerFault code 0 s
  else s

/-- The tile entry that holds a cell of a string. -/
def tileOfCell (q : Secs) (b i : Nat) : Option Bytes :=
  (cellTiles q b).find? (fun e => decide (teFirstCell e ≤ i) && decide (i < teFirstCell e + teCount e))

/-- String b is in the RESTING phase of an induced rest (R240). -/
def restingNow (s : State) (b : Nat) : Bool := s.balance.rest.any (fun r => r.string == b && r.phase == .resting)

/-- String b is at rest (R255). -/
def atRest (s : State) (b : Nat) : Bool := decide (100 * mqRestTime (secs s) ≤ (s.str b).restSteps)

/-! ### Counting (R248, R249, R252, R254) -/

/-- The bleed current of a cell in 2^-16 mA: commanded, and its tile not latched off (R254, R268). -/
def bleedI (s : State) (b i : Nat) (x : Cell) : Nat :=
  let q := secs s
  let open_ := (tileOfCell q b i).any (fun e => (activePort s e).any (fun p => !(s.port p).offLatch))
  if x.bleeding && open_ then x.vLast * 65536 / mqRBleed q else 0

/-- DIR after a counted period: `hyst` in 0.01 Ah, 3.6·10^9 mA ledger periods each (R252). -/
def dirStep (hyst : Nat) (i : Int) (x : StringM) : StringM :=
  let n := x.dirAh + i
  if !x.charging && i < 0 && decide (n ≤ -(hyst * 3600000000 : Nat)) then { x with charging := true, dirAh := 0 }
  else if x.charging && 0 < i && decide (((hyst * 3600000000 : Nat) : Int) ≤ n) then { x with charging := false, dirAh := 0 }
  else { x with dirAh := n }

/-- I(b, n) of the ledger period that ends: STAGE_IPH of the stage context's newest evaluation, at most two ledger periods
old (R248, Table 1.5). A stage that is off has no evaluations: its phase samples are summed here (assumption 50). -/
def stringCurrent (s : State) (g n : Nat) : Option Int :=
  if stageOn s g then
    (s.ctx (stageCtx g)).iph.bind (fun v => if n ≤ v.1 + 2 then some v.2 else none)
  else (stageIph s g (2 * ledgerTicks)).map (·.1)

/-- One ledger period of one string, at its end: counted on STAGE_IPH, or drift alone (R249, R254). -/
def countString (b : Nat) (s : State) : State :=
  if !isLive s then s
  else
    let q := secs s
    let e := mqString q b
    let x := mapCells (fun _ c => driftCell (msDrift e) c) (s.str b)
    let n := period s - 1
    match (stringStage q b).bind (fun g => stringCurrent s g n) with
    | none =>
      let stopped := x.countStopped || decide (5000 ≤ x.missedRun + 1)
      flagFault 0x0A07 b x.countStopped stopped (·.countStopped)
        (s.setStr b { x with missedRun := x.missedRun + 1, countedRun := 0, countStopped := stopped })
    | some i =>
      let x := mapCells (fun k c => countCell (msCountErr e) i (bleedI s b k c) c) x
      let x := dirStep (ctHyst (stringType q b)) i x
      let stopped := x.countStopped && decide (x.countedRun + 1 < 1000)
      flagFault 0x0A07 b x.countStopped stopped (·.countStopped)
        (s.setStr b { x with
          ahSince := x.ahSince + i, stepSum := x.stepSum + i, stepN := x.stepN + 1, missedRun := 0
          countedRun := x.countedRun + 1, countStopped := stopped, hist := ((n, i) :: x.hist).take 1024 })

/-- Every string's ledger period. -/
def maqLedger (s : State) : State := (maqStrings (secs s)).foldl (fun s b => countString b s) s

/-! ### Temperatures (R250) -/

/-- A sensor value no older than 10 s. -/
def sensorValue (s : State) (x : StringM) (k : Nat) : Option Int :=
  match Tab.find x.temps k with
  | some v => if rackTime s ≤ v.2 + 10 * secTicks then some v.1 else none
  | none => none

/-- The valid values of a string's sensors no older than 10 s. -/
def sensorValues (s : State) (b : Nat) : List Int :=
  ((cellTiles (secs s) b).flatMap tileSensors).filterMap (sensorValue s (s.str b))

/-- T_i, where the string has a valid sensor at all. -/
def cellTemp (s : State) (b i : Nat) (all : List Int) : Int :=
  let own := (tileOfCell (secs s) b i).bind (fun e =>
    sensorValue s (s.str b) (32 * teIndex e + (i - teFirstCell e) * teTempCount e / max 1 (teCount e)))
  own.getD (divRound all.sum (max 1 all.length))

/-- The cells take their temperatures; without a valid value the spec states none: a free one (assumption 31). -/
def takeTemps (b : Nat) (s : State) : State :=
  let all := sensorValues s b
  let missing := all.isEmpty
  let f := drawFree s
  let s := if missing then f.2 else s
  let x := s.str b
  let y := mapCells (fun i c => { c with temp := if missing then signedOf 16 (f.1 % 65536) else cellTemp s b i all }) x
  flagFault 0x0A08 b x.tempMissing missing (·.tempMissing) (s.setStr b { y with tempMissing := missing })

/-! ### The 10 ms step (R253, R255, R261, R263, R264) -/

/-- The sample period the conditions of R263 ask for. -/
def wantedRate (s : State) (b : Nat) : Nat :=
  let x := s.str b
  if x.iBarOk && 2 * ctQ (stringType (secs s) b) < x.iBar.natAbs then 0 else if atRest s b then 2 else 1

/-- The sample period at a 10 ms boundary (R263). -/
def rateStep (b : Nat) (s : State) : State :=
  let x := s.str b
  let w := wantedRate s b
  if w ≤ x.rate then s.setStr b { x with rate := w, slowSince := none }
  else
    match x.slowSince with
    | some (k, a) =>
      if k ≠ w then s.setStr b { x with slowSince := some (w, rackTime s) }
      else if a + secTicks ≤ rackTime s then s.setStr b { x with rate := w, slowSince := none } else s
    | none => s.setStr b { x with slowSince := some (w, rackTime s) }

/-- REST_REQ at a step (R261). -/
def restRequest (b : Nat) (s : State) : State :=
  let x := s.str b
  let e := mqString (secs s) b
  let u := (x.cells.map (fun c => c.2.u)).foldl max 0
  let high := decide (msRestU e * socOne ≤ u)
  if x.restReq && !high then s.setStr b { x with restReq := false }
  else if !x.restReq && high && decide (x.lastRest + 3600 ≤ s.plinth.opSeconds) then
    event 0x8A06 [b] (s.setStr b { x with restReq := true })
  else s

/-- The limits of a string, before any flag makes them 0 (R265). -/
def stringLimits (s : State) (b : Nat) : Nat × Nat :=
  let q := secs s
  let c := stringType q b
  let e := mqString q b
  let x := s.str b
  let temps := sensorValues s b
  let bound (f : Nat → Nat) (most : Nat) : Nat :=
    temps.foldl (fun m t => min m (ctQ c * atTemp c f t * 65536 / (10 * 2 ^ 32))) (most * 65536)
  let eta := (stringStage q b).elim 1000 (bsEta q)
  powerLimits c eta (bound (ctIDis c) (msIDis e)) (bound (ctIChg c) (msIChg e))
    (x.cells.map (fun k => (emfOf c x.charging k.2, reffOf c (msHorizon e) k.2)))

/-- The record of a string (Table 9.2, R264 to R266). -/
def publishString (b : Nat) (s : State) : State :=
  let x := s.str b
  let cells := x.cells.map (·.2)
  let zero := x.countStopped || !x.readDone || x.cellMissing || x.tempMissing
  let lim := if zero then (0, 0) else stringLimits s b
  let lo := leastAt (cells.map (·.soc))
  let hi := greatestAt (cells.map (·.soc))
  let den := lo.1 + socFull - hi.1
  let flags := flag x.stale + 2 * flag x.restReq + 4 * flag x.countStopped + 8 * flag (!x.readDone)
    + 16 * flag x.cellMissing + 32 * flag x.tempMissing + 64 * flag x.charging
  s.setStr b { x with pub := {
    tag := period s, at_ := rackTime s, fresh := true, dis := lim.1, chg := lim.2
    soc := if den = 0 then 0 else socOut (lo.1 * socFull / den)
    u := socOut ((cells.map (·.u)).foldl max 0), q := ((cells.map (·.q)).foldl min (2 ^ 40) + 32768) / 65536
    flags := flags, rate := x.rate, r := ((cells.map (·.r)).sum + 32768) / 65536, r0 := (cells.map (·.r0)).sum
    socMin := socOut lo.1, socMax := socOut hi.1, cellMin := lo.2, cellMax := hi.2 } }

/-- The mean of the step just ended. With no counted period the spec states none: a free value, and no rest. -/
def closeStep (b : Nat) (s : State) : State :=
  let x := s.str b
  let f := drawFree s
  let s := if x.stepN = 0 then f.2 else s
  let i := if x.stepN = 0 then signedOf 25 (f.1 % 2 ^ 25) else divRound x.stepSum x.stepN
  let rest := x.stepN != 0 && decide (x.stepSum.natAbs ≤ mqRestI (secs s) * x.stepN)
  s.setStr b { x with
    iBar := i, iBarOk := x.stepN != 0, stepSum := 0, stepN := 0, restSteps := if rest then x.restSteps + 1 else 0
    restReadAt := if rest then x.restReadAt else none }

/-- One string at a 10 ms boundary; `step` numbers the boundary. -/
def stepString (step b : Nat) (s : State) : State :=
  if !isLive s then s
  else
    let q := secs s
    let s := takeTemps b (closeStep b s)
    if !isLive s then s
    else
      let x := s.str b
      let s := s.setStr b (mapCells (fun _ c => relaxStep (stringType q b) x.iBar c) x)
      let s := publishString b (rateStep b (restRequest b s))
      let r := (s.str b).rate
      if r = 0 || r = 1 && step % 10 = 0 || r = 2 && step % 100 = 0 then
        issueSample b (r == 2) ((s.str b).cells.any (fun c => c.2.bleeding)) s
      else s

/-! ### Sets (R253, R255 to R260, R265) -/

/-- A voltage or temperature of a set that is there and valid. -/
def setVolt (d : CellData) (i : Nat) : Option Nat := (Tab.find d.volts i).filter (· != 0xFFFF)

/-- The cells a set was asked of. -/
def setCovers (q : Secs) (b : Nat) (d : CellData) (i : Nat) : Bool := (tileOfCell q b i).any (fun e => d.tiles.contains (teIndex e))

/-- The current of a ledger period (R253). -/
def currentAt (x : StringM) (n : Nat) : Option Int := (x.hist.find? (fun h => h.1 == n)).map (·.2)

/-- Values of a set enter the cells; runs of sets without a cell (R265). -/
def takeSet (b : Nat) (d : CellData) (s : State) : State :=
  let q := secs s
  let x := s.str b
  let y := mapCells (fun i c =>
    match setVolt d i with
    | some v => { c with v := some v, vLast := v, missRun := 0 }
    | none => { c with v := none, missRun := c.missRun + flag (setCovers q b d i) }) x
  let temps := d.temps.foldl (fun l t => if t.2 = -32768 then l else Tab.set l t.1 (t.2, d.at_)) x.temps
  let gone := y.cells.filter (fun c => c.2.missRun == mqMissSets q && (Tab.get {} x.cells c.1).missRun != mqMissSets q)
  let missing := y.cells.any (fun c => decide (mqMissSets q ≤ c.2.missRun))
  let s := s.setStr b { y with temps := temps, cellMissing := missing }
  let s := gone.foldl (fun s c => if isLive s then chipFault 0x0A01 [b, c.1] s else s) s
  if isLive s && x.cellMissing && !missing && !s.maq.strings.any (fun z => z.2.cellMissing) then lowerFault 0x0A01 0 s else s

/-- Residuals of a set (R253). -/
def residuals (b : Nat) (i : Int) (s : State) : State :=
  let q := secs s
  let c := stringType q b
  let x := s.str b
  let y := mapCells (fun _ k =>
    match k.v with
    | none => k
    | some v =>
      let e := (v * 2 ^ 32 : Nat) - (emfOf c x.charging k - dropOf (rxOf c k) i)
      if mqResidMax q * 2 ^ 32 < e.natAbs then
        { k with residRun := k.residRun + 1, residOk := 0, suspended := k.suspended || decide (3 ≤ k.residRun + 1) }
      else { k with residRun := 0, residOk := k.residOk + 1, suspended := k.suspended && decide (k.residOk + 1 < 3) }) x
  let told := y.cells.filter (fun k => k.2.v.isSome && k.2.residRun == 3)
  told.foldl (fun s k => if isLive s then chipPulse 0x0A02 [b, k.1] s else s) (s.setStr b y)

/-- Resistance learning from two consecutive sets (R259); `old` holds the cells as the set before left them. -/
def learnR (b : Nat) (old : Tab Cell) (di : Int) (s : State) : State :=
  let q := secs s
  let c := stringType q b
  let x := s.str b
  let top (k : Cell) : Nat := k.r0 * 65536 * mqRMaxRatio q / 10
  let y := mapCells (fun i k =>
    match k.v, (Tab.get {} old i).v with
    | some v, some w =>
      if k.suspended then k
      else
        let r := k.r + divRound (rEst c ((v : Int) - w) di k - k.r) (2 ^ mqRAdapt q)
        { k with r := (clampI (k.r0 * 32768) (top k) r).toNat }
    | _, _ => k) x
  let told := y.cells.filter (fun k => k.2.r == top k.2 && (Tab.get {} x.cells k.1).r < top k.2)
  told.foldl (fun s k => if isLive s then chipPulse 0x0A06 [b, k.1] s else s) (s.setStr b y)

/-- Capacity learning at a read (R260), from the cells before the read: answers the cell and whether it was updated. -/
def learnQ (q : Secs) (c : Bytes) (ah : Int) (so uo : Nat) (k : Cell) : Cell × Bool :=
  let drop : Int := (k.socRest : Int) - so
  let limit := mqQMaxU q * socOne
  if k.uRest ≤ limit ∧ uo ≤ limit ∧ mqQMinDsoc q * socOne ≤ drop.natAbs then
    let est := qEst (ah * 65536 + k.bleed) drop
    if est ≤ 0 then (k, false)
    else
      let v := k.q + divRound (est - k.q) (2 ^ mqQAdapt q)
      ({ k with q := (clampI (ctQ c * 65536 * mqQMinPct q / 100 : Nat) (ctQ c * 65536 * 110 / 100 : Nat) v).toNat }, true)
  else (k, false)

/-- An open-circuit read (R256, R260): kinds 0 NATURAL, 1 INDUCED, 2 START. -/
def openCircuit (b kind : Nat) (i : Int) (s : State) : State :=
  let q := secs s
  let c := stringType q b
  let x := s.str b
  let x := if kind = 2 then mapCells (fun _ k => { k with v1 := 0, v2 := 0 }) x else x
  let one (k : Cell) : Cell × Bool :=
    match k.v with
    | none => ({ k with bleed := 0 }, false)
    | some v =>
      let o := socOf c x.charging k.temp ((v * 2 ^ 32 : Nat) + k.v1 + k.v2 + dropOf (rxOf c k) i)
      let uo := if kind = 2 then 2 * o.2 else o.2
      let l := if kind = 2 then (k, false) else learnQ q c x.ahSince o.1 uo k
      (fuseCell o.1 uo l.1, l.2)
  let done := x.cells.map (fun k => (k.1, one k.2))
  let change := (done.map (fun k => ((k.2.1.soc : Int) - (Tab.get {} x.cells k.1).soc).natAbs)).foldl max 0
  let least := ctQ c * 65536 * mqQMinPct q / 100
  let low := done.filter (fun k => k.2.1.q == least && least < (Tab.get {} x.cells k.1).q)
  let learned := done.any (fun k => k.2.2)
  let s := event 0x8A01 [b, kind, socOut change] (s.setStr b { x with
    cells := done.map (fun k => (k.1, k.2.1)), ahSince := 0, lastRest := s.plinth.opSeconds, stale := false, readDone := true
    restReq := x.restReq && kind == 2, restReadAt := if kind = 2 then x.restReadAt else some s.plinth.opSeconds, startPast := true })
  let s := low.foldl (fun s k => if isLive s then chipPulse 0x0A05 [b, k.1] s else s) s
  if learned && isLive s then
    let m := ((s.str b).cells.map (fun k => k.2.q)).foldl min (2 ^ 40)
    let s := event 0x8A02 [b, (m + 32768) / 65536] s
    requestStore s
  else s

/-- Which read a set is, if any (R255, R258). -/
def readKind (s : State) (b : Nat) : Option Nat :=
  let x := s.str b
  if s.maq.restoreBy.isSome then none
  else if !x.startPast && x.iBarOk && decide (x.iBar.natAbs ≤ mqRestI (secs s)) then some 2
  else if atRest s b && x.restReadAt.all (fun a => decide (a + 3600 ≤ s.plinth.opSeconds)) then
    some (if restingNow s b then 1 else 0)
  else none

/-- A published set reaches Maquette (R134). Without the current of its ledger period it brings voltages and
temperatures alone. -/
def maqSet (b : Nat) (d : CellData) (s : State) : State :=
  let q := secs s
  if !(maqStrings q).contains b then s
  else
    let old := s.str b
    let s := takeSet b d s
    let s := if isLive s then takeTemps b s else s
    match currentAt old (d.at_ / ledgerTicks) with
    | none => s.setStr b { s.str b with lastSet := none }
    | some i =>
      let s := if isLive s then residuals b i s else s
      let s :=
        match old.lastSet with
        | some (a, j) =>
          if isLive s && d.at_ ≤ a + 100 * msTicks
              && decide (mqRStep q * ctQ (stringType q b) ≤ 10 * (i - j).natAbs) && i != j then
            learnR b old.cells (i - j) s
          else s
        | none => s
      if !isLive s then s
      else
        let s := s.setStr b { s.str b with lastSet := some (d.at_, i) }
        match readKind s b with
        | some k => openCircuit b k i s
        | none => s

/-! ### Balancing (R267) -/

/-- The candidates of a string (R267). -/
def balanceCandidates (s : State) (b : Nat) : List (Nat × Nat) :=
  let q := secs s
  let x := s.str b
  let least := (leastAt (x.cells.map (fun c => c.2.soc))).1
  if mqBalStart q = 0 || x.stale || s.balance.holdup || (sensorValues s b).any (fun t => decide (mqBalTMax q < t)) then []
  else
    (x.cells.filter (fun c =>
      (decide (mqBalStart q * socOne ≤ c.2.soc - least) || c.2.bleeding && decide (mqBalStop q * socOne < c.2.soc - least))
      && decide (c.2.u ≤ mqBalMaxU q * socOne) && c.2.v.any (fun v => decide (mqBalVMin q ≤ v)))).map
      (fun c => (c.1, c.2.soc - least))

/-- The first `n` of a list by excess, the lowest number on a tie. -/
def topCells : Nat → List (Nat × Nat) → List Nat
  | 0, _ => []
  | n + 1, l =>
    match l.find? (fun a => l.all (fun b => decide (b.2 ≤ a.2))) with
    | none => []
    | some a => a.1 :: topCells n (l.filter (fun b => b.1 != a.1))

/-- The bleeding cells of a string are chosen and handed to Pavé (R267). -/
def balanceString (b : Nat) (s : State) : State :=
  let q := secs s
  let cand := balanceCandidates s b
  let picks := (cellTiles q b).map (fun e =>
    (e, topCells (mqBalPerTile q) (cand.filter (fun c =>
      decide (teFirstCell e ≤ c.1) && decide (c.1 < teFirstCell e + teCount e)))))
  let sent := (picks.filter (fun p => (activePort s p.1).isSome)).flatMap (·.2)
  let s := picks.foldl (fun s p => issueBleed p.1 (maskOf (p.2.map (· - teFirstCell p.1))) 300 s) s
  let s := pauseBleed b (!sent.isEmpty) s
  s.setStr b (mapCells (fun i c => { c with bleeding := sent.contains i }) (s.str b))

end Sys2Proof.Machine
end

