-- ==== Sys2Proof/Machine/SeqOps.lean ====
section
/-! DEFINITION. The Sequencer's turns that may raise faults (chapter 10): steps up and down, their waits, and what it does
at each ledger boundary. -/

namespace Sys2Proof.Machine

/-- A ledger boundary has passed since the action fell due: the Sequencer acts at boundaries only (R12, chapter 10). -/
def seqDue (s : State) : Bool := decide (s.seq.since / ledgerTicks < period s)

/-- A step is marked flagged (R283). -/
def flagStep (i : Nat) (s : State) : State := s.setSeq { s.seq with flagged := s.seq.flagged ||| (1 <<< i) }

/-- Milliseconds of the step in progress have passed. -/
def seqElapsed (s : State) (ms : Nat) : Bool := decide (s.seq.since + ms * msTicks ≤ rackTime s)

/-- The rails of a step. -/
def stepRails (q : Secs) (i : Nat) : List Nat := (rails q).filter (fun r => bit (spRails q i) r)

/-! ### Up (R280 to R283, R295) -/

/-- The action of step i (R280, R283). A step-0 issue clears the undischarged mask (R297). -/
def issueStep (s : State) : State :=
  let q := secs s
  let i := s.seq.step
  let s := if i = 0 then { s with plinth := { s.plinth with undischarged := 0 } } else s
  let s := s.setSeq { s.seq with phase := .stepWait, since := rackTime s, timedOut := 0 }
  let starts := bitsOf 16 (spKaStart q i)
  let blocked := starts.filter (fun k => !(s.ka k).running && !ilkPasses s k)
  let refused := (stepStages q i).filter (covered s)
  let s := (starts.filter (fun k => !blocked.contains k)).foldl (fun s k => startKa k s) s
  let s := (bitsOf 16 (spKaStop q i)).foldl (fun s k => stopKa k s) s
  let s := ((stepStages q i).filter (fun g => !refused.contains g)).foldl (fun s g => startStage g s) s
  let s := if blocked.isEmpty && refused.isEmpty then s else flagStep i s
  let s := blocked.foldl (fun s k => chipPulse 0x0904 [i, k] s) s
  refused.foldl (fun s g => pulseFault 0x0905 (stageScope s g) (pay [i, g]) s) s

/-- The step in progress has ended: rails up and unflagged come under supervision (R286), and the next step, or RUN,
follows at the next ledger boundary. -/
def endStep (s : State) : State :=
  let q := secs s
  let i := s.seq.step
  let watched := if bit s.seq.flagged i then [] else (stepRails q i).filter (railUp s)
  let s := watched.foldl (fun s r => s.setRail r { s.rail r with supervised := true, outSince := none }) s
  if i + 1 < sqStepCount q then prepareStep (i + 1) s else s.setSeq { s.seq with phase := .upDue, since := rackTime s }

/-- The wait of R280 is over. -/
def stepUp (s : State) : Bool :=
  seqElapsed s (spDwell (secs s) s.seq.step) && (stepRails (secs s) s.seq.step).all (railUp s)

/-- UP_TIMEOUT (R295): a fault for every rail not up, the step flagged, the next step, unless a fault's reaction has
turned the power-up around. -/
def timeOutStep (s : State) : State :=
  let i := s.seq.step
  let l := (stepRails (secs s) i).filter (fun r => !railUp s r)
  let s := l.foldl (fun s r => chipPulse 0x0901 [i, r] s) (flagStep i s)
  if s.seq.phase = .stepWait then endStep s else s

/-- The undischarged wait of R297 is over for a rail. -/
def waitRailOver (s : State) (r : Nat) : Bool := railDischarged s r || seqElapsed s (rlDischTime (secs s) r)

/-- The rails the undischarged wait is for. -/
def waitRails (s : State) : List Nat := (rails (secs s)).filter (fun r => bit s.plinth.undischarged r)

/-- The undischarged wait ends: step 0 is next (R297). -/
def endUndischarged (s : State) : State :=
  let l := (waitRails s).filter (fun r => !railDischarged s r)
  let s := if l.isEmpty then s else l.foldl (fun s r => chipPulse 0x0902 [0, r] s) (flagStep 0 s)
  if s.seq.phase = .undischarged then prepareStep 0 s else s

/-! ### Down (R282, R296, R298) -/

/-- The guarded stages that keep running through a step's reverse (R298). -/
def keptStages (s : State) : List Nat :=
  if s.seq.cause = causeOff then []
  else (stepStages (secs s) s.seq.step).filter (fun g => stGuarded (secs s) g && stageOn s g)

/-- Step i is reversed (R282, R298). -/
def reverseStep (s : State) : State :=
  let q := secs s
  let i := s.seq.step
  let kept := keptStages s
  let held := hasSec q tyCoupling && (stepStages q i).contains (coStage q) && coupled s
  let s := s.setSeq { s.seq with
    phase := .downWait, since := rackTime s, timedOut := 0, couplingHeld := held
    guardSince := if kept.isEmpty || s.balance.holdup then none else some (rackTime s) }
  let s := (bitsOf 16 (spKaStart q i)).foldl (fun s k => stopKa k s) s
  ((stepStages q i).filter (fun g => !kept.contains g && !(held && g == coStage q))).foldl (fun s g => stopStage g s) s

/-- The reversed step's wait is over (R282, R296, R298). -/
def stepDown (s : State) : Bool :=
  let q := secs s
  let i := s.seq.step
  seqElapsed s (spDwell q i) && (stepRails q i).all (fun r => railDischarged s r || bit s.seq.timedOut r)
    && (keptStages s).isEmpty && !s.seq.couplingHeld

/-- The reversed step has ended: a turnaround, the next reverse, or the end (R294, R296). -/
def endReverse (s : State) : State :=
  let i := s.seq.step
  if s.seq.latched && decide (i ≤ sqTurnaround (secs s)) then startUp i s
  else if i = 0 then completeDown s
  else s.setSeq { s.seq with phase := .reverseDue, step := i - 1, since := rackTime s }

/-- The guarded stages of the step being reversed stop. -/
def stopKept (s : State) : State := (keptStages s).foldl (fun s g => stopStage g s) s

/-! ### Each ledger boundary -/

/-- The scope of a fault of a rail: of the stage whose PHASE_V feeds it, NG for an AIN (Table 12.1). -/
def railScope (s : State) (r : Nat) : Nat :=
  let sel := rlSrc (secs s) r
  if selKind sel = 3 then phaseScope s (selIndex sel) else 0

/-- 0x0903 is asserted while a rail reported by R286 stays out under supervision. -/
def lowerRailFault (s : State) : State :=
  let s := (rails (secs s)).foldl (fun s r =>
    let x := s.rail r
    if x.out && (!x.supervised || x.marginBusy || railInWindow s r) then s.setRail r { x with out := false } else s) s
  (List.range 5).foldl (fun s k =>
    if (rails (secs s)).any (fun r => (s.rail r).out && railScope s r == k) then s else lowerFault 0x0903 k s) s

/-- 0x0906 is asserted while a contact reported by R291 disagrees with its output. -/
def lowerContactFault (s : State) : State :=
  let s := (List.range 16).foldl (fun s k =>
    let x := s.ka k
    if x.told && contactClosed s k == x.running then s.setKa k { x with told := false } else s) s
  if (List.range 16).any (fun k => (s.ka k).told) then s else lowerFault 0x0906 0 s

/-- Supervision resumes SETTLE ms after the margin stage has reached its target (R286). -/
def resumeRails (s : State) : State :=
  (rails (secs s)).foldl (fun s r =>
    let x := s.rail r
    let g := s.stage (rlMargin (secs s) r)
    if x.marginBusy && g.mode == .running && g.reached && g.marginUsed == g.margin then
      s.setRail r { x with marginBusy := false, resumeAt := rackTime s + rlSettle (secs s) r * msTicks, outSince := none }
    else s) s

/-- Guarded stages in a power-down: the wait of R298 counts while hold-up does not hold, and a hold-up that has run out
stops them (R238, R298). -/
def guardLedger (s : State) : State :=
  if s.seq.phase = .downWait then
    if s.balance.exhausted then stopKept s
    else
      s.setSeq { s.seq with
        guardSince := if (keptStages s).isEmpty || s.balance.holdup then none else some (s.seq.guardSince.getD (rackTime s)) }
  else s

/-- The coupling stage is stopped once Clasp's coupling is over (R282). -/
def couplingLedger (s : State) : State :=
  if s.seq.phase = .downWait ∧ s.seq.couplingHeld ∧ ¬ coupled s then
    stopStage (coStage (secs s)) (s.setSeq { s.seq with couplingHeld := false })
  else s

/-- The Sequencer at a ledger boundary: RUN after the last step (R278), outputs refreshed (R288), rails watched, a
reversed step's wait tested (R282). -/
def seqLedger (s : State) : State :=
  let s := if s.seq.phase = .upDue && seqDue s then finishUp s else s
  let s := couplingLedger (guardLedger (resumeRails (watchRails (refreshKas s))))
  let s := lowerContactFault (lowerRailFault s)
  if s.seq.phase = .downWait && stepDown s then endReverse s else s

end Sys2Proof.Machine
end

