-- ==== Sys2Proof/Machine/ObjectViews.lean ====
section
/-! DEFINITION. What the data objects of the host map read (chapter 16): one function per layout. -/

namespace Sys2Proof.Machine

/-! ### Chip, identity and image -/

/-- CHIP_STATUS (Table 16.3). -/
def chipStatus (s : State) : Bytes :=
  let p := s.plinth
  [byte (modeCode s.mode), byte s.collector.heldLevel,
   byte (flag (faultNLow s) + 2 * flag s.pins.pwrFail + 4 * flag s.pins.rackOn + 8 * flag s.pins.safeIn + 16 * flag s.benra.debugUnlocked),
   byte p.resetCause]
    ++ leBytes 4 p.opSeconds ++ leBytes 4 p.powerCycles ++ fit 8 s.benra.bootNonce ++ leBytes 8 (rackTime s)
    ++ leInt 2 s.pins.tj ++ leBytes 2 p.wakeNack ++ (List.range 8).flatMap (fun i => leBytes 2 (Tab.get 0 p.resetCounts (i + 1)))
    ++ fit 8 (p.lastFaults.flatMap (leBytes 2)) ++ zeros 8

/-- IDENTITY (Table 16.4). -/
def identity (s : State) : Bytes :=
  leBytes 2 0x00C0 ++ leBytes 1 0xB1 ++ leBytes 1 (flag (fuseShipped s)) ++ leBytes 4 Config.romVersion ++ leBytes 8 (fuseSerial s)
    ++ leBytes 4 0x1C1920A7 ++ leBytes 4 ((s.benra.patch.map (·.1)).getD 0) ++ leBytes 2 0x0102 ++ zeros 6
    ++ fit 16 (ascii "KST192-B1-FC37")

/-- STAGE_STATE of IMAGE_STATUS. -/
def stageState (s : State) : Nat :=
  if s.loader.session.isNone then 0 else if s.loader.verifying then 2 else if s.loader.verified then 3 else 1

/-- IMAGE_STATUS (Table 16.5). -/
def imageStatus (s : State) : Bytes :=
  let l := s.loader
  leBytes 1 ((l.live.map (·.slot)).getD 0xFF) ++ leBytes 1 (l.pendingSlot.getD 0xFF) ++ leBytes 1 (flag (ownerSlot s).isSome)
    ++ leBytes 1 (stageState s) ++ leBytes 4 (commitSeq s.cs0 0) ++ leBytes 4 (commitSeq s.cs0 1) ++ leBytes 2 l.malformed
    ++ leBytes 1 (rollbackCount s) ++ leBytes 1 (patchRollbackCount s) ++ leBytes 8 ((l.live.map (·.version)).getD 0)
    ++ leBytes 2 ((l.live.map (·.rollbackIndex)).getD 0) ++ leBytes 1 ((ownerSlot s).getD 0xFF) ++ leBytes 1 l.stageReason
    ++ leBytes 4 ((l.session.map (·.declared)).getD 0) ++ leBytes 4 (u32 (sec (secs s) tyIdent) 16)
    ++ leBytes 1 (Tab.get 0 l.reason 0) ++ leBytes 1 (Tab.get 0 l.reason 1) ++ zeros 2

/-- COMMAND_RESULT (Table 16.6). -/
def commandResult (s : State) (p : Nat) : Bytes :=
  let r := (s.hport p).result
  leBytes 2 r.object ++ leBytes 2 r.inst ++ leBytes 1 r.tag ++ leBytes 1 r.status ++ leBytes 1 r.detail ++ zeros 1
    ++ leBytes 4 r.completed ++ zeros 4

/-! ### Memory, ports and sense -/

/-- BANK_COUNTERS (Table 16.7). -/
def bankCounters (s : State) (b : Nat) : Bytes :=
  let x := s.bank b
  let fused := (fusedRepairs s b).length
  leBytes 4 x.corrections ++ leBytes 1 x.softRepairs.length ++ leBytes 1 fused ++ leBytes 1 (8 - fused - x.softRepairs.length)
    ++ leBytes 1 (Tab.get [] s.plinth.suspects b).length ++ leBytes 4 x.scrubPasses ++ leBytes 4 x.doubleErrors

/-- CONFLICT_COUNTERS (R450). -/
def conflictCounters (s : State) : Bytes := (List.range 16).flatMap (fun m => leBytes 4 (Tab.get 0 s.armature.conflicts m))

/-- STATE of a port in the order of Table 4.12. -/
def portPhaseCode : PortPhase → Nat
  | .disabled => 0
  | .trainLock => 1
  | .trainId => 2
  | .trainTime => 3
  | .active => 4
  | .standbyLane => 5
  | .failed => 6

/-- PORT_STATUS (Table 16.8). -/
def portStatus (s : State) (p : Nat) : Bytes :=
  let x := s.port p
  let single := (tileOfPort (secs s) p).all (fun e => teAlt e == 0xFF)
  leBytes 1 (portPhaseCode x.phase) ++ leBytes 1 (if single then 0 else if x.activeLane then 1 else 2) ++ leBytes 1 (flag x.offLatch)
    ++ leBytes 1 x.offCause ++ leBytes 2 x.lat ++ leBytes 2 x.offCount ++ leBytes 2 x.eyeV ++ leBytes 1 x.eyeH ++ leBytes 1 x.ctle
    ++ leInt 2 x.trimSum ++ zeros 2
    ++ [x.upInvalid, x.upLockLoss, x.dnInvalid, x.late, x.edgeRange, x.svcTimeout, x.retrain, x.failover, x.trim].flatMap (leBytes 4)
    ++ leBytes 4 x.cellDiscard

/-- A sample word (Table 5.2). -/
def sampleWord (x : Sample) : Bytes :=
  leInt 3 x.value ++ leBytes 1 (flag x.valid + 2 * flag x.sat + 4 * flag x.mark) ++ leBytes 4 x.close

/-- PHASE_SAMPLES (Table 16.9). -/
def phaseSamples (s : State) (p : Nat) : Bytes :=
  let x := s.sense p
  sampleWord x.i ++ sampleWord x.v ++ sampleWord x.t ++ leInt 4 x.ocLimit ++ leBytes 4 x.missing0 ++ leBytes 4 x.missing1
    ++ leBytes 4 x.missing2

/-- INPUT_SAMPLES (Table 16.10). -/
def inputSamples (s : State) (i : Nat) : Bytes :=
  if i < 32 then
    let x := Tab.get {} s.pave.ains i
    sampleWord x.word ++ leBytes 4 x.raw ++ zeros 4
  else
    let x := s.setIn (i - 32)
    let raw := if i < 36 then (divRound (x.codes.filterMap id).sum (max 1 (x.codes.filterMap id).length)).toNat else x.raw
    sampleWord x.word ++ leBytes 4 raw ++ leBytes 4 (if i < 36 then 0 else x.rawHigh)

/-- The input of INPUT_SAMPLES is enabled. -/
def inputOn (s : State) (i : Nat) : Bool :=
  if i < 32 then u8 (seAin (secs s) i) 0 == 1 else decide (i < 40) && setInOn (seSetIn (secs s) (i - 32))

/-! ### Loops and modulation -/

/-- CONTEXT_STATUS (Table 16.11). -/
def contextStatus (s : State) (c : Nat) : Bytes :=
  let x := s.ctx c
  let form := ctxForm (lcRec (secs s) c)
  let i := if form = 1 ∨ form = 4 then upper x.i else 0
  let flags := flag x.outSat + 2 * flag x.stale + 4 * flag x.vinLow + 8 * flag x.accSat + 16 * flag x.mantSat
    + 32 * flag (x.mode != .closed) + 64 * flag (x.mode == .manual) + 128 * flag (x.pending.isSome || !x.pendPoints.isEmpty)
    + 256 * flag (s.loops.inject.any (fun j => j.ctx == c)) + 512 * flag x.evaluated
  leInt 4 x.ySat ++ leInt 4 x.y ++ leInt 4 i ++ leBytes 2 flags ++ leBytes 1 (x.cells.elim 0xFF (·.1))
    ++ leBytes 1 (x.cells.elim 0xFF (·.2)) ++ leBytes 4 x.slip ++ leBytes 4 x.evals ++ leBytes 4 x.lastIssue ++ zeros 4

/-- ENGINE_STATUS (Table 16.12). -/
def engineStatus (s : State) (k : Nat) : Bytes :=
  let x := s.engine k
  leBytes 1 x.state ++ leBytes 1 x.lastVector ++ zeros 2 ++ leBytes 4 x.proofs ++ leBytes 4 x.fails ++ leBytes 4 x.failedAt

/-- CAPTURE_STATUS (Table 16.13). -/
def captureStatus (s : State) : Bytes :=
  let k := s.loops.capture
  leBytes 1 k.state ++ leBytes 1 k.stopCause ++ leBytes 2 k.ctx ++ leBytes 4 k.samples.length ++ leBytes 8 k.trigTime
    ++ leBytes 4 k.trigIndex ++ (List.range 4).flatMap (fun j => leBytes 1 (k.exps.getD j 0 % 64).toNat) ++ leBytes 2 k.decimation
    ++ zeros 6

/-- Word j of a signal of the capture buffer (R175): the mantissa, and the time since the sample before. -/
def captureWord (k : Capture) (signal j : Nat) : Bytes :=
  let n := k.samples.length
  if n ≤ j then zeros 4
  else
    let x := k.samples.getD (n - 1 - j) (0, [])
    let dt := if j = 0 then 0 else min 0xFF ((x.1 - (k.samples.getD (n - j) (0, [])).1) / 320)
    leInt 3 (x.2.getD signal 0) ++ leBytes 1 dt

/-- Word j of the injection table (R448). -/
def tableWord (t : Tab Int) (j : Nat) : Bytes := leInt 3 (Tab.get 0 t j) ++ [0]

/-- `n` bytes from an offset of an object of four-byte words. -/
def wordBytes (f : Nat → Bytes) (off n : Nat) : Bytes :=
  slice ((List.range ((off % 4 + n + 3) / 4)).flatMap (fun k => f (off / 4 + k))) (off % 4) n

/-- PH_STATE of PHASE_MODULATION. -/
def phaseStateCode (s : State) (p : Nat) : Nat :=
  let x := s.ph p
  let g := phStage (secs s) p
  if x.wear.state == .retired then 2
  else if !works s p then 3
  else if !(stageOn s g) then 5
  else if !phaseUp s p then 4
  else if x.shed then 1 else 0

/-- PHASE_MODULATION (Table 16.14). -/
def phaseModulation (s : State) (p : Nat) : Bytes :=
  let x := s.ph p
  leBytes 1 (phRole (secs s) p) ++ leBytes 1 (phaseStateCode s p) ++ leInt 2 x.trim ++ leBytes 1 x.dtLead ++ leBytes 1 x.dtTrail
    ++ zeros 2 ++ wearBytes (wearNow s p) ++ [x.missed, x.staleSkip, x.minSkip, x.riseClamped, x.frameFull].flatMap (leBytes 4)

/-- STATE of a stage in the order of Table 7.2. -/
def stageModeCode : StageMode → Nat
  | .stopped => 0
  | .starting => 1
  | .running => 2
  | .braking => 3
  | .crowbar => 4

/-- STAGE_STATUS (Table 16.15). -/
def stageStatus (s : State) (g : Nat) : Bytes :=
  let x := s.stage g
  let b := Tab.get {} s.balance.cur.stages g
  let plain := !hasRamp (secs s) g
  let ref := (selNewest s (stageCtx g) (ctxRef (lcRec (secs s) (stageCtx g))) 0).1
  let direct := clampI (-2147483648) 2147483647 (toExp ref.1 ref.2 23)
  leBytes 1 (stageModeCode x.mode)
    ++ leBytes 1 (flag x.reached + 2 * flag x.tracking + 4 * flag x.holdupNamed + 8 * flag (covered s g))
    ++ [x.pub.nWork, x.pub.nAvail, x.pub.nAct, x.pub.reservesFit, x.pub.retirePending].flatMap (leBytes 1) ++ leInt 1 x.margin
    ++ leInt 4 (if plain then direct else divRound (x.ramp.getD 0) 100)
    ++ leInt 4 (if plain then direct else divRound x.target 100)
    ++ leBytes 4 b.pSup ++ leBytes 4 b.pDrw ++ leBytes 2 x.pub.maxDrift ++ zeros 2 ++ leBytes 4 x.pub.tag

/-! ### Rack, cells and recorder -/

/-- The quantity numbers of Table 8.8 that the image declares. -/
def quantityNo (s : State) (k : Nat) : Bool :=
  let q := secs s
  decide (k < 12) && (declaredStrings q).contains k || within 0x10 0x17 k
    || within 0x100 0x13F k && stageDeclared q (k - 0x100) || within 0x140 0x17F k && stageDeclared q (k - 0x140)

/-- BALANCE_QUANTITY (R450). -/
def balanceQuantity (s : State) (k : Nat) : Bytes :=
  leBytes 8 s.balance.cur.tag ++ leInt 4 (quantity s.balance.cur k)

/-- BALANCE_STATUS (Table 16.16). -/
def balanceStatus (s : State) : Bytes :=
  let b := s.balance
  let phase := match b.rest.map (·.phase) with
    | some .rampDown => 1
    | some .resting => 2
    | some .rampUp => 3
    | _ => 0
  leBytes 1 (flag b.holdup) ++ leBytes 1 (if b.holdup then b.holdupTrigger else 0) ++ leBytes 1 ((b.rest.map (·.string)).getD 0xFF)
    ++ leBytes 1 phase ++ leBytes 2 (maskOf ((List.range 12).filter (fun k => (s.str k).restReq)))
    ++ leBytes 2 (maskOf ((List.range 12).filter (fun k => (Tab.get {} b.strings k).noRest)))
    ++ leBytes 4 (divRound b.eCh 100000).toNat ++ leBytes 1 (flag b.divert) ++ zeros 3

/-- STATE and STEP of SEQUENCE_STATUS. -/
def sequenceState (s : State) : Nat × Nat :=
  match s.seq.phase with
  | .idle => (0, 0xFF)
  | .up => (0, 0xFF)
  | .undischarged => (1, s.seq.step)
  | .readWait => (2, s.seq.step)
  | .issueDue => (3, s.seq.step)
  | .stepWait => (3, s.seq.step)
  | .upDue => (3, s.seq.step)
  | .reverseDue => (4, s.seq.step)
  | .downWait => (4, s.seq.step)

/-- SEQUENCE_STATUS (Table 16.17). -/
def sequenceStatus (s : State) : Bytes :=
  leBytes 1 (sequenceState s).1 ++ leBytes 1 (sequenceState s).2 ++ leBytes 1 s.seq.cause
    ++ leBytes 1 (bitsOf 64 s.seq.flagged).length ++ leBytes 4 s.plinth.undischarged ++ leBytes 2 (kaMask s)
    ++ leBytes 1 (flag s.seq.latched) ++ zeros 1 ++ leBytes 8 s.seq.flagged ++ zeros 4

/-- STATE of RAIL_STATUS. -/
def railState (s : State) (r : Nat) : Nat :=
  if (railValue s r).isNone then 0
  else if railUp s r then 1
  else if railInWindow s r then 4
  else if railDischarged s r then 3 else 2

/-- RAIL_STATUS (Table 16.18). -/
def railStatus (s : State) (r : Nat) : Bytes :=
  let x := s.rail r
  let w := (railWindow s r).getD (0, 0)
  leInt 4 (voltSample s (rlSrc (secs s) r)).value ++ leBytes 1 (railState s r)
    ++ leBytes 1 (flag (x.supervised && !x.marginBusy && decide (x.resumeAt ≤ rackTime s))) ++ zeros 2 ++ leInt 4 w.1 ++ leInt 4 w.2

/-- STRING_RECORD (Table 9.2). -/
def stringRecord (s : State) (b : Nat) : Bytes :=
  let r := (s.str b).pub
  leBytes 8 r.tag ++ leBytes 4 r.dis ++ leBytes 4 r.chg ++ leBytes 2 r.soc ++ leBytes 2 r.u ++ leBytes 2 r.q ++ leBytes 1 r.flags
    ++ leBytes 1 r.rate ++ leBytes 4 r.r ++ leBytes 4 r.r0 ++ leBytes 2 r.socMin ++ leBytes 2 r.socMax ++ leBytes 2 r.cellMin
    ++ leBytes 2 r.cellMax

/-- CELL_STATE (Table 16.19). Before a first set its age counts from rack time 0. -/
def cellState (s : State) (b i : Nat) : Bytes :=
  let x := Tab.get {} (s.str b).cells i
  let at_ := ((s.str b).lastSet.map (·.1)).getD 0
  leBytes 2 (x.v.getD 0xFFFF) ++ leInt 2 x.temp ++ leBytes 2 (socOut x.soc) ++ leBytes 2 (socOut x.u)
    ++ leBytes 2 ((x.q + 32768) / 65536) ++ leBytes 2 ((x.r + 32768) / 65536) ++ leBytes 2 x.r0
    ++ leBytes 1 (flag x.bleeding + 2 * flag (decide (mqMissSets (secs s) ≤ x.missRun)) + 4 * flag x.suspended) ++ zeros 1
    ++ leBytes 4 ((rackTime s - at_) / msTicks)

/-- RECORDER_STATUS (Table 16.20). -/
def recorderStatus (s : State) : Bytes :=
  let v := s.vitrine
  leBytes 1 (flag (v.mount == .mounted)) ++ leBytes 1 (flag (v.fullWritten || v.nextIndex == 0xFFFFFF)) ++ leBytes 1 v.generation
    ++ zeros 1 ++ [v.oldestSeq, v.newestSeq, v.flashedSeq, v.fullDrop, v.stageDrop, v.overwrites].flatMap (leBytes 4)
    ++ leBytes 2 v.retired.length ++ zeros 2

/-- A flushed record found in its sector: the bytes, the TAIL its check takes, and whether it is the sector's first. -/
def findRecord (m : Flash) (addr seq : Nat) : Nat → Nat → Bytes → Bool → Option (Bytes × Bytes × Bool)
  | 0, _, _, _ => none
  | n + 1, off, prev, first =>
    if 4064 < off then none
    else
      let h := flashRead m (addr + off) 16
      let len := 32 + 4 * u8 h 2
      if u16 h 0 = 0xFFFF || 4096 < off + len then none
      else
        let r := flashRead m (addr + off) len
        if u32 h 8 = seq then some (r, prev, first)
        else findRecord m addr seq n (off + len) (r.drop (len - 16)) false

/-- The record of a SEQUENCE with its result, and the status of the read (R381). -/
def recordRead (s : State) (seq : Nat) : Nat × Bytes :=
  let v := s.vitrine
  if v.mount == .notYet then (stNoObject, [])
  else if seq / 2 ^ 24 != v.generation then (stStale, [])
  else if v.nextIndex ≤ seq % 2 ^ 24 then (stNoObject, [])
  else
    match v.staged.find? (fun r => r.seq == some seq) with
    | some r => (stDone, recordBody r ++ zeros 16 ++ [1])
    | none =>
      match v.sectors.find? (fun x => decide (x.firstSeq ≤ seq) && decide (seq ≤ x.lastSeq)) with
      | none => (stStale, [])
      | some x =>
        match findRecord s.cs1 x.addr seq 126 64 (flashRead s.cs1 (x.addr + 16) 16) true with
        | none => (stStale, [])
        | some (r, prev, first) =>
          let linked := !first || seq % 2 ^ 24 == 0 || v.sectors.any (fun y => y.sectorSeq + 1 == x.sectorSeq)
          if !linked then (stDone, r ++ [2])
          else
            match s.benra.recorderKey with
            | none => (stDone, r ++ [4])
            | some key =>
              if recordTail key prev (r.take (r.length - 16)) == r.drop (r.length - 16) then (stDone, r ++ [0])
              else (stIntegrity, r ++ [3])

/-! ### Faults and coupling -/

/-- FAULT_STATUS (Table 16.21). -/
def faultStatus (s : State) (e : Nat) : Bytes :=
  let b := faEntry (secs s) e
  let x := s.input (u16 b 0) (u8 b 2)
  slice b 0 4 ++ leBytes 1 (flag x.asserted + 2 * flag x.latched + 4 * flag x.mismatch + 8 * flag x.testMissed) ++ slice b 5 1
    ++ zeros 2 ++ leBytes 4 x.assertions ++ leBytes 4 x.lastAssert ++ fit 8 x.payload

/-- SAFE_STATUS (Table 16.22). -/
def safeStatus (s : State) : Bytes :=
  let c := s.collector
  leBytes 1 c.heldLevel ++ leBytes 1 c.firstInput
    ++ leBytes 2 ((latchedInputs s).filter (fun x => levelOf (reactionOf s x.1 x.2) != 0)).length
    ++ leBytes 4 (if s.mode == .safe then c.enteredAt else 0) ++ leBytes 8 c.forcedPorts ++ leBytes 8 c.s1Stages ++ zeros 8

/-- STATE of Clasp in the order of Table 11.9. -/
def claspPhaseCode : ClaspPhase → Nat
  | .disabled => 0
  | .detached => 1
  | .check => 2
  | .blocked => 3
  | .discover => 4
  | .ready => 5
  | .closing => 6
  | .contract => 7
  | .ending => 8
  | .lockout => 9

/-- COUPLING_STATUS (Table 16.23). -/
def couplingStatus (s : State) : Bytes :=
  let c := s.clasp
  let closed := (s.ka (coKaPos (secs s))).running && (s.ka (coKaNeg (secs s))).running && hasSec (secs s) tyCoupling
  leBytes 1 (claspPhaseCode c.phase) ++ leBytes 1 (c.role.getD 0xFF) ++ leBytes 1 (if c.tandem then 1 else if c.bridge then 2 else 0)
    ++ leBytes 1 c.patina ++ leBytes 1 c.partnerPatina
    ++ leBytes 1 (flag c.verified + 2 * flag c.untrusted + 4 * flag c.transition.isSome + 8 * flag closed + 16 * flag c.mated)
    ++ leBytes 1 c.lastEnd ++ zeros 1 ++ leBytes 4 (c.contract.elim 0 (·.vc)) ++ leBytes 4 (c.contract.elim 0 (·.pc))
    ++ leBytes 4 (pEff s) ++ leInt 4 (linkNewest s) ++ leBytes 4 c.rIns ++ leBytes 4 c.rC
    ++ leBytes 8 (if c.verified then c.partnerSerial else 0) ++ leBytes 2 (c.partner.elim 0 (·.vendor)) ++ zeros 6
    ++ (List.range 9).flatMap (fun i => leBytes 4 (Tab.get 0 c.counters i))

/-- VDM_MAILBOX (Table 16.24). -/
def vdmMailbox (s : State) (k : Nat) : Bytes :=
  match Tab.find s.clasp.mailbox k with
  | none => zeros 248
  | some e => leBytes 1 1 ++ leBytes 1 e.order ++ leBytes 2 e.vdm.length ++ leBytes 4 e.rxTime ++ fit 240 e.vdm

/-! ### Host ports -/

/-- ATTENTION_STATUS (Table 15.4). -/
def attentionStatus (s : State) : Bytes :=
  let h := s.host
  leBytes 4 h.causes ++ leBytes 2 h.newestFault ++ zeros 2
    ++ leBytes 4 (if h.causes = 0 then 0 else (s.now - h.oldestSince) / msTicks) ++ leBytes 4 h.pulses ++ leBytes 4 h.escalations ++ zeros 12

/-- PORT_COUNTERS (R450). -/
def portCounters (s : State) (p : Nat) : Bytes :=
  let x := s.hport p
  let l := if p = 0 then [x.requests, x.discard, x.pecErr, x.sclTimeout, x.sdaTimeout, x.attnAbort]
    else [x.requests, x.discard, x.busy, x.rtrIgnored, x.tlmSkip, x.busOffs, x.errorPassive]
  fit 32 (l.flatMap (leBytes 4))

end Sys2Proof.Machine
end

