-- ==== Sys2Proof/Machine/Pave.lean ====
section
/-! DEFINITION. The events of Pavé and its command (chapter 05), and the repeat of a cell set (R114). -/

namespace Sys2Proof.Machine

/-! ### Phase windows -/

/-- What a published window sets going: tracking start, braking, wear, rails and interlocks (R204, R206, R209, R284, R290). -/
def windowPublished (p : Nat) (s : State) : State :=
  let q := secs s
  let g := phStage q p
  let s :=
    if phRole q p = 0 then s
    else
      let s := startedUp g (trackWindow g p (s.sense p).i.value s)
      wearWindow g p (brakeWatch (0x3000 + p) g (brakeCheck g s))
  watchInterlocks (0x3000 + p) (watchRailsOf (0x3000 + p) s)

/-- A main window of a phase closes (R120 to R126). -/
def execWindowSamplePublish (t phase : Nat) (s : State) : Out :=
  let s := advance t s
  let s := if running s && decide (phase < 192) then fillSilent phase s else s
  if running s && decide (phase < 192) && windowOpen (sePhase (secs s) phase) (s.sense phase) then
    let s := mainWindow phase s
    .next (if isLive s then windowPublished phase s else s)
  else .next s

/-! ### SENSE_ZERO (R127) -/

def senseZero (d : Bytes) (s : State) : CmdEnd :=
  let g := u8 d 0
  if !stageDeclared (secs s) g || stKind (secs s) g == 0 then say stRange s
  else if s.mode != .service then say stWrongMode s
  else say stAccepted { s with pave := { s.pave with zeroRun := some { stage := g } } }

def execSenseZero (t : Nat) (rq : CmdReq) (s : State) : Out :=
  .next (runCommand (serviceSpec 0x0510 4 4 [1, 2, 3]) rq senseZero (advance t s))

/-- A new offset, the mean of 256 windows in Q1.23. -/
def zeroOffset (z : ZeroRun) (p : Nat) : Int := divRound (Tab.get (0, 0) z.sums p).1 256

/-- The measurement ends: after 256 windows of each phase, or with a gate seen on. -/
def execSenseZeroComplete (t : Nat) (s : State) : Out :=
  let s := advance t s
  match s.pave.zeroRun with
  | none => .next s
  | some z =>
    let l := stagePhases (secs s) z.stage
    let done (s : State) : State := { s with pave := { s.pave with zeroRun := none } }
    if !running s then .next s
    else if z.gated then .next (finishCommand 0x0510 stIntegrity 0 (done s))
    else if !l.all (fun p => (Tab.get (0, 0) z.sums p).2 == 256) then .next s
    else if l.any (fun p => !withinI (-2097152) 2097152 (zeroOffset z p)) then .next (finishCommand 0x0510 stRange 0 (done s))
    else
      let s := l.foldl (fun s p => event 0x8502 [p] (s.setSense p { s.sense p with zero := some (zeroOffset z p) })) (done s)
      .next (finishCommand 0x0510 stDone 0 s)

/-! ### Cell sets (R134, R135, R114) -/

/-- The absolute limits of R135 on one set: 0x0508 with string and cell, 0x050A with string and sensor. -/
def cellLimits (b : Nat) (x : CellData) (s : State) : State :=
  let q := secs s
  let s := x.volts.foldl (fun s v =>
    if v.2 != 0xFFFF && !within (seCellVMin q) (seCellVMax q) v.2 then chipPulse 0x0508 [b, v.1] s else s) s
  x.temps.foldl (fun s v =>
    if v.2 != -32768 && !withinI (seCellTMin q) (seCellTMax q) v.2 then chipPulse 0x050A [b, v.1] s else s) s

/-- A set goes to Maquette; a set still incomplete after its repeat raises 0x040B for each port that owes a value (R114). -/
def publishSet (b : Nat) (x : CellData) (s : State) : State :=
  let q := secs s
  let owing := if x.auto then [] else (owingTiles q x).filterMap (tileEntry q)
  let x := closeSet s x
  let s := { s with pave := { s.pave with published := Tab.set s.pave.published b x } }
  let s := cellLimits b x s
  let s := owing.foldl (fun s e =>
    let p := (activePort s e).getD (tePrimary e)
    pulseFault 0x040B (portScope s p) (pay [p]) s) s
  if isLive s then maqSet b x s else s

/-- A set is published when it is complete, or at SAMPLE_AT + 6 ms (R134); with a tile, the set it sent of itself (R136). -/
def execCellSetPublish (t string : Nat) (tile : Option Nat) (s : State) : Out :=
  let s := advance t s
  let q := secs s
  let due (x : CellData) : Bool := setComplete q x || decide (x.at_ + 6 * msTicks ≤ rackTime s)
  match tile with
  | none =>
    match Tab.find s.pave.openSets string with
    | some x =>
      if running s && due x then
        .next (publishSet string x { s with pave := { s.pave with openSets := Tab.del s.pave.openSets string } })
      else .next s
    | none => .next s
  | some i =>
    match Tab.find s.pave.autoSets i, tileEntry q i with
    | some x, some e =>
      if running s && due x && teIsCell e && teString e == string then
        .next (publishSet string x { s with pave := { s.pave with autoSets := Tab.del s.pave.autoSets i } })
      else .next s
    | _, _ => .next s

/-- A set incomplete 4 ms after SAMPLE_AT is asked for once more by CELL_RESEND (R114, Table 4.7). -/
def execCellResend (t string : Nat) (s : State) : Out :=
  let s := advance t s
  let q := secs s
  match Tab.find s.pave.openSets string with
  | none => .next s
  | some x =>
    if running s && !x.resent && !setComplete q x && decide (x.at_ + 4 * msTicks ≤ rackTime s) then
      let s := { s with pave := { s.pave with openSets := Tab.set s.pave.openSets string { x with resent := true } } }
      .next (((owingTiles q x).filterMap (tileEntry q)).foldl (fun s e =>
        match activePort s e with
        | some p => queueSvc p 0x21 0 x.setId s
        | none => s) s)
    else .next s

/-! ### AIN (R137 to R139) -/

/-- The published average of a channel's codes, the last of them sampled at `close` (R138, R139). -/
def ainPublish (k : Nat) (codes : List Nat) (close : Nat) (s : State) : State :=
  let e := seAin (secs s) k
  let n := codes.length
  let sum := codes.sum
  let v := if u8 e 2 = 3 then divRound sum n else divRound (i32 e 4 * ((sum : Int) - i16 e 8 * n)) (4095 * n)
  let x := Tab.get {} s.pave.ains k
  let out := decide (sum < u16 e 12 * n) || decide (u16 e 14 * n < sum)
  let w : Sample := { value := clamp24 v, valid := true, sat := !fits24 v, close := close, tag := period s }
  let s := { s with pave := { s.pave with ains := Tab.set s.pave.ains k { x with
    codes := [], slot := some close, raw := (divRound sum n).toNat, word := w, recent := ((w.close, w.value) :: x.recent).take 32, out := out } } }
  let s := brakeWatch (0x5000 + k) 64 (watchInterlocks (0x5000 + k) (watchRailsOf (0x5000 + k) s))
  if out && !x.out then chipFault 0x0507 [k] s
  else if s.pave.ains.any (·.2.out) then s
  else lowerFault 0x0507 0 s

/-- The newest sampling instant of a channel: 25,600m + 6,400 × (k mod 4) (R137). -/
def ainSlot (s : State) (k : Nat) : Option Nat :=
  let o := 6400 * (k % 4)
  if rackTime s < o then none else some ((rackTime s - o) / 25600 * 25600 + o)

/-- One code of a channel, of its newest sampling instant; an instant gives one code (R137, R138). -/
def execAinSample (t channel code : Nat) (s : State) : Out :=
  let s := advance t s
  let e := seAin (secs s) channel
  if running s && decide (channel < 32) && ainOn e then
    let x := Tab.get {} s.pave.ains channel
    let codes := min code 4095 :: x.codes
    match (ainSlot s channel).filter (fun a => x.slot != some a) with
    | none => .next s
    | some a =>
      if codes.length < 2 ^ u8 e 1 then
        .next { s with pave := { s.pave with ains := Tab.set s.pave.ains channel { x with codes := codes, slot := some a } } }
      else .next (ainPublish channel codes a s)
  else .next s

/-! ### SPP (R142, R143) -/

/-- A rising edge closes a period, in units of 10 ns: `high` of them after its opening edge the line fell. A rising edge
within 30 ns of the falling edge before it is ignored, and so is a falling edge within 30 ns of its rising edge: that
pulse's duty is outside any DUTY_LO (R142). -/
def execSppRisingEdge (t channel period high : Nat) (s : State) : Out :=
  let s := advance t s
  let k := channel + 4
  let e := seSetIn (secs s) k
  if !running s || 4 ≤ channel || !setInOn e || period ≤ high + 3 then .next s
  else
    let x := s.setIn k
    let nom := u32 e 4
    let ok := decide (100 * ((period : Int) - nom).natAbs ≤ u8 e 8 * nom)
      && decide (u16 e 10 * period ≤ 10000 * high) && decide (10000 * high ≤ u16 e 12 * period)
    let m := mapLinear (u16 e 10) (u16 e 12) (i32 e 16) (i32 e 20) (10000 * high) period
    let s := s.setSetIn k { x with
      lastEdge := rackTime s, raw := period, rawHigh := high, bad := if ok then 0 else x.bad + 1
      good := if ok then x.good + 1 else 0, measured := if ok then m else x.measured
      measuredValid := x.measuredValid || ok }
    let s := if (s.setIn k).fallback && u8 e 9 ≤ (s.setIn k).good then leaveFallback k s else s
    let s := if ok && !(s.setIn k).fallback then publishIn k m false s else s
    if !(s.setIn k).fallback && 3 ≤ (s.setIn k).bad then .next (enterFallback k s) else .next s

/-- The last edge taken of an SPP input, with the falling edge that has come since its rising edge, in units of 10 ns after
it (R142). -/
def lastSppEdge (x : SetIn) (fell : Option Nat) : Nat :=
  x.lastEdge + (fell.elim 0 (fun h => if h ≤ 3 then 0 else 64 * h))

/-- No edge of either polarity has come for 3 × PERIOD_NOM (R142). -/
def execSppEdgeTimeout (x : At (Option Nat)) (channel : Nat) (s : State) : Out :=
  let s := advance x.time s
  let k := channel + 4
  let e := seSetIn (secs s) k
  if running s && decide (channel < 4) && setInOn e && decide (lastSppEdge (s.setIn k) x.brought + 3 * u32 e 4 * 64 ≤ rackTime s) then
    .next (enterFallback k s)
  else .next s

end Sys2Proof.Machine
end

