-- ==== Sys2Proof/Machine/Sequencer.lean ====
section
/-! DEFINITION. The events of the Sequencer and its command (chapter 10). -/

namespace Sys2Proof.Machine

/-- A filtered change of RACK_ON (R277, R278, R293, R294). -/
def execRackOnChange (t : Nat) (level : Bool) (s : State) : Out :=
  let s := advance t s
  if s.pins.rackOn = level then .next s
  else
    let s := { s with pins := { s.pins with
      rackOn := level, rackOnLowSince := if level then s.pins.rackOnLowSince else s.now } }
    if !running s then .next s
    else if level then .next (onRequest s)
    else .next (offRequest s)

/-- A step of a power-up is issued (R280 to R283). -/
def execSequenceStepIssue (t : Nat) (s : State) : Out :=
  let s := advance t s
  if running s && s.seq.phase == .issueDue && seqDue s then .next (issueStep s) else .next s

/-- A step's wait ends: on the way up (R280), or a reversed step's (R282). -/
def execStepWaitEnd (t : Nat) (s : State) : Out :=
  let s := advance t s
  if running s && s.seq.phase == .stepWait && stepUp s then .next (endStep s)
  else if running s && s.seq.phase == .downWait && stepDown s then .next (endReverse s)
  else .next s

/-- The open-circuit reads have come, or READ_WAIT is over (R281). -/
def execReadWaitEnd (t : Nat) (s : State) : Out :=
  let s := advance t s
  if running s && s.seq.phase == .readWait
      && ((unreadStrings s s.seq.step).isEmpty || seqElapsed s (sqReadWait (secs s))) then
    .next (s.setSeq { s.seq with phase := .issueDue })
  else .next s

/-- UP_TIMEOUT of the step expires with a rail not up (R295). -/
def execUpTimeout (t : Nat) (s : State) : Out :=
  let s := advance t s
  let q := secs s
  if running s && s.seq.phase == .stepWait && spUpTimeout q s.seq.step != 0 && seqElapsed s (spUpTimeout q s.seq.step)
      && !(stepRails q s.seq.step).all (railUp s) then
    .next (timeOutStep s)
  else .next s

/-- A step of a power-down is reversed (R282, R298). -/
def execStepReverse (t : Nat) (s : State) : Out :=
  let s := advance t s
  if running s && s.seq.phase == .reverseDue && seqDue s then .next (reverseStep s) else .next s

/-- DISCH_TIMEOUT of a rail of the step being reversed (R296). -/
def execDischTimeout (t rail : Nat) (s : State) : Out :=
  let s := advance t s
  let q := secs s
  let x := s.seq
  if running s && x.phase == .downWait && (stepRails q x.step).contains rail && seqElapsed s (rlDischTime q rail)
      && !railDischarged s rail && !bit x.timedOut rail then
    let s := s.setSeq { x with timedOut := x.timedOut ||| (1 <<< rail) }
    .next (chipPulse 0x0902 [x.step, rail]
      { s with plinth := { s.plinth with undischarged := s.plinth.undischarged ||| (1 <<< rail) } })
  else .next s

/-- The wait for undischarged rails before step 0 ends (R297). -/
def execUndischargedWaitEnd (t : Nat) (s : State) : Out :=
  let s := advance t s
  if running s && s.seq.phase == .undischarged && (waitRails s).all (waitRailOver s) then .next (endUndischarged s) else .next s

/-- GUARD_WAIT has passed without hold-up: the guarded stages of the step stop and it is flagged (R298). -/
def execGuardWaitExpiry (t : Nat) (s : State) : Out :=
  let s := advance t s
  match s.seq.guardSince with
  | some a =>
    if running s && s.seq.phase == .downWait && !s.balance.holdup
        && decide (a + sqGuardWait (secs s) * secTicks ≤ rackTime s) then
      .next (stopKept (flagStep s.seq.step (s.setSeq { s.seq with guardSince := none })))
    else .next s
  | none => .next s

/-- A supervised rail has stayed outside its window for RUN_FILTER (R286). -/
def execRailOutOfWindow (t rail : Nat) (s : State) : Out :=
  let s := advance t s
  let q := secs s
  let s := watchRail rail s
  let x := s.rail rail
  match x.outSince with
  | some a =>
    if running s && rackUp s && !poweringDown s && decide (rail < sqRailCount q) && x.supervised && !x.marginBusy && !x.out
        && rlFilter q rail != 0 && decide (max a x.resumeAt + rlFilter q rail * msTicks ≤ rackTime s) then
      .next (raiseFault 0x0903 (railScope s rail) (pay [rail]) (s.setRail rail { x with out := true }))
    else .next s
  | none => .next s

/-- A keep-alive has not been refreshed for 1 ms (R288). -/
def execKeepaliveHoldExpiry (t ka : Nat) (s : State) : Out :=
  let s := advance t s
  if running s && (s.ka ka).running && decide ((s.ka ka).refreshed + msTicks ≤ s.now) then
    .next (chipPulse 0x0907 [ka] (stopKa ka s))
  else .next s

/-- The auxiliary contact disagrees with the output after FB_DELAY (R291). The direction is 1 while the output runs. -/
def execContactorMismatch (t ka : Nat) (s : State) : Out :=
  let s := advance t s
  let q := secs s
  let x := s.ka ka
  if running s && kaOwner q ka != 0 && kaFbRail q ka != 0xFF && !x.told && contactClosed s ka != x.running
      && decide (x.since + kaFbDelay q ka * msTicks ≤ s.now) then
    .next (chipFault 0x0906 [ka, flag x.running] (s.setKa ka { x with told := true }))
  else .next s

/-- RAIL_MARGIN (R299). -/
def railMargin (d : Bytes) (s : State) : CmdEnd :=
  let g := u8 d 0
  let m := i8 d 1
  if !withinI (-40) 40 m then say stRange s
  else if s.mode != .service then say stWrongMode s
  else if !stageDeclared (secs s) g then say stRange s
  else if (s.stage g).mode != .running then say stWrongMode s
  else if !(stKind (secs s) g == 5 || g == baBus (secs s)) then say stRange s
  else if stGuarded (secs s) g then say stDenied s
  else say stDone (setMargin g m s)

def execRailMargin (t : Nat) (rq : CmdReq) (s : State) : Out :=
  .next (runCommand (serviceSpec 0x0910 4 4 [2, 3]) rq railMargin (advance t s))

end Sys2Proof.Machine
end

