-- ==== Sys2Proof/Machine/HostServe.lean ====
section
/-! DEFINITION. The dispatcher of host requests (R418, R442 to R449): which object a request reaches, its checks in
order, what is read and what is written. -/

namespace Sys2Proof.Machine

/-! ### The map (R442, Tables 16.1, 16.2) -/

/-- What a request finds at an object and instance. -/
inductive View where
  /-- Outside the map. -/
  | absent
  /-- A data object, read whole. -/
  | bytes (b : Bytes)
  /-- A signal of the capture buffer. -/
  | capture (signal : Nat)
  | injection
  /-- The recorder record, read through a port's copy. -/
  | record
  /-- A command object. -/
  | command

/-- A view that exists where a condition holds. -/
def viewIf (c : Bool) (b : Bytes) : View := if c then .bytes b else .absent

/-- Command objects (Table 16.2) beside CHIP_RESTART and ATTEST, which share an object ID with data. -/
def commandObjects : List Nat :=
  [0x0510, 0x0610, 0x0611, 0x0612, 0x0613, 0x0614, 0x0615, 0x0616, 0x0617, 0x0710, 0x0711, 0x0910, 0x0B10, 0x0B11, 0x0C10,
   0x0D10, 0x0D11, 0x0D12, 0x0D13, 0x0D14, 0x0D15, 0x0D16, 0x0D17, 0x0D18, 0x0D19, 0x0D1A, 0x0D1B, 0x0E10, 0x0E11, 0x0E12, 0x0E13]

/-- The map as a port sees it. -/
def view (s : State) (port o i : Nat) : View :=
  let q := secs s
  let one (b : Bytes) : View := viewIf (i == 0) b
  if o = 0x0101 then (if i = 1 then .command else one (chipStatus s))
  else if o = 0x0201 then viewIf (decide (i < 8)) (bankCounters s i)
  else if o = 0x0202 then one (conflictCounters s)
  else if o = 0x0401 then viewIf ((declaredPorts q).contains i) (portStatus s i)
  else if o = 0x0501 then viewIf (decide (i < 192) && spOsr (sePhase q i) != 0) (phaseSamples s i)
  else if o = 0x0502 then viewIf (inputOn s i) (inputSamples s i)
  else if o = 0x0601 then viewIf (lcHas q i) (contextStatus s i)
  else if o = 0x0602 then viewIf (decide (i < 9)) (engineStatus s i)
  else if o = 0x0603 then one (captureStatus s)
  else if o = 0x0604 then (if i < 4 then .capture i else .absent)
  else if o = 0x0605 then (if i = 0 then .injection else .absent)
  else if o = 0x0701 then viewIf (decide (i < 192) && phRole q i != 0) (phaseModulation s i)
  else if o = 0x0702 then viewIf (stageDeclared q i) (stageStatus s i)
  else if o = 0x0801 then viewIf (quantityNo s i) (balanceQuantity s i)
  else if o = 0x0802 then one (balanceStatus s)
  else if o = 0x0901 then one (sequenceStatus s)
  else if o = 0x0902 then viewIf (decide (i < sqRailCount q)) (railStatus s i)
  else if o = 0x0A01 then viewIf ((maqStrings q).contains i) (stringRecord s i)
  else if o = 0x0A02 then
    viewIf ((maqStrings q).contains (i / 256) && decide (i % 256 < msCells (mqString q (i / 256)))) (cellState s (i / 256) (i % 256))
  else if o = 0x0B01 then one (recorderStatus s)
  else if o = 0x0B02 then one (leBytes 4 (s.hport port).cursor)
  else if o = 0x0B03 then (if i = 0 then .record else .absent)
  else if o = 0x0C01 then viewIf (decide (i < faEntryCount q)) (faultStatus s i)
  else if o = 0x0C02 then one (safeStatus s)
  else if o = 0x0D01 then (if i = 1 then .command else one (identity s))
  else if o = 0x0D02 then one (imageStatus s)
  else if o = 0x0D03 then viewIf (decide (i < 3)) (commandResult s i)
  else if o = 0x0E01 then one (couplingStatus s)
  else if o = 0x0E02 then viewIf (decide (i < 4)) (vdmMailbox s i)
  else if o = 0x0F01 then one (attentionStatus s)
  else if o = 0x0F02 then viewIf (decide (i < 3)) (portCounters s i)
  else if commandObjects.contains o && i == 0 then .command
  else .absent

/-- The objects marked BOOT (Table 16.1). -/
def bootObjects : List Nat := [0x0101, 0x0D01, 0x0D02, 0x0D03]

/-- A data object is served in the chip's mode (Table 16.1). -/
def objectServed (s : State) (o : Nat) : Bool :=
  bootObjects.contains o || running s || s.mode == .test

/-- In BOOT only some objects are served, and others answer WRONG_MODE before any other check (R444, R415). -/
def bootRefuses (s : State) (r : Request) : Bool :=
  s.mode == .boot && (if s.phase == .selfTestFailed then
      !(decide (r.op = 1 ∨ r.op = 4) && r.inst == 0 && (r.object == 0x0101 || r.object == 0x0D01))
    else !bootObjects.contains r.object)

/-! ### Reads (R419, R446, R449) -/

/-- An offset into an object of a length: RANGE, or the bytes asked for. -/
def readBytes (b : Bytes) (off n : Nat) : Nat × Bytes := if b.length ≤ off then (stRange, []) else (stDone, slice b off n)

/-- A read of an object of 65,536 words. -/
def readWords (f : Nat → Bytes) (off n : Nat) : Nat × Bytes :=
  if 262144 ≤ off then (stRange, []) else (stDone, wordBytes f off (min n (262144 - off)))

/-- What a read answers: the status and the bytes (R419, R443 steps 5 to 7). -/
def readView (s : State) (port off n : Nat) : View → Nat × Bytes
  | .absent => (stNoObject, [])
  | .command => (stDenied, [])
  | .bytes b => readBytes b off n
  | .capture k =>
    if 262144 ≤ off then (stRange, [])
    else if s.loops.capture.state = 1 ∨ s.loops.capture.state = 2 then (stBusy, [])
    else readWords (captureWord s.loops.capture k) off n
  | .injection => readWords (tableWord s.loops.table) off n
  | .record =>
    let x := if off = 0 then recordRead s (s.hport port).cursor
      else match (s.hport port).copy with
        | none => (stRange, [])
        | some b => (if b.getLast? = some 3 then stIntegrity else stDone, b)
    if x.2.isEmpty then x
    else if x.2.length ≤ off then (stRange, []) else (x.1, slice x.2 off n)

/-- What a read leaves behind: the port's copy of a record (R382, R446), and the causes it has read (R429). -/
def afterRead (r : Request) (s : State) : State :=
  let p := portNo r.port
  if r.object = 0x0B03 ∧ r.offset = 0 then
    let x := recordRead s (s.hport p).cursor
    s.setHport p { s.hport p with copy := if x.2.isEmpty then none else some x.2 }
  else if r.object = 0x0F01 ∧ r.offset = 0 ∧ 4 ≤ r.length then { s with host := { s.host with causes := 0 } }
  else s

/-! ### Writes (R446 to R448) -/

/-- An injection table write: whole words, their reserved bytes 0. -/
def tableWrite (r : Request) (s : State) : Nat × State :=
  if 262144 < r.offset + r.length then (stOversize, s)
  else if r.offset % 4 ≠ 0 ∨ r.length % 4 ≠ 0 then (stRange, s)
  else if (List.range (r.length / 4)).any (fun k => u8 r.data (4 * k + 3) != 0) then (stRange, s)
  else if s.loops.inject.any (fun j => decide (2 ≤ j.wave)) then (stBusy, s)
  else
    let t := (List.range (r.length / 4)).foldl (fun t k => Tab.set t (r.offset / 4 + k) (i24 r.data (4 * k))) s.loops.table
    (stDone, { s with loops := { s.loops with table := t } })

/-- A write of a data object that has passed the checks before its size. -/
def writeObject (r : Request) (s : State) : Nat × State :=
  let p := portNo r.port
  if r.object = 0x0B02 then
    if 4 < r.offset + r.length then (stOversize, s)
    else if r.length ≠ 4 then (stRange, s)
    else (stDone, s.setHport p { s.hport p with cursor := u32 r.data 0 })
  else if r.object = 0x0E02 then
    if 248 < r.offset + r.length then (stOversize, s)
    else if r.offset ≠ 0 ∨ r.data ≠ [0] then (stRange, s)
    else (stDone, s.setClasp { s.clasp with mailbox := Tab.del s.clasp.mailbox r.inst })
  else tableWrite r s

/-- A data object takes writes (Table 16.1). -/
def writable (o : Nat) : Bool := o == 0x0B02 || o == 0x0E02 || o == 0x0605

/-! ### Serving a request for data (R443) -/

/-- Steps 2 to 7 of R443 for a request that is not a command: the status, the data and the state after. -/
def serveData (r : Request) (s : State) : Nat × Bytes × State :=
  let v := view s (portNo r.port) r.object r.inst
  let resv := r.trailer.any (fun t => t.resv != 0)
  match v with
  | .absent => (stNoObject, [], s)
  | .command => (stDenied, [], s)
  | _ =>
    if r.op = 2 ∨ r.op = 3 then
      if !writable r.object || (r.object == 0x0605 && r.trailer.isNone) then (stDenied, [], s)
      else if !objectServed s r.object || s.mode == .test || (r.object == 0x0605 && s.mode != .service) then (stWrongMode, [], s)
      else
        let w := writeObject r s
        if resv && w.1 != stOversize then (stRange, [], s) else (w.1, [], w.2)
    else if !objectServed s r.object then (stWrongMode, [], s)
    else
      let x := readView s (portNo r.port) r.offset r.length v
      if resv then (stRange, [], s) else (x.1, x.2, if x.1 = stDone ∨ x.1 = stIntegrity then afterRead r s else s)

/-- The role a data object's request needs (R443 step 1). -/
def dataRole (o : Nat) : Option Nat := if o = 0x0605 then some 2 else none

/-- A request for a data object, or one the map excludes, through authentication (R421, R443). -/
def serveObject (r : Request) (s : State) : State :=
  match gate r s with
  | some s => s
  | none =>
    let s := takeRequest r s
    if bootRefuses s r || (s.mode == .test && (r.op == 2 || r.op == 3)) then answer r false stWrongMode [] s
    else
      match r.trailer with
      | none =>
        let e := serveData r s
        answer r false e.1 e.2.1 e.2.2
      | some t =>
        let there := match view s (portNo r.port) r.object r.inst with
          | .absent => false
          | _ => true
        let a := authenticate (dataRole r.object) (r.object == 0x0605 && r.op == 3) r t s
        match a.1 with
        | .refused st mac => answer r mac st [] a.2
        | .passed =>
          if there then
            let e := serveData r a.2
            answer r true e.1 e.2.1 e.2.2
          else answer r true stNoObject [] { a.2 with benra := { a.2.benra with session := s.benra.session } }

/-! ### Serving any request -/

/-- The state a command leaves. -/
def stateOf (s : State) : Out → State
  | .next s => s
  | _ => s

/-- The command of a command object (Table 16.2). -/
def runObject (o i : Nat) (c : CmdReq) (s : State) : Option Out :=
  let t := s.now
  let vpp := s.pins.vppFuse
  if o = 0x0101 ∧ i = 1 then some (execChipRestart t c s)
  else if o = 0x0D01 ∧ i = 1 then some (execAttest t c s)
  else if i ≠ 0 then none
  else if o = 0x0510 then some (execSenseZero t c s)
  else if o = 0x0610 then some (execLoopOpen t c s)
  else if o = 0x0611 then some (execLoopSet t c s)
  else if o = 0x0612 then some (execCtxCoefWrite t c s)
  else if o = 0x0613 then some (execLoopClose t c s)
  else if o = 0x0614 then some (execInjectStart t c s)
  else if o = 0x0615 then some (execInjectStop t c s)
  else if o = 0x0616 then some (execCaptureArm t c s)
  else if o = 0x0617 then some (execCaptureAbort t c s)
  else if o = 0x0710 then some (execPhaseRetire t c s)
  else if o = 0x0711 then some (execWearReset t c s)
  else if o = 0x0910 then some (execRailMargin t c s)
  else if o = 0x0B10 then some (execRecorderSeal t c s)
  else if o = 0x0B11 then some (execRecorderClear t c s)
  else if o = 0x0C10 then some (execFaultClear t c s)
  else if o = 0x0D10 then some (execImageStageOpen t c s)
  else if o = 0x0D11 then some (execImageStageWrite t c s)
  else if o = 0x0D12 then some (execImageStageVerify t c s)
  else if o = 0x0D13 then some (execImageStageCommit t c s)
  else if o = 0x0D14 then some (execImageStageAbort t c s)
  else if o = 0x0D15 then some (execImageRollbackAdvance t c vpp s)
  else if o = 0x0D16 then some (execPatchRollbackAdvance t c vpp s)
  else if o = 0x0D17 then some (execServiceOpen t c s)
  else if o = 0x0D18 then some (execServiceClose t c s)
  else if o = 0x0D19 then some (execOwnerEnrol t c vpp s)
  else if o = 0x0D1A then some (execOwnerTransfer t c vpp s)
  else if o = 0x0D1B then some (execDebugUnlock t c s)
  else if o = 0x0E10 then some (execCouplingEnd t c s)
  else if o = 0x0E11 then some (execCouplingRoleSwap t c s)
  else if o = 0x0E12 then some (execCouplingMode t c s)
  else if o = 0x0E13 then some (execCouplingVdmSend t c s)
  else none

/-- A request at the dispatcher: a write of a command object runs its command, any other request is served as data. -/
def serve (r : Request) (s : State) : State :=
  let c : CmdReq := { port := r.port, tag := r.tag, offset := r.offset, data := r.data, trailer := r.trailer, pec := r.pec }
  if malformed r || !(r.op == 2 || r.op == 3) then serveObject r s
  else
    match runObject r.object r.inst c s with
    | some o => stateOf s o
    | none => serveObject r s

end Sys2Proof.Machine
end

