-- ==== Sys2Proof/Machine/HostObjects.lean ====
section
/-! DEFINITION. The requests to data objects (chapter 16). -/

namespace Sys2Proof.Machine

/-- A READ or READ_AUTH of one object, by its authentication. -/
def readOf (object : Nat) (r : Request) : Request := { r with object := object, op := if r.trailer.isSome then 4 else 1 }

/-- A WRITE or WRITE_AUTH of one object, by its authentication. -/
def writeOf (object : Nat) (r : Request) : Request := { r with object := object, op := if r.trailer.isSome then 3 else 2 }

/-- A read of the attention status object (R429). -/
def execAttentionStatusRead (t : Nat) (rq : Request) (s : State) : Out := .next (serveObject (readOf 0x0F01 rq) (advance t s))

/-- A read of the recorder record object (R381, R382, R446). -/
def execRecorderRecordRead (t : Nat) (rq : Request) (s : State) : Out := .next (serveObject (readOf 0x0B03 rq) (advance t s))

/-- A write of the port's recorder cursor (R446). -/
def execRecorderCursorWrite (t : Nat) (rq : Request) (s : State) : Out := .next (serveObject (writeOf 0x0B02 rq) (advance t s))

/-- The release of a VDM mailbox entry (R447). -/
def execVdmMailboxRelease (t : Nat) (rq : Request) (s : State) : Out := .next (serveObject (writeOf 0x0E02 rq) (advance t s))

/-- A write of the injection table (R448). -/
def execInjectionTableWrite (t : Nat) (rq : Request) (s : State) : Out := .next (serveObject (writeOf 0x0605 rq) (advance t s))

/-- Any request at the dispatcher, to any object, by its OP (R418, R443). -/
def execObjectWrite (t : Nat) (rq : Request) (s : State) : Out := .next (serve rq (advance t s))

end Sys2Proof.Machine
end

