-- ==== Sys2Proof/Machine/HostPorts.lean ====
section
/-! DEFINITION. The two-wire target and the CAN FD controllers (chapter 15): transfers, segments, deferred answers,
attention, telemetry and status frames, the settings in force. -/

namespace Sys2Proof.Machine

/-! ### Two-wire transfers (R423 to R427) -/

/-- The bytes a read transfer of `n` bytes returns: the response, its PEC where the request ended with one, 0xFF beyond. -/
def twBytes (s : State) (n : Nat) : Bytes :=
  let p := s.hport 0
  let b := respBytes p.response
  let pec := if p.pec then [byte (crc8 (byte (2 * (0x58 + s.plinth.straps) + 1) :: b))] else []
  (b ++ pec ++ List.replicate n 0xFF).take n

/-- The two-wire target answers its address. -/
def twOn (s : State) : Bool := !portsMute s && portOn s .tw

/-- A read transfer to the target's address returns the response buffer (R423, R424); any other address is not answered. -/
def execTwReadTransfer (t : Nat) (x : TwRead) (s : State) : Out :=
  let s := advance t s
  if twOn s && x.address == 0x58 + s.plinth.straps then .next (s.setHport 0 { s.hport 0 with wire := twBytes s x.bytes }) else .next s

/-- A request is not answered within 1 ms: BUSY with PENDING, and the request is still being served (R426, R435). -/
def execTwResponsePending (t : Nat) (rq : Request) (s : State) : Out :=
  let s := advance t s
  match gate rq s with
  | some s => .next s
  | none =>
    let s := takeRequest rq s
    let n := portNo rq.port
    let r : Response := { status := stBusy, tag := rq.tag, pending := true, attention := s.host.causes != 0 }
    let s := s.setHport n { s.hport n with response := r, serving := some rq.tag, pendingSent := true }
    let s := { s with host := { s.host with lastAnswer := some (n, r) } }
    .next (if n = 0 then s else queueResponse (n - 1) r s)

/-- The final answer of a request answered PENDING: readable on the two-wire port, sent unprompted on CAN (R426, R435). -/
def execDeferredResponse (t : Nat) (port : HostPort) (s : State) : Out :=
  let s := advance t s
  let n := portNo port
  let p := s.hport n
  match p.final with
  | none => .next s
  | some f =>
    let r := { f with attention := s.host.causes != 0 }
    let s := s.setHport n { p with response := r, final := none, serving := none, pendingSent := false }
    .next (if n = 0 then s else queueResponse (n - 1) r s)

/-- SCL low for a time, over 25 ms: the transfer is abandoned (R427). -/
def execSclTimeout (x : At Nat) (s : State) : Out :=
  let s := advance x.time s
  if twOn s && decide (25 * msTicks < x.brought) then .next (event 0x8F03 [0] (s.setHport 0 { s.hport 0 with sclTimeout := sat32 (s.hport 0).sclTimeout 1 })) else .next s

/-- SDA low for a time, over 35 ms (R427). -/
def execSdaTimeout (x : At Nat) (s : State) : Out :=
  let s := advance x.time s
  if twOn s && decide (35 * msTicks < x.brought) then .next (event 0x8F03 [1] (s.setHport 0 { s.hport 0 with sdaTimeout := sat32 (s.hport 0).sdaTimeout 1 })) else .next s

/-! ### Attention (R429 to R431) -/

/-- The target may pulse: causes unread, TW_ENABLE 1, in the HOST section's settings (R430, R438). -/
def attentionOn (s : State) : Bool := s.host.causes != 0 && (s.hport 0).hostSettings && hoTwEnable (secs s) && !portsMute s

/-- 4.7 µs and 100 µs in ticks. -/
def busIdleTicks : Nat := 30080
def pulseTicks : Nat := 640000

/-- A pulse is due: 4.7 µs after the causes became non-zero, then 10 ms after the pulse before. -/
def pulseDue (s : State) : Bool :=
  let h := s.host
  if h.oldestSince ≤ h.lastPulse ∧ h.pulses ≠ 0 then decide (h.lastPulse + 10 * msTicks ≤ s.now)
  else decide (h.oldestSince + busIdleTicks ≤ s.now)

/-- The bus has been idle for a time, both lines high: from 4.7 µs on a pulse that is due starts (R430). -/
def execAttentionPulse (x : At Nat) (s : State) : Out :=
  let s := advance x.time s
  if attentionOn s && pulseDue s && decide (busIdleTicks ≤ x.brought) then
    .next { s with host := { s.host with pulses := sat32 s.host.pulses 1, lastPulse := s.now, pulsing := true } }
  else .next s

/-- SCL goes low during a pulse: SDA is released, and the pulse is due again at the next idle (R430). -/
def execAttentionPulseAbort (t : Nat) (s : State) : Out :=
  let s := advance t s
  if s.host.pulsing && decide (s.now ≤ s.host.lastPulse + pulseTicks) then
    let s := s.setHport 0 { s.hport 0 with attnAbort := sat32 (s.hport 0).attnAbort 1 }
    .next { s with host := { s.host with pulsing := false, lastPulse := s.now + busIdleTicks - 10 * msTicks } }
  else .next s

/-! ### Status frames (R437, Table 15.7) -/

/-- The 16 bytes of a status frame: KIND 1 ESCALATION, 2 PERIODIC. -/
def statusBytes (kind : Nat) (s : State) : Bytes :=
  let sequencing := s.seq.phase != .idle && s.seq.phase != .up
  leBytes 1 kind ++ leBytes 1 (modeCode s.mode) ++ leBytes 1 s.collector.heldLevel
    ++ leBytes 1 (flag (faultNLow s) + 2 * flag (s.vitrine.mount == .mounted) + 4 * flag sequencing) ++ leBytes 4 s.host.causes
    ++ leBytes 2 s.host.newestFault ++ zeros 2 ++ leBytes 4 s.plinth.opSeconds

/-- A frame carries the smallest DLC that holds its bytes, padded with 0 (R436). -/
def padDlc (fd : Bool) (b : Bytes) : Bytes :=
  let sizes := if fd then [1, 2, 3, 4, 5, 6, 7, 8, 12, 16, 20, 24, 32, 48, 64] else [1, 2, 3, 4, 5, 6, 7, 8]
  fit ((sizes.find? (fun n => decide (b.length ≤ n))).getD 64) b

/-- Frames that a bus-off controller drops are counted in TLM_SKIP (R433). -/
def sendFrames (k : Nat) (fs : List CanFrame) (s : State) : State :=
  let p := s.hport (k + 1)
  if p.isBusOff then s.setHport (k + 1) { p with tlmSkip := sat32 p.tlmSkip fs.length } else queueFrames k fs s

/-- A status frame on a controller, in one FD frame or three classical ones. -/
def sendStatusFrame (kind k : Nat) (s : State) : State :=
  let id := canId s k 2
  let b := statusBytes kind s
  let parts := if bit (canFlags s k) 0 then [b] else (segments 7 b).map (fit 8)
  sendFrames k (parts.map (fun d => ({ id := id, data := d, kind := 1 } : CanFrame))) s

/-- The controller sends status frames (STATUS_EN). -/
def statusOn (s : State) (k : Nat) : Bool := (s.hport (k + 1)).hostSettings && canEnabled s k && bit (canFlags s k) 2

/-- CAUSES stay unread for ATTN_WINDOW: status frames, and once an episode ESCALATIONS and 0x8F02 (R431). -/
def execAttentionEscalation (t : Nat) (s : State) : Out :=
  let s := advance t s
  let h := s.host
  if isLive s && h.causes != 0 && decide (h.lastEscalation + hoAttnWindow (secs s) * msTicks ≤ s.now) then
    let s := { s with host := { h with
      lastEscalation := s.now, escalated := true, escalations := if h.escalated then h.escalations else sat32 h.escalations 1 } }
    let s := [0, 1].foldl (fun s k => if statusOn s k then sendStatusFrame 1 k s else s) s
    .next (if h.escalated then s else event 0x8F02 [] s)
  else .next s

/-- Every STATUS_PERIOD ms (R437). -/
def execStatusFrame (t : Nat) (port : HostPort) (s : State) : Out :=
  let s := advance t s
  let n := portNo port
  let period := u16 (hoCan (secs s) (n - 1)) 28
  if n ≠ 0 ∧ isLive s ∧ statusOn s (n - 1) ∧ period ≠ 0 ∧ (s.hport n).statusAt + period * msTicks ≤ s.now then
    .next (sendStatusFrame 2 (n - 1) (s.setHport n { s.hport n with statusAt := s.now }))
  else .next s

/-! ### Telemetry (R436) -/

/-- The copy of a telemetry entry and its STALE bit. -/
def telemetryData (e : Bytes) (s : State) : Bytes × Bool :=
  let n := u8 e 1
  let o := u16 e 2
  let v := view s (u8 e 0 + 1) o (u16 e 4)
  let x := if objectServed s o then readView s (u8 e 0 + 1) (u16 e 6) n v else (stWrongMode, [])
  if x.1 = stDone then (fit n x.2, false) else (zeros n, true)

/-- The frame of entry k. -/
def telemetryFrame (k : Nat) (e : Bytes) (s : State) : CanFrame :=
  let c := u8 e 0
  let d := telemetryData e s
  let b1 := modeCode s.mode + 8 * s.collector.heldLevel + 32 * flag (s.host.causes != 0) + 64 * flag d.2
  { id := canId s c 3 + k, kind := 2, entry := k
    data := padDlc (bit (canFlags s c) 0) ([byte (Tab.get 0 s.host.tlmCount k), byte b1] ++ d.1) }

/-- At an entry's millisecond a copy is queued; the one before, unsent, is replaced (R436). -/
def execTelemetryCopy (t entry : Nat) (s : State) : Out :=
  let s := advance t s
  let q := secs s
  let e := hoTlm q entry
  let c := u8 e 0
  let m := rackTime s / msTicks
  if isLive s && decide (entry < hoTlmCount q) && (s.hport (c + 1)).hostSettings && canEnabled s c
      && rackTime s % msTicks == 0 && m % max 1 (u16 e 8) == u16 e 10 then
    let f := telemetryFrame entry e s
    let s := { s with host := { s.host with tlmCount := Tab.upd 0 s.host.tlmCount entry (fun n => (n + 1) % 256) } }
    let old := (unsent s c).filter (fun g => g.kind == 2 && g.entry == entry)
    let p := s.hport (c + 1)
    let s := s.setHport (c + 1) { p with
      tlmSkip := sat32 p.tlmSkip old.length, queue := p.queue.filter (fun g => !(g.kind == 2 && g.entry == entry)) }
    .next (sendFrames c [f] s)
  else .next s

/-! ### CAN requests (R432 to R434) -/

/-- The bytes a request needs by its OP and LENGTH, none while they have not come (R420). -/
def requestNeeds (b : Bytes) : Option Nat :=
  if b.length < 12 then none
  else
    let n := u16 b 10
    match u8 b 0 with
    | 1 => some 12
    | 4 => some 28
    | 2 => some (12 + n)
    | _ => some (28 + n)

/-- The bytes so far rule the request out: an undefined OP or a LENGTH outside its range. -/
def requestBad (b : Bytes) : Bool :=
  let op := u8 b 0
  (!b.isEmpty && !within 1 4 op)
    || decide (12 ≤ b.length) && !(if op = 1 ∨ op = 4 then within 1 1088 (u16 b 10) else within 1 288 (u16 b 10))

/-- The trailer at an offset (Table 14.6). -/
def trailerAt (b : Bytes) (off : Nat) : Trailer :=
  { counter := u32 b off, channel := u8 b (off + 4), resv := field b (off + 5) 3, mac := slice b (off + 8) 8 }

/-- The request that its bytes spell (Table 15.1). -/
def requestAt (port : HostPort) (b : Bytes) : Request :=
  let op := u8 b 0
  let n := u16 b 10
  let d := if op = 2 ∨ op = 3 then slice b 12 n else []
  { port := port, op := op, tag := u8 b 1, object := u16 b 2, inst := u16 b 4, offset := u32 b 6, length := n, data := d
    trailer := if op = 3 then some (trailerAt b (12 + n)) else if op = 4 then some (trailerAt b 12) else none }

/-- Whether the bytes of a request as a port received them are discarded (R420, R425), and whether for their PEC: fewer bytes
than OP and LENGTH require, or more on the two-wire port, one PEC byte excepted; on CAN what follows is padding (R434). -/
def rawDiscards (port : HostPort) (b : Bytes) (s : State) : Bool × Bool :=
  match requestNeeds b with
  | none => (true, false)
  | some k =>
    if requestBad b || decide (b.length < k) then (true, false)
    else if port != .tw || b.length == k && !((s.hport 0).hostSettings && hoPecRequired (secs s)) then (false, false)
    else if b.length == k + 1 then
      let wrong := u8 b k != writePec s (b.take k)
      (wrong, wrong)
    else (true, false)

/-- The bytes of a request that is discarded, as they came; a PEC mismatch is counted too (R420, R425). Bytes that make a
request are no discard. -/
def execRequestDiscarded (t : Nat) (port : HostPort) (bytes : Bytes) (s : State) : Out :=
  let s := advance t s
  let d := rawDiscards port bytes s
  if portsMute s || !portOn s port || !d.1 then .next s
  else
    let n := portNo port
    let u := countPec n d.2 s
    .next (discardRequest port (u.setHport n { u.hport n with pec := d.2, assembly := none }))

/-- Bytes of the request in assembly: complete, it is served; ruled out, it is discarded; `last` says no more can come. -/
def assemble (port : HostPort) (seq : Nat) (b : Bytes) (last : Bool) (s : State) : State :=
  let n := portNo port
  let p := s.hport n
  let clear := s.setHport n { p with assembly := none }
  if requestBad b then discardRequest port clear
  else
    match (requestNeeds b).filter (fun k => decide (k ≤ b.length)) with
    | some _ => serve (requestAt port b) clear
    | none =>
      if last then discardRequest port clear
      else s.setHport n { p with assembly := some b, asmSeq := seq, asmTime := s.now }

/-- A request in assembly is given up and counted (R434). -/
def dropAssembly (port : HostPort) (s : State) : State :=
  let n := portNo port
  match (s.hport n).assembly with
  | none => s
  | some _ => discardRequest port (s.setHport n { s.hport n with assembly := none })

/-- A gap of more than 50 ms (R434). -/
def gapPast (p : HPort) (now : Nat) : Bool := p.assembly.isSome && decide (p.asmTime + 50 * msTicks < now)

/-- A segment on REQ_ID (R434). -/
def takeSegment (port : HostPort) (data : Bytes) (s : State) : State :=
  let s := if gapPast (s.hport (portNo port)) s.now then dropAssembly port s else s
  let p := s.hport (portNo port)
  match data with
  | [] => discardRequest port s
  | h :: b =>
    let kind := h.toNat / 64
    let seq := h.toNat % 64
    if kind = 0 ∨ kind = 1 then
      let s := dropAssembly port s
      if seq = 0 then assemble port 0 b (kind = 0) s else discardRequest port s
    else if kind = 2 then
      match p.assembly with
      | none => discardRequest port s
      | some a => if seq = (p.asmSeq + 1) % 64 then assemble port seq (a ++ b) false s else dropAssembly port s
    else if p.assembly.isSome then dropAssembly port s
    else discardRequest port s

/-- A controller takes frames: enabled, answering, not bus-off. -/
def canOn (s : State) (port : HostPort) : Bool :=
  port != .tw && !portsMute s && portOn s port && !(s.hport (portNo port)).isBusOff

/-- A data frame with an identifier, IDE in bit 31: one on REQ_ID is a segment (R432, R434). -/
def execCanSegment (t : Nat) (port : HostPort) (segment : CanSegment) (s : State) : Out :=
  let s := advance t s
  if canOn s port && segment.id == canId s (portNo port - 1) 0 then .next (takeSegment port segment.data s) else .next s

def execCanSegmentGap (t : Nat) (port : HostPort) (s : State) : Out :=
  let s := advance t s
  if canOn s port && gapPast (s.hport (portNo port)) s.now then .next (dropAssembly port s) else .next s

/-- A remote frame is not answered (R432). -/
def execCanRemoteFrame (t : Nat) (port : HostPort) (s : State) : Out :=
  let s := advance t s
  let n := portNo port
  if canOn s port then .next (s.setHport n { s.hport n with rtrIgnored := sat32 (s.hport n).rtrIgnored 1 }) else .next s

/-- A controller goes bus-off: its telemetry and status frames are dropped (R433). It has passed through error passive. -/
def execCanBusOff (t : Nat) (port : HostPort) (s : State) : Out :=
  let s := advance t s
  let n := portNo port
  if !canOn s port then .next s
  else
    let p := s.hport n
    let q := unsent s (n - 1)
    let keep := q.filter (fun f => !(f.kind == 1 || f.kind == 2))
    .next (event 0x8F04 [n - 1] (s.setHport n { p with
      isBusOff := true, busOffs := sat32 p.busOffs 1, errorPassive := sat32 p.errorPassive 1, queue := keep
      tlmSkip := sat32 p.tlmSkip (q.length - keep.length) }))

/-- A bus-off controller has recovered (R433). -/
def execCanRecovered (t : Nat) (port : HostPort) (s : State) : Out :=
  let s := advance t s
  let n := portNo port
  if (s.hport n).isBusOff then .next (event 0x8F05 [n - 1] (s.setHport n { s.hport n with isBusOff := false, queuedAt := s.now }))
  else .next s

/-! ### Settings (R438) -/

/-- After activation a port changes to the HOST section at its next idle. -/
def execHostSettingsSwitch (t : Nat) (port : HostPort) (s : State) : Out :=
  let s := advance t s
  let n := portNo port
  if isLive s && !(s.hport n).hostSettings && (s.hport n).serving.isNone then
    .next (s.setHport n { s.hport n with hostSettings := true, statusAt := s.now })
  else .next s

end Sys2Proof.Machine
end

