-- ==== Sys2Proof/Machine/LedgerOps.lean ====
section
/-! DEFINITION. What happens at the first tick of a ledger period beside the units' own turns: the schedule interpolator
(R165 to R167), the stop of level S1 (R351), the way out of SAFE (R360) and stage plausibility (R362, R363). -/

namespace Sys2Proof.Machine

/-! ### The schedule interpolator (R165 to R167) -/

/-- A scheduling variable as a fraction, none while it has no value to take (Table 1.5). -/
def scheduleVar (s : State) (c sel : Nat) : Option (Int × Nat) :=
  (selValue s c sel 0).map (fun v => (v.1 * 2 ^ (v.2 - 23).toNat, 2 ^ (23 - v.2).toNat))

/-- The cell containing a value, clamped to 0 to n − 2. -/
def cellOf (bp : Nat → Int) (n : Nat) (v : Int × Nat) : Nat :=
  ((List.range (n - 1)).filter (fun k => 0 < k && decide (bp k * v.2 ≤ v.1))).length

/-- The cell chosen at a refresh (R166). -/
def chooseCell (bp : Nat → Int) (n : Nat) (hyst : Int) (old : Option Nat) (v : Int × Nat) : Nat :=
  match old with
  | none => cellOf bp n v
  | some i =>
    let i := if (bp (i + 1) + hyst) * v.2 ≤ v.1 ∧ i + 2 < n then cellOf bp n v else i
    if v.1 < (bp i - hyst) * v.2 ∧ 0 < i then cellOf bp n v else i

/-- t in Q0.16 (R166). -/
def cellFraction (bp : Nat → Int) (step i : Nat) (v : Int × Nat) : Nat :=
  if bit step i then 0
  else (clampI 0 65536 (divRound ((v.1 - bp i * v.2) * 65536) ((bp (i + 1) - bp i).toNat * v.2))).toNat

/-- One line of R167. -/
def interpolate (a b : Int) (t : Nat) : Int := divRound (a * 65536 + t * (b - a)) 65536

/-- Coefficient j at the cells and fractions (R167). -/
def scheduledCoef (pt : Nat → Nat → Bytes) (n1 i0 i1 t0 t1 j : Nat) : Int :=
  let q (x y : Nat) : Int := i24 (pt x y) (3 * j)
  let a := interpolate (q i0 i1) (q (i0 + 1) i1) t0
  if n1 = 1 then a
  else interpolate a (interpolate (q i0 (i1 + 1)) (q (i0 + 1) (i1 + 1)) t0) t1

/-- A pending grid write takes effect at the first refresh after the close (R171). -/
def takePoints (x : Ctx) : Ctx :=
  if x.mode == .closed then
    { x with points := x.pendPoints.foldl (fun t p => Tab.set t p.1 p.2) x.points, pendPoints := [] }
  else x

/-- The refresh of one scheduled context (R166, R167). A variable without a value keeps its cell and fraction. -/
def refreshSchedule (c : Nat) (s : State) : State :=
  let q := secs s
  let r := scRec q c
  let x := takePoints (s.ctx c)
  let n0 := scN0 r
  let n1 := scN1 r
  let s0 := (scheduleVar s c (u16 r 4)).map (fun v =>
    let i := chooseCell (scBp0 r) n0 (i32 r 80) (x.cells.map (·.1)) v
    (i, cellFraction (scBp0 r) (u8 r 11) i v))
  let s1 := if n1 = 1 then some (0, 0) else (scheduleVar s c (u16 r 6)).map (fun v =>
    let i := chooseCell (scBp1 r) n1 (i32 r 84) (x.cells.map (·.2)) v
    (i, cellFraction (scBp1 r) (u8 r 12) i v))
  let s0 := s0.orElse (fun _ => x.cells.map (fun k => (k.1, x.fracs.1)))
  let s1 := s1.orElse (fun _ => x.cells.map (fun k => (k.2, x.fracs.2)))
  match s0, s1 with
  | some a, some b =>
    let pt (i0 i1 : Nat) : Bytes := Tab.get (scPoint r i0 i1) x.points (i1 * n0 + i0)
    let l := (List.range (scCoefs r)).map (scheduledCoef pt n1 a.1 b.1 a.2 b.2)
    let body := putCoefs (ctxForm (lcRec q c)) (bodyOf s c) l
    s.setCtx c { x with cells := some (a.1, b.1), fracs := (a.2, b.2), nextBody := (period s, body) :: x.nextBody.take 1 }
  | _, _ => s.setCtx c x

/-- Every scheduled context is refreshed. -/
def refreshSchedules (s : State) : State := (scRecords (secs s)).foldl (fun s r => refreshSchedule (u16 r 0) s) s

/-- 0x0606 ends for a context whose stage no longer evaluates it (R477). -/
def endStopped (s : State) : State :=
  (s.loops.ctxs.filter (fun x => x.2.waiting && !stageOn s (ctxStage (secs s) x.1))).foldl (fun s x => endWaiting x.1 s) s

/-! ### Levels at the boundary (R351, R360) -/

/-- The stop of level S1, and the S1_CONFIRM of its stages begins (R351, assumption 76). -/
def stopS1 (s : State) : State :=
  match s.collector.s1Due with
  | some m =>
    stopStages m { s with collector := { s.collector with
      s1Due := none, s1Waits := s.collector.s1Waits ++ [(s.now + faS1Confirm (secs s) * ledgerTicks, m)] } }
  | none => s

/-- The active lanes of released ports are judged afresh (R111): one that still has no receiver lock is lost. -/
def judgeReleased (mask : Nat) (s : State) : State :=
  (bitsOf 52 mask).foldl (fun s p =>
    if isLive s && (s.port p).phase == .active && (s.port p).lockLost then linkTrigger 1 p s else s) s

/-- The chip leaves SAFE for STANDBY when nothing holds it any longer (R360). -/
def leaveSafe (s : State) : State :=
  if s.mode == .safe && !levelLatched s && !poweringDown s && !s.collector.safePowerDownOwed then
    judgeReleased s.collector.forcedPorts (event 0x8C02 [] (setMode .standby { s with
      pins := { s.pins with allOff := s.pins.allOff &&& (everyLane ^^^ s.collector.forcedPorts) }
      collector := { s.collector with
      heldLevel := 0, forcedPorts := 0, forcedStages := 0, s1Stages := 0, s1Due := none, s1Waits := []
      enteredUp := false, s1UpSince := none, recoveryUntil := s.now + faRecoveryHoldoff (secs s) * secTicks } }))
  else s

/-! ### Stage plausibility (R362, R363) -/

/-- The stages under plausibility in this ledger period. -/
def plausibleStages (s : State) : List Nat :=
  let q := secs s
  (bitsOf 64 (faPlausStages q)).filter (fun g =>
    let x := s.stage g
    x.mode == .running && !s.balance.holdup && decide (x.steadyAt + 10 * msTicks ≤ rackTime s)
      && !(openLoops s).any (fun c => ctxStage q c == g))

/-- I(s) and output 0 differ by more than PLAUS_I_PCT of the active phases' rating (R362). -/
def currentOff (s : State) (g : Nat) : Bool :=
  let q := secs s
  let i := (Tab.get {} s.balance.cur.stages g).i
  decide (faPlausI q * (nAct s g * stPhRated q g) < 100 * (i - out0 s g).natAbs)

/-- A voltage of R363 from M(m). -/
def dutyVolts (s : State) (c m sel : Nat) : Option Int :=
  if selKind sel = 6 then (selValue s c sel 0).map (fun v => toExp v.1 v.2 23) else srcMean s m sel

/-- The mean duty and v_out ÷ v_in differ by more than PLAUS_D_PCT points (R363); none without an entry in the period. -/
def dutyOff (s : State) (g : Nat) : Option Bool :=
  let q := secs s
  let act := activePhases s g
  let on := (act.map (fun p => (s.ph p).duty.1)).sum
  let n := (act.map (fun p => (s.ph p).duty.2)).sum
  let c := act.headD 0
  let m := period s - 2
  if n = 0 then none
  else
    match dutyVolts s c m (vinSel (lcRec q c)), dutyVolts s c m (voutSel (lcRec q c)) with
    | some vi, some vo =>
      let full : Int := n * stPeriod q g
      some (decide (0 < vi) && decide (faPlausD q * full * vi < 100 * (on * vi - vo * full).natAbs))
    | _, _ => some false

/-- A run of implausible periods reaches PLAUS_TIME: the fault is raised, and ends with its run. -/
def plausFault (code g old new limit : Nat) (others : Bool) (s : State) : State :=
  if old < limit && limit ≤ new then raiseFault code (stageScope s g) (pay [g]) s
  else if limit ≤ old && new = 0 && !others then lowerFault code (stageScope s g) s
  else s

/-- Another stage of the same scope keeps the fault asserted. -/
def othersOff (s : State) (runs : Tab Nat) (g limit : Nat) : Bool :=
  runs.any (fun r => r.1 != g && decide (limit ≤ r.2) && stageScope s r.1 == stageScope s g)

/-- The plausibility of one stage of PLAUS_STAGES for the ledger period that ends. -/
def watchStage (g : Nat) (s : State) : State :=
  let on := (plausibleStages s).contains g
  let limit := 100 * faPlausTime (secs s)
  let i := Tab.get 0 s.collector.currentRun g
  let i' := if on && currentOff s g then i + 1 else 0
  let d := Tab.get 0 s.collector.dutyRun g
  let d' := if !on then 0 else
    match dutyOff s g with
    | some b => if b then d + 1 else 0
    | none => if d = 0 then 0 else d + 1
  let s := { s with collector := { s.collector with
    currentRun := Tab.set s.collector.currentRun g i', dutyRun := Tab.set s.collector.dutyRun g d' } }
  let s := plausFault 0x0C07 g i i' limit (othersOff s s.collector.currentRun g limit) s
  plausFault 0x0C08 g d d' limit (othersOff s s.collector.dutyRun g limit) s

def watchStages (s : State) : State := (bitsOf 64 (faPlausStages (secs s))).foldl (fun s g => watchStage g s) s

/-! ### The whole boundary -/

/-- The own base target of a stage: Clasp's B for the coupling stage (R320), its own source otherwise. -/
def stageBaseNow (s : State) (g : Nat) : Option Int :=
  if hasSec (secs s) tyCoupling && coStage (secs s) == g then some s.clasp.base else ownBase s g

/-- The first tick of a ledger period: waiting FAULT_CLEAR requests, sampled inputs, tagged values, the units' turns, schedules, levels. -/
def passBoundary (spa : List (Nat × Nat)) (s : State) : State :=
  let s := stopS1 (serveClears { s with ledger := period s + 1 })
  let s := spa.foldl (fun s k => if k.1 < 4 then spaSample k.1 k.2 s else s) s
  let s := [4, 5, 6, 7].foldl (fun s k => sppLedger k s) s
  let s := balanceLedger s
  let s := if hasSec (secs s) tyCoupling then claspLedger s else s
  let s := (declaredStages (secs s)).foldl (fun s g => ledgerStage g (stageBaseNow s g) s) s
  let s := endStopped (refreshSchedules s)
  let s := seqLedger (maqLedger s)
  leaveSafe (watchStages s)

end Sys2Proof.Machine
end

