-- ==== Sys2Proof/Machine/Ledger.lean ====
section
/-! DEFINITION. The ledger boundary (R12). -/

namespace Sys2Proof.Machine

/-- The first tick of a ledger period whose boundary has not been passed yet; SPA codes as converted at it. -/
def execLedgerBoundary (t : Nat) (spa : List (Nat × Nat)) (s : State) : Out :=
  let s := advance t s
  if running s && decide (s.ledger ≤ period s) then .next (passBoundary spa s) else .next s

end Sys2Proof.Machine
end

