-- ==== Sys2Proof/Machine/Maquette.lean ====
section
/-! DEFINITION. The events of Maquette (chapter 09) and the periodic save of wear records (R211). -/

namespace Sys2Proof.Machine

/-- A 10 ms boundary (R253, R263, R264). -/
def execModelStep (t : Nat) (s : State) : Out :=
  let s := advance t s
  let k := rackTime s / (10 * msTicks)
  if running s && s.maq.step < k then
    let s := settleRestore s
    .next ((maqStrings (secs s)).foldl (fun s b => stepString k b s) { s with maq := { s.maq with step := k } })
  else .next s

/-- A 1 s boundary: the bleeding cells are chosen (R267). -/
def execBalancingSelect (t : Nat) (s : State) : Out :=
  let s := advance t s
  let k := rackTime s / secTicks
  if running s && s.maq.second < k then
    .next ((maqStrings (secs s)).foldl (fun s b => balanceString b s) { s with maq := { s.maq with second := k } })
  else .next s

/-- MAX_COUNT_H hours have passed since the last read (R262). -/
def execStaleMark (t string : Nat) (s : State) : Out :=
  let s := advance t s
  let q := secs s
  if running s && (maqStrings q).contains string
      && decide ((s.str string).lastRest + 3600 * msMaxCount (mqString q string) ≤ s.plinth.opSeconds) then
    .next (s.setStr string { s.str string with stale := true })
  else .next s

/-- LEARN_SAVE minutes of RUN have passed (R274). -/
def execLearnSave (t : Nat) (s : State) : Out :=
  let s := advance t s
  if s.mode == .run && hasSec (secs s) tyMaquette
      && decide (s.maq.savedAt + 60 * mqLearnSave (secs s) ≤ s.plinth.opSeconds) then
    .next (requestStore { s with maq := { s.maq with savedAt := s.plinth.opSeconds } })
  else .next s

/-- WEAR_SAVE minutes of RUN have passed (R211). -/
def execWearSave (t : Nat) (s : State) : Out :=
  let s := advance t s
  if s.mode == .run && decide (s.maq.wearAt + 60 * sgWearSave (secs s) ≤ s.plinth.opSeconds) then
    .next (requestStore { s with maq := { s.maq with wearAt := s.plinth.opSeconds } })
  else .next s

/-- A requested store write starts (R270, R274): the snapshot is taken, the target's commit sector and payload sectors
are erased. It waits for the restore and the slot erase owed since the mount (R272), and no erase starts while power fails. -/
def execStoreWriteStart (t : Nat) (s : State) : Out :=
  let s := advance t s
  let m := s.maq
  if !running s || !m.mounted || m.barred || m.write.isSome || !m.requested || m.eraseDue.isSome
      || m.restoreBy.isSome || s.pins.pwrFail then .next s
  else
    let seq := max ((storeSeq s.cs1 0).getD 0) ((storeSeq s.cs1 1).getD 0) + 1
    if 0xFFFFFFFE < seq then .next (chipPulse 0x0A04 [0] { s with maq := { m with requested := false } })
    else
      let k := if storeWinner s.cs1 = some 0 then 1 else 0
      .next { s with
        maq := { m with requested := false, failed := false, write := some { slot := k, seq := seq, payload := storePayload s } }
        cs1 := flashErase s.cs1 (storeSlotBase k) 0x10000 }

/-- The running store write ends (R270, R271): failed after `failedAt` bytes of the payload, or at its comparison when
that is all of them; else abandoned when PWR_FAIL_N asserted, or committed. What was programmed stays in the slot. -/
def execStoreWriteComplete (t : Nat) (failedAt : Option Nat) (s : State) : Out :=
  let s := advance t s
  match s.maq.write with
  | none => .next s
  | some w =>
    let f := s.maq.failed
    let s := { s with
      maq := { s.maq with write := none, failed := false }
      cs1 := flashProgram s.cs1 (storeSlotBase w.slot) (w.payload.take (failedAt.getD payloadLen)) }
    if failedAt.isSome then .next (chipPulse 0x0A04 [w.slot] s)
    else if f then .next (event 0x8A04 [w.slot] s)
    else
      let c := ascii "LVCM" ++ leBytes 4 w.seq ++ leBytes 4 payloadLen
      .next (event 0x8A03 [w.slot, w.seq] { s with
        cs1 := flashProgram s.cs1 (storeCommitBase w.slot) (c ++ leBytes 4 (crc32c c)) })

/-- The slot that is neither erased nor committed is erased after the mount (R272). -/
def execStoreSlotErase (t : Nat) (s : State) : Out :=
  let s := advance t s
  match s.maq.eraseDue with
  | none => .next s
  | some k =>
    if running s && !s.pins.pwrFail then
      .next { s with maq := { s.maq with eraseDue := none }, cs1 := flashErase s.cs1 (storeSlotBase k) 0x10000 }
    else .next s

end Sys2Proof.Machine
end

