-- ==== Sys2Proof/Machine/TestAccess.lean ====
section
/-! DEFINITION. The test access port (R468 to R472, Table 3.2). -/

namespace Sys2Proof.Machine

/-- Opcodes of Table 17.12. -/
def opBypass : Nat := 0xFF
def opIdcode : Nat := 0x01
def opSample : Nat := 0x02
def opDebug : Nat := 0x40

/-- The opcodes decoded as EXTEST. -/
def testOpcodes : List Nat := [0x03, 0x04, 0x05, 0x06, 0x07, 0x50]

/-- The entry condition of TEST beside TEST_EN (Table 3.2); it holds on while the chip is in TEST. -/
def testEntry (s : State) : Bool :=
  s.mode == .test || bootHeld s && s.mode == .boot || s.mode == .standby && kaMask s == 0

/-- The instruction an opcode acts as (R469). -/
def decodedOpcode (s : State) (opcode : Nat) (testEn : Bool) : Nat :=
  if opcode = opIdcode ∨ opcode = opSample then opcode
  else if testOpcodes.contains opcode then (if testEn && testEntry s then opcode else opBypass)
  else if opcode = opDebug then (if !testEn && s.benra.debugUnlocked then opcode else opBypass)
  else opBypass

/-- TEST is left by the reset of cause 0x08 (R470). -/
def leaveTest (s : State) : State := if s.mode == .test then resetChip 0x08 s else s

/-- Test-Logic-Reset with IDCODE selected (R468), which leaves TEST (R470). -/
def execTapReset (t : Nat) (s : State) : Out :=
  let s := advance t s
  .next (leaveTest { s with tap := { s.tap with instruction := opIdcode } })

/-- The instructions that select the boundary register (Table 17.12). -/
def boundaryOpcodes : List Nat := [0x02, 0x03, 0x04, 0x05]

/-- What Capture-IR loads (R468): 0b01, and bit 2 while the entry condition of TEST holds. -/
def irCaptured (s : State) (testEn : Bool) : Nat := 1 + 4 * flag (testEn && testEntry s)

/-- What Capture-DR loads under an instruction (Table 17.12, R471): IDCODE, the MBIST result, 0 in the bypass bit. The boundary
register takes the pins, whose cell order the spec leaves to the BSDL file: a free value (assumption 79). -/
def captureDr (op : Nat) (s : State) : State :=
  if boundaryOpcodes.contains op then
    let f := drawFree s
    { f.2 with tap := { f.2.tap with drCapture := f.1 % 2 ^ 612 } }
  else
    let v := if op = opIdcode then 0x1C1920A7 else if op = 0x50 then s.tap.mbistResult else 0
    { s with tap := { s.tap with drCapture := v } }

/-- The data scan that follows the load of an instruction: capture, and for the boundary register its new cells (R470, R472). -/
def scanDr (op dr : Nat) (s : State) : State :=
  let s := captureDr op s
  if boundaryOpcodes.contains op then { s with tap := { s.tap with boundary := dr % 2 ^ 612 } } else s

/-- An instruction is loaded (R469), with the data its data scan shifts in: one of the EXTEST rows enters TEST, where every pin
follows its boundary cell and the all-off generators drive nothing (R470); BYPASS, IDCODE or SAMPLE/PRELOAD leave TEST. -/
def execInstructionLoad (t opcode : Nat) (scan : TapScan) (s : State) : Out :=
  let s := advance t s
  let op := decodedOpcode s opcode scan.testEn
  let s := { s with
    tap := { s.tap with instruction := op, irCapture := irCaptured s scan.testEn }, pins := { s.pins with testEn := scan.testEn } }
  let s := scanDr op scan.dr s
  if testOpcodes.contains op then .next (setMode .test { s with pins := { s.pins with domains := 0xFFFF, allOff := 0 } })
  else if op = opDebug then .next s
  else .next (leaveTest s)

/-- TEST_EN low for a time; from 1 µs on TEST is left (R470). -/
def execTestEnLow (x : At Nat) (s : State) : Out :=
  let s := advance x.time s
  if x.brought < usTicks then .next s else .next (leaveTest { s with pins := { s.pins with testEn := false } })

end Sys2Proof.Machine
end

