-- ==== Sys2Proof/Machine/Tiles.lean ====
section
/-! DEFINITION. A compatible tile, as chapter 04 obliges it (R89 to R115): rack time, frames both ways, off latch, service
operations, gates, cells. -/

namespace Sys2Proof.Machine

/-- The tile's own rack time at a time of the model (R89), in whole ticks. -/
def rackTimeAt (now : Nat) (x : Tile) : Nat := ((16 * (now : Int) + x.offset16) / 16).toNat

/-- The tile's own rack time now. -/
def tileTime (s : State) (x : Tile) : Nat := rackTimeAt s.now x

/-! ### The off latch (R103) -/

/-- The latch is entered: OFF_COUNT and OFF_CAUSE move, every gate and bleed switch opens, held entries are gone. -/
def tileLatch (cause : Nat) (x : Tile) : Tile :=
  { x with
    offLatch := true, offCause := cause, offCount := (x.offCount + 1) % 65536, clearRun := 0, bleedMask := 0
    slots := x.slots.map (fun v => (v.1, { v.2 with held := [], gateHs := false, gateLs := false, busyUntil := 0, lsOffAt := none })) }

/-- A level cause latches a tile that is not latched yet; a latched one only loses its ALL_CLEAR count (assumption 16). -/
def tileHold (cause : Nat) (x : Tile) : Tile := if x.offLatch then { x with clearRun := 0 } else tileLatch cause x

/-- An off latch gone open: both gates of a slot off, its held entries gone. -/
def slotOff (v : Slot) : Slot := { v with held := [], gateHs := false, gateLs := false, busyUntil := 0, lsOffAt := none }

/-! ### Lanes (R112) -/

def Tile.lane (x : Tile) (n : Nat) : TLane := if n = 0 then x.lane0 else x.lane1
def Tile.setLane (x : Tile) (n : Nat) (l : TLane) : Tile := if n = 0 then { x with lane0 := l } else { x with lane1 := l }

/-- The lane entries and operations come from: the one whose latest valid frame has LANE_ROLE 1; with both, the higher
FRAME_NO, the primary on a tie; with none, the lane so far. -/
def chooseLane (x : Tile) : Nat :=
  match x.lane0.role, x.lane1.role with
  | true, true => if x.lane0.frameNo < x.lane1.frameNo then 1 else 0
  | true, false => 0
  | false, true => 1
  | false, false => x.entryLane

/-! ### Service operations (R88, R115) -/

/-- A register's value (Table 4.18); none where there is no such register. -/
def tileReg (i : Nat) (x : Tile) (a : Nat) : Option Nat :=
  let l := x.lane x.entryLane
  let o := x.lane (1 - x.entryLane)
  if a ≤ 0x04 then some (Config.tileRegister i a % 2 ^ 32)
  else if a = 0x05 then some (l.lat % 65536 + 65536 * (o.lat % 65536))
  else if a = 0x06 then some (if o.everValid && l.everValid then ((o.offset16 - l.offset16) % 65536).toNat else 0)
  else if a = 0x07 then some (x.offCount + 2 ^ 16 * x.offCause + 2 ^ 20 * flag x.offLatch)
  else if a = 0x08 then some x.dnErr
  else if a = 0x09 then some x.late
  else if a = 0x0A then some x.overlap
  else if a = 0x0B then some x.format
  else if within 0x10 0x17 a then
    let v := Tab.get ({} : Slot) x.slots (a - 0x10)
    some (v.lsMax + 2 ^ 24 * v.minDt)
  else if a = 0x18 then some x.autoPeriod
  else none

/-- Status codes of R88: OK, BAD_ADDR, READ_ONLY, RANGE, BUSY. -/
def svOk : Nat := 0
def svBadAddr : Nat := 1
def svReadOnly : Nat := 2
def svRange : Nat := 3
def svBusy : Nat := 4

/-- A register write (Table 4.18): status and the tile after. -/
def tileWrite (i : Nat) (x : Tile) (a v : Nat) : Nat × Tile :=
  if (tileReg i x a).isNone then (svBadAddr, x)
  else if within 0x10 0x17 a then
    if !x.offLatch then (svBusy, x)
    else (svOk, { x with slots := Tab.upd ({} : Slot) x.slots (a - 0x10) (fun z => { z with lsMax := v % 2 ^ 24, minDt := v / 2 ^ 24 % 256 }) })
  else if a = 0x18 then
    if within 100 10000 (v % 65536) then (svOk, { x with autoPeriod := v % 65536 }) else (svRange, x)
  else (svReadOnly, x)

/-- SLOT_CLEAR on the slots of a mask whose cause has gone; RANGE when one is still present (R109), which does not keep the
others latched (DESIGN CHOICE, assumption 74). -/
def tileSlotClear (x : Tile) (mask : Nat) : Nat × Tile :=
  let want := bitsOf 8 mask
  let stuck := want.any (fun n => (Tab.get ({} : Slot) x.slots n).causePresent)
  let slots := want.foldl (fun t n =>
    Tab.upd ({} : Slot) t n (fun z => if z.causePresent then z else { z with desat := false, localOc := false, protLatch := false })) x.slots
  (if stuck then svRange else svOk, { x with slots := slots })

/-- The four frames of ALL_CLEAR (R107): the count, restarted by any break, and the latch released by the fourth. -/
def tileAllClear (port : Nat) (o : SvcOp) (x : Tile) : Tile :=
  let good := x.offLatch && o.op == 0xAC && o.addr == port && o.data == clearData port x.offCount
  if !good then { x with clearRun := 0 }
  else
    let run := if x.clearRun != 0 && x.clearTag == o.tag then x.clearRun + 1 else 1
    if run = 4 then { x with clearRun := 0, offLatch := false, offCause := 0 } else { x with clearRun := run, clearTag := o.tag }

/-- Values in runs of up to forty, numbered from `first`. -/
def fortyEach (mk : Nat → List Nat → CellChunk) : Nat → Nat → List Nat → List CellChunk
  | 0, _, _ => []
  | n + 1, first, l => if l.isEmpty then [] else mk first (l.take 40) :: fortyEach mk n (first + 40) (l.drop 40)

/-- The frames a set is sent in: voltages first, then temperatures, up to forty values each (R113). -/
def chunksOf (c : CellSet) : List CellChunk :=
  let mk (temps : Bool) (first : Nat) (l : List Nat) : CellChunk :=
    { setId := c.setId, auto := c.auto, late := c.late, temps := temps, first := first, values := l }
  fortyEach (mk false) 4 0 (c.volts.map (· % 65536)) ++ fortyEach (mk true) 1 0 (c.temps.map (fun t => (t % 65536).toNat))

/-- One operation executed: the answer's status and data, and the tile after. An operation that Table 4.7 does not define is
answered OK and does nothing, and WRITE's answer carries the value written (DESIGN CHOICE, assumption 74). -/
def tileExec (i n : Nat) (o : SvcOp) (x : Tile) : Nat × Nat × Tile :=
  let l := x.lane n
  if o.op = 0x01 then
    match tileReg i x o.addr with
    | some v => (svOk, v, x)
    | none => (svBadAddr, 0, x)
  else if o.op = 0x02 then let r := tileWrite i x o.addr o.data; (r.1, o.data, r.2)
  else if o.op = 0x10 then (svOk, 0, x.setLane n { l with lat := o.data % 65536, aligned := true, slewLeft := 0 })
  else if o.op = 0x11 then
    let d := signedOf 16 (o.data % 65536)
    if 32 < d.natAbs then (svRange, 0, x)
    else (svOk, 0, x.setLane n { l with slewLeft := l.slewLeft + d })
  else if o.op = 0x20 then let r := tileSlotClear x (o.data % 256); (r.1, 0, r.2)
  else if o.op = 0x21 then (svOk, 0, if x.set.setId = o.data % 65536 then { x with sending := chunksOf x.set } else x)
  else (svOk, 0, x)

/-- An operation that a lane without the entries still takes: READ, ALIGN and TRIM, and every one in a TRAIN frame of a lane
that trains (R92, R96, R112, Table 4.12, assumption 73). -/
def lateralOp (kind op : Nat) : Bool := op == 0x01 || op == 0x10 || op == 0x11 || kind == 0

/-- SERVICE of a frame: each TAG is executed once and a repeated one answered again, except ALL_CLEAR (R88, R112). -/
def tileService (i n port kind : Nat) (mine : Bool) (o : SvcOp) (x : Tile) : Tile :=
  let x := if mine then tileAllClear port o x else x
  if o.op = 0 || !(mine || lateralOp kind o.op) then x
  else if o.op = 0xAC then { x with response := [o.op, o.tag, o.addr, svOk, o.data] }
  else if (x.lane n).lastTag == some o.tag then { x with response := (x.lane n).lastAnswer }
  else
    let r := tileExec i n o x
    let x := r.2.2
    let answer := [o.op, o.tag, o.addr, r.1, r.2.1]
    { x.setLane n { x.lane n with lastTag := some o.tag, lastAnswer := answer } with response := answer }

/-! ### Edge entries (R100, R101) -/

/-- The entry in ten bytes, its stamps restored. -/
def edgeOf (now : Nat) (b : Bytes) : Edge :=
  { slot := u8 b 0 % 8, kind := u8 b 0 / 8 % 8, rise := stampOf now (field b 1 3), fall := stampOf now (field b 4 3),
    dtLead := u8 b 7, dtTrail := u8 b 8, seq := u8 b 9 % 64, lsEn := bit (u8 b 9) 6 }

/-- Where an entry begins and ends to hold its slot. -/
def slotLead (v : Slot) (e : Edge) : Int := (e.rise : Int) - 8 * (max e.dtLead v.minDt : Nat)
def slotEnd (v : Slot) (e : Edge) : Nat := if e.kind = 1 then e.fall + 8 * max e.dtTrail v.minDt else e.rise

/-- One entry treated as the pseudocode of R100 states. -/
def tileEntry1 (now : Nat) (role : Bool) (off : Nat) (x : Tile) (e : Edge) : Tile :=
  let v := Tab.get ({} : Slot) x.slots e.slot
  if e.kind = 0 then x
  else if x.offLatch || !role || bit off e.slot || v.protLatch || v.lsMax = 0 then x
  else if 3 < e.kind then { x with format := sat32 x.format 1 }
  else if e.kind = 1 && (e.fall ≤ e.rise || v.lsMax < e.fall - e.rise) then { x with format := sat32 x.format 1 }
  else
    let lead := slotLead v e
    if lead ≤ now then
      { x with late := sat32 x.late 1, slots := Tab.set x.slots e.slot { v with
          lateFlag := true, gateHs := false, gateLs := false, lsOffAt := none
          held := v.held.filter (fun h => decide ((now : Int) < slotLead v h)) } }
    else if lead < v.busyUntil || 4 ≤ (v.held.filter (fun h => (now : Int) < slotLead v h)).length then
      { x with overlap := sat32 x.overlap 1 }
    else
      { x with slots := Tab.set x.slots e.slot { v with held := v.held ++ [e], busyUntil := max v.busyUntil (slotEnd v e) } }

/-- The low side conducts for a CROWBAR: no LS_MAX ends it (Table 4.15). -/
def crowbarOn (v : Slot) : Bool := v.gateLs && v.lsOffAt.isNone

/-- The gates an entry gives at a time from its lead on, and whether it is finished (Table 4.15): high side, low side,
finished, and the end of a low side conduction. The low side of a PULSE before it ends at this lead, whatever the entry; that
of a CROWBAR at the lead of a PULSE or an OFF_AT. -/
def edgeGates (v : Slot) (now : Nat) (e : Edge) : Bool × Bool × Bool × Option Nat :=
  let trail := 8 * max e.dtTrail v.minDt
  if e.kind = 1 then
    if now < e.rise then (false, false, false, none)
    else if now < e.fall then (true, false, false, none)
    else if now < e.fall + trail then (false, false, false, none)
    else (false, e.lsEn, true, if e.lsEn then some (e.fall + trail + v.lsMax) else none)
  else if e.kind = 2 then (if now < e.rise then (v.gateHs, false, false, none) else (false, false, true, none))
  else if now < e.rise then (v.gateHs, crowbarOn v, false, none)
  else if now < e.rise + trail then (false, crowbarOn v, false, none)
  else (false, true, true, none)

/-- Every entry of a slot that is due acts, in order, on its gates. -/
def slotRun (now : Nat) : Nat → Slot → Slot
  | 0, v => v
  | n + 1, v =>
    match v.held with
    | [] => v
    | e :: rest =>
      if (now : Int) < slotLead v e then v
      else
        let g := edgeGates v now e
        let w := { v with gateHs := g.1, gateLs := g.2.1, lsOffAt := g.2.2.2 }
        if g.2.2.1 then slotRun now n { w with held := rest } else w

/-- The end of a low side conduction without a new entry (LS_MAX, Table 4.15). -/
def slotExpire (now : Nat) (v : Slot) : Slot :=
  match v.lsOffAt with
  | some d => if d ≤ now then { v with gateLs := false, lsOffAt := none } else v
  | none => v

/-- A gate edge of a slot falls due (R98, R101). -/
def execTileEdgeExecute (t tile slot : Nat) (s : State) : Out :=
  let s := advance t s
  let x := s.tile tile
  let v := Tab.get ({} : Slot) x.slots slot
  if x.offLatch || 8 ≤ slot then .next s
  else .next (s.setTile tile { x with slots := Tab.set x.slots slot (slotExpire (tileTime s x) (slotRun (tileTime s x) 5 v)) })

/-! ### Frames at the tile -/

/-- FRAME_NO against the tile's own count (R106), which a frame period of 2,560 ticks moves on; arrivals are in sixteenths
of a tick. -/
def tileFrameNo (f arrive16 : Nat) (x : Tile) : Tile :=
  match x.frameAt with
  | none => { x with frameNo := f, frameAt := some arrive16, disagree := 0 }
  | some a =>
    let expected := x.frameNo + (arrive16 - a + 8 * frameTicks) / (16 * frameTicks)
    if f = expected then { x with frameNo := f, frameAt := some arrive16, disagree := 0 }
    else if x.disagree < 2 then { x with frameNo := expected, frameAt := some arrive16, disagree := x.disagree + 1 }
    else
      let x := tileLatch 5 x
      { x.setLane x.entryLane { x.lane x.entryLane with aligned := false } with
        frameNo := f, frameAt := some arrive16, disagree := 0 }

/-- A trim is taken at 1/16 tick per frame (R96). -/
def slewLane (l : TLane) : TLane :=
  if 0 < l.slewLeft then { l with lat := (l.lat + 1) % 65536, slewLeft := l.slewLeft - 1 }
  else if l.slewLeft < 0 then { l with lat := (l.lat + 65535) % 65536, slewLeft := l.slewLeft + 1 }
  else l

/-- The rack time a frame gives, against the time it came at (R89): its first bit arrives at F × 2,560 + LAT. -/
def laneOffset (f arrive16 : Nat) (l : TLane) : Int := 16 * ((f * frameTicks : Nat) : Int) + signedOf 16 l.lat - arrive16

/-- The cell command block (R113, R114, Table 4.13). -/
def tileCell (tt now : Nat) (b : Bytes) (x : Tile) : Tile :=
  let op := u8 b 9
  let fl := u8 b 15
  let x :=
    if bit op 0 then
      { x with
        sampleAt := some (stampOf tt (field b 10 3)), sampleLate := decide (stampOf tt (field b 10 3) < tt)
        sampleCmd := { sample := true, setId := u16 b 13, temps := bit fl 0, bleedPause := bit fl 1 } }
    else x
  if bit op 1 && !x.offLatch then { x with bleedMask := field b 16 16, bleedUntil := now + u16 b 32 * 10 * msTicks } else x

/-- The bleed switches that are closed (R113, R114): none while latched off, and none from 500 µs before SAMPLE_AT until the
sample is taken under BLEED_PAUSE. -/
def bleedClosed (s : State) (x : Tile) : Nat :=
  let paused := x.sampleCmd.bleedPause && x.sampleAt.any (fun d => decide (d ≤ tileTime s x + 500 * usTicks))
  if x.offLatch || paused then 0 else x.bleedMask

/-- The eight entries in order (R100). -/
def tileEdges (now : Nat) (role : Bool) (b : Bytes) (x : Tile) : Tile :=
  (List.range 8).foldl (fun x k => tileEntry1 now role (u8 b 1) x (edgeOf now (slice b (9 + 10 * k) 10))) x

/-- What a valid frame on lane `n` tells the lane and the tile's time (R89, R92, R96, R106, R112). On a change of lane the
rack time comes from the new lane's LAT, and held entries stay. -/
def tileHears (n f arrive16 now kind : Nat) (role : Bool) (x : Tile) : Tile :=
  let l := slewLane (x.lane n)
  let x := x.setLane n { l with
    role := role, roleSeen := l.roleSeen || role, frameNo := f, kind := kind, everValid := true, lastValid := now
    answering := .frames, offset16 := laneOffset f arrive16 l }
  let x := { x with entryLane := chooseLane x, lastActivity := now }
  if x.entryLane = n then
    let x := tileFrameNo f arrive16 x
    { x with offset16 := laneOffset x.frameNo arrive16 (x.lane n), activeDnLost := x.activeDnLost && !role }
  else x

/-- A valid frame on lane `n`, processed in the order of R100: DN_CTRL, SLOT_OFF, SERVICE, entries. -/
def tileFrame (i n port arrive16 now : Nat) (b : Bytes) (x : Tile) : Tile :=
  let role := bit (u8 b 0) 3
  let kind := u8 b 0 % 4
  let x := tileHears n (field b 2 7) arrive16 now kind role x
  let mine := x.entryLane == n && role
  let x := if bit (u8 b 0) 2 then tileHold 4 x else x
  let x := if kind = 1 then
      { x with slots := x.slots.map (fun v => (v.1, if bit (u8 b 1) v.1 then slotOff v.2 else v.2)) } else x
  let o : SvcOp := { op := u8 b 89, tag := u8 b 90, addr := u8 b 91, data := u32 b 92 }
  let x := tileService i n port kind mine o x
  let x := if bit (u8 b 0) 2 then { x with clearRun := 0 } else x
  let tt := rackTimeAt now x
  if kind = 1 then tileEdges tt mine b x else if kind = 2 && mine then tileCell tt now b x else x

/-! ### Upstream frames (R91, R92, R109, Tables 4.8 to 4.11) -/

/-- SLOT_STATUS of a slot (Table 4.10). -/
def slotStatusOf (seen : TileSeen) (x : Tile) (n : Nat) : Nat :=
  let v := Tab.get ({} : Slot) x.slots n
  flag v.desat + 2 * flag v.localOc + 4 * flag v.protLatch + 8 * flag v.gateHs + 16 * flag v.gateLs
    + 32 * flag (bit seen.drvSupply n) + 64 * flag v.lateFlag

/-- Body bytes 4 to 87 of a phase tile. LINK_ERR counts the invalid frames of the entry lane (assumption 73). -/
def phasePart (seen : TileSeen) (x : Tile) : Bytes :=
  fit 24 seen.bits ++ (List.range 8).map (fun n => byte (slotStatusOf seen x n)) ++ fit 16 seen.transition
    ++ leBytes 2 seen.boardTemp ++ leBytes 2 ((x.lane x.entryLane).errors % 65536) ++ zeros 32

/-- Body bytes 4 to 87 of a cell tile. -/
def cellPart (x : Tile) : Bytes :=
  match x.sending with
  | [] => zeros 84
  | c :: _ =>
    leBytes 2 c.setId ++ [byte (c.first % 128 + 128 * flag c.temps)]
      ++ [byte (c.values.length + 64 * flag c.auto + 128 * flag c.late)] ++ fit 80 (c.values.flatMap (leBytes 2))

/-- An upstream body in its form on the primary lane (Table 4.8): `kind` 1 for a phase tile, 2 for a cell tile. -/
def upBody (kind f : Nat) (seen : TileSeen) (x : Tile) : Bytes :=
  let ctrl := kind + 4 * flag x.offLatch + 16 * flag x.activeDnLost + 32 * flag (x.lane x.entryLane).aligned
  let r := x.response
  leBytes 1 ctrl ++ leBytes 1 x.offCause ++ leBytes 2 (f % 65536) ++ (if kind = 1 then phasePart seen x else cellPart x)
    ++ [byte (r.getD 0 0), byte (r.getD 1 0), byte (r.getD 2 0), byte (r.getD 3 0)] ++ leBytes 4 (r.getD 4 0)

/-- The body as lane `n` carries it: LANE tells the lanes apart, and a lane that trains answers with TRAIN frames. -/
def upOn (n : Nat) (x : Tile) : Bytes :=
  match x.up with
  | [] => []
  | c :: rest => byte ((if (x.lane n).kind = 0 then c.toNat / 4 * 4 else c.toNat) + 8 * n) :: rest

/-- The number of the upstream frame that follows: with the lane aligned, of the first launch F × 2,560 + 320 that the
tile's rack time has not passed; before that, of the downstream frame it follows (R91). -/
def upNumber (now : Nat) (x : Tile) : Nat :=
  if (x.lane x.entryLane).aligned then ceilDiv (rackTimeAt now x - 320) frameTicks else x.frameNo

/-- The launch of upstream frame `f` on lane `n` in sixteenths of a tick of the model's time (R91). -/
def upLaunch (i n f arrive16 : Nat) (x : Tile) : Int :=
  if (x.lane n).aligned then 16 * ((f * frameTicks + 320 : Nat) : Int) - x.offset16
  else arrive16 + Config.tileRegister i 0x04 % 65536

/-- The tile launches its upstream frame: the same body on both lanes at the same instant (R91). What it reported once is
spent: the answer, the LATE flags, the cell values sent. -/
def tileLaunch (i kind arrive16 now : Nat) (seen : TileSeen) (x : Tile) : Tile :=
  let f := upNumber now x
  let at16 := upLaunch i x.entryLane f arrive16 x
  let go (l : TLane) : TLane := if l.answering == .frames then { l with launch16 := at16 } else l
  { x with
    up := upBody kind f seen x, upFrame := f, lane0 := go x.lane0, lane1 := go x.lane1
    response := [0, 0, 0, 0, 0], sending := x.sending.drop 1
    slots := x.slots.map (fun v => (v.1, { v.2 with lateFlag := false })) }

/-- A downstream frame ends at a tile on lane 0 (primary) or 1 (alternate): an accepted one becomes available (R87, R100), any
other is counted and breaks the ALL_CLEAR run of the active lane (R107). The upstream frame that follows is launched
with the entry lane's frames (R91); a lane that trains alone launches with its own until it is aligned (R92). -/
def execTileFrameProcess (t tile lane : Nat) (arrival : TileArrival) (s : State) : Out :=
  let s := advance t s
  let x := s.tile tile
  let l := x.lane lane
  let entry := tileEntry (secs s) tile
  let port := (entry.map (fun e => if lane = 0 then tePrimary e else teAlt e)).getD 0xFF
  let kind := if (entry.map teIsPhase).getD true then 1 else 2
  if 2 ≤ lane then .next s
  else
    let heard := x.setLane lane { l with rxPlus := rxAfter l.rxPlus arrival.frame }
    let y :=
      match (acceptFrame l.rxPlus arrival.frame).filter (fun b => u8 b 0 % 4 != 3) with
      | some b => tileFrame tile lane port arrival.at16 s.now b heard
      | none =>
        { heard.setLane lane { heard.lane lane with errors := l.errors + 1 } with
          dnErr := sat32 x.dnErr 1, clearRun := if x.entryLane = lane then 0 else x.clearRun }
    let z :=
      if y.entryLane = lane && (y.lane lane).answering == .frames then tileLaunch tile kind arrival.at16 s.now arrival.seen y
      else if (y.lane lane).answering == .frames && !(y.lane lane).aligned then
        y.setLane lane { y.lane lane with launch16 := upLaunch tile lane y.frameNo arrival.at16 y }
      else y
    .next (s.setTile tile z)

/-- The all-off ordered set arrives (R103, R104). -/
def execTileAllOff (t tile : Nat) (s : State) : Out :=
  let s := advance t s
  .next (s.setTile tile { tileHold 2 (s.tile tile) with lastActivity := s.now })

/-- No activity for at least 6 µs (R105). -/
def execTileSilence (t tile : Nat) (s : State) : Out :=
  let s := advance t s
  let x := s.tile tile
  if x.lastActivity + 6 * usTicks ≤ s.now then .next (s.setTile tile (tileHold 3 x)) else .next s

/-- Sixteen TS1 ordered sets on a lane (R92): the tile latches off, clears TIME_ALIGNED and retrains, or trains its other lane
alone, and answers with TS1. -/
def tileTs1 (dual : Bool) (lane : Nat) (x : Tile) : Tile :=
  let fresh : TLane := { answering := .ts1, roleSeen := (x.lane lane).roleSeen }
  if !dual || lane == x.entryLane || !x.lane0.roleSeen && !x.lane1.roleSeen then
    let y := if x.offLatch && x.offCause == 1 then { x with clearRun := 0 } else tileLatch 6 x
    let y := y.setLane y.entryLane { y.lane y.entryLane with aligned := false }
    { y.setLane lane fresh with frameAt := none, disagree := 0 }
  else x.setLane lane fresh

/-- The tile's TS2 (R92): the echoed port and what its maker's registers declare. -/
def tileTs2 (i echo : Nat) : List LinkChar :=
  let r := Config.tileRegister i 0x00
  ts2Up echo (r / 256 % 256) (r / 65536 % 65536) (Config.tileRegister i 0x03 % 256)

/-- What a lane of a tile answers with while it trains (R92). -/
def laneSet (i : Nat) (l : TLane) : List LinkChar :=
  match l.answering with
  | .nothing => []
  | .ts1 => ts1Chars
  | .ts2 echo => tileTs2 i echo
  | .frames => []

/-- A run of ordered sets on a lane (R92): sixteen TS1 begin the training, eight TS2 are answered with the tile's TS2. -/
def execTileTrain (t tile : Nat) (run : LaneSets) (s : State) : Out :=
  let s := advance t s
  let lane := run.lane
  let x := s.tile tile
  let dual := ((tileEntry (secs s) tile).map (fun e => teAlt e != 0xFF)).getD false
  if 2 ≤ lane then .next s
  else
    match run.sets with
    | .ts1 => .next (s.setTile tile (tileTs1 dual lane x))
    | .ts2 port =>
      if (x.lane lane).answering == .nothing then .next s
      else .next (s.setTile tile (x.setLane lane { x.lane lane with answering := .ts2 port }))

/-- Local desaturation or over-current protection of a slot (R109): it latches the slot off; `active` false says that the
cause has gone. -/
def execTileProtectionTrip (t tile slot : Nat) (overcurrent active : Bool) (s : State) : Out :=
  let s := advance t s
  let x := s.tile tile
  let v := Tab.get ({} : Slot) x.slots slot
  if 8 ≤ slot then .next s
  else if !active then .next (s.setTile tile { x with slots := Tab.set x.slots slot { v with causePresent := false } })
  else
    .next (s.setTile tile { x with slots := Tab.set x.slots slot { slotOff v with
      protLatch := true, causePresent := true, desat := v.desat || !overcurrent, localOc := v.localOc || overcurrent } })

/-- SAMPLE_AT arrives, or was past on arrival (R113): the set is taken, held, and sent frame by frame. -/
def execTileCellSample (t tile : Nat) (volts : List Nat) (temps : List Int) (s : State) : Out :=
  let s := advance t s
  let x := s.tile tile
  match x.sampleAt with
  | none => .next s
  | some d =>
    if tileTime s x < d then .next s
    else
      let set : CellSet := { setId := x.sampleCmd.setId, late := x.sampleLate, volts := volts,
                             temps := if x.sampleCmd.temps then temps else [] }
      .next (s.setTile tile { x with sampleAt := none, set := set, sending := chunksOf set })

/-- BLEED_TIME expires: every switch opens (R114). -/
def execTileBleedExpiry (t tile : Nat) (s : State) : Out :=
  let s := advance t s
  let x := s.tile tile
  if x.bleedUntil ≤ s.now then .next (s.setTile tile { x with bleedMask := 0 }) else .next s

/-- A latched-off cell tile samples on its own every AUTO_PERIOD, and sends the set (R114). -/
def execTileAutoSample (t tile : Nat) (volts : List Nat) (temps : List Int) (s : State) : Out :=
  let s := advance t s
  let x := s.tile tile
  if x.offLatch && decide (x.lastAuto + x.autoPeriod * msTicks ≤ s.now) then
    let set : CellSet := { setId := 0, auto := true, volts := volts, temps := temps }
    .next (s.setTile tile { x with lastAuto := s.now, set := set, sending := chunksOf set })
  else .next s

/-- A tile powers up (R103, Table 4.18): its registers at their reset values, latched off with POWER_ON. -/
def execTilePowerUp (t tile : Nat) (s : State) : Out :=
  let s := advance t s
  .next (s.setTile tile { ({} : Tile) with
    offCount := ((s.tile tile).offCount + 1) % 65536, lastActivity := s.now, lastAuto := s.now })

/-- No valid frame on the active lane for two frame periods while the other is up (R111). -/
def execTileActiveDnLost (t tile : Nat) (s : State) : Out :=
  let s := advance t s
  let x := s.tile tile
  if (x.lane x.entryLane).lastValid + 2 * frameTicks ≤ s.now then .next (s.setTile tile { x with activeDnLost := true })
  else .next s

end Sys2Proof.Machine
end

