-- ==== Sys2Proof/Machine/Dispatch.lean ====
section
/-! DEFINITION. exec: one arm per command of the table, each a direct call of that command's meaning. -/

namespace Sys2Proof.Machine

/-- The effect of a command on everything but the queue. -/
def exec (i : Instr) (s : State) : Host.Outcome State Fault Refusal :=
  match i with
  | .vaoPor t => Sys2Proof.Machine.execVaoPor t s
  | .powerGood t straps => Sys2Proof.Machine.execPowerGood t straps s
  | .supplyLoss t => Sys2Proof.Machine.execSupplyLoss t s
  | .rstN t => Sys2Proof.Machine.execRstN t s
  | .pllLoss t => Sys2Proof.Machine.execPllLoss t s
  | .watchdogExpiry x => Sys2Proof.Machine.execWatchdogExpiry x s
  | .pllLocked t => Sys2Proof.Machine.execPllLocked t s
  | .mbistComplete t failing => Sys2Proof.Machine.execMbistComplete t failing s
  | .selfTestComplete t kat trng fuseReads => Sys2Proof.Machine.execSelfTestComplete t kat trng fuseReads s
  | .sfdpRead t modes => Sys2Proof.Machine.execSfdpRead t modes s
  | .slotVerifyComplete t readOk => Sys2Proof.Machine.execSlotVerifyComplete t readOk s
  | .activation t proofs => Sys2Proof.Machine.execActivation t proofs s
  | .standbyEntry t vpp => Sys2Proof.Machine.execStandbyEntry t vpp s
  | .dormantEntry t => Sys2Proof.Machine.execDormantEntry t s
  | .dormantWake t source straps => Sys2Proof.Machine.execDormantWake t source straps s
  | .wakeIntervalExpiry t straps => Sys2Proof.Machine.execWakeIntervalExpiry t straps s
  | .twDormantAddressMatch t address straps => Sys2Proof.Machine.execTwDormantAddressMatch t address straps s
  | .scrubPassComplete t bank accesses words contexts => Sys2Proof.Machine.execScrubPassComplete t bank accesses words contexts s
  | .dieTempUpdate t tj => Sys2Proof.Machine.execDieTempUpdate t tj s
  | .chipRestart t rq => Sys2Proof.Machine.execChipRestart t rq s
  | .imageStageOpen t rq => Sys2Proof.Machine.execImageStageOpen t rq s
  | .imageStageWrite t rq => Sys2Proof.Machine.execImageStageWrite t rq s
  | .imageStageVerify t rq => Sys2Proof.Machine.execImageStageVerify t rq s
  | .imageStageCommit t rq => Sys2Proof.Machine.execImageStageCommit t rq s
  | .imageStageAbort t rq => Sys2Proof.Machine.execImageStageAbort t rq s
  | .stageEraseComplete t => Sys2Proof.Machine.execStageEraseComplete t s
  | .stageVerifyComplete t readOk => Sys2Proof.Machine.execStageVerifyComplete t readOk s
  | .stageSessionTimeout t => Sys2Proof.Machine.execStageSessionTimeout t s
  | .imageRollbackAdvance t rq vpp => Sys2Proof.Machine.execImageRollbackAdvance t rq vpp s
  | .fuseBitComplete t verified vpp => Sys2Proof.Machine.execFuseBitComplete t verified vpp s
  | .trainLockComplete t port eq => Sys2Proof.Machine.execTrainLockComplete t port eq s
  | .ts2Received t port echo kind maker count => Sys2Proof.Machine.execTs2Received t port echo kind maker count s
  | .latencyMeasured t port rttSum16 taTile => Sys2Proof.Machine.execLatencyMeasured t port rttSum16 taTile s
  | .alignCheckComplete t port residualSum16 frames => Sys2Proof.Machine.execAlignCheckComplete t port residualSum16 frames s
  | .trainAttemptTimeout t port => Sys2Proof.Machine.execTrainAttemptTimeout t port s
  | .trainAttemptStart t port => Sys2Proof.Machine.execTrainAttemptStart t port s
  | .upstreamFrame t port frame => Sys2Proof.Machine.execUpstreamFrame t port frame s
  | .receiverLockLoss t port => Sys2Proof.Machine.execReceiverLockLoss t port s
  | .frameCutoff t frameNo => Sys2Proof.Machine.execFrameCutoff t frameNo s
  | .serviceOpTimeout t port => Sys2Proof.Machine.execServiceOpTimeout t port s
  | .residualTrim t port mean16 => Sys2Proof.Machine.execResidualTrim t port mean16 s
  | .eyeMarginMeasure t port mv ui64 eq => Sys2Proof.Machine.execEyeMarginMeasure t port mv ui64 eq s
  | .allClearRetry t port => Sys2Proof.Machine.execAllClearRetry t port s
  | .slotClear t port => Sys2Proof.Machine.execSlotClear t port s
  | .cellResend t string => Sys2Proof.Machine.execCellResend t string s
  | .tileFrameProcess t tile lane arrival => Sys2Proof.Machine.execTileFrameProcess t tile lane arrival s
  | .tileAllOff t tile => Sys2Proof.Machine.execTileAllOff t tile s
  | .tileSilence t tile => Sys2Proof.Machine.execTileSilence t tile s
  | .tileEdgeExecute t tile slot => Sys2Proof.Machine.execTileEdgeExecute t tile slot s
  | .tileTrain t tile run => Sys2Proof.Machine.execTileTrain t tile run s
  | .tileProtectionTrip t tile slot overcurrent active => Sys2Proof.Machine.execTileProtectionTrip t tile slot overcurrent active s
  | .tileCellSample t tile volts temps => Sys2Proof.Machine.execTileCellSample t tile volts temps s
  | .tileBleedExpiry t tile => Sys2Proof.Machine.execTileBleedExpiry t tile s
  | .tileAutoSample t tile volts temps => Sys2Proof.Machine.execTileAutoSample t tile volts temps s
  | .windowSamplePublish t phase => Sys2Proof.Machine.execWindowSamplePublish t phase s
  | .senseZero t rq => Sys2Proof.Machine.execSenseZero t rq s
  | .senseZeroComplete t => Sys2Proof.Machine.execSenseZeroComplete t s
  | .cellSetPublish t string tile => Sys2Proof.Machine.execCellSetPublish t string tile s
  | .ainSample t channel code => Sys2Proof.Machine.execAinSample t channel code s
  | .sppRisingEdge t channel period high => Sys2Proof.Machine.execSppRisingEdge t channel period high s
  | .sppEdgeTimeout x channel => Sys2Proof.Machine.execSppEdgeTimeout x channel s
  | .evaluationIssue t => Sys2Proof.Machine.execEvaluationIssue t s
  | .evaluationComplete t context => Sys2Proof.Machine.execEvaluationComplete t context s
  | .equaliseLimit t phase => Sys2Proof.Machine.execEqualiseLimit t phase s
  | .proofEvaluation t engine passed => Sys2Proof.Machine.execProofEvaluation t engine passed s
  | .proofIntervalEnd t engine => Sys2Proof.Machine.execProofIntervalEnd t engine s
  | .loopOpen t rq => Sys2Proof.Machine.execLoopOpen t rq s
  | .loopSet t rq => Sys2Proof.Machine.execLoopSet t rq s
  | .ctxCoefWrite t rq => Sys2Proof.Machine.execCtxCoefWrite t rq s
  | .loopClose t rq => Sys2Proof.Machine.execLoopClose t rq s
  | .injectStart t rq => Sys2Proof.Machine.execInjectStart t rq s
  | .injectStop t rq => Sys2Proof.Machine.execInjectStop t rq s
  | .captureArm t rq => Sys2Proof.Machine.execCaptureArm t rq s
  | .captureAbort t rq => Sys2Proof.Machine.execCaptureAbort t rq s
  | .brakeMaxTimeExpiry t stage => Sys2Proof.Machine.execBrakeMaxTimeExpiry t stage s
  | .crowbarFire t phase => Sys2Proof.Machine.execCrowbarFire t phase s
  | .wearSave t => Sys2Proof.Machine.execWearSave t s
  | .quietPoint t stage => Sys2Proof.Machine.execQuietPoint t stage s
  | .phaseRetire t rq => Sys2Proof.Machine.execPhaseRetire t rq s
  | .wearReset t rq => Sys2Proof.Machine.execWearReset t rq s
  | .ledgerBoundary t spa => Sys2Proof.Machine.execLedgerBoundary t spa s
  | .ledgerCompute t => Sys2Proof.Machine.execLedgerCompute t s
  | .capoPeriodStart t capo => Sys2Proof.Machine.execCapoPeriodStart t capo s
  | .holdupStageNamed t stage => Sys2Proof.Machine.execHoldupStageNamed t stage s
  | .supplyShort t consumer => Sys2Proof.Machine.execSupplyShort t consumer s
  | .restGrant t => Sys2Proof.Machine.execRestGrant t s
  | .restRampDownEnd t => Sys2Proof.Machine.execRestRampDownEnd t s
  | .restWindowEnd t => Sys2Proof.Machine.execRestWindowEnd t s
  | .restRampUpEnd t => Sys2Proof.Machine.execRestRampUpEnd t s
  | .restAbort t => Sys2Proof.Machine.execRestAbort t s
  | .restWaitExpiry t string => Sys2Proof.Machine.execRestWaitExpiry t string s
  | .modelStep t => Sys2Proof.Machine.execModelStep t s
  | .balancingSelect t => Sys2Proof.Machine.execBalancingSelect t s
  | .staleMark t string => Sys2Proof.Machine.execStaleMark t string s
  | .learnSave t => Sys2Proof.Machine.execLearnSave t s
  | .storeWriteStart t => Sys2Proof.Machine.execStoreWriteStart t s
  | .storeWriteComplete t failedAt => Sys2Proof.Machine.execStoreWriteComplete t failedAt s
  | .storeSlotErase t => Sys2Proof.Machine.execStoreSlotErase t s
  | .rackOnChange t level => Sys2Proof.Machine.execRackOnChange t level s
  | .sequenceStepIssue t => Sys2Proof.Machine.execSequenceStepIssue t s
  | .stepWaitEnd t => Sys2Proof.Machine.execStepWaitEnd t s
  | .readWaitEnd t => Sys2Proof.Machine.execReadWaitEnd t s
  | .upTimeout t => Sys2Proof.Machine.execUpTimeout t s
  | .stepReverse t => Sys2Proof.Machine.execStepReverse t s
  | .dischTimeout t rail => Sys2Proof.Machine.execDischTimeout t rail s
  | .undischargedWaitEnd t => Sys2Proof.Machine.execUndischargedWaitEnd t s
  | .guardWaitExpiry t => Sys2Proof.Machine.execGuardWaitExpiry t s
  | .railOutOfWindow t rail => Sys2Proof.Machine.execRailOutOfWindow t rail s
  | .keepaliveHoldExpiry t ka => Sys2Proof.Machine.execKeepaliveHoldExpiry t ka s
  | .contactorMismatch t ka => Sys2Proof.Machine.execContactorMismatch t ka s
  | .railMargin t rq => Sys2Proof.Machine.execRailMargin t rq s
  | .proxMate t => Sys2Proof.Machine.execProxMate t s
  | .patinaCheckComplete t p => Sys2Proof.Machine.execPatinaCheckComplete t p s
  | .patinaRetest t => Sys2Proof.Machine.execPatinaRetest t s
  | .messageDiscarded t m => Sys2Proof.Machine.execMessageDiscarded t m s
  | .accept t m => Sys2Proof.Machine.execAccept t m s
  | .reject t m => Sys2Proof.Machine.execReject t m s
  | .wait t m => Sys2Proof.Machine.execWait t m s
  | .settled t m => Sys2Proof.Machine.execSettled t m s
  | .capsQuery t m => Sys2Proof.Machine.execCapsQuery t m s
  | .roleSwap t m => Sys2Proof.Machine.execRoleSwap t m s
  | .resync t m => Sys2Proof.Machine.execResync t m s
  | .endCoupling t m => Sys2Proof.Machine.execEndCoupling t m s
  | .notSupported t m => Sys2Proof.Machine.execNotSupported t m s
  | .unknownType t m => Sys2Proof.Machine.execUnknownType t m s
  | .capabilities t m => Sys2Proof.Machine.execCapabilities t m s
  | .request t m => Sys2Proof.Machine.execRequest t m s
  | .status t m => Sys2Proof.Machine.execStatus t m s
  | .alert t m => Sys2Proof.Machine.execAlert t m s
  | .discoverIdentity t m => Sys2Proof.Machine.execDiscoverIdentity t m s
  | .identityChunk t m => Sys2Proof.Machine.execIdentityChunk t m s
  | .discoverModes t m => Sys2Proof.Machine.execDiscoverModes t m s
  | .enterMode t m => Sys2Proof.Machine.execEnterMode t m s
  | .exitMode t m => Sys2Proof.Machine.execExitMode t m s
  | .attention t m => Sys2Proof.Machine.execAttention t m s
  | .bridgeFrame t m => Sys2Proof.Machine.execBridgeFrame t m s
  | .customerVdm t m => Sys2Proof.Machine.execCustomerVdm t m s
  | .receipt t byte cellsOk => Sys2Proof.Machine.execReceipt t byte cellsOk s
  | .ackTimeout t => Sys2Proof.Machine.execAckTimeout t s
  | .collision t => Sys2Proof.Machine.execCollision t s
  | .lineBreak t => Sys2Proof.Machine.execLineBreak t s
  | .capsWaitTimeout t => Sys2Proof.Machine.execCapsWaitTimeout t s
  | .statusTimer t => Sys2Proof.Machine.execStatusTimer t s
  | .closingStart t => Sys2Proof.Machine.execClosingStart t s
  | .closingTimeout t => Sys2Proof.Machine.execClosingTimeout t s
  | .transitionSettle t => Sys2Proof.Machine.execTransitionSettle t s
  | .transitionAbandon t => Sys2Proof.Machine.execTransitionAbandon t s
  | .swapStepTimeout t => Sys2Proof.Machine.execSwapStepTimeout t s
  | .linkVoltage t => Sys2Proof.Machine.execLinkVoltage t s
  | .linkImbalance t => Sys2Proof.Machine.execLinkImbalance t s
  | .couplingEndComplete t => Sys2Proof.Machine.execCouplingEndComplete t s
  | .split t => Sys2Proof.Machine.execSplit t s
  | .cablePulled t => Sys2Proof.Machine.execCablePulled t s
  | .lockoutExpiry t => Sys2Proof.Machine.execLockoutExpiry t s
  | .hallmarkVerifyComplete t => Sys2Proof.Machine.execHallmarkVerifyComplete t s
  | .hallmarkRetry t => Sys2Proof.Machine.execHallmarkRetry t s
  | .sinkRequestResend t => Sys2Proof.Machine.execSinkRequestResend t s
  | .bridgeCanRx t id fdf brs data => Sys2Proof.Machine.execBridgeCanRx t id fdf brs data s
  | .couplingEnd t rq => Sys2Proof.Machine.execCouplingEnd t rq s
  | .couplingRoleSwap t rq => Sys2Proof.Machine.execCouplingRoleSwap t rq s
  | .couplingMode t rq => Sys2Proof.Machine.execCouplingMode t rq s
  | .couplingVdmSend t rq => Sys2Proof.Machine.execCouplingVdmSend t rq s
  | .faultInputAssert x code scope payload => Sys2Proof.Machine.execFaultInputAssert x code scope payload s
  | .faultInputDeassert x code scope => Sys2Proof.Machine.execFaultInputDeassert x code scope s
  | .pairMismatch x code scope => Sys2Proof.Machine.execPairMismatch x code scope s
  | .inputStuck t code scope test => Sys2Proof.Machine.execInputStuck t code scope test s
  | .reactionParity t entry => Sys2Proof.Machine.execReactionParity t entry s
  | .s1Escalated t => Sys2Proof.Machine.execS1Escalated t s
  | .clearHoldOffExpiry t code scope => Sys2Proof.Machine.execClearHoldOffExpiry t code scope s
  | .faultClear t rq => Sys2Proof.Machine.execFaultClear t rq s
  | .safeIn x => Sys2Proof.Machine.execSafeIn x s
  | .recorderMount t device => Sys2Proof.Machine.execRecorderMount t device s
  | .recordStage t code scope payload => Sys2Proof.Machine.execRecordStage t code scope payload s
  | .tokenRefill t code => Sys2Proof.Machine.execTokenRefill t code s
  | .recordFlush t ended => Sys2Proof.Machine.execRecordFlush t ended s
  | .odometerWrite t => Sys2Proof.Machine.execOdometerWrite t s
  | .powerFail t => Sys2Proof.Machine.execPowerFail t s
  | .lastBreath t trigger => Sys2Proof.Machine.execLastBreath t trigger s
  | .recorderSeal t rq => Sys2Proof.Machine.execRecorderSeal t rq s
  | .recorderClear t rq => Sys2Proof.Machine.execRecorderClear t rq s
  | .recorderClearComplete t programOk => Sys2Proof.Machine.execRecorderClearComplete t programOk s
  | .authLockoutExpiry t channel => Sys2Proof.Machine.execAuthLockoutExpiry t channel s
  | .serviceOpen t rq => Sys2Proof.Machine.execServiceOpen t rq s
  | .serviceClose t rq => Sys2Proof.Machine.execServiceClose t rq s
  | .serviceTimeout t => Sys2Proof.Machine.execServiceTimeout t s
  | .ownerEnrol t rq vpp => Sys2Proof.Machine.execOwnerEnrol t rq vpp s
  | .ownerTransfer t rq vpp => Sys2Proof.Machine.execOwnerTransfer t rq vpp s
  | .patchRollbackAdvance t rq vpp => Sys2Proof.Machine.execPatchRollbackAdvance t rq vpp s
  | .debugUnlock t rq => Sys2Proof.Machine.execDebugUnlock t rq s
  | .attest t rq => Sys2Proof.Machine.execAttest t rq s
  | .trngHealth x => Sys2Proof.Machine.execTrngHealth x s
  | .trngRetest t raw => Sys2Proof.Machine.execTrngRetest t raw s
  | .drbgReseed x => Sys2Proof.Machine.execDrbgReseed x s
  | .canSegment t port segment => Sys2Proof.Machine.execCanSegment t port segment s
  | .requestDiscarded t port bytes => Sys2Proof.Machine.execRequestDiscarded t port bytes s
  | .twReadTransfer t x => Sys2Proof.Machine.execTwReadTransfer t x s
  | .twResponsePending t rq => Sys2Proof.Machine.execTwResponsePending t rq s
  | .deferredResponse t port => Sys2Proof.Machine.execDeferredResponse t port s
  | .sclTimeout x => Sys2Proof.Machine.execSclTimeout x s
  | .sdaTimeout x => Sys2Proof.Machine.execSdaTimeout x s
  | .attentionPulse x => Sys2Proof.Machine.execAttentionPulse x s
  | .attentionPulseAbort t => Sys2Proof.Machine.execAttentionPulseAbort t s
  | .attentionEscalation t => Sys2Proof.Machine.execAttentionEscalation t s
  | .attentionStatusRead t rq => Sys2Proof.Machine.execAttentionStatusRead t rq s
  | .canBusOff t port => Sys2Proof.Machine.execCanBusOff t port s
  | .canRecovered t port => Sys2Proof.Machine.execCanRecovered t port s
  | .canSegmentGap t port => Sys2Proof.Machine.execCanSegmentGap t port s
  | .canRemoteFrame t port => Sys2Proof.Machine.execCanRemoteFrame t port s
  | .telemetryCopy t entry => Sys2Proof.Machine.execTelemetryCopy t entry s
  | .statusFrame t port => Sys2Proof.Machine.execStatusFrame t port s
  | .hostSettingsSwitch t port => Sys2Proof.Machine.execHostSettingsSwitch t port s
  | .recorderCursorWrite t rq => Sys2Proof.Machine.execRecorderCursorWrite t rq s
  | .recorderRecordRead t rq => Sys2Proof.Machine.execRecorderRecordRead t rq s
  | .vdmMailboxRelease t rq => Sys2Proof.Machine.execVdmMailboxRelease t rq s
  | .injectionTableWrite t rq => Sys2Proof.Machine.execInjectionTableWrite t rq s
  | .objectWrite t rq => Sys2Proof.Machine.execObjectWrite t rq s
  | .tapReset t => Sys2Proof.Machine.execTapReset t s
  | .instructionLoad t opcode scan => Sys2Proof.Machine.execInstructionLoad t opcode scan s
  | .testEnLow x => Sys2Proof.Machine.execTestEnLow x s
  | .pwrFailDeassert t => Sys2Proof.Machine.execPwrFailDeassert t s
  | .tilePowerUp t tile => Sys2Proof.Machine.execTilePowerUp t tile s
  | .tileActiveDnLost t tile => Sys2Proof.Machine.execTileActiveDnLost t tile s
  | .s1GuardWaitExpiry t => Sys2Proof.Machine.execS1GuardWaitExpiry t s
  | .vdmReply t m => Sys2Proof.Machine.execVdmReply t m s
  | .kreiloVdmUnknown t m => Sys2Proof.Machine.execKreiloVdmUnknown t m s
  | .pilotTransmitStart t => Sys2Proof.Machine.execPilotTransmitStart t s

end Sys2Proof.Machine
end

