-- ==== Sys2Proof/Safety.lean ====
section
/-! DEFINITION. What counts as a sound state and a safe step of the block, and the relations between a state and a later
one in which the statements are written. -/

namespace Sys2Proof.Machine

/-- Both flash devices are in their canonical form. -/
def State.flashesWf (s : State) : Bool := flashWf s.cs0 && flashWf s.cs1

/-- A command answers a next state that has a property. -/
def Reaches (o : Out) (P : State → Prop) : Prop := ∃ t, o = .next t ∧ P t

/-- `t` differs from `s` in the host ports alone. -/
def OnlyHost (s t : State) : Prop := t = { s with host := t.host }

/-- `t` differs from `s` in what staging a record touches: staging and its counters, the newest SEQUENCE the Plinth keeps,
and the attention of the host ports. -/
def OnlyRecords (s t : State) : Prop :=
  t = { s with host := t.host, vitrine := t.vitrine, plinth := { s.plinth with newestSeq := t.plinth.newestSeq } }

/-- `t` differs from `s` in one tile port alone. -/
def OnlyPort (p : Nat) (s t : State) : Prop := t = s.setPort p (t.port p)

/-- The chip has been reset by a cause of Table 3.5 (R63, R65): PD0 keeps all but the cause and its count, the fuses, the
flashes and the tiles stand, every unit of PD1 to PD15 is in its reset state. -/
def ResetBy (cause : Nat) (s t : State) : Prop :=
  t.plinth = { s.plinth with
    resetCause := cause, resetCounts := Tab.upd 0 s.plinth.resetCounts cause (fun n => sat16 n 1) } ∧
  t.mode = .boot ∧ t.phase = .inReset ∧ t.pins = { s.pins with
    transmitters := false, domains := 1
    allOff := if s.pins.transmitters && allOffCauses.contains cause then everyLane else 0 } ∧
  t.cs0 = s.cs0 ∧ t.cs1 = s.cs1 ∧ t.tiles = s.tiles ∧ t.benra.fuses = s.benra.fuses ∧ t.benra.certArea = s.benra.certArea ∧
  t.benra.session = none ∧ t.benra.cmdKeys = [] ∧ t.loader = {} ∧ t.vitrine = {} ∧ t.collector = { inputs := restartInputs s } ∧ t.armature = {} ∧
  t.ports = [] ∧ t.pave = {} ∧ t.loops = {} ∧ t.modul = {} ∧ t.balance = {} ∧ t.maq = {} ∧
  t.seq = { keepAlives := (List.range 16).map (fun k => (k, { since := s.now })) } ∧ t.clasp = {} ∧
  t.host.ports = [] ∧ t.host.accepted = [] ∧ t.tap = s.tap ∧ t.now = s.now ∧ t.pending = s.pending

/-- BOOT is entered (R52, R55, R65): straps sampled, the power cycle counted, CK12 and the watchdog running, event 0x8101 with
the cause of the last reset, the cycles and the operating seconds; the inputs of CLEAR_MODE RESTART clear, each with event
0x8C03 (R358). -/
def EntersBoot (straps : Nat) (s t : State) : Prop :=
  t = s.collector.inputs.foldl (fun u i => event 0x8C03 [keyCode i.1, keyScope i.1] u)
    (event 0x8101 [s.plinth.resetCause, sat32 s.plinth.powerCycles 1, s.plinth.opSeconds]
      { s with
        mode := .boot, phase := .started, pins := { s.pins with powerGood := true }, collector := {}
        plinth := { s.plinth with
          straps := straps % 8, powerCycles := sat32 s.plinth.powerCycles 1, wakeHeld := false, ck12 := true
          wdtServed := s.now } })

/-- `t` differs from `s` in what a fault without a safe level or a reset touches: its record, the fault inputs, the last
faults the Plinth keeps, and a capture or injection that waits for it (R173, R174, R345). -/
def OnlyLatches (s t : State) : Prop :=
  t = { s with
    host := t.host, vitrine := t.vitrine
    plinth := { s.plinth with newestSeq := t.plinth.newestSeq, lastFaults := t.plinth.lastFaults }
    collector := { s.collector with inputs := t.collector.inputs }
    loops := { s.loops with inject := t.loops.inject, capture := t.loops.capture } }

/-- A reaction that forces no level and resets nothing (Table 12.2). -/
def mildReaction (r : Nat) : Bool := levelOf r == 0 && !bit r 2 && !bit r 3

/-- A fault of class CHIP has been raised: an input that was idle in `s` is latched in `t`, and its code heads the last
faults the Plinth keeps (R340, R345). -/
def Raised (code : Nat) (s t : State) : Prop :=
  (s.input code 0).asserted = false → (t.input code 0).latched = true ∧ t.plinth.lastFaults.head? = some code

/-! ### Commands of the host ports -/

/-- The state on which an admitted command acts: the request has passed the gate, the mode restrictions, authentication
and the argument checks (R443, R444); none where one of them turns it away. -/
def admitCmd (c : CmdSpec) (rq : CmdReq) (s : State) : Option State :=
  let r := requestOf c rq
  if (gate r s).isSome then none
  else
    let s := takeRequest r s
    if modeRefuses c s then none
    else
      match r.trailer with
      | none => if c.plain && decide (argStatus c r s = stDone) then some s else none
      | some t =>
        match authenticate c.role c.serviceOnly r t s with
        | (.refused _ _, _) => none
        | (.passed, u) => if argStatus c r u = stDone then some u else none

/-- The dispatcher has answered a request with a status and result data, and done nothing else: `v` differs from `u` in the
host ports alone, and the last answer given carries the port, the tag, the status and the data. -/
def Answers (rq : CmdReq) (status : Nat) (data : Bytes) (u v : State) : Prop :=
  OnlyHost u v ∧ ∃ r, v.host.lastAnswer = some (portNo rq.port, r) ∧ r.status = status ∧ r.tag = rq.tag ∧ r.data = data

/-- The dispatcher has answered a request ACCEPTED, and remembers it until its final status (R419, R445). -/
def Accepts (object : Nat) (rq : CmdReq) (u v : State) : Prop :=
  Answers rq stAccepted [] u v ∧
    ∃ a, Tab.find v.host.accepted object = some a ∧ a.port = portNo rq.port ∧ a.tag = rq.tag

/-- The state in which a request for data is served: it has passed the gate, the mode restrictions and, where it carries a
trailer, authentication (R421, R443 step 1, R444); none where one of them turns it away. -/
def admitData (r : Request) (s : State) : Option State :=
  if (gate r s).isSome then none
  else
    let s := takeRequest r s
    if bootRefuses s r || (s.mode == .test && (r.op == 2 || r.op == 3)) then none
    else
      match r.trailer with
      | none => some s
      | some t =>
        match authenticate (dataRole r.object) (r.object == 0x0605 && r.op == 3) r t s with
        | (.refused _ _, _) => none
        | (.passed, u) => some u

/-- A request for data has been answered with a status and result data, and nothing else: `v` differs from `u` in the host
ports alone. -/
def Replies (r : Request) (status : Nat) (data : Bytes) (u v : State) : Prop :=
  OnlyHost u v ∧ ∃ x, v.host.lastAnswer = some (portNo r.port, x) ∧ x.status = status ∧ x.tag = r.tag ∧ x.data = data

/-! ### Messages of the pilot line -/

/-- A message of a kind has come in whole while the pilot is used, and passes R308. -/
def Hears (k : RxKind) (m : PilotMsg) (s : State) : Prop :=
  claspActive s = true ∧ pilotUsed s.clasp.phase = true ∧ rxVerdict s m = .ok ∧ rxKind m.bytes = k

/-- A message is not a repeat of the last one accepted (R310). -/
def Fresh (m : PilotMsg) (s : State) : Prop := s.clasp.lastAccepted ≠ some (msgType m.bytes, msgCount m.bytes)

end Sys2Proof.Machine
end

