-- ==== Sys2Proof/WellFormed.lean ====
section
/-! DEFINITION. What the environment can bring with a command: every operand within the width or the range that the spec
gives it. The meanings are total and need none of this. -/

namespace Sys2Proof

/-- A trailer's fields in their widths (Table 14.6). -/
def Trailer.wellFormed (t : Trailer) : Bool :=
  decide (t.counter < 2 ^ 32) && decide (t.channel < 256) && decide (t.resv < 2 ^ 24) && t.mac.length == 8

/-- A request's fields in their widths (Table 15.1). -/
def Request.wellFormed (r : Request) : Bool :=
  decide (r.op < 256) && decide (r.tag < 256) && decide (r.object < 65536) && decide (r.inst < 65536)
    && decide (r.offset < 2 ^ 32) && decide (r.length < 65536) && r.trailer.all Trailer.wellFormed

/-- A command request's fields in their widths, its DATA within R420. -/
def CmdReq.wellFormed (r : CmdReq) : Bool :=
  decide (r.tag < 256) && decide (r.offset < 2 ^ 32) && decide (1 ≤ r.data.length) && decide (r.data.length ≤ 288)
    && r.trailer.all Trailer.wellFormed

/-- A frame's body and its 16-bit CRC (R85, R86). -/
def WireFrame.wellFormed (f : WireFrame) : Bool := decide (f.symbols.length ≤ 100) && f.symbols.all (fun c => decide (c < 1024))

/-- A frame at a tile (R85, R86). -/
def TileArrival.wellFormed (x : TileArrival) : Bool := x.frame.wellFormed

/-- A data frame on a CAN port, with at most 64 data bytes (R432). -/
def CanSegment.wellFormed (port : HostPort) (x : CanSegment) : Bool := port != .tw && decide (x.data.length ≤ 64)

/-- A pilot message: a header, at most 240 bytes of payload and a CRC (R306, R308). -/
def PilotMsg.wellFormed (m : PilotMsg) : Bool := decide (m.bytes.length ≤ 248)

/-- The rack time at which a command is taken (assumption 1). -/
def Instr.time : Instr → Nat
  | .vaoPor t => t
  | .powerGood t _ => t
  | .supplyLoss t => t
  | .rstN t => t
  | .pllLoss t => t
  | .watchdogExpiry x => x.time
  | .pllLocked t => t
  | .mbistComplete t _ => t
  | .selfTestComplete t _ _ _ => t
  | .sfdpRead t _ => t
  | .slotVerifyComplete t _ => t
  | .activation t _ => t
  | .standbyEntry t _ => t
  | .dormantEntry t => t
  | .dormantWake t _ _ => t
  | .wakeIntervalExpiry t _ => t
  | .twDormantAddressMatch t _ _ => t
  | .scrubPassComplete t _ _ _ _ => t
  | .dieTempUpdate t _ => t
  | .chipRestart t _ => t
  | .imageStageOpen t _ => t
  | .imageStageWrite t _ => t
  | .imageStageVerify t _ => t
  | .imageStageCommit t _ => t
  | .imageStageAbort t _ => t
  | .stageEraseComplete t => t
  | .stageVerifyComplete t _ => t
  | .stageSessionTimeout t => t
  | .imageRollbackAdvance t _ _ => t
  | .fuseBitComplete t _ _ => t
  | .trainLockComplete t _ _ => t
  | .ts2Received t _ _ _ _ _ => t
  | .latencyMeasured t _ _ _ => t
  | .alignCheckComplete t _ _ _ => t
  | .trainAttemptTimeout t _ => t
  | .trainAttemptStart t _ => t
  | .upstreamFrame t _ _ => t
  | .receiverLockLoss t _ => t
  | .frameCutoff t _ => t
  | .serviceOpTimeout t _ => t
  | .residualTrim t _ _ => t
  | .eyeMarginMeasure t _ _ _ _ => t
  | .allClearRetry t _ => t
  | .slotClear t _ => t
  | .cellResend t _ => t
  | .tileFrameProcess t _ _ _ => t
  | .tileAllOff t _ => t
  | .tileSilence t _ => t
  | .tileEdgeExecute t _ _ => t
  | .tileTrain t _ _ => t
  | .tileProtectionTrip t _ _ _ _ => t
  | .tileCellSample t _ _ _ => t
  | .tileBleedExpiry t _ => t
  | .tileAutoSample t _ _ _ => t
  | .windowSamplePublish t _ => t
  | .senseZero t _ => t
  | .senseZeroComplete t => t
  | .cellSetPublish t _ _ => t
  | .ainSample t _ _ => t
  | .sppRisingEdge t _ _ _ => t
  | .sppEdgeTimeout x _ => x.time
  | .evaluationIssue t => t
  | .evaluationComplete t _ => t
  | .equaliseLimit t _ => t
  | .proofEvaluation t _ _ => t
  | .proofIntervalEnd t _ => t
  | .loopOpen t _ => t
  | .loopSet t _ => t
  | .ctxCoefWrite t _ => t
  | .loopClose t _ => t
  | .injectStart t _ => t
  | .injectStop t _ => t
  | .captureArm t _ => t
  | .captureAbort t _ => t
  | .brakeMaxTimeExpiry t _ => t
  | .crowbarFire t _ => t
  | .wearSave t => t
  | .quietPoint t _ => t
  | .phaseRetire t _ => t
  | .wearReset t _ => t
  | .ledgerBoundary t _ => t
  | .ledgerCompute t => t
  | .capoPeriodStart t _ => t
  | .holdupStageNamed t _ => t
  | .supplyShort t _ => t
  | .restGrant t => t
  | .restRampDownEnd t => t
  | .restWindowEnd t => t
  | .restRampUpEnd t => t
  | .restAbort t => t
  | .restWaitExpiry t _ => t
  | .modelStep t => t
  | .balancingSelect t => t
  | .staleMark t _ => t
  | .learnSave t => t
  | .storeWriteStart t => t
  | .storeWriteComplete t _ => t
  | .storeSlotErase t => t
  | .rackOnChange t _ => t
  | .sequenceStepIssue t => t
  | .stepWaitEnd t => t
  | .readWaitEnd t => t
  | .upTimeout t => t
  | .stepReverse t => t
  | .dischTimeout t _ => t
  | .undischargedWaitEnd t => t
  | .guardWaitExpiry t => t
  | .railOutOfWindow t _ => t
  | .keepaliveHoldExpiry t _ => t
  | .contactorMismatch t _ => t
  | .railMargin t _ => t
  | .proxMate t => t
  | .patinaCheckComplete t _ => t
  | .patinaRetest t => t
  | .messageDiscarded t _ => t
  | .accept t _ => t
  | .reject t _ => t
  | .wait t _ => t
  | .settled t _ => t
  | .capsQuery t _ => t
  | .roleSwap t _ => t
  | .resync t _ => t
  | .endCoupling t _ => t
  | .notSupported t _ => t
  | .unknownType t _ => t
  | .capabilities t _ => t
  | .request t _ => t
  | .status t _ => t
  | .alert t _ => t
  | .discoverIdentity t _ => t
  | .identityChunk t _ => t
  | .discoverModes t _ => t
  | .enterMode t _ => t
  | .exitMode t _ => t
  | .attention t _ => t
  | .bridgeFrame t _ => t
  | .customerVdm t _ => t
  | .receipt t _ _ => t
  | .ackTimeout t => t
  | .collision t => t
  | .lineBreak t => t
  | .capsWaitTimeout t => t
  | .statusTimer t => t
  | .closingStart t => t
  | .closingTimeout t => t
  | .transitionSettle t => t
  | .transitionAbandon t => t
  | .swapStepTimeout t => t
  | .linkVoltage t => t
  | .linkImbalance t => t
  | .couplingEndComplete t => t
  | .split t => t
  | .cablePulled t => t
  | .lockoutExpiry t => t
  | .hallmarkVerifyComplete t => t
  | .hallmarkRetry t => t
  | .sinkRequestResend t => t
  | .bridgeCanRx t _ _ _ _ => t
  | .couplingEnd t _ => t
  | .couplingRoleSwap t _ => t
  | .couplingMode t _ => t
  | .couplingVdmSend t _ => t
  | .faultInputAssert x _ _ _ => x.time
  | .faultInputDeassert x _ _ => x.time
  | .pairMismatch x _ _ => x.time
  | .inputStuck t _ _ _ => t
  | .reactionParity t _ => t
  | .s1Escalated t => t
  | .clearHoldOffExpiry t _ _ => t
  | .faultClear t _ => t
  | .safeIn x => x.time
  | .recorderMount t _ => t
  | .recordStage t _ _ _ => t
  | .tokenRefill t _ => t
  | .recordFlush t _ => t
  | .odometerWrite t => t
  | .powerFail t => t
  | .lastBreath t _ => t
  | .recorderSeal t _ => t
  | .recorderClear t _ => t
  | .recorderClearComplete t _ => t
  | .authLockoutExpiry t _ => t
  | .serviceOpen t _ => t
  | .serviceClose t _ => t
  | .serviceTimeout t => t
  | .ownerEnrol t _ _ => t
  | .ownerTransfer t _ _ => t
  | .patchRollbackAdvance t _ _ => t
  | .debugUnlock t _ => t
  | .attest t _ => t
  | .trngHealth x => x.time
  | .trngRetest t _ => t
  | .drbgReseed x => x.time
  | .canSegment t _ _ => t
  | .requestDiscarded t _ _ => t
  | .twReadTransfer t _ => t
  | .twResponsePending t _ => t
  | .deferredResponse t _ => t
  | .sclTimeout x => x.time
  | .sdaTimeout x => x.time
  | .attentionPulse x => x.time
  | .attentionPulseAbort t => t
  | .attentionEscalation t => t
  | .attentionStatusRead t _ => t
  | .canBusOff t _ => t
  | .canRecovered t _ => t
  | .canSegmentGap t _ => t
  | .canRemoteFrame t _ => t
  | .telemetryCopy t _ => t
  | .statusFrame t _ => t
  | .hostSettingsSwitch t _ => t
  | .recorderCursorWrite t _ => t
  | .recorderRecordRead t _ => t
  | .vdmMailboxRelease t _ => t
  | .injectionTableWrite t _ => t
  | .objectWrite t _ => t
  | .tapReset t => t
  | .instructionLoad t _ _ => t
  | .testEnLow x => x.time
  | .pwrFailDeassert t => t
  | .tilePowerUp t _ => t
  | .tileActiveDnLost t _ => t
  | .s1GuardWaitExpiry t => t
  | .vdmReply t _ => t
  | .kreiloVdmUnknown t _ => t
  | .pilotTransmitStart t => t

/-- The same command at another time. -/
def Instr.retime (t : Nat) : Instr → Instr
  | .vaoPor _ => .vaoPor t
  | .powerGood _ straps => .powerGood t straps
  | .supplyLoss _ => .supplyLoss t
  | .rstN _ => .rstN t
  | .pllLoss _ => .pllLoss t
  | .watchdogExpiry x => .watchdogExpiry { x with time := t }
  | .pllLocked _ => .pllLocked t
  | .mbistComplete _ failing => .mbistComplete t failing
  | .selfTestComplete _ kat trng fuseReads => .selfTestComplete t kat trng fuseReads
  | .sfdpRead _ modes => .sfdpRead t modes
  | .slotVerifyComplete _ readOk => .slotVerifyComplete t readOk
  | .activation _ proofs => .activation t proofs
  | .standbyEntry _ vpp => .standbyEntry t vpp
  | .dormantEntry _ => .dormantEntry t
  | .dormantWake _ source straps => .dormantWake t source straps
  | .wakeIntervalExpiry _ straps => .wakeIntervalExpiry t straps
  | .twDormantAddressMatch _ address straps => .twDormantAddressMatch t address straps
  | .scrubPassComplete _ bank accesses words contexts => .scrubPassComplete t bank accesses words contexts
  | .dieTempUpdate _ tj => .dieTempUpdate t tj
  | .chipRestart _ rq => .chipRestart t rq
  | .imageStageOpen _ rq => .imageStageOpen t rq
  | .imageStageWrite _ rq => .imageStageWrite t rq
  | .imageStageVerify _ rq => .imageStageVerify t rq
  | .imageStageCommit _ rq => .imageStageCommit t rq
  | .imageStageAbort _ rq => .imageStageAbort t rq
  | .stageEraseComplete _ => .stageEraseComplete t
  | .stageVerifyComplete _ readOk => .stageVerifyComplete t readOk
  | .stageSessionTimeout _ => .stageSessionTimeout t
  | .imageRollbackAdvance _ rq vpp => .imageRollbackAdvance t rq vpp
  | .fuseBitComplete _ verified vpp => .fuseBitComplete t verified vpp
  | .trainLockComplete _ port eq => .trainLockComplete t port eq
  | .ts2Received _ port echo kind maker count => .ts2Received t port echo kind maker count
  | .latencyMeasured _ port rttSum16 taTile => .latencyMeasured t port rttSum16 taTile
  | .alignCheckComplete _ port residualSum16 frames => .alignCheckComplete t port residualSum16 frames
  | .trainAttemptTimeout _ port => .trainAttemptTimeout t port
  | .trainAttemptStart _ port => .trainAttemptStart t port
  | .upstreamFrame _ port frame => .upstreamFrame t port frame
  | .receiverLockLoss _ port => .receiverLockLoss t port
  | .frameCutoff _ frameNo => .frameCutoff t frameNo
  | .serviceOpTimeout _ port => .serviceOpTimeout t port
  | .residualTrim _ port mean16 => .residualTrim t port mean16
  | .eyeMarginMeasure _ port mv ui64 eq => .eyeMarginMeasure t port mv ui64 eq
  | .allClearRetry _ port => .allClearRetry t port
  | .slotClear _ port => .slotClear t port
  | .cellResend _ string => .cellResend t string
  | .tileFrameProcess _ tile lane arrival => .tileFrameProcess t tile lane arrival
  | .tileAllOff _ tile => .tileAllOff t tile
  | .tileSilence _ tile => .tileSilence t tile
  | .tileEdgeExecute _ tile slot => .tileEdgeExecute t tile slot
  | .tileTrain _ tile run => .tileTrain t tile run
  | .tileProtectionTrip _ tile slot overcurrent active => .tileProtectionTrip t tile slot overcurrent active
  | .tileCellSample _ tile volts temps => .tileCellSample t tile volts temps
  | .tileBleedExpiry _ tile => .tileBleedExpiry t tile
  | .tileAutoSample _ tile volts temps => .tileAutoSample t tile volts temps
  | .windowSamplePublish _ phase => .windowSamplePublish t phase
  | .senseZero _ rq => .senseZero t rq
  | .senseZeroComplete _ => .senseZeroComplete t
  | .cellSetPublish _ string tile => .cellSetPublish t string tile
  | .ainSample _ channel code => .ainSample t channel code
  | .sppRisingEdge _ channel period high => .sppRisingEdge t channel period high
  | .sppEdgeTimeout x channel => .sppEdgeTimeout { x with time := t } channel
  | .evaluationIssue _ => .evaluationIssue t
  | .evaluationComplete _ context => .evaluationComplete t context
  | .equaliseLimit _ phase => .equaliseLimit t phase
  | .proofEvaluation _ engine passed => .proofEvaluation t engine passed
  | .proofIntervalEnd _ engine => .proofIntervalEnd t engine
  | .loopOpen _ rq => .loopOpen t rq
  | .loopSet _ rq => .loopSet t rq
  | .ctxCoefWrite _ rq => .ctxCoefWrite t rq
  | .loopClose _ rq => .loopClose t rq
  | .injectStart _ rq => .injectStart t rq
  | .injectStop _ rq => .injectStop t rq
  | .captureArm _ rq => .captureArm t rq
  | .captureAbort _ rq => .captureAbort t rq
  | .brakeMaxTimeExpiry _ stage => .brakeMaxTimeExpiry t stage
  | .crowbarFire _ phase => .crowbarFire t phase
  | .wearSave _ => .wearSave t
  | .quietPoint _ stage => .quietPoint t stage
  | .phaseRetire _ rq => .phaseRetire t rq
  | .wearReset _ rq => .wearReset t rq
  | .ledgerBoundary _ spa => .ledgerBoundary t spa
  | .ledgerCompute _ => .ledgerCompute t
  | .capoPeriodStart _ capo => .capoPeriodStart t capo
  | .holdupStageNamed _ stage => .holdupStageNamed t stage
  | .supplyShort _ consumer => .supplyShort t consumer
  | .restGrant _ => .restGrant t
  | .restRampDownEnd _ => .restRampDownEnd t
  | .restWindowEnd _ => .restWindowEnd t
  | .restRampUpEnd _ => .restRampUpEnd t
  | .restAbort _ => .restAbort t
  | .restWaitExpiry _ string => .restWaitExpiry t string
  | .modelStep _ => .modelStep t
  | .balancingSelect _ => .balancingSelect t
  | .staleMark _ string => .staleMark t string
  | .learnSave _ => .learnSave t
  | .storeWriteStart _ => .storeWriteStart t
  | .storeWriteComplete _ failedAt => .storeWriteComplete t failedAt
  | .storeSlotErase _ => .storeSlotErase t
  | .rackOnChange _ level => .rackOnChange t level
  | .sequenceStepIssue _ => .sequenceStepIssue t
  | .stepWaitEnd _ => .stepWaitEnd t
  | .readWaitEnd _ => .readWaitEnd t
  | .upTimeout _ => .upTimeout t
  | .stepReverse _ => .stepReverse t
  | .dischTimeout _ rail => .dischTimeout t rail
  | .undischargedWaitEnd _ => .undischargedWaitEnd t
  | .guardWaitExpiry _ => .guardWaitExpiry t
  | .railOutOfWindow _ rail => .railOutOfWindow t rail
  | .keepaliveHoldExpiry _ ka => .keepaliveHoldExpiry t ka
  | .contactorMismatch _ ka => .contactorMismatch t ka
  | .railMargin _ rq => .railMargin t rq
  | .proxMate _ => .proxMate t
  | .patinaCheckComplete _ p => .patinaCheckComplete t p
  | .patinaRetest _ => .patinaRetest t
  | .messageDiscarded _ m => .messageDiscarded t m
  | .accept _ m => .accept t m
  | .reject _ m => .reject t m
  | .wait _ m => .wait t m
  | .settled _ m => .settled t m
  | .capsQuery _ m => .capsQuery t m
  | .roleSwap _ m => .roleSwap t m
  | .resync _ m => .resync t m
  | .endCoupling _ m => .endCoupling t m
  | .notSupported _ m => .notSupported t m
  | .unknownType _ m => .unknownType t m
  | .capabilities _ m => .capabilities t m
  | .request _ m => .request t m
  | .status _ m => .status t m
  | .alert _ m => .alert t m
  | .discoverIdentity _ m => .discoverIdentity t m
  | .identityChunk _ m => .identityChunk t m
  | .discoverModes _ m => .discoverModes t m
  | .enterMode _ m => .enterMode t m
  | .exitMode _ m => .exitMode t m
  | .attention _ m => .attention t m
  | .bridgeFrame _ m => .bridgeFrame t m
  | .customerVdm _ m => .customerVdm t m
  | .receipt _ byte cellsOk => .receipt t byte cellsOk
  | .ackTimeout _ => .ackTimeout t
  | .collision _ => .collision t
  | .lineBreak _ => .lineBreak t
  | .capsWaitTimeout _ => .capsWaitTimeout t
  | .statusTimer _ => .statusTimer t
  | .closingStart _ => .closingStart t
  | .closingTimeout _ => .closingTimeout t
  | .transitionSettle _ => .transitionSettle t
  | .transitionAbandon _ => .transitionAbandon t
  | .swapStepTimeout _ => .swapStepTimeout t
  | .linkVoltage _ => .linkVoltage t
  | .linkImbalance _ => .linkImbalance t
  | .couplingEndComplete _ => .couplingEndComplete t
  | .split _ => .split t
  | .cablePulled _ => .cablePulled t
  | .lockoutExpiry _ => .lockoutExpiry t
  | .hallmarkVerifyComplete _ => .hallmarkVerifyComplete t
  | .hallmarkRetry _ => .hallmarkRetry t
  | .sinkRequestResend _ => .sinkRequestResend t
  | .bridgeCanRx _ id fdf brs data => .bridgeCanRx t id fdf brs data
  | .couplingEnd _ rq => .couplingEnd t rq
  | .couplingRoleSwap _ rq => .couplingRoleSwap t rq
  | .couplingMode _ rq => .couplingMode t rq
  | .couplingVdmSend _ rq => .couplingVdmSend t rq
  | .faultInputAssert x code scope payload => .faultInputAssert { x with time := t } code scope payload
  | .faultInputDeassert x code scope => .faultInputDeassert { x with time := t } code scope
  | .pairMismatch x code scope => .pairMismatch { x with time := t } code scope
  | .inputStuck _ code scope test => .inputStuck t code scope test
  | .reactionParity _ entry => .reactionParity t entry
  | .s1Escalated _ => .s1Escalated t
  | .clearHoldOffExpiry _ code scope => .clearHoldOffExpiry t code scope
  | .faultClear _ rq => .faultClear t rq
  | .safeIn x => .safeIn { x with time := t }
  | .recorderMount _ device => .recorderMount t device
  | .recordStage _ code scope payload => .recordStage t code scope payload
  | .tokenRefill _ code => .tokenRefill t code
  | .recordFlush _ ended => .recordFlush t ended
  | .odometerWrite _ => .odometerWrite t
  | .powerFail _ => .powerFail t
  | .lastBreath _ trigger => .lastBreath t trigger
  | .recorderSeal _ rq => .recorderSeal t rq
  | .recorderClear _ rq => .recorderClear t rq
  | .recorderClearComplete _ programOk => .recorderClearComplete t programOk
  | .authLockoutExpiry _ channel => .authLockoutExpiry t channel
  | .serviceOpen _ rq => .serviceOpen t rq
  | .serviceClose _ rq => .serviceClose t rq
  | .serviceTimeout _ => .serviceTimeout t
  | .ownerEnrol _ rq vpp => .ownerEnrol t rq vpp
  | .ownerTransfer _ rq vpp => .ownerTransfer t rq vpp
  | .patchRollbackAdvance _ rq vpp => .patchRollbackAdvance t rq vpp
  | .debugUnlock _ rq => .debugUnlock t rq
  | .attest _ rq => .attest t rq
  | .trngHealth x => .trngHealth { x with time := t }
  | .trngRetest _ raw => .trngRetest t raw
  | .drbgReseed x => .drbgReseed { x with time := t }
  | .canSegment _ port segment => .canSegment t port segment
  | .requestDiscarded _ port bytes => .requestDiscarded t port bytes
  | .twReadTransfer _ x => .twReadTransfer t x
  | .twResponsePending _ rq => .twResponsePending t rq
  | .deferredResponse _ port => .deferredResponse t port
  | .sclTimeout x => .sclTimeout { x with time := t }
  | .sdaTimeout x => .sdaTimeout { x with time := t }
  | .attentionPulse x => .attentionPulse { x with time := t }
  | .attentionPulseAbort _ => .attentionPulseAbort t
  | .attentionEscalation _ => .attentionEscalation t
  | .attentionStatusRead _ rq => .attentionStatusRead t rq
  | .canBusOff _ port => .canBusOff t port
  | .canRecovered _ port => .canRecovered t port
  | .canSegmentGap _ port => .canSegmentGap t port
  | .canRemoteFrame _ port => .canRemoteFrame t port
  | .telemetryCopy _ entry => .telemetryCopy t entry
  | .statusFrame _ port => .statusFrame t port
  | .hostSettingsSwitch _ port => .hostSettingsSwitch t port
  | .recorderCursorWrite _ rq => .recorderCursorWrite t rq
  | .recorderRecordRead _ rq => .recorderRecordRead t rq
  | .vdmMailboxRelease _ rq => .vdmMailboxRelease t rq
  | .injectionTableWrite _ rq => .injectionTableWrite t rq
  | .objectWrite _ rq => .objectWrite t rq
  | .tapReset _ => .tapReset t
  | .instructionLoad _ opcode scan => .instructionLoad t opcode scan
  | .testEnLow x => .testEnLow { x with time := t }
  | .pwrFailDeassert _ => .pwrFailDeassert t
  | .tilePowerUp _ tile => .tilePowerUp t tile
  | .tileActiveDnLost _ tile => .tileActiveDnLost t tile
  | .s1GuardWaitExpiry _ => .s1GuardWaitExpiry t
  | .vdmReply _ m => .vdmReply t m
  | .kreiloVdmUnknown _ m => .kreiloVdmUnknown t m
  | .pilotTransmitStart _ => .pilotTransmitStart t

/-- Every operand is one that the environment can bring. -/
def Instr.wellFormed : Instr → Bool
  | .vaoPor _ => true
  | .powerGood _ straps => decide (straps < 8)
  | .supplyLoss _ => true
  | .rstN _ => true
  | .pllLoss _ => true
  | .watchdogExpiry _ => true
  | .pllLocked _ => true
  | .mbistComplete _ _ => true
  | .selfTestComplete _ _ _ _ => true
  | .sfdpRead _ _ => true
  | .slotVerifyComplete _ _ => true
  | .activation _ _ => true
  | .standbyEntry _ _ => true
  | .dormantEntry _ => true
  | .dormantWake _ _ straps => decide (straps < 8)
  | .wakeIntervalExpiry _ straps => decide (straps < 8)
  | .twDormantAddressMatch _ address straps => decide (address < 128) && decide (straps < 8)
  | .scrubPassComplete _ bank _ _ _ => decide (bank < 8)
  | .dieTempUpdate _ _ => true
  | .chipRestart _ rq => rq.wellFormed
  | .imageStageOpen _ rq => rq.wellFormed
  | .imageStageWrite _ rq => rq.wellFormed
  | .imageStageVerify _ rq => rq.wellFormed
  | .imageStageCommit _ rq => rq.wellFormed
  | .imageStageAbort _ rq => rq.wellFormed
  | .stageEraseComplete _ => true
  | .stageVerifyComplete _ _ => true
  | .stageSessionTimeout _ => true
  | .imageRollbackAdvance _ rq _ => rq.wellFormed
  | .fuseBitComplete _ _ _ => true
  | .trainLockComplete _ port _ => decide (port < 52)
  | .ts2Received _ port echo kind maker count => decide (port < 52) && decide (echo < 65536) && decide (kind < 65536) && decide (maker < 65536) && decide (count < 65536)
  | .latencyMeasured _ port _ _ => decide (port < 52)
  | .alignCheckComplete _ port _ _ => decide (port < 52)
  | .trainAttemptTimeout _ port => decide (port < 52)
  | .trainAttemptStart _ port => decide (port < 52)
  | .upstreamFrame _ port frame => decide (port < 52) && frame.wellFormed
  | .receiverLockLoss _ port => decide (port < 52)
  | .frameCutoff _ _ => true
  | .serviceOpTimeout _ port => decide (port < 52)
  | .residualTrim _ port _ => decide (port < 52)
  | .eyeMarginMeasure _ port _ _ _ => decide (port < 52)
  | .allClearRetry _ port => decide (port < 52)
  | .slotClear _ port => decide (port < 52)
  | .cellResend _ string => decide (string < 256)
  | .tileFrameProcess _ _ lane arrival => decide (lane < 2) && arrival.wellFormed
  | .tileAllOff _ _ => true
  | .tileSilence _ _ => true
  | .tileEdgeExecute _ _ slot => decide (slot < 8)
  | .tileTrain _ _ run => decide (run.lane < 2)
  | .tileProtectionTrip _ _ slot _ _ => decide (slot < 8)
  | .tileCellSample _ _ _ _ => true
  | .tileBleedExpiry _ _ => true
  | .tileAutoSample _ _ _ _ => true
  | .windowSamplePublish _ phase => decide (phase < 192)
  | .senseZero _ rq => rq.wellFormed
  | .senseZeroComplete _ => true
  | .cellSetPublish _ string _ => decide (string < 256)
  | .ainSample _ _ code => decide (code < 65536)
  | .sppRisingEdge _ _ _ _ => true
  | .sppEdgeTimeout _ _ => true
  | .evaluationIssue _ => true
  | .evaluationComplete _ _ => true
  | .equaliseLimit _ phase => decide (phase < 192)
  | .proofEvaluation _ engine _ => decide (engine < 9)
  | .proofIntervalEnd _ engine => decide (engine < 9)
  | .loopOpen _ rq => rq.wellFormed
  | .loopSet _ rq => rq.wellFormed
  | .ctxCoefWrite _ rq => rq.wellFormed
  | .loopClose _ rq => rq.wellFormed
  | .injectStart _ rq => rq.wellFormed
  | .injectStop _ rq => rq.wellFormed
  | .captureArm _ rq => rq.wellFormed
  | .captureAbort _ rq => rq.wellFormed
  | .brakeMaxTimeExpiry _ stage => decide (stage < 64)
  | .crowbarFire _ phase => decide (phase < 192)
  | .wearSave _ => true
  | .quietPoint _ stage => decide (stage < 64)
  | .phaseRetire _ rq => rq.wellFormed
  | .wearReset _ rq => rq.wellFormed
  | .ledgerBoundary _ _ => true
  | .ledgerCompute _ => true
  | .capoPeriodStart _ _ => true
  | .holdupStageNamed _ stage => decide (stage < 64)
  | .supplyShort _ _ => true
  | .restGrant _ => true
  | .restRampDownEnd _ => true
  | .restWindowEnd _ => true
  | .restRampUpEnd _ => true
  | .restAbort _ => true
  | .restWaitExpiry _ string => decide (string < 256)
  | .modelStep _ => true
  | .balancingSelect _ => true
  | .staleMark _ string => decide (string < 256)
  | .learnSave _ => true
  | .storeWriteStart _ => true
  | .storeWriteComplete _ _ => true
  | .storeSlotErase _ => true
  | .rackOnChange _ _ => true
  | .sequenceStepIssue _ => true
  | .stepWaitEnd _ => true
  | .readWaitEnd _ => true
  | .upTimeout _ => true
  | .stepReverse _ => true
  | .dischTimeout _ _ => true
  | .undischargedWaitEnd _ => true
  | .guardWaitExpiry _ => true
  | .railOutOfWindow _ _ => true
  | .keepaliveHoldExpiry _ _ => true
  | .contactorMismatch _ _ => true
  | .railMargin _ rq => rq.wellFormed
  | .proxMate _ => true
  | .patinaCheckComplete _ _ => true
  | .patinaRetest _ => true
  | .messageDiscarded _ m => m.wellFormed
  | .accept _ m => m.wellFormed
  | .reject _ m => m.wellFormed
  | .wait _ m => m.wellFormed
  | .settled _ m => m.wellFormed
  | .capsQuery _ m => m.wellFormed
  | .roleSwap _ m => m.wellFormed
  | .resync _ m => m.wellFormed
  | .endCoupling _ m => m.wellFormed
  | .notSupported _ m => m.wellFormed
  | .unknownType _ m => m.wellFormed
  | .capabilities _ m => m.wellFormed
  | .request _ m => m.wellFormed
  | .status _ m => m.wellFormed
  | .alert _ m => m.wellFormed
  | .discoverIdentity _ m => m.wellFormed
  | .identityChunk _ m => m.wellFormed
  | .discoverModes _ m => m.wellFormed
  | .enterMode _ m => m.wellFormed
  | .exitMode _ m => m.wellFormed
  | .attention _ m => m.wellFormed
  | .bridgeFrame _ m => m.wellFormed
  | .customerVdm _ m => m.wellFormed
  | .receipt _ byte _ => decide (byte < 256)
  | .ackTimeout _ => true
  | .collision _ => true
  | .lineBreak _ => true
  | .capsWaitTimeout _ => true
  | .statusTimer _ => true
  | .closingStart _ => true
  | .closingTimeout _ => true
  | .transitionSettle _ => true
  | .transitionAbandon _ => true
  | .swapStepTimeout _ => true
  | .linkVoltage _ => true
  | .linkImbalance _ => true
  | .couplingEndComplete _ => true
  | .split _ => true
  | .cablePulled _ => true
  | .lockoutExpiry _ => true
  | .hallmarkVerifyComplete _ => true
  | .hallmarkRetry _ => true
  | .sinkRequestResend _ => true
  | .bridgeCanRx _ _ _ _ data => decide (data.length ≤ 64)
  | .couplingEnd _ rq => rq.wellFormed
  | .couplingRoleSwap _ rq => rq.wellFormed
  | .couplingMode _ rq => rq.wellFormed
  | .couplingVdmSend _ rq => rq.wellFormed
  | .faultInputAssert _ code scope _ => decide (code < 65536) && decide (scope < 8)
  | .faultInputDeassert _ code scope => decide (code < 65536) && decide (scope < 8)
  | .pairMismatch _ code scope => decide (code < 65536) && decide (scope < 8)
  | .inputStuck _ code scope _ => decide (code < 65536) && decide (scope < 8)
  | .reactionParity _ _ => true
  | .s1Escalated _ => true
  | .clearHoldOffExpiry _ code scope => decide (code < 65536) && decide (scope < 8)
  | .faultClear _ rq => rq.wellFormed
  | .safeIn _ => true
  | .recorderMount _ _ => true
  | .recordStage _ code scope _ => decide (code < 65536) && decide (scope < 8)
  | .tokenRefill _ code => decide (code < 65536)
  | .recordFlush _ _ => true
  | .odometerWrite _ => true
  | .powerFail _ => true
  | .lastBreath _ trigger => decide (trigger < 3)
  | .recorderSeal _ rq => rq.wellFormed
  | .recorderClear _ rq => rq.wellFormed
  | .recorderClearComplete _ _ => true
  | .authLockoutExpiry _ _ => true
  | .serviceOpen _ rq => rq.wellFormed
  | .serviceClose _ rq => rq.wellFormed
  | .serviceTimeout _ => true
  | .ownerEnrol _ rq _ => rq.wellFormed
  | .ownerTransfer _ rq _ => rq.wellFormed
  | .patchRollbackAdvance _ rq _ => rq.wellFormed
  | .debugUnlock _ rq => rq.wellFormed
  | .attest _ rq => rq.wellFormed
  | .trngHealth _ => true
  | .trngRetest _ _ => true
  | .drbgReseed _ => true
  | .canSegment _ port segment => segment.wellFormed port
  | .requestDiscarded _ _ _ => true
  | .twReadTransfer _ x => decide (x.address < 128)
  | .twResponsePending _ rq => rq.wellFormed
  | .deferredResponse _ _ => true
  | .sclTimeout _ => true
  | .sdaTimeout _ => true
  | .attentionPulse _ => true
  | .attentionPulseAbort _ => true
  | .attentionEscalation _ => true
  | .attentionStatusRead _ rq => rq.wellFormed
  | .canBusOff _ port => port != .tw
  | .canRecovered _ port => port != .tw
  | .canSegmentGap _ port => port != .tw
  | .canRemoteFrame _ port => port != .tw
  | .telemetryCopy _ _ => true
  | .statusFrame _ port => port != .tw
  | .hostSettingsSwitch _ _ => true
  | .recorderCursorWrite _ rq => rq.wellFormed
  | .recorderRecordRead _ rq => rq.wellFormed
  | .vdmMailboxRelease _ rq => rq.wellFormed
  | .injectionTableWrite _ rq => rq.wellFormed
  | .objectWrite _ rq => rq.wellFormed
  | .tapReset _ => true
  | .instructionLoad _ opcode _ => decide (opcode < 256)
  | .testEnLow _ => true
  | .pwrFailDeassert _ => true
  | .tilePowerUp _ _ => true
  | .tileActiveDnLost _ _ => true
  | .s1GuardWaitExpiry _ => true
  | .vdmReply _ m => m.wellFormed
  | .kreiloVdmUnknown _ m => m.wellFormed
  | .pilotTransmitStart _ => true

end Sys2Proof
end

