-- ==== Sys2Proof/Certificates/Slice0/Obligations.lean ====
section
/-! DEFINITION. The statements for the provers. Each says what a command or the machine does, by the rules of spec/ it
names; `a` is the state at the command's time throughout. -/

section
open Sys2Proof Sys2Proof.Machine

/-- For every command and state, a step with that command at the front of the queue is its effect on the state that
holds the queue's rest; with an empty queue the block idles (the model's choice, assumption 4).
(95_what_each_step_holds.md, R418) -/
def Obligations.StepRunsFrontCommand : Prop :=
  ∀ (c : Instr) (rest : List Instr) (s : State),
    (s.pending = c :: rest → step s = exec c { s with pending := rest }) ∧ (s.pending = [] → step s = .next s)

/-- After reset nothing waits, the chip is in BOOT before power-good, no image is live, no fault is latched, no staging
or SERVICE session is open, no port is trained, the transmitters are off, and both flashes are in canonical form.
(R52, R59, R64) -/
def Obligations.ResetState : Prop :=
  State.reset.pending = [] ∧ State.reset.mode = .boot ∧ State.reset.phase = .inReset ∧ State.reset.loader.live = none ∧
  latchedInputs State.reset = [] ∧ State.reset.loader.session = none ∧ State.reset.benra.session = none ∧
  State.reset.ports = [] ∧ State.reset.pins.transmitters = false ∧ State.reset.flashesWf = true ∧
  faultNLow State.reset = true ∧ running State.reset = false

/-- From every state in which both flash contents are in canonical form (addresses rising, nothing listed that reads as
erased), a step that answers a next state leaves both in canonical form. (R27, R369, R388) -/
def Obligations.EveryStepKeepsFlashCanonical : Prop :=
  ∀ s t : State, s.flashesWf = true → step s = .next t → t.flashesWf = true

/-- A fuse bit that is programmed stays programmed through every step, a reset of the chip and a loss of VAO_3V3
included. (R397, R398) -/
def Obligations.FusesAreNeverCleared : Prop :=
  ∀ (s t : State) (i : Nat), step s = .next t → s.benra.fuses.testBit i = true → t.benra.fuses.testBit i = true

/-- Every command, in every state, answers a next state: the queue is as before, and time is the later of the state's
and the command's. (95_what_each_step_holds.md, R59) -/
def Obligations.EveryCommandCompletes : Prop :=
  ∀ (c : Instr) (s : State),
    Reaches (exec c s) (fun u => u.pending = s.pending ∧ u.now = max s.now c.time)

/-- VAO_POR leaves PD0 as after a cold start; SUPPLY_LOSS outside DORMANT, RST_N and PLL_LOSS put PD1 to PD15 in reset
with their cause code and count and keep the rest of PD0, the fuses and the flashes; a supply lost in DORMANT only
ends power-good. (R56, R62, R63, R65) -/
def Obligations.ResetSources : Prop :=
  ∀ (t : Nat) (s a : State), a = advance t s →
    Reaches (exec (.vaoPor t) s) (fun u => u.plinth = coldPlinth ∧ u.mode = .boot ∧ u.phase = .inReset ∧
      u.pins = { a.pins with transmitters := false, powerGood := false, domains := 1, allOff := 0 } ∧ u.loader = {} ∧
      u.collector = {} ∧ u.vitrine = {} ∧ u.ports = [] ∧
      u.seq = { keepAlives := (List.range 16).map (fun k => (k, { since := a.now })) } ∧ u.benra.fuses = a.benra.fuses ∧ u.cs0 = a.cs0 ∧ u.cs1 = a.cs1) ∧
    (a.mode ≠ .dormant →
      Reaches (exec (.supplyLoss t) s) (ResetBy 0x02 { a with pins := { a.pins with powerGood := false } })) ∧
    (a.mode = .dormant → exec (.supplyLoss t) s = .next { a with pins := { a.pins with powerGood := false } }) ∧
    Reaches (exec (.rstN t) s) (ResetBy 0x03 { a with pins := { a.pins with powerGood := false } }) ∧
    (a.phase ≠ .inReset → a.phase ≠ .started → Reaches (exec (.pllLoss t) s) (ResetBy 0x07 a)) ∧
    (a.phase = .inReset ∨ a.phase = .started → exec (.pllLoss t) s = .next a)

/-- Outside DORMANT, TEST and reset, WATCHDOG_EXPIRY past the timeout of the last service, or as a service before the
window opens, puts the chip in reset with cause 0x04, counts it, keeps the operating seconds, the power cycles and
the fuses, and raises fault 0x0101; a service inside the window starts the timeout again, and before the timeout
nothing else happens. In DORMANT and TEST the watchdog does nothing. (R63, R65, R66) -/
def Obligations.WatchdogResets : Prop :=
  ∀ (t : Nat) (service : Bool) (s a : State), a = advance t s →
    (a.mode ≠ .dormant → a.mode ≠ .test → a.phase ≠ .inReset →
      wdtTimeout a ≤ a.now - a.plinth.wdtServed ∨ service = true ∧ a.now - a.plinth.wdtServed < wdtWindow a →
      Reaches (exec (.watchdogExpiry ⟨t, service⟩) s) (fun u => u.mode = .boot ∧ u.phase = .inReset ∧ u.plinth.resetCause = 4 ∧
        u.plinth.resetCounts = Tab.upd 0 a.plinth.resetCounts 4 (fun n => sat16 n 1) ∧
        u.plinth.opSeconds = a.plinth.opSeconds ∧ u.plinth.powerCycles = a.plinth.powerCycles ∧
        u.benra.fuses = a.benra.fuses ∧ u.loader = {} ∧ u.pins.transmitters = false ∧ (u.input 0x0101 0).latched = true)) ∧
    (a.mode ≠ .dormant → a.mode ≠ .test → a.phase ≠ .inReset → a.now - a.plinth.wdtServed < wdtTimeout a →
      (wdtWindow a ≤ a.now - a.plinth.wdtServed →
        exec (.watchdogExpiry ⟨t, true⟩) s = .next { a with plinth := { a.plinth with wdtServed := a.now } }) ∧
      exec (.watchdogExpiry ⟨t, false⟩) s = .next a) ∧
    (a.mode = .dormant ∨ a.mode = .test → exec (.watchdogExpiry ⟨t, service⟩) s = .next a)

/-- POWER_GOOD enters BOOT from reset or for a held wake. In DORMANT with power good, a rising RACK_ON, an enabled
change of CP_PROX, the end of an enabled wake interval and an enabled two-wire address match enter BOOT; without
power good the Plinth holds the wake. The NACKed address match is counted whether or not it wakes. (R52, R53, R55,
R65, R423, R428) -/
def Obligations.BootIsEntered : Prop :=
  ∀ (t straps : Nat) (s a : State), a = advance t s →
    (a.phase = .inReset → a.mode ≠ .dormant ∨ a.plinth.wakeHeld = true →
      Reaches (exec (.powerGood t straps) s) (EntersBoot straps a)) ∧
    (a.phase ≠ .inReset → exec (.powerGood t straps) s = .next { a with pins := { a.pins with powerGood := true } }) ∧
    (a.mode = .dormant → a.phase = .inReset → a.pins.powerGood = true →
      Reaches (exec (.dormantWake t .rackOn straps) s)
        (EntersBoot straps { a with pins := { a.pins with rackOn := true } }) ∧
      (bit a.plinth.wakeSources 3 = true → Reaches (exec (.dormantWake t .cpProx straps) s) (EntersBoot straps a)) ∧
      (bit a.plinth.wakeSources 3 = false → exec (.dormantWake t .cpProx straps) s = .next a) ∧
      (bit a.plinth.wakeSources 2 = true → a.plinth.wakeInterval ≠ 0 →
        a.plinth.dormantSince + a.plinth.wakeInterval * secTicks ≤ a.now →
        Reaches (exec (.wakeIntervalExpiry t straps) s) (EntersBoot straps a)) ∧
      (bit a.plinth.wakeSources 1 = true → a.plinth.wakeHeld = false →
        Reaches (exec (.twDormantAddressMatch t (twAddress a) straps) s) (EntersBoot straps
          { a with plinth := { a.plinth with wakeNack := sat16 a.plinth.wakeNack 1, wokenByAddress := true } })) ∧
      (bit a.plinth.wakeSources 1 = false →
        exec (.twDormantAddressMatch t (twAddress a) straps) s
          = .next { a with plinth := { a.plinth with wakeNack := sat16 a.plinth.wakeNack 1 } })) ∧
    (a.mode = .dormant → a.pins.powerGood = false →
      exec (.dormantWake t .rackOn straps) s
        = .next { a with pins := { a.pins with rackOn := true }, plinth := { a.plinth with wakeHeld := true } })

/-- PLL_LOCKED starts rack time and the clocked phase and switches PD1 to PD11 on. MBIST_COMPLETE assigns spares to the
failing and suspected columns of every bank that has enough, clears the suspect list of each bank repaired, and goes
on where every bank is repaired; otherwise the chip stays in BOOT without an image with fault 0x0203, and its host
ports stay silent exactly when banks 0 and 1 both failed. (R61, R73, R74, R76) -/
def Obligations.MemoryIsTestedAndRepaired : Prop :=
  ∀ (t : Nat) (failing : List (Nat × Nat)) (s a : State), a = advance t s →
    (a.phase = .started → exec (.pllLocked t) s = .next { a with
      phase := .clocked, epoch := a.now, pins := { a.pins with domains := a.pins.domains ||| 0xFFE } }) ∧
    (a.phase = .clocked → (∀ b, b < 8 → bankFails a failing b = false) →
      Reaches (exec (.mbistComplete t failing) s) (fun u => u.phase = .repaired ∧ u.mode = a.mode ∧
        u.plinth.suspects = [] ∧ u.host.silent = false ∧ u.cs0 = a.cs0 ∧ u.cs1 = a.cs1 ∧ u.benra = a.benra ∧
        ∀ b, b < 8 → (u.bank b).softRepairs = columnsToRepair a failing b)) ∧
    (∀ k, a.phase = .clocked → k < 8 → bankFails a failing k = true →
      Reaches (exec (.mbistComplete t failing) s) (fun u => u.phase = .repairFailed ∧ u.mode = a.mode ∧
        (∀ x, x ∈ u.plinth.suspects ↔ x ∈ a.plinth.suspects ∧ x.1 < 8 ∧ bankFails a failing x.1 = true) ∧ ((a.input 0x0203 0).asserted = false → (u.input 0x0203 0).latched = true) ∧
        u.host.silent = (bankFails a failing 0 && bankFails a failing 1)))

/-- SELF_TEST_COMPLETE with the known-answer test and the start-up test of the TRNG passed at the first or the second
try, two fuse reads equal and LIFECYCLE shipped seeds the DRBG, derives the device key and the recorder key, draws
BOOT_NONCE, and goes on, with fault 0x0D06 where the certificate store fails; a known-answer test or TRNG test that
fails twice holds BOOT with fault 0x0D01 or 0x0D02, fuse reads that differ twice, or a LIFECYCLE that is not
shipped, hold it without an image and raise 0x0D05. (R393, R395, R396, R408, R415) -/
def Obligations.BenraIsTested : Prop :=
  ∀ (t : Nat) (s a : State), a = advance t s → a.phase = .repaired →
    (∀ kat trng reads raw, (kat.take 2).any id = true → (trng.take 2).find? startupPasses = some raw →
      readsAgree reads = true → fuseShipped a = true →
      Reaches (exec (.selfTestComplete t kat trng reads) s) (fun u => u.phase = .tested ∧
        u.mode = a.mode ∧ u.benra.deviceKey = some (deriveDeviceKey a) ∧ u.benra.recorderKey = some (deriveRecorderKey a) ∧
        u.benra.bootNonce = leBytes 8 (drbg (seedDrbg raw a)).1 ∧ u.benra.fuses = a.benra.fuses ∧ u.cs0 = a.cs0 ∧
        (u.benra.certInvalid = true → Raised 0x0D06 a u))) ∧
    (∀ kat trng reads, (kat.take 2).any id = false →
      Reaches (exec (.selfTestComplete t kat trng reads) s) (fun u => u.phase = .selfTestFailed ∧ u.mode = a.mode ∧
        u.benra = a.benra ∧ Raised 0x0D01 a u)) ∧
    (∀ kat trng reads, (kat.take 2).any id = true → (trng.take 2).any startupPasses = false →
      Reaches (exec (.selfTestComplete t kat trng reads) s) (fun u => u.phase = .selfTestFailed ∧ u.mode = a.mode ∧
        u.benra = a.benra ∧ Raised 0x0D02 a u)) ∧
    (∀ kat trng reads, (kat.take 2).any id = true → (trng.take 2).any startupPasses = true →
      readsAgree reads = false ∨ fuseShipped a = false →
      Reaches (exec (.selfTestComplete t kat trng reads) s) (fun u => u.phase = .noImage ∧ u.mode = a.mode ∧
        u.benra = a.benra ∧ Raised 0x0D05 a u))

/-- SFDP_READ takes the fastest declared mode and lists the slots with a commit record, the higher SEQUENCE first; with
none the chip stays in BOOT without an image with fault 0x0D11. A slot that passes waits in shadow; one that fails
leaves its reason, counts a malformed image, and the next is tried, or fault 0x0D11 holds BOOT without an image
after the last. (R27, R38, R40, R41, R42, R44, R422) -/
def Obligations.FlashIsReadAndSlotsAreTried : Prop :=
  ∀ (t : Nat) (s a : State), a = advance t s →
    (∀ modes, a.phase = .tested →
      Reaches (exec (.sfdpRead t modes) s) (fun u => u.mode = a.mode ∧ u.cs0 = a.cs0 ∧ u.loader.toTry = slotOrder a ∧
        u.loader.firstTry = (slotOrder a).head?.getD 0 ∧ u.loader.live = a.loader.live ∧
        u.loader.xspiBits = (xspiPick modes).lines ∧ u.loader.xspiDdr = (xspiPick modes).ddr ∧
        u.loader.xspiMhz = xspiClock (xspiPick modes) ∧
        (slotOrder a ≠ [] → u.phase = .flashRead) ∧ (slotOrder a = [] → u.phase = .noImage ∧ Raised 0x0D11 a u))) ∧
    (∀ slot rest readOk, a.phase = .flashRead → a.loader.toTry = slot :: rest →
      match verifySlot a slot readOk with
      | .passes i => exec (.slotVerifyComplete t readOk) s
          = .next { a with phase := .verified, loader := { a.loader with toTry := rest, shadow := some i } }
      | .fails reason bad _ => Reaches (exec (.slotVerifyComplete t readOk) s) (fun u => u.mode = a.mode ∧ u.cs0 = a.cs0 ∧
          u.loader.toTry = rest ∧ u.loader.live = a.loader.live ∧ u.loader.shadow = a.loader.shadow ∧
          u.loader.reason = Tab.set a.loader.reason slot reason ∧
          u.loader.malformed = (if bad then sat16 a.loader.malformed 1 else a.loader.malformed) ∧
          (rest ≠ [] → u.phase = .flashRead ∧ Raised 0x0D10 a u) ∧
          (rest = [] → u.phase = .noImage ∧ Raised 0x0D11 a u)))

/-- ACTIVATION of the verified image with no fault latched and at least eight engines proved makes it the running image,
still in BOOT, with its command keys and patch, its engines and no ledger period owed. STANDBY_ENTRY from BOOT with
no safe level held enters STANDBY and enables the transmitters of an enrolled chip; an unenrolled chip keeps its
ports untrained; a held safe level brings SAFE. (R40, R41, R179, R399, R350, R58, R75) -/
def Obligations.ImageBecomesLive : Prop :=
  ∀ (t : Nat) (s a : State), a = advance t s →
    (∀ proofs i, a.loader.shadow = some i → a.phase = .verified → latchedInputs a = [] →
      8 ≤ ((List.range 9).filter (fun k => proofs.contains k)).length →
      Reaches (exec (.activation t proofs) s) (fun u => u.phase = .live ∧ u.mode = a.mode ∧ u.loader.live = some i ∧
        u.loader.shadow = none ∧ u.loader.toTry = [] ∧ u.cs0 = a.cs0 ∧ u.cs1 = a.cs1 ∧ u.benra.fuses = a.benra.fuses ∧
        u.benra.cmdKeys = deriveCmdKeys (sec i.sections tyTrust) a ∧ u.ledger = period a + 1 ∧
        u.plinth.wdtServed = a.now ∧ u.plinth.wokenByAddress = false ∧
        ∀ k, k < 9 → (u.engine k).passed = proofs.contains k)) ∧
    (∀ vpp, isLive a = true → a.mode = .boot → a.collector.heldLevel = 0 →
      Reaches (exec (.standbyEntry t vpp) s) (fun u => u.mode = .standby ∧ u.under = .standby ∧ u.pins.vppFuse = vpp ∧
        u.pins.domains = a.pins.domains ||| (cpDomainEnable (secs a) &&& 0xF000) ∧
        u.loader = a.loader ∧ u.cs0 = a.cs0 ∧ u.cs1 = a.cs1 ∧ u.benra.fuses = a.benra.fuses ∧
        (activeOwner a ≠ none → u.pins.transmitters = true) ∧
        (activeOwner a = none → u.pins.transmitters = a.pins.transmitters ∧ u.ports = a.ports ∧ u.seq = a.seq))) ∧
    (∀ vpp, isLive a = true → a.mode = .boot → a.collector.heldLevel ≠ 0 →
      Reaches (exec (.standbyEntry t vpp) s) (fun u => u.mode = .safe))

/-- When the conditions of R54 hold, DORMANT_ENTRY flushes staging, writes an odometer entry, switches PD1 to PD15 off
and leaves the Plinth with the image's wake sources and interval; when they do not, nothing happens. (R53, R54, R60) -/
def Obligations.DormancyIsEntered : Prop :=
  ∀ (t : Nat) (s a : State), a = advance t s →
    (dormantAllowed a = true →
      Reaches (exec (.dormantEntry t) s) (fun u => u.mode = .dormant ∧ u.phase = .inReset ∧ u.loader = {} ∧
        u.vitrine = {} ∧ u.collector = { inputs := restartInputs (flushAll a) } ∧ u.ports = [] ∧ u.benra.fuses = a.benra.fuses ∧ u.cs0 = a.cs0 ∧
        u.cs1 = (writeOdometer (flushAll a)).cs1 ∧ u.pins = { a.pins with transmitters := false, domains := 1, allOff := 0 } ∧
        u.plinth.dormantSince = a.now ∧ u.plinth.wakeSources = cpWakeSources (secs a) ∧
        u.plinth.wakeInterval = cpWakeInterval (secs a) ∧ u.plinth.powerCycles = a.plinth.powerCycles)) ∧
    (dormantAllowed a = false → exec (.dormantEntry t) s = .next a)

/-- A clean scrub pass counts its corrections and itself; a column over COLUMN_SUSPECT is suspected, a double error
raises 0x0201, and a context record whose bytes differ from the CRC held, found in bank 2, raises 0x0C06. A master's
access before the pass is counted where it waited for another master, and answered: with an error and 0x0207 on a
parity error, with an error and 0x0206 where Table 3.7 refuses it, with corrected data counted on one wrong bit,
with an error and 0x0201 on two, otherwise without error. The die temperature below both limits lowers both faults,
between them raises 0x0104, and at TJ_LIMIT raises 0x0103 too. PWR_FAIL_DEASSERT lets a waiting erase go on. (R67,
R69, R70, R71, R72, R76, R79, R365, R388) -/
def Obligations.ScrubbingTemperatureAndPowerFail : Prop :=
  ∀ (t : Nat) (s a : State), a = advance t s →
    (running a = true → ∀ bank columns contexts, bank < 8 →
      (∀ x ∈ columns, x.2 ≤ cpColumnSuspect (secs a)) → (∀ x ∈ contexts, bank ≠ 2 ∨ crcDiffers a x = false) →
      exec (.scrubPassComplete t bank [] ⟨columns, []⟩ contexts) s = .next (a.setBank bank { a.bank bank with
        corrections := sat32 (a.bank bank).corrections ((columns.map (·.2)).sum)
        scrubPasses := sat32 (a.bank bank).scrubPasses 1, doubleErrors := sat32 (a.bank bank).doubleErrors 0 })) ∧
    (running a = true → ∀ bank c n w x, bank < 8 → cpColumnSuspect (secs a) < n →
      ∀ b, b = (fun (k : Nat) (d : Nat) => a.setBank bank { a.bank bank with
        corrections := sat32 (a.bank bank).corrections k, scrubPasses := sat32 (a.bank bank).scrubPasses 1
        doubleErrors := sat32 (a.bank bank).doubleErrors d }) →
      exec (.scrubPassComplete t bank [] ⟨[(c, n)], []⟩ []) s = .next (suspect bank c (b n 0)) ∧
      exec (.scrubPassComplete t bank [] ⟨[], [w]⟩ []) s = .next (chipPulse 0x0201 [bank, w] (b 0 1)) ∧
      (bank = 2 → crcDiffers a x = true →
        exec (.scrubPassComplete t bank [] ⟨[], []⟩ [x]) s = .next (chipPulse 0x0C06 [x.1 % 0x1000] (b 0 0)))) ∧
    (running a = true → ∀ bank x v r e, bank < 8 → v = (if x.waited then noteConflict x.master a else a) →
      r = v.bank bank → e = (fun (b : Bool) (u : State) => answerMaster x.master b u) →
      (x.parityBad = true → ∀ u, u = chipPulse 0x0207 [x.master, bank] (e true v) → running u = true →
        exec (.scrubPassComplete t bank [x] ⟨[], []⟩ []) s = .next (scrubPass bank [] [] [] u)) ∧
      (x.parityBad = false → bankAllows a.mode bank (bankMaster x.master) x.write = false →
        ∀ u, u = chipPulse 0x0206 [x.master, bank] (e true v) → running u = true →
        exec (.scrubPassComplete t bank [x] ⟨[], []⟩ []) s = .next (scrubPass bank [] [] [] u)) ∧
      (x.parityBad = false → bankAllows a.mode bank (bankMaster x.master) x.write = true →
        (x.write = true ∨ x.wrongBits = 0 →
          exec (.scrubPassComplete t bank [x] ⟨[], []⟩ []) s = .next (scrubPass bank [] [] [] (e false v))) ∧
        (x.write = false → x.wrongBits = 1 →
          exec (.scrubPassComplete t bank [x] ⟨[], []⟩ []) s = .next (scrubPass bank [] [] []
            (e false (v.setBank bank { r with corrections := sat32 r.corrections 1 })))) ∧
        (x.write = false → 2 ≤ x.wrongBits →
          ∀ u, u = chipPulse 0x0201 [bank, x.word]
            (e true (v.setBank bank { r with doubleErrors := sat32 r.doubleErrors 1 })) → running u = true →
          exec (.scrubPassComplete t bank [x] ⟨[], []⟩ []) s = .next (scrubPass bank [] [] [] u)))) ∧
    (running a = true → ∀ tj b, b = { a with pins := { a.pins with tj := tj } } → cpTjWarn (secs a) < cpTjLimit (secs a) →
      (tj < cpTjWarn (secs a) →
        exec (.dieTempUpdate t tj) s = .next (lowerFault 0x0103 0 (lowerFault 0x0104 0 b))) ∧
      (cpTjWarn (secs a) ≤ tj → tj < cpTjLimit (secs a) → mildReaction (reactionOf a 0x0104 0) = true →
        (a.input 0x0104 0).asserted = false →
        exec (.dieTempUpdate t tj) s = .next (lowerFault 0x0103 0 (chipFault 0x0104 [] b))) ∧
      (cpTjLimit (secs a) ≤ tj → mildReaction (reactionOf a 0x0104 0) = true →
        (a.input 0x0104 0).asserted = false → (a.input 0x0103 0).asserted = false →
        exec (.dieTempUpdate t tj) s = .next (chipFault 0x0103 [] (chipFault 0x0104 [] b)))) ∧
    exec (.pwrFailDeassert t) s = .next
      { a with pins := { a.pins with pwrFail := false }, vitrine := { a.vitrine with eraseSuspended := false, programPending := false } }

/-- IMAGE_STAGE_OPEN with a length of whole 16-byte units within the slot, and nothing staged, is ACCEPTED, erases the
commit sector of the inactive slot, opens the session and spends a passing verification. The end of the erase clears
the image sectors and is DONE. 60 s without a staging command close the session, its opening erase running or not.
(R46, R47, R49, R475) -/
def Obligations.StagingOpens : Prop :=
  ∀ (t : Nat) (s a : State), a = advance t s →
    (∀ rq u n, admitCmd (stageSpec 0x0D10 4 4) rq a = some u → n = u32 rq.data 0 → n % 16 = 0 → 16 ≤ n → n ≤ maxImage →
      u.loader.erasing = false → u.loader.session = none → u.loader.verifying = false →
      Reaches (exec (.imageStageOpen t rq) s) (Accepts 0x0D10 rq { u with
        cs0 := flashErase u.cs0 (commitBase (inactiveSlot u)) 4096
        loader := { u.loader with
          verified := false, tainted := true, erasing := true, eraseLength := n
          session := some { declared := n, written := [], lastCmd := u.now } } })) ∧
    (a.loader.erasing = true →
      exec (.stageEraseComplete t) s = .next (finishCommand 0x0D10 stDone 0 { a with
        cs0 := flashErase a.cs0 (slotBase (inactiveSlot a)) (ceilDiv a.loader.eraseLength 4096 * 4096)
        loader := { a.loader with erasing := false } })) ∧
    (∀ x, a.loader.session = some x → x.lastCmd + 60 * secTicks ≤ a.now →
      exec (.stageSessionTimeout t) s = .next { a with loader := { a.loader with session := none } }) ∧
    (∀ x, a.loader.session = some x → a.now < x.lastCmd + 60 * secTicks → exec (.stageSessionTimeout t) s = .next a)

/-- IMAGE_STAGE_WRITE of fresh 16-byte units inside the declared length programs them and is DONE; units already written
are DENIED and leave the flash alone. IMAGE_STAGE_VERIFY is ACCEPTED, and its end is DONE with a verification that
nothing written meanwhile has spent, or INTEGRITY with the reason. (R44, R47, R48, R49) -/
def Obligations.StagingWritesAndVerifies : Prop :=
  ∀ (t : Nat) (s a : State), a = advance t s →
    (∀ rq u x off b units, admitCmd (stageSpec 0x0D11 20 260) rq a = some u → u.loader.session = some x →
      u.loader.erasing = false → off = u32 rq.data 0 → b = rq.data.drop 4 → off % 16 = 0 → b.length % 16 = 0 →
      off + b.length ≤ x.declared → units = (List.range (b.length / 16)).map (off / 16 + ·) →
      (units.any x.written.contains = false →
        Reaches (exec (.imageStageWrite t rq) s) (Answers rq stDone [] { u with
          cs0 := flashProgram u.cs0 (slotBase (inactiveSlot u) + off) b
          loader := { u.loader with
            verified := false, tainted := true
            session := some { x with written := units ++ x.written, lastCmd := u.now } } })) ∧
      (units.any x.written.contains = true →
        Reaches (exec (.imageStageWrite t rq) s) (Answers rq stDenied [] { u with
          loader := { u.loader with session := some { x with lastCmd := u.now } } }))) ∧
    (∀ rq u, admitCmd { stageSpec 0x0D12 4 4 with resv := noArgs } rq a = some u → u.loader.erasing = false →
      Reaches (exec (.imageStageVerify t rq) s) (Accepts 0x0D12 rq { u with
        loader := { u.loader with
          session := u.loader.session.map (fun x => { x with lastCmd := u.now }), verifying := true, tainted := false } })) ∧
    (∀ readOk, a.loader.verifying = true →
      match verifyStaged a readOk with
      | .passes _ => exec (.stageVerifyComplete t readOk) s = .next (finishCommand 0x0D12 stDone 0 { a with
          loader := { a.loader with verifying := false, verified := !a.loader.tainted, stageReason := 0 } })
      | .fails reason bad _ => exec (.stageVerifyComplete t readOk) s = .next (finishCommand 0x0D12 stIntegrity reason { a with
          loader := { a.loader with
            verifying := false, verified := false, stageReason := reason
            malformed := if bad then sat16 a.loader.malformed 1 else a.loader.malformed } }))

/-- IMAGE_STAGE_COMMIT with an unspent passing verification writes the commit record with the next SEQUENCE into a blank
commit sector, makes the slot pending, spends the verification, ends the session and stages event 0x8D13; without
one it is DENIED and the flash stands. IMAGE_STAGE_ABORT ends the session and spends the verification. (R47, R49,
R50, R51) -/
def Obligations.StagingCommits : Prop :=
  ∀ (t : Nat) (rq : CmdReq) (s u : State),
    (∀ slot seq base head, admitCmd { stageSpec 0x0D13 4 4 with resv := noArgs } rq (advance t s) = some u →
      u.loader.erasing = false → slot = inactiveSlot u → base = commitBase slot →
      seq = max (commitSeq u.cs0 0) (commitSeq u.cs0 1) + 1 → head = flashRead u.cs0 (slotBase slot) 64 →
      (u.loader.verified = true → seq ≤ 0xFFFFFFFE → u.pins.pwrFail = false → flashBlank u.cs0 base 4096 = true →
        Reaches (exec (.imageStageCommit t rq) s) (Answers rq stDone [] (stageRecord 0x8D13 0
          (pay [slot, seq] ++ slice head 8 8 ++ pay [u16 head 16]) { u with
            cs0 := flashProgram u.cs0 base (commitBytes seq (stageLength u))
            loader := { u.loader with session := none, pendingSlot := some slot, verified := false, tainted := true } }))) ∧
      (u.loader.verified = false →
        Reaches (exec (.imageStageCommit t rq) s) (Answers rq stDenied [] { u with
          loader := { u.loader with session := u.loader.session.map (fun x => { x with lastCmd := u.now }) } }))) ∧
    (admitCmd { stageSpec 0x0D14 4 4 with resv := noArgs } rq (advance t s) = some u → u.loader.erasing = false →
      Reaches (exec (.imageStageAbort t rq) s) (Answers rq stDone [] { u with
        loader := { u.loader with session := none, verified := false, tainted := true } }))

/-- When an ACCEPTED command reaches its final status, COMMAND_RESULT of the port that sent it takes the object, the
tag, the status and the detail, the command is no longer remembered, and where the running image selects it the
attention cause COMMAND is set; no other port's result moves, and a command nobody waits for changes nothing. (R419,
R445, R429) -/
def Obligations.AcceptedCommandFinishes : Prop :=
  ∀ (object status detail : Nat) (s : State),
    (∀ a, Tab.find s.host.accepted object = some a →
      OnlyHost s (finishCommand object status detail s) ∧
      ((finishCommand object status detail s).hport a.port).result
        = { object := object, inst := a.inst, tag := a.tag, status := status, detail := detail,
            completed := s.plinth.opSeconds } ∧
      (∀ q, q ≠ a.port → (finishCommand object status detail s).hport q = s.hport q) ∧
      Tab.find (finishCommand object status detail s).host.accepted object = none ∧
      (isLive s = true → bit (hoAttnMask (secs s)) 2 = true →
        bit (finishCommand object status detail s).host.causes 2 = true)) ∧
    (Tab.find s.host.accepted object = none → finishCommand object status detail s = s)

/-- IMAGE_ROLLBACK_ADVANCE and PATCH_ROLLBACK_ADVANCE in STANDBY or SERVICE with VPP_FUSE in range, the running index
above the count and no fuse operation running answer a next state: the command is ACCEPTED and the operation holds
the bits still to be blown, the owed second bits first. Otherwise they answer WRONG_MODE, DENIED, RANGE or BUSY and
nothing is programmed. FUSE_BIT_COMPLETE answers a next state: a verified bit is set and the next one starts with
VPP_FUSE in range, or the operation stops with it out of range; the last bit ends the operation; a failed bit is
retried once, and a second failure stops the operation; a bit that waits for power or mode goes on waiting. (R43,
R397, R398, R404) -/
def Obligations.FusesAreProgrammed : Prop :=
  ∀ (t vpp : Nat) (s a p : State), a = advance t s → p = { a with pins := { a.pins with vppFuse := vpp } } →
    (∀ rq u, admitCmd { object := 0x0D15, role := some 1, lo := 4, hi := 4, resv := noArgs } rq p = some u →
      (u.mode ≠ .standby → u.mode ≠ .service →
        Reaches (exec (.imageRollbackAdvance t rq vpp) s) (Answers rq stWrongMode [] u)) ∧
      ((u.mode = .standby ∨ u.mode = .service) → vppIn u.pins.vppFuse = false →
        Reaches (exec (.imageRollbackAdvance t rq vpp) s) (Answers rq stDenied [] u)) ∧
      ∀ i, (u.mode = .standby ∨ u.mode = .service) → vppIn u.pins.vppFuse = true → u.loader.live = some i →
        (i.rollbackIndex ≤ rollbackCount u →
          Reaches (exec (.imageRollbackAdvance t rq vpp) s) (Answers rq stRange [] u)) ∧
        (rollbackCount u < i.rollbackIndex → u.benra.fuseOp.isSome = true →
          Reaches (exec (.imageRollbackAdvance t rq vpp) s) (Answers rq stBusy [] u)) ∧
        (∀ b bits, rollbackCount u < i.rollbackIndex → u.benra.fuseOp = none →
          owedBits u ++ (stepBits 2304 (rollbackCount u) i.rollbackIndex).filter (fun b => !fuse u b) = b :: bits →
          ∃ w, Accepts 0x0D15 rq u w ∧
            exec (.imageRollbackAdvance t rq vpp) s = .next { w with benra := { u.benra with
              fuseOp := some { purpose := .rollback, bits := b :: bits, held := u.pins.pwrFail } } })) ∧
    (∀ rq u, admitCmd { object := 0x0D16, role := some 1, lo := 4, hi := 4, resv := noArgs } rq p = some u →
      (u.mode ≠ .standby → u.mode ≠ .service →
        Reaches (exec (.patchRollbackAdvance t rq vpp) s) (Answers rq stWrongMode [] u)) ∧
      ((u.mode = .standby ∨ u.mode = .service) → vppIn u.pins.vppFuse = false →
        Reaches (exec (.patchRollbackAdvance t rq vpp) s) (Answers rq stDenied [] u)) ∧
      ((u.mode = .standby ∨ u.mode = .service) → vppIn u.pins.vppFuse = true → u.benra.patch = none →
        Reaches (exec (.patchRollbackAdvance t rq vpp) s) (Answers rq stRange [] u)) ∧
      ∀ k, (u.mode = .standby ∨ u.mode = .service) → vppIn u.pins.vppFuse = true → u.benra.patch = some k →
        (k.2 ≤ patchRollbackCount u →
          Reaches (exec (.patchRollbackAdvance t rq vpp) s) (Answers rq stRange [] u)) ∧
        (patchRollbackCount u < k.2 → u.benra.fuseOp.isSome = true →
          Reaches (exec (.patchRollbackAdvance t rq vpp) s) (Answers rq stBusy [] u)) ∧
        (∀ b bits, patchRollbackCount u < k.2 → u.benra.fuseOp = none →
          owedBits u ++ (stepBits 2432 (patchRollbackCount u) k.2).filter (fun b => !fuse u b) = b :: bits →
          ∃ w, Accepts 0x0D16 rq u w ∧
            exec (.patchRollbackAdvance t rq vpp) s = .next { w with benra := { u.benra with
              fuseOp := some { purpose := .patchRollback, bits := b :: bits, held := u.pins.pwrFail } } })) ∧
    (a.benra.fuseOp = none → ∀ verified, exec (.fuseBitComplete t verified vpp) s = .next p) ∧
    (∀ o b rest done, a.benra.fuseOp = some o → o.bits = b :: rest →
      done = { p with benra := { a.benra with fuses := a.benra.fuses ||| (1 <<< b) } } →
      (o.held = true → fuseMayStart a = false →
        ∀ verified, exec (.fuseBitComplete t verified vpp) s = .next p) ∧
      (o.held = false ∨ fuseMayStart a = true →
        (rest = [] → exec (.fuseBitComplete t true vpp) s = .next (fuseDone o done)) ∧
        (∀ n more, rest = n :: more →
          (vppIn vpp = true → exec (.fuseBitComplete t true vpp) s = .next { done with benra := { done.benra with
            fuseOp := some { o with bits := rest, retried := false, held := !fuseMayStart a } } }) ∧
          (vppIn vpp = false → exec (.fuseBitComplete t true vpp) s = .next (fuseStop o n done))) ∧
        (o.retried = false → exec (.fuseBitComplete t false vpp) s = .next { p with benra := { a.benra with
          fuseOp := some { o with retried := true, held := !fuseMayStart a } } }) ∧
        (o.retried = true → exec (.fuseBitComplete t false vpp) s = .next (fuseStop o b p))))

/-- In STANDBY without a SERVICE session and with VPP_FUSE in range, OWNER_ENROL of an unenrolled chip that allows it
programs the hash of the running image's owner key into the next slot, and OWNER_TRANSFER of an enrolled chip,
signed by the active owner for the next slot, programs the hash it carries; each is ACCEPTED first. The slot's bits
are those of the hash, its CRC and LOCK, in this order. (R398, R400, R401) -/
def Obligations.OwnersAreEnrolled : Prop :=
  ∀ (t : Nat) (rq : CmdReq) (vpp : Nat) (s a u : State), a = advance t s →
    (∀ i n, admitCmd { object := 0x0D19, role := some 8, lo := 4, hi := 4, resv := noArgs } rq
        { a with pins := { a.pins with vppFuse := vpp } } = some u → u.loader.live = some i →
      u.mode = .standby → u.benra.session = none → trEnrolAllowed (trustOf u) = true → vppIn u.pins.vppFuse = true →
      activeOwner u = none → nextOwnerSlot u = some n → u.benra.fuseOp = none →
      Reaches (exec (.ownerEnrol t rq vpp) s) (fun v => ∃ w, Accepts 0x0D19 rq u w ∧
        v = fuseStart (.enrol n) (ownerBits n (sha384 i.ownerKey)) w)) ∧
    (∀ n, admitCmd { object := 0x0D1A, role := some 8, lo := 148, hi := 148, resv := [1, 2, 3] } rq
        { a with pins := { a.pins with vppFuse := vpp } } = some u →
      u.mode = .standby → u.benra.session = none → vppIn u.pins.vppFuse = true → transferSigned rq.data u = true →
      activeOwner u ≠ none → nextOwnerSlot u = some n → n = u8 rq.data 0 → u.benra.fuseOp = none →
      Reaches (exec (.ownerTransfer t rq vpp) s) (fun v => ∃ w, Accepts 0x0D1A rq u w ∧
        v = fuseStart (.transfer n) (ownerBits n (slice rq.data 4 48)) w))

/-- SERVICE_OPEN in STANDBY or RUN of an enrolled chip without a session enters SERVICE over that mode, opens the
session for its channel and stages event 0x8D05. SERVICE_CLOSE, and SERVICE_TIMEOUT seconds without a command of its
channel, end the session and return to the mode underneath. CHIP_RESTART outside RUN is answered DONE and then
resets the chip with cause 0x06; in RUN it answers WRONG_MODE. (R59, R171, R300, R411) -/
def Obligations.ServiceSessions : Prop :=
  ∀ (t : Nat) (rq : CmdReq) (s a u : State), a = advance t s →
    (admitCmd { object := 0x0D17, role := some 2, lo := 4, hi := 4, resv := noArgs } rq a = some u →
      u.benra.session = none → (u.mode = .standby ∨ u.mode = .run) → activeOwner u ≠ none →
      Reaches (exec (.serviceOpen t rq) s) (fun v => v.mode = .service ∧ v.under = u.mode ∧
        v.benra.session = some { channel := channelOf rq, lastCmd := u.now } ∧
        Answers rq stDone [] (event 0x8D05 [channelOf rq] (setMode .service { u with
          under := u.mode
          benra := { u.benra with session := some { channel := channelOf rq, lastCmd := u.now } } })) v)) ∧
    (∀ x, admitCmd { object := 0x0D18, role := some 2, serviceOnly := true, lo := 4, hi := 4, resv := noArgs } rq a = some u →
      u.benra.session = some x → u.mode = .service →
      Reaches (exec (.serviceClose t rq) s) (fun v => v.mode = u.under ∧ v.benra.session = none ∧
        Answers rq stDone [] (leaveService 1 u) v)) ∧
    (∀ x, a.benra.session = some x → a.mode = .service → x.lastCmd + trServiceTimeout (trustOf a) * secTicks ≤ a.now →
      Reaches (exec (.serviceTimeout t) s) (fun v => v.mode = a.under ∧ v.benra.session = none ∧ v = leaveService 2 a)) ∧
    (∀ x, a.benra.session = some x → a.now < x.lastCmd + trServiceTimeout (trustOf a) * secTicks →
      exec (.serviceTimeout t) s = .next a) ∧
    (admitCmd { object := 0x0101, inst := 1, role := some 4, lo := 4, hi := 4, resv := noArgs, held := 2 } rq a = some u →
      (u.mode ≠ .run →
        Reaches (exec (.chipRestart t rq) s) (fun v => ∃ w, Answers rq stDone [] u w ∧ ResetBy 0x06 w v)) ∧
      (u.mode = .run → Reaches (exec (.chipRestart t rq) s) (Answers rq stWrongMode [] u)))

/-- DEBUG_UNLOCK in STANDBY with an accepted token flushes its event, erases every derived key and opens debug access.
ATTEST answers the signed attestation data, or INTEGRITY without a valid certificate. Raw bits that fail a
continuous health test raise 0x0D02 and halt the DRBG; the start-up test is repeated every second until it passes
and seeds the DRBG afresh; after 65,536 requests healthy raw bits reseed it; the end of the last lockout lets 0x0D03
go. (R394, R407, R410, R412, R413, R414, R415) -/
def Obligations.DebugAttestAndRandomness : Prop :=
  ∀ (t : Nat) (rq : CmdReq) (s a u : State), a = advance t s →
    (admitCmd { object := 0x0D1B, role := some 8, lo := 144, hi := 144 } rq a = some u →
      u.mode = .standby → u.benra.session = none → tokenOk 1 rq.data u = true →
      Reaches (exec (.debugUnlock t rq) s) (fun v => v.benra.debugUnlocked = true ∧ v.benra.cmdKeys = [] ∧
        v.benra.deviceKey = none ∧ v.benra.recorderKey = none ∧ ∃ w,
        w = flushAll (event 0x8D08 [] (event 0x8D07 [u32 rq.data 16, 1] u)) ∧
        Answers rq stDone [] { w with benra := { w.benra with
          deviceKey := none, recorderKey := none, cmdKeys := [], debugUnlocked := true } } v)) ∧
    (admitCmd { object := 0x0D01, inst := 1, role := none, lo := 32, hi := 32, plain := true } rq a = some u →
      u.benra.drbgHalted = false → u.benra.debugUnlocked = false →
      (∀ x, u.benra.certInvalid = false → u.benra.deviceKey ≠ none →
        x = deviceSign (ascii "KST192 ATTEST v1" ++ attestData rq.data u) u →
        Reaches (exec (.attest t rq) s) (Answers rq stDone (attestData rq.data u ++ x.1.1 ++ x.1.2) x.2)) ∧
      (u.benra.certInvalid = true → Reaches (exec (.attest t rq) s) (Answers rq stIntegrity [] u))) ∧
    (∀ raw, a.mode ≠ .dormant → (a.mode = .boot → bootHeld a = true) →
      (rawHealthy raw = false → exec (.trngHealth ⟨t, raw⟩) s
        = .next (chipFault 0x0D02 [] { a with benra := { a.benra with drbgHalted := true, retestAt := a.now + secTicks } })) ∧
      (rawHealthy raw = true → exec (.trngHealth ⟨t, raw⟩) s = .next a)) ∧
    (∀ raw, a.benra.drbgHalted = true →
      (a.benra.retestAt ≤ a.now → startupPasses raw = true → exec (.trngRetest t raw) s
        = .next (lowerFault 0x0D02 0 (seedDrbg raw { a with benra := { a.benra with drbgHalted := false } }))) ∧
      (a.benra.retestAt ≤ a.now → startupPasses raw = false →
        exec (.trngRetest t raw) s = .next { a with benra := { a.benra with retestAt := a.now + secTicks } }) ∧
      (a.now < a.benra.retestAt → exec (.trngRetest t raw) s = .next a)) ∧
    (∀ raw, (65536 ≤ a.benra.drbgRequests → 128 ≤ raw.length → rawHealthy raw = true →
        exec (.drbgReseed ⟨t, raw⟩) s = .next (reseedDrbg raw a)) ∧
      (a.benra.drbgRequests < 65536 → exec (.drbgReseed ⟨t, raw⟩) s = .next a)) ∧
    (∀ c e, Tab.find a.benra.lockedUntil c = some e → e ≤ a.now →
      (Tab.del a.benra.lockedUntil c = [] →
        exec (.authLockoutExpiry t c) s
          = .next (lowerFault 0x0D03 0 { a with benra := { a.benra with lockedUntil := [] } })) ∧
      (Tab.del a.benra.lockedUntil c ≠ [] →
        exec (.authLockoutExpiry t c) s
          = .next { a with benra := { a.benra with lockedUntil := Tab.del a.benra.lockedUntil c } }))

/-- With the link up, TRAIN_LOCK_COMPLETE, a matching TS2, a round trip of at most 640 ticks and a passed alignment
check take a port from lock to ACTIVE; a TS2 of another kind and a longer round trip end the attempt with 0x0403 and
0x0404. LAT is half the mean round trip less TA_TILE, with the port's asymmetry, and goes out with the reads of the
serial number and the tile's register writes, which are to be read back; the arrival checked before they are leaves
the port in training, and fewer frames than 256 end no check. (R81, R83, R93, R94, R95) -/
def Obligations.TrainingAdvances : Prop :=
  ∀ (t port : Nat) (s a : State) (x : TPort), a = advance t s → linkUp a = true → x = a.port port →
    (∀ ctle dfe, x.phase = .trainLock → x.waiting = false →
      exec (.trainLockComplete t port ⟨ctle, dfe⟩) s = .next (a.setPort port (sendLine (ts2Down port) { x with
        phase := .trainId, lockLost := false, dfe := (dfe ++ [0, 0, 0]).take 3
        ctle := if ctleMode a port = 0 then min ctle 15 else ctleMode a port - 1 }))) ∧
    (∀ e maker, tileOfPort (secs a) port = some e → x.phase = .trainId → (teMaker e = 0xFFFF ∨ maker = teMaker e) →
      exec (.ts2Received t port port (u8 e 1) maker (teCount e)) s
        = .next (a.setPort port { x with phase := .trainTime }) ∧
      (∀ kind, kind ≠ u8 e 1 → exec (.ts2Received t port port kind maker (teCount e)) s
        = .next (attemptFails port (portPulse 0x0403 port [] a))) ∧
      (∀ echo, echo ≠ port → exec (.ts2Received t port echo (u8 e 1) maker (teCount e)) s
        = .next (attemptFails port a))) ∧
    (∀ e (rtt ta : Nat) lat, tileOfPort (secs a) port = some e → x.phase = .trainTime →
      lat = divRound ((rtt : Int) - 64 * ta + 128 * tmAsym (secs a) port) 128 →
      (lat ≤ 10240 → Reaches (exec (.latencyMeasured t port rtt ta) s) (fun u => OnlyPort port a u ∧
        (u.port port).measured = true ∧ (u.port port).lat = (lat % 65536).toNat ∧
        (u.port port).upLat = lat - 2 * tmAsym (secs a) port ∧ (u.port port).trimSum = 0 ∧
        (u.port port).phase = .trainTime ∧
        ∀ writes, writes = (if teIsPhase e then (teSlots e).map (fun y => (0x10 + y.1, teLsMax e + 2 ^ 24 * teMinDt e))
            else [(0x18, teAutoPeriod e)]) →
          (u.port port).readBack = writes ∧
          (u.port port).svcQueue = x.svcQueue ++ [⟨0x10, 0, 0, (lat % 65536).toNat⟩, ⟨0x01, 0, 0x01, 0⟩, ⟨0x01, 0, 0x02, 0⟩] ++
            writes.flatMap (fun w => [⟨0x02, 0, w.1, w.2⟩, ⟨0x01, 0, w.1, 0⟩]))) ∧
      (10240 < lat → exec (.latencyMeasured t port rtt ta) s
        = .next (attemptFails port (portPulse 0x0404 port [] a)))) ∧
    (∀ e r, tileOfPort (secs a) port = some e → x.phase = .trainTime → x.measured = true →
      (r.natAbs ≤ 256 * 96 → x.readBack = [] → otherLane (secs a) port = none →
        Reaches (exec (.alignCheckComplete t port r 256) s) (fun u => (u.port port).phase = .active ∧
          (u.port port).activeLane = true ∧ (u.port port).attempts = 0 ∧ (u.port port).offLatch = true ∧
          ∀ q, q ≠ port → u.port q = a.port q)) ∧
      (256 * 96 < r.natAbs → exec (.alignCheckComplete t port r 256) s
        = .next (attemptFails port (portPulse 0x0404 port [] a))) ∧
      (r.natAbs ≤ 256 * 96 → x.readBack ≠ [] → exec (.alignCheckComplete t port r 256) s
        = .next (a.setPort port { x with checked := true })) ∧
      (∀ n, n ≠ 256 → exec (.alignCheckComplete t port r n) s = .next a))

/-- An attempt in progress for 3 ms times out and waits for the next one, sending TS1, and the last of TRAIN_ATTEMPTS
fails the port with 0x0402, which is raised on the first failure only; the next attempt takes a waiting port back to
lock 10 ms after the last began, and a FAILED one after 1 s (assumption 72 names what these times count from). (R93) -/
def Obligations.TrainingAttemptsFail : Prop :=
  ∀ (t port : Nat) (s a : State) (x y : TPort), a = advance t s → linkUp a = true → x = a.port port →
    y = sendLine ts1Chars { x with
      attempts := x.attempts + 1, measured := false, checked := false, readBack := [], svc := none, svcQueue := []
      failedAt := rackTime a } →
    ((x.phase = .trainLock ∨ x.phase = .trainId ∨ x.phase = .trainTime) → x.waiting = false →
      x.attemptAt + 3 * msTicks ≤ rackTime a →
      (x.failedBefore = true → exec (.trainAttemptTimeout t port) s = .next (a.setPort port { y with phase := .failed })) ∧
      (x.failedBefore = false → x.attempts + 1 < tmTrainAttempts (secs a) →
        exec (.trainAttemptTimeout t port) s = .next (a.setPort port { y with phase := .trainLock, waiting := true })) ∧
      (x.failedBefore = false → tmTrainAttempts (secs a) ≤ x.attempts + 1 →
        exec (.trainAttemptTimeout t port) s
          = .next (portFault 0x0402 port [] (a.setPort port { y with phase := .failed, failedBefore := true })))) ∧
    (rackTime a < x.attemptAt + 3 * msTicks → exec (.trainAttemptTimeout t port) s = .next a) ∧
    (∀ due, due = (if x.phase = .failed then x.failedAt + secTicks else x.attemptAt + 10 * msTicks) →
      ((x.phase = .failed ∨ x.waiting = true) → due ≤ rackTime a →
        exec (.trainAttemptStart t port) s = .next (a.setPort port { x with
          phase := .trainLock, waiting := false, attemptAt := rackTime a, rxPlus := none })) ∧
      (rackTime a < due → exec (.trainAttemptStart t port) s = .next a))

/-- An accepted frame on a trained port, or in TRAIN_TIME, is taken whole; in training with no operation outstanding and
registers still to be read back it clears the invalid run and moves only its port. The receiver's disparity follows
the characters. An invalid frame counts on the port: in training it only counts, on a standby lane the third in a
row is a trigger of R111. A lost receiver lock of a trained port counts and is a trigger too. A port without a tile,
or not trained so far, takes no frame. (R80, R87, R88, R110, R111, R116) -/
def Obligations.FramesArriveAtPorts : Prop :=
  ∀ (t port : Nat) (f : WireFrame) (s a r : State) (x y : TPort) (e : Bytes), a = advance t s → linkUp a = true →
    x = a.port port → tileOfPort (secs a) port = some e → y = { x with rxPlus := rxAfter x.rxPlus f } → r = a.setPort port y →
    (∀ body, acceptFrame x.rxPlus f = some body →
      ((x.phase = .active ∨ x.phase = .standbyLane ∨ x.phase = .trainTime) →
        exec (.upstreamFrame t port f) s = .next (validUp e port body r)) ∧
      (x.phase = .trainTime → x.svc = none → x.readBack ≠ [] → Reaches (exec (.upstreamFrame t port f) s) (fun u => OnlyPort port a u ∧
        (u.port port).invalidRun = 0 ∧ (u.port port).phase = .trainTime))) ∧
    (acceptFrame x.rxPlus f = none →
      (x.phase = .trainTime → exec (.upstreamFrame t port f) s
        = .next (a.setPort port { y with upInvalid := sat32 x.upInvalid 1 })) ∧
      (x.phase = .standbyLane → x.invalidRun < 2 → exec (.upstreamFrame t port f) s
        = .next (a.setPort port { y with upInvalid := sat32 x.upInvalid 1, invalidRun := x.invalidRun + 1 })) ∧
      (x.phase = .standbyLane → 2 ≤ x.invalidRun → exec (.upstreamFrame t port f) s
        = .next (linkTrigger 2 port
            (a.setPort port { y with upInvalid := sat32 x.upInvalid 1, invalidRun := x.invalidRun + 1 }))) ∧
      (x.phase = .active → exec (.upstreamFrame t port f) s = .next (invalidUp e port r))) ∧
    ((x.phase = .trainLock ∨ x.phase = .trainId ∨ x.phase = .disabled ∨ x.phase = .failed) →
      exec (.upstreamFrame t port f) s = .next a) ∧
    ((x.phase = .active ∨ x.phase = .standbyLane) →
      exec (.receiverLockLoss t port) s
        = .next (linkTrigger 1 port (a.setPort port { x with upLockLoss := sat32 x.upLockLoss 1, lockLost := true })))

/-- On the active lane a mean residual under one tick moves nothing; a larger one trims LAT by half of it, at most 32
ticks, sends TRIM, and raises 0x0404 when the trims pass REALIGN_LIMIT. A standby lane has its TIME_DIFF read. The
eye margins and the equaliser's settings are stored while the receiver has lock. An operation unanswered for 16
frame periods after it went out is repeated once and then counted as a timeout, which ends a release that waited for
OFF_COUNT. (R83, R88, R96, R102) -/
def Obligations.LinkIsMeasured : Prop :=
  ∀ (t port : Nat) (s a : State) (x : TPort), a = advance t s → x = a.port port →
    (∀ m trim, linkUp a = true → x.phase = .active → trim = clampI (-32) 32 (divRound m 2) →
      (m.natAbs < 16 → exec (.residualTrim t port m) s = .next a) ∧
      (16 ≤ m.natAbs → ∀ b, b = queueSvc port 0x11 0 (trim % 65536).toNat (a.setPort port { x with
          trimSum := x.trimSum + trim, upLat := x.upLat + trim, lat := (((x.lat : Int) + trim) % 65536).toNat
          trim := sat32 x.trim 1 }) →
        (((x.trimSum + trim).natAbs ≤ tmRealignLimit (secs a) * 16 ∨ tmRealignLimit (secs a) * 16 < x.trimSum.natAbs) →
          exec (.residualTrim t port m) s = .next b) ∧
        (x.trimSum.natAbs ≤ tmRealignLimit (secs a) * 16 → tmRealignLimit (secs a) * 16 < (x.trimSum + trim).natAbs →
          exec (.residualTrim t port m) s = .next (portPulse 0x0404 port [] b)))) ∧
    (∀ mv ui ctle dfe, linkUp a = true →
      (x.phase = .trainId ∨ x.phase = .trainTime ∨ x.phase = .active ∨ x.phase = .standbyLane) → x.lockLost = false →
      exec (.eyeMarginMeasure t port mv ui ⟨ctle, dfe⟩) s = .next (a.setPort port { x with
        eyeV := mv, eyeH := ui, dfe := (dfe ++ [0, 0, 0]).take 3
        ctle := if ctleMode a port = 0 then min ctle 15 else ctleMode a port - 1 })) ∧
    (∀ m, linkUp a = true → x.phase = .standbyLane → m.natAbs < 16 →
      exec (.residualTrim t port m) s = .next (queueSvc port 0x01 0x06 0 a)) ∧
    (∀ w l, x.svc = some w → w.sentAt = some l →
      (rackTime a < l + 16 * frameTicks → exec (.serviceOpTimeout t port) s = .next a) ∧
      (l + 16 * frameTicks ≤ rackTime a →
        (w.repeated = false → exec (.serviceOpTimeout t port) s
          = .next (a.setPort port { x with svc := some { w with repeated := true, sentAt := none } })) ∧
        (w.repeated = true → w.op.addr ≠ 0x07 → exec (.serviceOpTimeout t port) s
          = .next (a.setPort port { x with svc := none, svcTimeout := sat32 x.svcTimeout 1 })) ∧
        (w.repeated = true → w.op.op = 0x01 → w.op.addr = 0x07 → exec (.serviceOpTimeout t port) s
          = .next (a.setPort port { x with
              svc := none, svcTimeout := sat32 x.svcTimeout 1, clear := x.clear.filter (fun c => !c.waiting) })))) ∧
    (x.svc = none → exec (.serviceOpTimeout t port) s = .next a)

/-- Sixteen frame periods after its first ALL_CLEAR frame a tile that stays latched is tried once more, with its
OFF_COUNT read first, and after the second failure 0x0407 is raised; a port that may no longer be cleared gives up.
SLOT_CLEAR goes out once for the slots owed on an active port whose tile is released. (R107, R108, R476) -/
def Obligations.TilesAreReleasedAgain : Prop :=
  ∀ (t port : Nat) (s a : State) (x : TPort), a = advance t s → x = a.port port →
    (∀ c, x.clear = some c → c.waiting = false → c.left = 0 → c.first + 16 * frameTicks ≤ rackTime a →
      (c.repeated = true → exec (.allClearRetry t port) s
        = .next (portPulse 0x0407 port [] (a.setPort port { x with clear := none }))) ∧
      (c.repeated = false → mayClear port a = false → exec (.allClearRetry t port) s
        = .next (a.setPort port { x with clear := none })) ∧
      (c.repeated = false → mayClear port a = true → exec (.allClearRetry t port) s
        = .next (a.setPort port { x with
            clear := some { tag := x.nextTag, repeated := true }, nextTag := (x.nextTag + 1) % 256
            svcQueue := x.svcQueue ++ [⟨0x01, 0, 0x07, 0⟩] }))) ∧
    (x.slotClear ≠ 0 → x.offLatch = false → x.phase = .active →
      exec (.slotClear t port) s = .next (a.setPort port { x with
        slotClear := 0, svcQueue := x.svcQueue ++ [⟨0x20, 0, 0, x.slotClear⟩] })) ∧
    (x.slotClear = 0 → exec (.slotClear t port) s = .next a)

/-- The all-off ordered set, 6 µs of silence, sixteen TS1 on the entry lane and power-up leave the tile's off latch set;
a tile that was not latched takes the cause and counts, and every gate and bleed switch opens. One that is latched
already keeps its cause and count for the first two. A lane in training answers TS1 with TS1 and TS2 with the tile's
TS2. Nothing outside the tile moves. (R92, R103, R104, R105) -/
def Obligations.TilesLatchOff : Prop :=
  ∀ (t i : Nat) (s a : State) (x : Tile), a = advance t s → x = a.tile i →
    Reaches (exec (.tileAllOff t i) s) (fun u => u = a.setTile i (u.tile i) ∧ (u.tile i).offLatch = true ∧
      (u.tile i).clearRun = 0 ∧ (u.tile i).lastActivity = a.now ∧
      (x.offLatch = false → (u.tile i).offCause = 2 ∧ (u.tile i).offCount = (x.offCount + 1) % 65536 ∧
        (u.tile i).bleedMask = 0 ∧ ∀ v ∈ (u.tile i).slots, v.2.gateHs = false ∧ v.2.gateLs = false ∧ v.2.held = []) ∧
      (x.offLatch = true → (u.tile i).offCause = x.offCause ∧ (u.tile i).offCount = x.offCount)) ∧
    (x.lastActivity + 6 * usTicks ≤ a.now →
      Reaches (exec (.tileSilence t i) s) (fun u => u = a.setTile i (u.tile i) ∧ (u.tile i).offLatch = true ∧
        (x.offLatch = false → (u.tile i).offCause = 3 ∧ (u.tile i).offCount = (x.offCount + 1) % 65536 ∧
          (u.tile i).bleedMask = 0 ∧ ∀ v ∈ (u.tile i).slots, v.2.gateHs = false ∧ v.2.gateLs = false ∧ v.2.held = []))) ∧
    (a.now < x.lastActivity + 6 * usTicks → exec (.tileSilence t i) s = .next a) ∧
    Reaches (exec (.tilePowerUp t i) s) (fun u => u = a.setTile i (u.tile i) ∧ (u.tile i).offLatch = true ∧
      (u.tile i).offCause = 1 ∧ (u.tile i).offCount = (x.offCount + 1) % 65536 ∧ (u.tile i).slots = []) ∧
    (∀ lane, lane = x.entryLane → lane < 2 → (x.offLatch = false ∨ x.offCause ≠ 1) →
      Reaches (exec (.tileTrain t i ⟨lane, .ts1⟩) s) (fun u => u = a.setTile i (u.tile i) ∧ (u.tile i).offLatch = true ∧
        (u.tile i).offCause = 6 ∧ (u.tile i).offCount = (x.offCount + 1) % 65536 ∧
        (u.tile i).lane lane = { answering := .ts1, roleSeen := (x.lane lane).roleSeen })) ∧
    (∀ lane port, lane < 2 →
      ((x.lane lane).answering ≠ .nothing → exec (.tileTrain t i ⟨lane, .ts2 port⟩) s
        = .next (a.setTile i (x.setLane lane { x.lane lane with answering := .ts2 port }))) ∧
      ((x.lane lane).answering = .nothing → exec (.tileTrain t i ⟨lane, .ts2 port⟩) s = .next a))

/-- A frame that is not accepted counts in DN_ERR and on its lane, and on the entry lane restarts the ALL_CLEAR count;
an accepted one is processed in the order of R100, and one with the hold of the whole tile in DN_CTRL leaves the
tile latched off. With the entry lane's frames the tile launches its upstream frame. A due edge acts on its slot's
gates, not on a latched tile. A protection trip latches its slot off with the gates open; its end leaves the latch.
A lost active lane is flagged. (R87, R91, R100, R101, R103, R109, R111) -/
def Obligations.TilesTakeFrames : Prop :=
  ∀ (t i : Nat) (s a : State) (x : Tile), a = advance t s → x = a.tile i →
    (∀ lane arrive16 f seen port kind heard sent, lane < 2 →
      port = ((tileEntry (secs a) i).map (fun e => if lane = 0 then tePrimary e else teAlt e)).getD 0xFF →
      kind = (if ((tileEntry (secs a) i).map teIsPhase).getD true = true then 1 else 2) →
      heard = x.setLane lane { x.lane lane with rxPlus := rxAfter (x.lane lane).rxPlus f } →
      sent = (fun (y : Tile) =>
        if y.entryLane = lane ∧ (y.lane lane).answering = .frames then tileLaunch i kind arrive16 a.now seen y
        else if (y.lane lane).answering = .frames ∧ (y.lane lane).aligned = false then
          y.setLane lane { y.lane lane with launch16 := upLaunch i lane y.frameNo arrive16 y }
        else y) →
      (acceptFrame (x.lane lane).rxPlus f = none → exec (.tileFrameProcess t i lane ⟨arrive16, f, seen⟩) s
        = .next (a.setTile i (sent { heard.setLane lane { heard.lane lane with errors := (x.lane lane).errors + 1 } with
            dnErr := sat32 x.dnErr 1, clearRun := if x.entryLane = lane then 0 else x.clearRun }))) ∧
      (∀ b, acceptFrame (x.lane lane).rxPlus f = some b → u8 b 0 % 4 ≠ 3 →
        exec (.tileFrameProcess t i lane ⟨arrive16, f, seen⟩) s
          = .next (a.setTile i (sent (tileFrame i lane port arrive16 a.now b heard))) ∧
        (bit (u8 b 0) 2 = true →
          Reaches (exec (.tileFrameProcess t i lane ⟨arrive16, f, seen⟩) s) (fun u => (u.tile i).offLatch = true)))) ∧
    (∀ n v, n < 8 → v = Tab.get ({} : Slot) x.slots n →
      (x.offLatch = false → exec (.tileEdgeExecute t i n) s = .next (a.setTile i { x with
        slots := Tab.set x.slots n (slotExpire (tileTime a x) (slotRun (tileTime a x) 5 v)) })) ∧
      (x.offLatch = true → exec (.tileEdgeExecute t i n) s = .next a) ∧
      (∀ oc, exec (.tileProtectionTrip t i n oc true) s = .next (a.setTile i { x with
        slots := Tab.set x.slots n { v with
          held := [], gateHs := false, gateLs := false, busyUntil := 0, lsOffAt := none, protLatch := true
          causePresent := true, desat := v.desat || !oc, localOc := v.localOc || oc } })) ∧
      (∀ oc, exec (.tileProtectionTrip t i n oc false) s = .next (a.setTile i { x with
        slots := Tab.set x.slots n { v with causePresent := false } }))) ∧
    ((x.lane x.entryLane).lastValid + 2 * frameTicks ≤ a.now →
      exec (.tileActiveDnLost t i) s = .next (a.setTile i { x with activeDnLost := true }))

/-- At SAMPLE_AT the commanded set is taken, with temperatures where asked, marked late where its command came after
that time, and stands to be sent in frames of up to forty values; before it nothing happens. The end of BLEED_TIME
opens every switch. A latched tile takes an AUTO set each AUTO_PERIOD. (R113, R114) -/
def Obligations.CellTilesSample : Prop :=
  ∀ (t i : Nat) (volts : List Nat) (temps : List Int) (s a : State) (x : Tile), a = advance t s → x = a.tile i →
    (∀ d y, x.sampleAt = some d → y = CellSet.mk x.sampleCmd.setId false x.sampleLate volts (if x.sampleCmd.temps then temps else []) →
      (d ≤ tileTime a x → exec (.tileCellSample t i volts temps) s = .next (a.setTile i { x with
        sampleAt := none, set := y, sending := chunksOf y })) ∧
      (tileTime a x < d → exec (.tileCellSample t i volts temps) s = .next a)) ∧
    (x.bleedUntil ≤ a.now → exec (.tileBleedExpiry t i) s = .next (a.setTile i { x with bleedMask := 0 })) ∧
    (a.now < x.bleedUntil → exec (.tileBleedExpiry t i) s = .next a) ∧
    (∀ y, y = ({ setId := 0, auto := true, volts := volts, temps := temps } : CellSet) →
      x.offLatch = true → x.lastAuto + x.autoPeriod * msTicks ≤ a.now →
      exec (.tileAutoSample t i volts temps) s = .next (a.setTile i { x with
        lastAuto := a.now, set := y, sending := chunksOf y }))

/-- At the frame that ends a phase's whole window WINDOW_SAMPLE_PUBLISH publishes the three samples of the decimated
bits and sets tracking, braking and wear going. A phase whose tile delivers on no lane first takes the frames that
should have come by then as missing; a window with a missing slot counts once for each channel, moves no sample and
is not published. A window taken before, or another frame, changes nothing. (R120, R122, R123, R124, R126, R129) -/
def Obligations.WindowsArePublished : Prop :=
  ∀ (t p : Nat) (s a v : State) (x : PhaseSense) (e : Bytes), a = advance t s → running a = true → p < 192 →
    v = fillSilent p a → running v = true → x = v.sense p → e = sePhase (secs v) p →
    (spOsr e ≠ 0 → x.frame % spOsr e = spWin e → x.window ≠ x.frame →
      (exec (.windowSamplePublish t p) s = .next (
        let b := mainWindow p v
        if isLive b then windowPublished p b else b)) ∧
      (supportWhole (8 * spOsr e) x.gap = false → skipWindow e x = { x with
        window := x.frame, missing0 := sat32 x.missing0 1, missing1 := sat32 x.missing1 1
        missing2 := sat32 x.missing2 1 })) ∧
    (spOsr e = 0 ∨ x.frame % spOsr e ≠ spWin e ∨ x.window = x.frame →
      exec (.windowSamplePublish t p) s = .next v ∧ skipWindow e x = x) ∧
    (∀ y, phaseSeat (secs a) p = some y → (activePort a y.1).isSome = true → v = a)

/-- SENSE_ZERO of a declared stage with sensing in SERVICE is ACCEPTED and starts the measurement. Its end with every
phase measured in range takes the mean of 256 windows as the offset of each phase, an event each, and is DONE; a
gate seen on ends it INTEGRITY with no offset changed; a phase still short of windows waits. (R127) -/
def Obligations.OffsetsAreZeroed : Prop :=
  ∀ (t : Nat) (s a : State), a = advance t s →
    (∀ rq u g, admitCmd (serviceSpec 0x0510 4 4 [1, 2, 3]) rq a = some u → g = u8 rq.data 0 →
      stageDeclared (secs u) g = true → stKind (secs u) g ≠ 0 → u.mode = .service →
      Reaches (exec (.senseZero t rq) s)
        (Accepts 0x0510 rq { u with pave := { u.pave with zeroRun := some { stage := g } } })) ∧
    (∀ z b, a.pave.zeroRun = some z → running a = true → b = { a with pave := { a.pave with zeroRun := none } } →
      (z.gated = true → exec (.senseZeroComplete t) s = .next (finishCommand 0x0510 stIntegrity 0 b)) ∧
      (z.gated = false → (∃ p ∈ stagePhases (secs a) z.stage, (Tab.get (0, 0) z.sums p).2 ≠ 256) →
        exec (.senseZeroComplete t) s = .next a) ∧
      (z.gated = false → (∀ p ∈ stagePhases (secs a) z.stage, (Tab.get (0, 0) z.sums p).2 = 256 ∧
          withinI (-2097152) 2097152 (zeroOffset z p) = true) →
        exec (.senseZeroComplete t) s = .next (finishCommand 0x0510 stDone 0 ((stagePhases (secs a) z.stage).foldl
          (fun s p => event 0x8502 [p] (s.setSense p { s.sense p with zero := some (zeroOffset z p) })) b))))

/-- A cell set is published once complete, or 6 ms after SAMPLE_AT, and leaves the open sets; before that nothing
happens. A set still incomplete 4 ms after SAMPLE_AT is asked for once more of every tile that owes a value. A set
that a tile sent of itself is published in the same way. (R114, R132, R134, R136) -/
def Obligations.CellSetsArePublished : Prop :=
  ∀ (t b : Nat) (s a : State), a = advance t s → running a = true →
    (∀ x, Tab.find a.pave.openSets b = some x →
      (setComplete (secs a) x = true ∨ x.at_ + 6 * msTicks ≤ rackTime a →
        exec (.cellSetPublish t b none) s = .next (publishSet b x
          { a with pave := { a.pave with openSets := Tab.del a.pave.openSets b } })) ∧
      (setComplete (secs a) x = false → rackTime a < x.at_ + 6 * msTicks →
        exec (.cellSetPublish t b none) s = .next a) ∧
      (setComplete (secs a) x = false → x.resent = false → x.at_ + 4 * msTicks ≤ rackTime a →
        exec (.cellResend t b) s = .next (((owingTiles (secs a) x).filterMap (tileEntry (secs a))).foldl (fun s e =>
          match activePort s e with
          | some p => queueSvc p 0x21 0 x.setId s
          | none => s)
          { a with pave := { a.pave with openSets := Tab.set a.pave.openSets b { x with resent := true } } })) ∧
      (x.resent = true → exec (.cellResend t b) s = .next a)) ∧
    (∀ i x e, Tab.find a.pave.autoSets i = some x → tileEntry (secs a) i = some e → teIsCell e = true →
      teString e = b → setComplete (secs a) x = true →
      exec (.cellSetPublish t b (some i)) s = .next (publishSet b x
        { a with pave := { a.pave with autoSets := Tab.del a.pave.autoSets i } }))

/-- A code of an analogue input, one for each sampling instant of its channel, joins its average, and the last one of
the average publishes it. A valid period of a pulse set-point input outside fallback publishes the mapped duty and
clears the run of bad ones; the third bad period in a row enters fallback, as does 3 × PERIOD_NOM without an edge of
either polarity; a rising edge within 30 ns of the falling one before it is ignored. (R137, R138, R142, R143) -/
def Obligations.LocalInputsAreTaken : Prop :=
  ∀ (t c : Nat) (s a : State), a = advance t s → running a = true →
    (∀ code e x, c < 32 → e = seAin (secs a) c → ainOn e = true → x = Tab.get ({} : Ain) a.pave.ains c →
      (∀ z, ainSlot a c = some z → x.slot ≠ some z →
        (x.codes.length + 1 < 2 ^ u8 e 1 → exec (.ainSample t c code) s = .next { a with
          pave := { a.pave with ains := Tab.set a.pave.ains c { x with
            codes := min code 4095 :: x.codes, slot := some z } } }) ∧
        (2 ^ u8 e 1 ≤ x.codes.length + 1 →
          exec (.ainSample t c code) s = .next (ainPublish c (min code 4095 :: x.codes) z a))) ∧
      (ainSlot a c = none ∨ ainSlot a c = x.slot → exec (.ainSample t c code) s = .next a)) ∧
    (∀ (period high : Nat) (e : Bytes) (x : SetIn) (m : Int), c < 4 → e = seSetIn (secs a) (c + 4) → setInOn e = true → x = a.setIn (c + 4) →
      x.fallback = false → m = mapLinear (u16 e 10) (u16 e 12) (i32 e 16) (i32 e 20) (10000 * high) period →
      (period ≤ high + 3 → exec (.sppRisingEdge t c period high) s = .next a) ∧
      (high + 3 < period → 100 * ((period : Int) - u32 e 4).natAbs ≤ u8 e 8 * u32 e 4 →
        u16 e 10 * period ≤ 10000 * high → 10000 * high ≤ u16 e 12 * period →
        exec (.sppRisingEdge t c period high) s = .next (publishIn (c + 4) m false (a.setSetIn (c + 4) { x with
          lastEdge := rackTime a, raw := period, rawHigh := high, bad := 0, good := x.good + 1, measured := m
          measuredValid := true }))) ∧
      (high + 3 < period → u8 e 8 * u32 e 4 < 100 * ((period : Int) - u32 e 4).natAbs → ∀ b, b = a.setSetIn (c + 4) { x with
          lastEdge := rackTime a, raw := period, rawHigh := high, bad := x.bad + 1, good := 0 } →
        (x.bad < 2 → exec (.sppRisingEdge t c period high) s = .next b) ∧
        (2 ≤ x.bad → exec (.sppRisingEdge t c period high) s = .next (enterFallback (c + 4) b)))) ∧
    (∀ e fell d, c < 4 → e = seSetIn (secs a) (c + 4) → setInOn e = true →
      d = lastSppEdge (a.setIn (c + 4)) fell + 3 * u32 e 4 * 64 →
      (d ≤ rackTime a → exec (.sppEdgeTimeout ⟨t, fell⟩ c) s = .next (enterFallback (c + 4) a)) ∧
      (rackTime a < d → exec (.sppEdgeTimeout ⟨t, fell⟩ c) s = .next a))

/-- Engines whose frame boundary has come leave the pool first. At an issue instant the waiting evaluations and the
newly due ones are placed in order; off the grid of 320 ticks nothing more happens. When an evaluation finishes, its
context takes what it computed, it is no longer in flight, and its output, capture sample, equalisation and checks
follow; a context that is not in flight changes nothing. (R146, R147, R148, R175, R193, R203, R477) -/
def Obligations.EvaluationsAreIssuedAndFinish : Prop :=
  ∀ (t : Nat) (s a : State), a = settleEngines (advance t s) → running a = true →
    (rackTime a % 320 = 0 → exec (.evaluationIssue t) s
      = .next (placeDues (a.loops.due ++ newDues a) { a with loops := { a.loops with due := [] } })) ∧
    (rackTime a % 320 ≠ 0 → exec (.evaluationIssue t) s = .next a) ∧
    (∀ c, a.loops.flights.find? (fun f => f.due.ctx == c) = none → exec (.evaluationComplete t c) s = .next a) ∧
    (∀ c f, a.loops.flights.find? (fun f => f.due.ctx == c) = some f → isPhaseCtx c = false → f.stale = none →
      f.checks = 0 → (a.ctx c).waiting = false → a.loops.capture.state = 0 →
      (writeBack f (f.issued / ledgerTicks) (rackTime a) (a.ctx c)).waiting = false →
      exec (.evaluationComplete t c) s = .next (State.setCtx
        { a with loops := { a.loops with flights := a.loops.flights.filter (fun g => g.due.ctx != c) } } c
        (writeBack f (f.issued / ledgerTicks) (rackTime a) (a.ctx c))))

/-- A passed proof of an engine with a free slot counts once in its interval. A failed one counts; an engine of the pool
leaves it at the next frame boundary, the spare is out at once with 0x0604. An interval that ends without a proof
fails the engine too. A trim held at its limit for 100 ms is told once by 0x0707. (R176, R177, R178, R203) -/
def Obligations.EnginesAreProved : Prop :=
  ∀ (t k : Nat) (s now a : State) (e : Engine), now = advance t s → a = settleEngines now → running a = true → e = a.engine k →
    (∀ m, proofInterval a k = some m → k < 9 → rackTime a % 320 = 0 → e.provedIn ≠ m + 1 → freeSlots a k ≠ 0 →
      exec (.proofEvaluation t k true) s = .next ((a.setEngine k { e with
        provedIn := m + 1, proofUntil := rackTime a + 2560, lastVector := m % 16 }).setEngine k { e with
        provedIn := m + 1, proofUntil := rackTime a + 2560, lastVector := m % 16
        proofs := sat32 e.proofs 1, passed := true }) ∧
      exec (.proofEvaluation t k false) s = .next (engineFails k (m % 16) (a.setEngine k { e with
        provedIn := m + 1, proofUntil := rackTime a + 2560, lastVector := m % 16 }))) ∧
    (∀ m, proofInterval a k = some m → k < 9 → e.provedIn = m + 1 → ∀ ok, exec (.proofEvaluation t k ok) s = .next a) ∧
    (∀ m, proofInterval a k = some m → k < 9 →
      (e.provedIn < m → exec (.proofIntervalEnd t k) s
        = .next (engineFails k ((m - 1) % 16) (a.setEngine k { e with provedIn := m }))) ∧
      (m ≤ e.provedIn → exec (.proofIntervalEnd t k) s = .next a)) ∧
    (∀ v b, e.state = 1 → b = a.setEngine k { e with
        fails := sat32 e.fails 1, passed := false, lastVector := v, state := 2
        failedAt := if e.failedAt = 0 then a.plinth.opSeconds else e.failedAt } →
      engineFails k v a = chipPulse 0x0604 [k] b) ∧
    (∀ v, e.state = 0 → engineFails k v a = settleEngines (a.setEngine k { e with
        fails := sat32 e.fails 1, passed := false, lastVector := v
        removeAt := some (onGrid (rackTime a) frameTicks 0)
        failedAt := if e.failedAt = 0 then a.plinth.opSeconds else e.failedAt })) ∧
    (∀ p since, running now = true → (now.ph p).trimSince = some since →
      ((now.ph p).trimTold = false → since + 100 * msTicks ≤ rackTime now →
        exec (.equaliseLimit t p) s
          = .next (phasePulse 0x0707 p [] (now.setPh p { now.ph p with trimTold := true }))) ∧
      ((now.ph p).trimTold = true → exec (.equaliseLimit t p) s = .next now))

/-- In SERVICE, LOOP_OPEN of an openable context of a running unguarded stage holds the loop or sets its output by hand,
LOOP_SET moves the manual value of such a loop within OUT_MIN to OUT_MAX, CTX_COEF_WRITE of an open context keeps a
pending body and the CRC that goes with it, or is RANGE where it writes a reserved field, and LOOP_CLOSE closes it;
each answers DONE. A guarded stage is DENIED and a closed context WRONG_MODE. (R170, R171, R365) -/
def Obligations.LoopsAreOpenedAndClosed : Prop :=
  ∀ (t : Nat) (rq : CmdReq) (s a u : State) (c g : Nat), a = advance t s → c = u16 rq.data 0 →
    g = ctxStage (secs u) c → ctxArgOk u c = true → u.mode = .service →
    (admitCmd (serviceSpec 0x0610 8 8 [3]) rq a = some u → stageRunning u g = true →
      (ctxOpenable (lcRec (secs u) c) = true → stGuarded (secs u) g = false →
        (u8 rq.data 2 = 0 → Reaches (exec (.loopOpen t rq) s) (Answers rq stDone [] (event 0x8603 [c, 1] (u.setCtx c
          { u.ctx c with mode := .hold, manual := i32 rq.data 4, closeK := 0 })))) ∧
        (u8 rq.data 2 = 1 → manualOk u c (i32 rq.data 4) = true →
          Reaches (exec (.loopOpen t rq) s) (Answers rq stDone [] (event 0x8603 [c, 1] (u.setCtx c
            { u.ctx c with mode := .manual, manual := i32 rq.data 4, closeK := 0 }))))) ∧
      (u8 rq.data 2 ≤ 1 → stGuarded (secs u) g = true → Reaches (exec (.loopOpen t rq) s) (Answers rq stDenied [] u))) ∧
    (admitCmd (serviceSpec 0x0611 8 8 [2, 3]) rq a = some u →
      ((u.ctx c).mode = .manual → manualOk u c (i32 rq.data 4) = true →
        Reaches (exec (.loopSet t rq) s) (Answers rq stDone [] (u.setCtx c { u.ctx c with manual := i32 rq.data 4 }))) ∧
      ((u.ctx c).mode = .closed → Reaches (exec (.loopSet t rq) s) (Answers rq stWrongMode [] u))) ∧
    (∀ b w r, admitCmd (serviceSpec 0x0612 11 71 [6, 7]) rq a = some u → u8 rq.data 2 = 0xFF → u8 rq.data 3 = 0xFF →
      b = (u.ctx c).pending.getD (bodyOf u c) → w = rq.data.drop 8 → r = lcRec (secs u) c →
      reservedZero (ctxForm r) (ctxBody r) (u16 rq.data 4) w = true →
      (u.ctx c).mode ≠ .closed → u16 rq.data 4 + w.length ≤ b.length → bodyWriteOk r (u16 rq.data 4) w b = true →
      Reaches (exec (.ctxCoefWrite t rq) s) (Answers rq stDone []
        (storeCrc c (r.take 32 ++ putBytes b (u16 rq.data 4) w)
          (u.setCtx c { u.ctx c with pending := some (putBytes b (u16 rq.data 4) w) })))) ∧
    (admitCmd (serviceSpec 0x0612 11 71 [6, 7]) rq a = some u → u8 rq.data 2 = 0xFF → u8 rq.data 3 = 0xFF →
      reservedZero (ctxForm (lcRec (secs u) c)) (ctxBody (lcRec (secs u) c)) (u16 rq.data 4) (rq.data.drop 8) = false →
      Reaches (exec (.ctxCoefWrite t rq) s) (Answers rq stRange [] u)) ∧
    (admitCmd (serviceSpec 0x0613 4 4 [2, 3]) rq a = some u →
      ((u.ctx c).mode ≠ .closed → Reaches (exec (.loopClose t rq) s) (Answers rq stDone [] (closeLoop c 2 u))) ∧
      ((u.ctx c).mode = .closed → Reaches (exec (.loopClose t rq) s) (Answers rq stWrongMode [] u)))

/-- In SERVICE, INJECT_START of a legal waveform on a context of an unguarded stage starts the generator at the present
rack time; the PRBS register starts at a value the spec does not state (a free value, never 0). INJECT_STOP ends it
with event 0x8602 and cause 1. CAPTURE_ARM of a legal set-up arms the unit with no sample taken, at once running for
trigger 0; CAPTURE_ABORT stops it with cause 2. (R172, R173, R174, R175) -/
def Obligations.InjectionAndCapture : Prop :=
  ∀ (t : Nat) (rq : CmdReq) (s a u : State) (c : Nat), a = advance t s → c = u16 rq.data 0 →
    (admitCmd (serviceSpec 0x0614 16 16 []) rq a = some u → u.mode = .service → ctxArgOk u c = true → u8 rq.data 2 ≤ 2 →
      (u8 rq.data 3 = 0 ∧ within 100 5000000 (u32 rq.data 8) = true ∨ u8 rq.data 3 = 1 ∨
        (u8 rq.data 3 = 2 ∨ u8 rq.data 3 = 3) ∧ within 1 65536 (u32 rq.data 12) = true) →
      u.loops.inject = none → stGuarded (secs u) (ctxStage (secs u) c) = false →
      amplitudeOk u c (u8 rq.data 2) (i32 rq.data 4) = true → u.loops.capture.trigger ≠ 1 →
      Reaches (exec (.injectStart t rq) s) (fun v => ∃ j, v.loops.inject = some j ∧ j.ctx = c ∧
        j.point = u8 rq.data 2 ∧ j.wave = u8 rq.data 3 ∧ j.amplitude = i32 rq.data 4 ∧ j.freq = u32 rq.data 8 ∧
        j.length = u32 rq.data 12 ∧ j.index = 0 ∧ j.start = rackTime u ∧ 1 ≤ j.lfsr ∧ j.lfsr < 2 ^ 31 ∧
        Answers rq stDone [] { u with freeIx := u.freeIx + 1, loops := { u.loops with
          inject := some j
          capture := if u.loops.capture.state = 1 ∧ u.loops.capture.ctx = c then
            { u.loops.capture with exps := restate u j u.loops.capture } else u.loops.capture } } v)) ∧
    (∀ j, admitCmd (serviceSpec 0x0615 4 4 noArgs) rq a = some u → u.mode = .service → u.loops.inject = some j →
      Reaches (exec (.injectStop t rq) s)
        (Answers rq stDone [] (event 0x8602 [1] { u with loops := { u.loops with inject := none } }))) ∧
    (∀ sigs, admitCmd { object := 0x0616, role := some 5, lo := 32, hi := 32, resv := [10, 11, 17, 21, 25, 29] } rq a = some u →
      (u.mode = .standby ∨ u.mode = .run ∨ u.mode = .service) → ctxArgOk u c = true →
      within 1 256 (u16 rq.data 2) = true → u8 rq.data 6 ≤ 3 → u8 rq.data 7 ≤ 1 →
      sigs = (List.range 4).map (fun k => (u8 rq.data (16 + 4 * k), u16 rq.data (18 + 4 * k))) →
      (∀ x ∈ sigs, x.1 ≤ 6 ∧ (x.1 = 6 → selectorOk (secs u) x.2 = true)) → u.loops.capture.state ≠ 1 → u.loops.capture.state ≠ 2 →
      Reaches (exec (.captureArm t rq) s) (fun v => v.loops.capture.ctx = c ∧ v.loops.capture.samples = [] ∧
        v.loops.capture.trigger = u8 rq.data 6 ∧ v.loops.capture.pre = u16 rq.data 4 ∧ v.loops.capture.count = 0 ∧
        v.loops.capture.state = (if u8 rq.data 6 = 0 then 2 else 1) ∧
        Answers rq stDone [] { u with loops := { u.loops with capture := v.loops.capture } } v)) ∧
    (admitCmd { object := 0x0617, role := some 5, lo := 4, hi := 4, resv := noArgs } rq a = some u →
      (u.loops.capture.state = 1 ∨ u.loops.capture.state = 2) →
      Reaches (exec (.captureAbort t rq) s) (fun v => v.loops.capture.state = 4 ∧ v.loops.capture.stopCause = 2 ∧
        v.loops.capture.count = u.loops.capture.samples.length ∧
        v = { u with host := v.host, loops := { u.loops with capture := v.loops.capture } }))

/-- At a frame's cut-off, once for each frame, with the link up, every declared stage forms and places its pulses and
every declared port's frame is built; with no stage and no port declared nothing moves. BRAKE_MAX_TIME ends braking;
a stage with crowbar enabled that runs while 0x0502 of its scope is asserted fires its crowbar; QUIET_TIME without
interruption makes a running stage quiet; wear records are saved after WEAR_SAVE minutes of RUN. (R99, R111, R195,
R197, R206, R207, R208, R212) -/
def Obligations.PulsesBrakesAndCrowbars : Prop :=
  ∀ (t : Nat) (s a : State), a = advance t s →
    (∀ f u, linkUp a = true → f * frameTicks ≤ rackTime a + 320 → rackTime a ≤ f * frameTicks → a.modul.cutFrame ≤ f → u = (declaredPorts (secs a)).foldl (fun s p =>
        if !isLive s then s
        else
          let owed := (s.port p).slotOffFrames
          let s := dropLate f p (buildFrame f p s)
          if isLive s && owed = 1 && (s.port p).slotOffFrames = 0 then retrainPort p s else s)
        ((declaredStages (secs a)).foldl (fun s g => if isLive s then cutoffStage f g s else s) a) →
      exec (.frameCutoff t f) s = .next
        (if isLive u then { u with modul := { u.modul with cutFrame := max u.modul.cutFrame (f + 1) } } else u)) ∧
    (∀ f, (linkUp a = false ∨ rackTime a + 320 < f * frameTicks ∨ f * frameTicks < rackTime a ∨ f < a.modul.cutFrame) →
      exec (.frameCutoff t f) s = .next a) ∧
    (∀ g, running a = true → (a.stage g).mode = .braking →
      ((a.stage g).brakeSince + sgBrakeMax (secs a) * usTicks ≤ rackTime a →
        exec (.brakeMaxTimeExpiry t g) s = .next (endBrake g 3 a)) ∧
      (rackTime a < (a.stage g).brakeSince + sgBrakeMax (secs a) * usTicks →
        exec (.brakeMaxTimeExpiry t g) s = .next a)) ∧
    (∀ p g, running a = true → phRole (secs a) p ≠ 0 → g = phStage (secs a) p → stCrowbarEn (secs a) g = true →
      stageOn a g = true →
      ((a.input 0x0502 (phaseScope a p)).asserted = true → exec (.crowbarFire t p) s = .next (fireCrowbar g a)) ∧
      ((a.input 0x0502 (phaseScope a p)).asserted = false → exec (.crowbarFire t p) s = .next a)) ∧
    (∀ g q, running a = true → (a.stage g).mode = .running → (a.stage g).quietSince = some q →
      (q + sgQuietTime (secs a) * msTicks ≤ rackTime a →
        exec (.quietPoint t g) s = .next (a.setStage g { a.stage g with quiet := true })) ∧
      (rackTime a < q + sgQuietTime (secs a) * msTicks → exec (.quietPoint t g) s = .next a)) ∧
    (a.mode = .run →
      (a.maq.wearAt + 60 * sgWearSave (secs a) ≤ a.plinth.opSeconds →
        exec (.wearSave t) s = .next { a with maq := { a.maq with wearAt := a.plinth.opSeconds, requested := true } }) ∧
      (a.plinth.opSeconds < a.maq.wearAt + 60 * sgWearSave (secs a) → exec (.wearSave t) s = .next a))

/-- A stage that is stopped keeps its state; one that runs is STOPPED after a stop cause, whatever it was doing but for
a crowbar. (R188, R189) -/
def Obligations.StagesStop : Prop :=
  ∀ (g : Nat) (s : State),
    ((s.stage g).mode = .stopped → ((stopStage g s).stage g).mode = .stopped) ∧
    ((s.stage g).mode = .running ∨ (s.stage g).mode = .starting ∨ (s.stage g).mode = .braking →
      ((stopStage g s).stage g).mode = .stopped) ∧
    ((s.stage g).mode = .crowbar → ((stopStage g s).stage g).mode = .crowbar)

/-- In SERVICE, PHASE_RETIRE of a working phase marks it for retirement, replaces it at once where its stage is stopped,
and is DONE; the last active phase of a guarded stage is DENIED. WEAR_RESET of a declared phase starts its wear
record afresh, its state kept, with event 0x8705. (R211, R213) -/
def Obligations.PhasesAreRetired : Prop :=
  ∀ (t : Nat) (rq : CmdReq) (s a u : State) (p g : Nat), a = advance t s → p = u8 rq.data 0 → p < 192 →
    g = phStage (secs u) p → u.mode = .service →
    (admitCmd (serviceSpec 0x0710 4 4 [1, 2, 3]) rq a = some u →
      (∀ b, stGuarded (secs u) g = false → works u p = true →
        b = (if (u.ph p).wear.state == .retirePending then u else wearTo p .retirePending u) →
        ((b.stage g).mode = .stopped →
          Reaches (exec (.phaseRetire t rq) s) (Answers rq stDone [] (promote g b).1)) ∧
        ((b.stage g).mode ≠ .stopped → Reaches (exec (.phaseRetire t rq) s) (Answers rq stDone [] b))) ∧
      (stGuarded (secs u) g = true → activePhases u g = [p] →
        Reaches (exec (.phaseRetire t rq) s) (Answers rq stDenied [] u))) ∧
    (admitCmd (serviceSpec 0x0711 4 4 [1, 2, 3]) rq a = some u → phRole (secs u) p ≠ 0 →
      Reaches (exec (.wearReset t rq) s) (Answers rq stDone [] (event 0x8705 [p] (u.setPh p { u.ph p with
        wear := { (u.ph p).wear with
          baseline := 0, present := 0, samples := 0, sum := 0, warned := false, worn := false } }))))

/-- A ledger boundary whose period has not been passed is passed once, with the codes converted at it; LEDGER_COMPUTE
after the measurement window computes the next period's values once, and one that comes after T_n − 320 publishes
nothing and raises 0x0804. A CAPO period starts with the least of the last values. A stage held since hold-up began
is named after HOLDUP_HOLD, and a consumer short for SHORT_TIME is told once by 0x0801. (R12, R220, R226, R233,
R237) -/
def Obligations.LedgerBoundariesAreComputed : Prop :=
  ∀ (t : Nat) (s a : State), a = advance t s → running a = true →
    (∀ spa, (a.ledger ≤ period a → exec (.ledgerBoundary t spa) s = .next (passBoundary spa a)) ∧
      (period a < a.ledger → exec (.ledgerBoundary t spa) s = .next a)) ∧
    (a.balance.computed ≤ period a → 51200 ≤ rackTime a % ledgerTicks →
      (rackTime a % ledgerTicks ≤ 63680 → exec (.ledgerCompute t) s = .next (computeLedger a)) ∧
      (63680 < rackTime a % ledgerTicks → exec (.ledgerCompute t) s
        = .next (chipPulse 0x0804 [] { a with balance := { a.balance with computed := period a + 1 } }))) ∧
    (period a < a.balance.computed → exec (.ledgerCompute t) s = .next a) ∧
    (∀ c x low, c < 4 → capoOn (secs a) c = true → x = Tab.get ({} : Capo) a.balance.capos c →
      low = x.values.foldl min (x.values.headD 0) →
      (period a % 10 = 0 → exec (.capoPeriodStart t c) s = .next { a with
        balance := { a.balance with capos := Tab.set a.balance.capos c { x with
          running := true, start := period a * ledgerTicks, high := capoHigh (secs a) c low, fallen := false } } }) ∧
      (period a % 10 ≠ 0 → exec (.capoPeriodStart t c) s = .next a)) ∧
    (∀ g, a.balance.holdup = true → stageDeclared (secs a) g = true → stGuarded (secs a) g = false →
      (a.stage g).holdupNamed = false → a.balance.holdupAt + bsHold (secs a) g * msTicks ≤ rackTime a →
      exec (.holdupStageNamed t g) s = .next (nameStage g a)) ∧
    (∀ c since, Tab.find a.balance.shortSince c = some since → since + baShortTime (secs a) * msTicks ≤ rackTime a →
      (a.balance.shortTold.contains c = false → exec (.supplyShort t c) s
        = .next (raiseFault 0x0801 (shortScope a c) (pay [c])
            { a with balance := { a.balance with shortTold := c :: a.balance.shortTold } })) ∧
      (a.balance.shortTold.contains c = true → exec (.supplyShort t c) s = .next a))

/-- At a second boundary with no rest, no hold-up and no safe level a rest request that is due is granted, with event
0x8803, and RAMP_DOWN starts from the string's share. The envelope at 0 begins RESTING, REST_WINDOW begins RAMP_UP,
an aborted rest ramps up too and stamps the abort, and the envelope at the string's limit ends the rest.
REST_WAIT_MAX of waiting marks the string and stages event 0x8805 once. (R239, R240, R241, R242) -/
def Obligations.StringsRest : Prop :=
  ∀ (t : Nat) (s a : State), a = advance t s → running a = true →
    (∀ r k, k = rackTime a / secTicks → a.balance.grantAt < k → a.balance.rest = none → a.balance.holdup = false →
      a.collector.heldLevel = 0 →
      restPick { a with balance := { a.balance with grantAt := k } } ((declaredStrings (secs a)).filter
        (restOk { a with balance := { a.balance with grantAt := k } })) = some r →
      exec (.restGrant t) s = .next (event 0x8803 [r] { a with balance := { a.balance with
        grantAt := k
        rest := some { string := r, startAt := rackTime a, from_ := (Tab.get {} a.balance.cur.strings r).share.natAbs }
        strings := Tab.set a.balance.strings r { Tab.get {} a.balance.strings r with restReqSince := none } } })) ∧
    (rackTime a / secTicks ≤ a.balance.grantAt → exec (.restGrant t) s = .next a) ∧
    (∀ r, a.balance.rest = some r →
      (r.phase = .rampDown → envelopeAt (secs a) r (rackTime a) = 0 →
        exec (.restRampDownEnd t) s = .next { a with balance := { a.balance with rest := some { r with
          phase := .resting, startAt := rackTime a, from_ := 0, shortSince := none } } }) ∧
      (r.phase = .resting → r.startAt + baRestWindow (secs a) * secTicks ≤ rackTime a →
        exec (.restWindowEnd t) s = .next { a with balance := { a.balance with rest := some { r with
          phase := .rampUp, startAt := rackTime a, from_ := envelopeAt (secs a) r (rackTime a), shortSince := none } } }) ∧
      (∀ x, r.phase = .rampUp → x = Tab.get {} a.balance.cur.strings r.string →
        max x.disFree x.chgFree ≤ envelopeAt (secs a) r (rackTime a) →
        exec (.restRampUpEnd t) s = .next (endRest r.cause a)) ∧
      (∀ q, (r.phase = .rampDown ∨ r.phase = .resting) → r.shortSince = some q →
        q + baRestAbort (secs a) * msTicks ≤ rackTime a →
        Reaches (exec (.restAbort t) s) (fun u => ∃ y, u.balance.rest = some y ∧ y.phase = .rampUp ∧ y.cause = 1 ∧
          y.string = r.string ∧
          (Tab.get ({} : BalString) u.balance.strings r.string).lastAbort = some (rackTime a) ∧
          u = { a with balance := { a.balance with rest := u.balance.rest, strings := u.balance.strings } }))) ∧
    (∀ b x q, x = Tab.get ({} : BalString) a.balance.strings b → x.restReqSince = some q →
      q + baRestWait (secs a) * secTicks ≤ rackTime a →
      (x.noRest = false → exec (.restWaitExpiry t b) s = .next (event 0x8805 [b] { a with balance := { a.balance with
        strings := Tab.set a.balance.strings b { x with noRest := true } } })) ∧
      (x.noRest = true → exec (.restWaitExpiry t b) s = .next a))

/-- At a 10 ms boundary not taken yet a restore that is owed is settled and every declared string takes one model step,
at a 1 s boundary its bleeding cells are chosen; neither happens twice. A string unread for MAX_COUNT_H hours is
stale. LEARN_SAVE minutes of RUN request a store write. (R253, R262, R263, R264, R267, R274) -/
def Obligations.MaquetteSteps : Prop :=
  ∀ (t : Nat) (s a : State), a = advance t s →
    (running a = true →
      (∀ k, k = rackTime a / (10 * msTicks) →
        (∀ r, a.maq.step < k → r = settleRestore a →
          exec (.modelStep t) s = .next ((maqStrings (secs r)).foldl (fun s b => stepString k b s)
            { r with maq := { r.maq with step := k } })) ∧
        (k ≤ a.maq.step → exec (.modelStep t) s = .next a)) ∧
      (∀ k, k = rackTime a / secTicks →
        (a.maq.second < k → exec (.balancingSelect t) s = .next ((maqStrings (secs a)).foldl
          (fun s b => balanceString b s) { a with maq := { a.maq with second := k } })) ∧
        (k ≤ a.maq.second → exec (.balancingSelect t) s = .next a)) ∧
      (∀ b, (maqStrings (secs a)).contains b = true →
        ((a.str b).lastRest + 3600 * msMaxCount (mqString (secs a) b) ≤ a.plinth.opSeconds →
          exec (.staleMark t b) s = .next (a.setStr b { a.str b with stale := true })) ∧
        (a.plinth.opSeconds < (a.str b).lastRest + 3600 * msMaxCount (mqString (secs a) b) →
          exec (.staleMark t b) s = .next a))) ∧
    (a.mode = .run → hasSec (secs a) tyMaquette = true →
      (a.maq.savedAt + 60 * mqLearnSave (secs a) ≤ a.plinth.opSeconds →
        exec (.learnSave t) s = .next { a with maq := { a.maq with savedAt := a.plinth.opSeconds, requested := true } }) ∧
      (a.plinth.opSeconds < a.maq.savedAt + 60 * mqLearnSave (secs a) → exec (.learnSave t) s = .next a))

/-- A requested store write on a mounted store takes its snapshot with the next SEQUENCE into the slot that does not
win, and erases that slot; it waits for the restore and the erase owed since the mount and for power. Its end
programs the payload and then the commit record, with event 0x8A03; a program that failed after some bytes leaves
those and raises 0x0A04, and a write that a power failure has abandoned ends with 0x8A04 without a commit record.
The owed slot is erased once. (R269, R270, R271, R272) -/
def Obligations.LearnedValuesAreStored : Prop :=
  ∀ (t : Nat) (s a : State), a = advance t s →
    (running a = true → a.maq.mounted = true → a.maq.barred = false → a.maq.write = none → a.maq.requested = true →
      a.maq.eraseDue = none → a.maq.restoreBy = none → a.pins.pwrFail = false → ∀ seq k,
      seq = max ((storeSeq a.cs1 0).getD 0) ((storeSeq a.cs1 1).getD 0) + 1 →
      k = (if storeWinner a.cs1 = some 0 then 1 else 0) →
      (seq ≤ 0xFFFFFFFE → exec (.storeWriteStart t) s = .next { a with
        maq := { a.maq with
          requested := false, failed := false, write := some { slot := k, seq := seq, payload := storePayload a } }
        cs1 := flashErase a.cs1 (storeSlotBase k) 0x10000 }) ∧
      (0xFFFFFFFE < seq → exec (.storeWriteStart t) s
        = .next (chipPulse 0x0A04 [0] { a with maq := { a.maq with requested := false } }))) ∧
    (∀ k, a.maq.eraseDue = some k → running a = true → a.pins.pwrFail = false →
      exec (.storeWriteStart t) s = .next a ∧
      exec (.storeSlotErase t) s = .next { a with
        maq := { a.maq with eraseDue := none }, cs1 := flashErase a.cs1 (storeSlotBase k) 0x10000 }) ∧
    (a.maq.restoreBy ≠ none → exec (.storeWriteStart t) s = .next a) ∧
    (∀ w b c, a.maq.write = some w → c = ascii "LVCM" ++ leBytes 4 w.seq ++ leBytes 4 payloadLen →
      b = (fun n => { a with
        maq := { a.maq with write := none, failed := false }
        cs1 := flashProgram a.cs1 (storeSlotBase w.slot) (w.payload.take n) }) →
      (∀ n, exec (.storeWriteComplete t (some n)) s = .next (chipPulse 0x0A04 [w.slot] (b n))) ∧
      (a.maq.failed = false →
        exec (.storeWriteComplete t none) s = .next (event 0x8A03 [w.slot, w.seq] { b payloadLen with
          cs1 := flashProgram (b payloadLen).cs1 (storeCommitBase w.slot) (c ++ leBytes 4 (crc32c c)) })) ∧
      (a.maq.failed = true →
        exec (.storeWriteComplete t none) s = .next (event 0x8A04 [w.slot] (b payloadLen)))) ∧
    (a.maq.write = none → ∀ n, exec (.storeWriteComplete t n) s = .next a)

/-- A filtered change of RACK_ON moves the pin; while the chip runs, its rise is an on request and its fall an off
request. In STANDBY, with no safe level, the transmitters on and the pool covering the anchor load, an on request
starts a power-up from step 0 with event 0x8901, first waiting for undischarged rails; a chip unlocked for debug
takes none. An off request at RUN begins the power-down from the last step with cause 1. (R277, R278, R279, R293,
R294, R297) -/
def Obligations.RackIsSwitchedOnAndOff : Prop :=
  ∀ (t : Nat) (s a : State), a = advance t s →
    (∀ b, a.pins.rackOn = false → b = { a with pins := { a.pins with rackOn := true } } →
      (running a = true → exec (.rackOnChange t true) s = .next (onRequest b)) ∧
      (running a = false → exec (.rackOnChange t true) s = .next b)) ∧
    (∀ b, a.pins.rackOn = true → b = { a with pins := { a.pins with rackOn := false, rackOnLowSince := a.now } } →
      (running a = true → exec (.rackOnChange t false) s = .next (offRequest b)) ∧
      (running a = false → exec (.rackOnChange t false) s = .next b)) ∧
    (∀ b : State, b.benra.debugUnlocked = false → b.seq.phase = .idle → b.mode = .standby → b.collector.heldLevel = 0 → b.pins.transmitters = true →
      poolCovers b = true →
      (onRequest b).mode = .standby ∧ (onRequest b).seq.step = 0 ∧ (onRequest b).seq.flagged = 0 ∧
      (b.plinth.undischarged ≠ 0 → (onRequest b).seq.phase = .undischarged) ∧
      (b.plinth.undischarged = 0 → unreadStrings b 0 = [] → (onRequest b).seq.phase = .issueDue) ∧
      (b.plinth.undischarged = 0 → unreadStrings b 0 ≠ [] → (onRequest b).seq.phase = .readWait)) ∧
    (∀ b : State, b.benra.debugUnlocked = true ∨ b.seq.phase = .idle ∧ b.mode = .standby ∧ b.collector.heldLevel ≠ 0 →
      onRequest b = b) ∧
    (∀ b : State, b.seq.phase = .up → claspActive b = false →
      (offRequest b).seq.phase = .reverseDue ∧ (offRequest b).seq.cause = 1 ∧ (offRequest b).mode = b.mode ∧
      (offRequest b).seq.step = sqStepCount (secs b) - 1 ∧ (offRequest b).maq.requested = true)

/-- A step due is issued once a ledger boundary has passed. Its wait ends with the dwell over and its rails up: rails up
and unflagged come under supervision and the next step follows, or, after the last, RUN at the next ledger boundary.
The read wait ends with the reads or its time. UP_TIMEOUT with a rail not up flags the step, raises 0x0901 and goes
on. The wait for undischarged rails ends when each is discharged or out of time. (R280, R281, R283, R286, R295,
R297) -/
def Obligations.StepsGoUp : Prop :=
  ∀ (t : Nat) (s a : State), a = advance t s → running a = true →
    (a.seq.phase = .issueDue →
      (a.seq.since / ledgerTicks < period a → exec (.sequenceStepIssue t) s = .next (issueStep a)) ∧
      (period a ≤ a.seq.since / ledgerTicks → exec (.sequenceStepIssue t) s = .next a)) ∧
    (a.seq.phase = .stepWait →
      (stepUp a = true → exec (.stepWaitEnd t) s = .next (endStep a)) ∧
      (stepUp a = false → exec (.stepWaitEnd t) s = .next a) ∧
      (spUpTimeout (secs a) a.seq.step ≠ 0 → seqElapsed a (spUpTimeout (secs a) a.seq.step) = true →
        (stepRails (secs a) a.seq.step).all (railUp a) = false → exec (.upTimeout t) s = .next (timeOutStep a)) ∧
      ((stepRails (secs a) a.seq.step).all (railUp a) = true → exec (.upTimeout t) s = .next a)) ∧
    (a.seq.phase = .readWait →
      (unreadStrings a a.seq.step = [] ∨ seqElapsed a (sqReadWait (secs a)) = true →
        exec (.readWaitEnd t) s = .next { a with seq := { a.seq with phase := .issueDue } }) ∧
      (unreadStrings a a.seq.step ≠ [] → seqElapsed a (sqReadWait (secs a)) = false →
        exec (.readWaitEnd t) s = .next a)) ∧
    (a.seq.phase = .undischarged →
      ((waitRails a).all (waitRailOver a) = true → exec (.undischargedWaitEnd t) s = .next (endUndischarged a)) ∧
      ((waitRails a).all (waitRailOver a) = false → exec (.undischargedWaitEnd t) s = .next a)) ∧
    (a.seq.phase = .stepWait → a.seq.step + 1 < sqStepCount (secs a) →
      (endStep a).seq.step = a.seq.step + 1 ∧ (endStep a).mode = a.mode) ∧
    (a.seq.phase = .stepWait → sqStepCount (secs a) ≤ a.seq.step + 1 →
      (endStep a).seq.phase = .upDue ∧ (endStep a).seq.since = rackTime a ∧ (endStep a).mode = a.mode) ∧
    (a.seq.phase = .upDue → a.mode = .standby → (finishUp a).seq.phase = .up ∧ (finishUp a).mode = .run)

/-- A reverse due is begun once a ledger boundary has passed. The end of the reversed step's wait goes to the step
below, to a turnaround where an on request is latched and the step may turn, or completes the power-down at step 0:
from RUN to STANDBY. A rail not discharged in its time is marked undischarged and raises 0x0902 once. GUARD_WAIT
without hold-up stops the guarded stages kept running and flags the step. (R282, R294, R296, R298) -/
def Obligations.StepsGoDown : Prop :=
  ∀ (t : Nat) (s a : State), a = advance t s → running a = true →
    (a.seq.phase = .reverseDue →
      (a.seq.since / ledgerTicks < period a → exec (.stepReverse t) s = .next (reverseStep a)) ∧
      (period a ≤ a.seq.since / ledgerTicks → exec (.stepReverse t) s = .next a)) ∧
    (a.seq.phase = .downWait →
      (stepDown a = true → exec (.stepWaitEnd t) s = .next (endReverse a)) ∧
      (stepDown a = false → exec (.stepWaitEnd t) s = .next a) ∧
      (∀ r, (stepRails (secs a) a.seq.step).contains r = true → railDischarged a r = false →
        bit a.seq.timedOut r = false →
        (seqElapsed a (rlDischTime (secs a) r) = true → exec (.dischTimeout t r) s
          = .next (chipPulse 0x0902 [a.seq.step, r] { a with
              seq := { a.seq with timedOut := a.seq.timedOut ||| (1 <<< r) }
              plinth := { a.plinth with undischarged := a.plinth.undischarged ||| (1 <<< r) } })) ∧
        (seqElapsed a (rlDischTime (secs a) r) = false → exec (.dischTimeout t r) s = .next a)) ∧
      (∀ q, a.seq.guardSince = some q → a.balance.holdup = false →
        (q + sqGuardWait (secs a) * secTicks ≤ rackTime a → exec (.guardWaitExpiry t) s
          = .next (stopKept (flagStep a.seq.step { a with seq := { a.seq with guardSince := none } }))) ∧
        (rackTime a < q + sqGuardWait (secs a) * secTicks → exec (.guardWaitExpiry t) s = .next a))) ∧
    (a.seq.latched = false → 0 < a.seq.step → endReverse a
      = { a with seq := { a.seq with phase := .reverseDue, step := a.seq.step - 1, since := rackTime a } }) ∧
    (a.seq.latched = false → a.seq.step = 0 → a.mode = .run →
      (endReverse a).mode = .standby ∧ (endReverse a).seq.phase = .idle)

/-- A supervised rail outside its window for RUN_FILTER raises 0x0903 once. A running keep-alive not refreshed for 1 ms
stops and raises 0x0907. An auxiliary contact that disagrees after FB_DELAY raises 0x0906 once, with direction 1
while the output runs. RAIL_MARGIN of a running unguarded rail stage in SERVICE sets its margin and is DONE; a
guarded stage is DENIED. (R284, R286, R288, R291, R299) -/
def Obligations.RailsAndContactorsAreWatched : Prop :=
  ∀ (t : Nat) (s a : State), a = advance t s →
    (∀ r b x q, running a = true → b = watchRail r a → x = b.rail r → x.outSince = some q → rackUp b = true →
      poweringDown b = false → r < sqRailCount (secs a) → x.supervised = true → x.marginBusy = false →
      rlFilter (secs a) r ≠ 0 → max q x.resumeAt + rlFilter (secs a) r * msTicks ≤ rackTime b →
      (x.out = false → exec (.railOutOfWindow t r) s
        = .next (raiseFault 0x0903 (railScope b r) (pay [r]) (b.setRail r { x with out := true }))) ∧
      (x.out = true → exec (.railOutOfWindow t r) s = .next b)) ∧
    (∀ k, running a = true → (a.ka k).running = true →
      ((a.ka k).refreshed + msTicks ≤ a.now → exec (.keepaliveHoldExpiry t k) s
        = .next (chipPulse 0x0907 [k] (a.setKa k { a.ka k with running := false, since := a.now, told := false }))) ∧
      (a.now < (a.ka k).refreshed + msTicks → exec (.keepaliveHoldExpiry t k) s = .next a)) ∧
    (∀ k x, running a = true → kaOwner (secs a) k ≠ 0 → kaFbRail (secs a) k ≠ 0xFF → x = a.ka k → x.told = false →
      x.since + kaFbDelay (secs a) k * msTicks ≤ a.now →
      (contactClosed a k = !x.running → exec (.contactorMismatch t k) s
        = .next (chipFault 0x0906 [k, flag x.running] (a.setKa k { x with told := true }))) ∧
      (contactClosed a k = x.running → exec (.contactorMismatch t k) s = .next a)) ∧
    (∀ rq u g m, admitCmd (serviceSpec 0x0910 4 4 [2, 3]) rq a = some u → g = u8 rq.data 0 → m = i8 rq.data 1 →
      withinI (-40) 40 m = true → u.mode = .service → stageDeclared (secs u) g = true → (u.stage g).mode = .running →
      (stKind (secs u) g = 5 ∨ g = baBus (secs u)) →
      (stGuarded (secs u) g = false → Reaches (exec (.railMargin t rq) s) (Answers rq stDone [] (setMargin g m u))) ∧
      (stGuarded (secs u) g = true → Reaches (exec (.railMargin t rq) s) (Answers rq stDenied [] u)))

/-- Mating draws a new TIE from the DRBG and starts a check. Its end notes the insulation and contact resistance of the
measurement and, where the excitations lie in range, takes its class: DRY or DAMP leads from CHECK to DISCOVER with
CAPABILITIES, WET or CORRODED to BLOCKED and, in a coupling, to its end for the patina with 0x0E01; an excitation
out of range counts as WET with 0x0E08. The retest starts after its time. A pulled plug leads to DETACHED with the
agreements on a 0.4 ms ramp and 0x0E05. LOCKOUT ends in CHECK after 1 s, or 60 s from the third in a row. (R314,
R331, R332, R335, R336) -/
def Obligations.PlugIsCheckedAndPulled : Prop :=
  ∀ (t : Nat) (s a : State), a = advance t s → claspActive a = true →
    (a.clasp.phase = .detached →
      exec (.proxMate t) s = .next { (drbg a).2 with clasp := { a.clasp with
        mated := true, tie := (drbg a).1 % 2 ^ 32, phase := .check, phaseSince := a.now
        patinaRunning := true, patinaSince := a.now } }) ∧
    (∀ p u, a.clasp.patinaRunning = true → u = { a with clasp := { a.clasp with
        rIns := min (rIns (secs a) p.exc100 p.leak100) (rIns (secs a) p.exc10k p.leak10k)
        rC := min 0xFFFFFFFF (rCon (secs a) p.kelvin) } } →
      ((excOk (secs a) p.exc100 && excOk (secs a) p.exc10k && excOk (secs a) p.excHigh) = true →
        exec (.patinaCheckComplete t p) s = .next (patinaResult (patinaClass (secs a) p) u) ∧
        (∀ k, a.clasp.phase = .check → patinaClass (secs a) p = k → a.clasp.patina ≠ 1 →
          (k < 2 → (patinaResult k u).clasp.phase = .discover) ∧
          (2 ≤ k → (patinaResult k u).clasp.phase = .blocked ∧ (patinaResult k u).clasp.patina = k))) ∧
      ((excOk (secs a) p.exc100 && excOk (secs a) p.exc10k && excOk (secs a) p.excHigh) = false →
        isLive (chipPulse 0x0E08 [] u) = true →
        exec (.patinaCheckComplete t p) s = .next (patinaResult 2 (chipPulse 0x0E08 [] u)))) ∧
    (a.clasp.patinaRunning = false → (pilotUsed a.clasp.phase = true ∨ a.clasp.phase = .blocked) →
      (a.clasp.patinaAt + (if a.clasp.patina = 0 then coDryRetest (secs a) else 60) * secTicks ≤ a.now →
        exec (.patinaRetest t) s = .next { a with clasp := { a.clasp with patinaRunning := true, patinaSince := a.now } }) ∧
      (a.now < a.clasp.patinaAt + (if a.clasp.patina = 0 then coDryRetest (secs a) else 60) * secTicks →
        exec (.patinaRetest t) s = .next a)) ∧
    (a.clasp.mated = true → ∃ u, exec (.cablePulled t) s = .next (chipPulse 0x0E05 [] u) ∧
      u.clasp.phase = .detached ∧ u.clasp.mated = false ∧ u.clasp.contract = none ∧ u.clasp.verified = false ∧
      u.clasp.untrusted = false ∧ u.clasp.patinaRunning = false ∧
      u.clasp.outbox = [] ∧ u.clasp.ramp = some {
        startAt := rackTime a, duration := 400 * usTicks
        imp := a.clasp.agreedImport, exp := a.clasp.agreedExport, base := a.clasp.base }) ∧
    (a.clasp.phase = .lockout →
      (a.clasp.phaseSince + (if a.clasp.lockouts < 3 then 1 else 60) * secTicks ≤ a.now →
        exec (.lockoutExpiry t) s = .next { a with clasp := { a.clasp with
          phase := .check, phaseSince := a.now, patinaRunning := true, patinaSince := a.now } }) ∧
      (a.now < a.clasp.phaseSince + (if a.clasp.lockouts < 3 then 1 else 60) * secTicks →
        exec (.lockoutExpiry t) s = .next a))

/-- A message that fails R308 is counted as a CRC error or a discard, and does nothing else. A message that passes is
counted and receipted; a repeat does nothing more, but a RESYNC always acts. ACCEPT makes the contract asked for,
REJECT and WAIT end the request, WAIT to be asked again after 10 ms; SETTLED ends the Sink's transition at V_c;
CAPS_QUERY repeats the CAPABILITIES; ROLE_SWAP is answered WAIT while busy, REJECT outside CONTRACT, else accepted
and begun; RESYNC drops what is pending and restarts the counts; END_COUPLING ends with the partner's cause;
NOT_SUPPORTED asks for nothing, an unknown type is answered so. (R308, R310, R312, R317, R322, R323, R325, R326,
R333) -/
def Obligations.ControlMessagesAreTaken : Prop :=
  ∀ (t : Nat) (m : PilotMsg) (s a u : State) (p : Bytes), a = advance t s → p = msgPayload m.bytes →
    u = noteRx m.bytes false a →
    (claspActive a = true → pilotUsed a.clasp.phase = true →
      (rxVerdict a m = .crcError → exec (.messageDiscarded t m) s
        = .next (claspCount 1 { a with clasp := { a.clasp with lineEnd := max a.clasp.lineEnd a.now } })) ∧
      (rxVerdict a m = .discard → exec (.messageDiscarded t m) s
        = .next (claspCount 2 { a with clasp := { a.clasp with lineEnd := max a.clasp.lineEnd a.now } }))) ∧
    (¬ Fresh m a →
      (Hears .accept m a → exec (.accept t m) s = .next (noteRx m.bytes true a)) ∧
      (Hears .reject m a → exec (.reject t m) s = .next (noteRx m.bytes true a)) ∧
      (Hears .wait m a → exec (.wait t m) s = .next (noteRx m.bytes true a)) ∧
      (Hears .settled m a → exec (.settled t m) s = .next (noteRx m.bytes true a)) ∧
      (Hears .capsQuery m a → exec (.capsQuery t m) s = .next (noteRx m.bytes true a)) ∧
      (Hears .roleSwap m a → exec (.roleSwap t m) s = .next (noteRx m.bytes true a)) ∧
      (Hears .endCoupling m a → exec (.endCoupling t m) s = .next (noteRx m.bytes true a)) ∧
      (Hears .notSupported m a → exec (.notSupported t m) s = .next (noteRx m.bytes true a)) ∧
      (Hears .unknown m a → exec (.unknownType t m) s = .next (noteRx m.bytes true a))) ∧
    (Hears .resync m a → Reaches (exec (.resync t m) s) (fun v => v.clasp.nextCount = 0 ∧ v.clasp.lastAccepted = none ∧
      v.clasp.asked = none ∧ v.clasp.modeAsked = none ∧ v.clasp.swapAsked = false ∧ v.clasp.transition = none ∧
      v.clasp.phase = a.clasp.phase)) ∧
    (Fresh m a →
      (∀ k, Hears .accept m a → p ≠ [] → a.clasp.asked = some k → exec (.accept t m) s
        = .next (takeContract { k with pc := be16 p 0 * 100, ic := be16 p 2 * 100, droop := u8 p 4 } u)) ∧
      (Hears .accept m a → p = [] → a.clasp.swapAsked = true → swapping a = false →
        exec (.accept t m) s = .next (startSwap true u)) ∧
      (Hears .reject m a → a.clasp.swapAsked = false → exec (.reject t m) s
        = .next { u with clasp := { u.clasp with asked := none } }) ∧
      (Hears .reject m a → a.clasp.swapAsked = true → 7 ≤ u8 p 0 → exec (.reject t m) s = .next (denySwap u)) ∧
      (Hears .wait m a → a.clasp.swapAsked = true → exec (.wait t m) s = .next (denySwap
        { u with clasp := { u.clasp with askAfter := a.now + 10 * msTicks, waited := true } })) ∧
      (Hears .wait m a → a.clasp.swapAsked = false → a.clasp.asked ≠ none → exec (.wait t m) s
        = .next { u with clasp := { u.clasp with asked := none, askOwed := true, askAfter := a.now + 10 * msTicks } }) ∧
      (∀ x k, Hears .settled m a → a.clasp.swap = none → a.clasp.role = some 0 → a.clasp.transition = some x →
        a.clasp.contract = some k → Reaches (exec (.settled t m) s) (fun v => v = completeTransition u ∧
          v.clasp.transition = none ∧ v.clasp.settled = true ∧ v.clasp.vr = k.vc ∧ v.clasp.vSafe = k.vc)) ∧
      (∀ c, Hears .capsQuery m a → a.clasp.own = some c → exec (.capsQuery t m) s = .next (send tCaps (capsBytes c) u)) ∧
      (Hears .roleSwap m a → claspBusy a = true → exec (.roleSwap t m) s = .next (sendAnswer tWait [] u)) ∧
      (Hears .roleSwap m a → claspBusy a = false → a.clasp.phase ≠ .contract →
        exec (.roleSwap t m) s = .next (sendAnswer tReject [6, 0] u)) ∧
      (Hears .roleSwap m a → claspBusy a = false → a.clasp.phase = .contract → a.clasp.role = some 1 →
        (a.clasp.swapAsked = true ∨ swapQueued a = true) → exec (.roleSwap t m) s = .next (sendAnswer tWait [] u)) ∧
      (Hears .roleSwap m a → claspBusy a = false → a.clasp.phase = .contract → a.clasp.swapAsked = false →
        swapQueued a = false →
        (a.clasp.tandem = true → exec (.roleSwap t m) s = .next (sendAnswer tReject [7, 0] u)) ∧
        (a.clasp.tandem = false → canSwap a = true →
          exec (.roleSwap t m) s = .next (startSwap false (sendAnswer tAccept [] u))) ∧
        (a.clasp.tandem = false → canSwap a = false →
          exec (.roleSwap t m) s = .next (sendAnswer tReject [8, 0] u))) ∧
      (Hears .endCoupling m a → (a.clasp.phase = .closing ∨ a.clasp.phase = .contract) →
        Reaches (exec (.endCoupling t m) s) (fun v => v.clasp.phase = .ending ∧ v.clasp.transition = none ∧
          (v.clasp.ending.map (·.cause)) = some (u8 p 0))) ∧
      (Hears .notSupported m a → exec (.notSupported t m) s = .next u) ∧
      (Hears .unknown m a → exec (.unknownType t m) s = .next (send tNotSupported [] u)))

/-- CAPABILITIES of the partner are kept and, in DISCOVER, settle the roles. REQUEST is answered WAIT, REJECT with a
reason, or ACCEPT and taken. STATUS and ALERT note the partner's link power, patina and flags. DISCOVER_IDENTITY is
refused without a valid certificate and answered with chain, nonce and signature otherwise; the first of several
identity chunks is kept; DISCOVER_MODES names the enabled modes; ENTER_MODE and EXIT_MODE are granted or refused
with the reason; ATTENTION asks for STATUS; a bridged frame goes out on BRIDGE_CAN; a customer VDM is NOT_SUPPORTED
unless relayed, and counted as dropped without a free mailbox entry; a reply ends the mode request; an unknown
Kreilo command is answered NAK. A repeat of any does nothing. (R315, R316, R317, R327, R328, R329, R330, R405, R447) -/
def Obligations.DataMessagesAreTaken : Prop :=
  ∀ (t : Nat) (m : PilotMsg) (s a u : State) (p : Bytes), a = advance t s → p = msgPayload m.bytes →
    u = noteRx m.bytes false a →
    (¬ Fresh m a →
      (Hears .caps m a → exec (.capabilities t m) s = .next (noteRx m.bytes true a)) ∧
      (Hears .request m a → exec (.request t m) s = .next (noteRx m.bytes true a)) ∧
      (Hears .status m a → exec (.status t m) s = .next (noteRx m.bytes true a)) ∧
      (Hears .alert m a → exec (.alert t m) s = .next (noteRx m.bytes true a)) ∧
      (Hears .identity m a → exec (.discoverIdentity t m) s = .next (noteRx m.bytes true a)) ∧
      (Hears .chunk m a → exec (.identityChunk t m) s = .next (noteRx m.bytes true a)) ∧
      (Hears .modes m a → exec (.discoverModes t m) s = .next (noteRx m.bytes true a)) ∧
      (Hears .enter m a → exec (.enterMode t m) s = .next (noteRx m.bytes true a)) ∧
      (Hears .exit m a → exec (.exitMode t m) s = .next (noteRx m.bytes true a)) ∧
      (Hears .attention m a → exec (.attention t m) s = .next (noteRx m.bytes true a)) ∧
      (Hears .bridge m a → exec (.bridgeFrame t m) s = .next (noteRx m.bytes true a)) ∧
      (Hears .customer m a → exec (.customerVdm t m) s = .next (noteRx m.bytes true a)) ∧
      (Hears .reply m a → exec (.vdmReply t m) s = .next (noteRx m.bytes true a)) ∧
      (Hears .kreiloUnknown m a → exec (.kreiloVdmUnknown t m) s = .next (noteRx m.bytes true a))) ∧
    (Fresh m a →
      (Hears .caps m a → Reaches (exec (.capabilities t m) s) (fun v => v.clasp.partner = some (parseCaps p) ∧
        v.clasp.partnerPatina = min 3 (parseCaps p).patina ∧ v.clasp.phase = a.clasp.phase ∧
        (∀ own, a.clasp.phase = .discover → a.clasp.own = some own → (resolveRoles own (parseCaps p)).2 = false →
          v.clasp.role = (resolveRoles own (parseCaps p)).1))) ∧
      (∀ k, Hears .request m a → requestAnswer p u = .inl k → exec (.request t m) s
        = .next (takeContract k (sendAnswer tAccept (beBytes 2 (k.pc / 100) ++ beBytes 2 (k.ic / 100) ++ [byte k.droop, 0]) u))) ∧
      (∀ r, Hears .request m a → requestAnswer p u = .inr r → exec (.request t m) s
        = .next (if r = 0 then sendAnswer tWait [] u else sendAnswer tReject [byte r, 0] u)) ∧
      (Hears .status m a → Reaches (exec (.status t m) s) (fun v =>
        v.clasp.partnerLinkP = 100 * signedOf 16 (be16 p 2) ∧ v.clasp.partnerPatina = min 3 (u8 p 4) ∧
        v.clasp.partnerFlags = u8 p 5 ∧ v.clasp.partnerClosed = bit (u8 p 5) 0)) ∧
      (Hears .alert m a → exec (.alert t m) s = .next { u with clasp := { u.clasp with partnerPatina := min 3 (u8 p 1) } }) ∧
      (Hears .identity m a → a.benra.drbgHalted = false →
        ((a.benra.certInvalid = true ∨ a.benra.deviceKey = none) →
          exec (.discoverIdentity t m) s = .next (sendVdm 2 1 0 [] u)) ∧
        (∀ f g nonce, a.benra.certInvalid = false → a.benra.deviceKey ≠ none → f = drbg u →
          nonce = leBytes 32 (f.1 % 2 ^ 256) →
          g = deviceSign (hallmarkBytes (slice p 4 32) nonce ((a.clasp.own.map (·.tie)).getD 0)) f.2 →
          exec (.discoverIdentity t m) s = .next (sendChunks
            (beBytes 2 (certChain a).length ++ certChain a ++ nonce ++ g.1.1 ++ g.1.2) g.2))) ∧
      (∀ x n, Hears .chunk m a → a.clasp.identity = some x → x.whole = false → x.next = 0 → x.blob = [] → u8 p 4 = 0 →
        n = u8 p 5 → 2 ≤ n → be16 p 6 ≤ 2178 → (p.drop 8).length = 232 → 232 ≤ be16 p 6 → be16 (p.drop 8) 0 ≤ 2048 →
        exec (.identityChunk t m) s = .next { u with clasp := { u.clasp with
          identity := some { x with blob := p.drop 8, next := 1, count := n, length := be16 p 6 } } }) ∧
      (∀ l, Hears .modes m a → l = [1, 2].filter (modeEnabled (secs a)) →
        exec (.discoverModes t m) s = .next (sendVdm 1 2 0 (byte l.length :: l.map byte) u)) ∧
      (∀ d r, Hears .enter m a → claspBusy a = false → a.clasp.modeAsked = none → d = vdmMode p → r = enterRefused d u →
        (r ≠ 0 → exec (.enterMode t m) s = .next (sendVdm 2 3 d [byte r] u)) ∧
        (r = 0 → exec (.enterMode t m) s = .next (enterMode d (u8 p 4)
          (sendVdm 1 3 d (if d = 1 then [byte (coTandemDroop (secs a))] else []) u)))) ∧
      (∀ d, Hears .enter m a → d = vdmMode p → (claspBusy a = true ∨ a.clasp.role = some 1 ∧ a.clasp.modeAsked ≠ none) →
        exec (.enterMode t m) s = .next (sendVdm 3 3 d [] u)) ∧
      (∀ d, Hears .exit m a → claspBusy a = false → d = vdmMode p →
        exec (.exitMode t m) s = .next (exitMode d (sendVdm 1 4 d [] u))) ∧
      (Hears .attention m a → exec (.attention t m) s = .next (sendStatus u)) ∧
      (∀ k, Hears .bridge m a → a.clasp.bridge = true → k = coBridgeCan (secs a) → k ≤ 1 →
        exec (.bridgeFrame t m) s = .next (queueFrames k [{ id := be32 p 4, data := p.drop 9, kind := 3 }] u)) ∧
      (Hears .customer m a → coVdmRelay (secs a) = false →
        exec (.customerVdm t m) s = .next (send tNotSupported [] u)) ∧
      (Hears .customer m a → coVdmRelay (secs a) = true → (∀ k, k < 4 → Tab.find a.clasp.mailbox k ≠ none) →
        exec (.customerVdm t m) s = .next (claspCount 8 u)) ∧
      (∀ d, Hears .reply m a → d = vdmMode p → vdmCommand p = 3 → a.clasp.modeAsked = some (2 * d + 1) →
        (vdmType p = 1 → a.clasp.verified = true → a.clasp.modeByHost = false → exec (.vdmReply t m) s
          = .next (enterMode d (u8 p 4) { u with clasp := { u.clasp with modeAsked := none, modeByHost := false } })) ∧
        ((vdmType p = 1 ∧ a.clasp.verified = false ∨ vdmType p = 0 ∨ vdmType p = 2) →
          exec (.vdmReply t m) s = .next (denyMode u)) ∧
        (vdmType p = 3 → exec (.vdmReply t m) s = .next (denyMode
          { u with clasp := { u.clasp with askAfter := a.now + 10 * msTicks, waited := true } }))) ∧
      (Hears .kreiloUnknown m a →
        exec (.kreiloVdmUnknown t m) s = .next (sendVdm 2 (vdmCommand p) (vdmMode p) [] u)))

/-- A receipt that matches acknowledges the outstanding message. A missed one is counted, and the message is sent again
up to three times, then a soft reset; where it makes a split due, the couple splits and nothing is sent again. A
collision is counted and the message sent again after the back-off of the role, or a random one where there is none.
A message starts once the line has been idle for 200 µs, no back-off and no line break holding it, with the next
MSG_COUNT. A line break counts a hard reset with 0x0E03. CAPS_QUERY, STATUS, the identity request and the Sink's
request go out at their times and not before. The identity is verified or distrusted. A matching frame joins those
to be bridged. (R309, R310, R311, R312, R313, R314, R316, R323, R328, R330, R406) -/
def Obligations.PilotLineIsDriven : Prop :=
  ∀ (t : Nat) (s a : State), a = advance t s → claspActive a = true → pilotUsed a.clasp.phase = true →
    (∀ o b, a.clasp.out = some o → o.again = false → o.msg.purpose = .plain → b / 16 % 16 = 15 - b % 16 → b % 8 = o.count →
      o.msg.type ≠ tResync → exec (.receipt t b true) s = .next { a with clasp := { a.clasp with
        out := none, missRun := 0, softCount := 0, lineEnd := max a.clasp.lineEnd a.now } }) ∧
    (∀ o w, a.clasp.out = some o → o.again = false →
      w = { claspCount 3 a with clasp := { (claspCount 3 a).clasp with missRun := a.clasp.missRun + 1 } } →
      (o.endsAt + 900 * usTicks ≤ a.now → splitDue w = true → exec (.ackTimeout t) s = .next (splitCouple w)) ∧
      (o.endsAt + 900 * usTicks ≤ a.now → splitDue w = false → (∃ e, a.clasp.ending = some e ∧ e.cause = ceSplit) →
        exec (.ackTimeout t) s = .next { w with clasp := { w.clasp with out := none } }) ∧
      (o.endsAt + 900 * usTicks ≤ a.now → splitDue w = false → (∀ e, a.clasp.ending = some e → e.cause ≠ ceSplit) →
        exec (.ackTimeout t) s = .next (if o.retries < 3 then
            { w with clasp := { w.clasp with out := some { o with retries := o.retries + 1, again := true } } }
          else softReset w)) ∧
      (a.now < o.endsAt + 900 * usTicks → exec (.ackTimeout t) s = .next a) ∧
      (∀ r, a.now < o.endsAt → a.clasp.role = some r → exec (.collision t) s = .next { claspCount 4 a with
        clasp := { (claspCount 4 a).clasp with
          out := some { o with again := true }, holdUntil := a.now + (if r = 1 then 250 else 750) * usTicks
          lineEnd := a.now } }) ∧
      (a.now < o.endsAt → a.clasp.role = none → Reaches (exec (.collision t) s) (fun v => ∃ us, 200 ≤ us ∧ us ≤ 1000 ∧
        v = { claspCount 4 (drbg a).2 with clasp := { (claspCount 4 a).clasp with
          out := some { o with again := true }, holdUntil := a.now + us * usTicks, lineEnd := a.now } }))) ∧
    (∀ m rest n, a.clasp.out = none → nextMsg a = some (m, rest) → m.purpose ≠ .resync → n = a.clasp.nextCount →
      a.clasp.holdUntil ≤ a.now → a.clasp.lineEnd + 200 * usTicks ≤ a.now → a.clasp.breakUntil ≤ a.now →
      exec (.pilotTransmitStart t) s = .next { a with clasp := { a.clasp with
        outbox := rest, nextCount := (n + 1) % 8
        out := some { msg := m, count := n, role := a.clasp.role.getD 0, endsAt := a.now + lineTicks m.payload }
        lineTx := messageCells (wireBytes m.type n (a.clasp.role.getD 0) m.payload)
        lineFrom := a.now, lineEnd := a.now + lineTicks m.payload
        waited := a.clasp.waited && !(isAsk m && m.type != tRequest)
        swapAsked := a.clasp.swapAsked || m.type == tRoleSwap } }) ∧
    ((a.now < a.clasp.holdUntil ∨ a.now < a.clasp.lineEnd + 200 * usTicks ∨ a.now < a.clasp.breakUntil) →
      exec (.pilotTransmitStart t) s = .next a) ∧
    exec (.lineBreak t) s = .next (chipPulse 0x0E03 [] (claspHardReset (claspCount 6 a))) ∧
    (∀ q, a.clasp.phase = .discover → a.clasp.partner = none → a.clasp.capsSentAt = some q →
      (q + 100 * msTicks ≤ a.now → exec (.capsWaitTimeout t) s
        = .next (send tCapsQuery [] { a with clasp := { a.clasp with capsSentAt := some a.now } })) ∧
      (a.now < q + 100 * msTicks → exec (.capsWaitTimeout t) s = .next a)) ∧
    ((a.clasp.phase = .ready ∨ a.clasp.phase = .closing ∨ a.clasp.phase = .contract) → a.clasp.tandem = false →
      (a.clasp.statusAt + 20 * msTicks ≤ a.now → exec (.statusTimer t) s = .next (sendStatus a)) ∧
      (a.now < a.clasp.statusAt + 20 * msTicks → exec (.statusTimer t) s = .next a)) ∧
    (∀ x, a.clasp.identity = some x → x.whole = true →
      Reaches (exec (.hallmarkVerifyComplete t) s) (fun v =>
        match verifyIdentity x ((a.clasp.partner.map (·.tie)).getD 0) with
        | some n => v = markVerified n a ∧ v.clasp.verified = true ∧ v.clasp.identity = none ∧ v.clasp.partnerSerial = n
        | none => v = untrust a)) ∧
    (∀ q, a.clasp.identityRetryAt = some q →
      (q ≤ a.now → exec (.hallmarkRetry t) s = .next (askIdentity a)) ∧
      (a.now < q → exec (.hallmarkRetry t) s = .next a)) ∧
    (a.clasp.phase ≠ .ending → a.clasp.asked = none → a.clasp.askOwed = true →
      exec (.sinkRequestResend t) s = .next (askContract a)) ∧
    (∀ q, a.clasp.phase = .contract → a.clasp.asked = none → a.clasp.deviateSince = some q → q + secTicks ≤ a.now →
      a.clasp.settledAt + secTicks ≤ a.now → exec (.sinkRequestResend t) s = .next (askContract a)) ∧
    (∀ id brs d w, a.clasp.bridge = true → canLength d.length = true →
      (Nat.xor id (coBridgeId0 (secs a))) &&& (coBridgeMask0 (secs a)) = 0 →
      (a.clasp.outbox.filter (fun m => m.purpose == .bridge)).length < 16 →
      w = id % 2 ^ 29 + (id / 2 ^ 31) % 2 * 2 ^ 31 + 2 ^ 30 + 2 ^ 29 * flag brs →
      exec (.bridgeCanRx t id true brs d) s = .next { a with clasp := { a.clasp with outbox := a.clasp.outbox ++
        [{ type := tVdm, payload := vdmHead 0 0x10 0 ++ beBytes 4 w ++ [byte d.length] ++ d, purpose := .bridge }] } })

/-- READY with the coupling stage running uncovered and the link low enough starts both keep-alives and CLOSING, or
raises 0x0904 for each that an interlock blocks. The Source's SETTLED goes out 5 ms after the link is in the band. A
late closing, swap step or transition, a link voltage out for its filter time, an imbalance of 100 ms and a split
end the coupling with their causes and faults, each at its time and not before. The keep-alives of an ending
coupling stop 1 ms after the current is low; ENDING is left once END_COUPLING has gone, 10 ms after the cause at the
latest. COUPLING_END ends it with cause REQUESTED; COUPLING_ROLE_SWAP and COUPLING_MODE are ACCEPTED and sent;
COUPLING_VDM_SEND is sent and answered with its acknowledgement. (R292, R319, R321, R322, R324, R325, R333, R334,
R336, R337) -/
def Obligations.CouplingsCloseAndEnd : Prop :=
  ∀ (t : Nat) (s a : State), a = advance t s → claspActive a = true →
    (∀ l, a.clasp.phase = .ready → a.mode = .run → stageRunning a (coStage (secs a)) = true →
      covered a (coStage (secs a)) = false → (∃ v, linkVoltage a = some v ∧ v ≤ coCloseMax (secs a)) →
      l = [coKaPos (secs a), coKaNeg (secs a)].filter (fun k => !ilkPasses a k) →
      (l = [] → Reaches (exec (.closingStart t) s) (fun v => v.clasp.phase = .closing ∧ v.clasp.phaseSince = a.now)) ∧
      (l ≠ [] → exec (.closingStart t) s = .next (l.foldl (fun s k => chipPulse 0x0904 [0xFF, k] s) a))) ∧
    (a.clasp.phase = .closing →
      (a.clasp.phaseSince + 500 * msTicks ≤ a.now → exec (.closingTimeout t) s = .next (endCoupling ceTimeout true false a)) ∧
      (a.now < a.clasp.phaseSince + 500 * msTicks → exec (.closingTimeout t) s = .next a)) ∧
    (∀ x q, a.clasp.transition = some x → a.clasp.role = some 1 → x.steadySince = some q →
      (q + 5 * msTicks ≤ a.now → exec (.transitionSettle t) s = .next (completeTransition (send tSettled [] a))) ∧
      (a.now < q + 5 * msTicks → exec (.transitionSettle t) s = .next a)) ∧
    (∀ x, a.clasp.transition = some x → a.clasp.phase = .contract →
      (x.startAt + x.limit ≤ a.now → exec (.transitionAbandon t) s
        = .next (if a.clasp.role = some 0 then softReset (abandonTransition a) else abandonTransition a)) ∧
      (a.now < x.startAt + x.limit → exec (.transitionAbandon t) s = .next a)) ∧
    (∀ w, a.clasp.swap = some w →
      (w.since + 500 * msTicks ≤ a.now → exec (.swapStepTimeout t) s = .next (endCoupling ceTimeout false false a)) ∧
      (a.now < w.since + 500 * msTicks → exec (.swapStepTimeout t) s = .next a)) ∧
    (∀ q, a.clasp.phase = .contract → a.clasp.linkOutSince = some q →
      (q + coLinkFilter (secs a) * msTicks ≤ a.now → exec (.linkVoltage t) s = .next (chipPulse 0x0E06 []
        (endCoupling 5 false false (send tAlert [5, byte a.clasp.patina] a)))) ∧
      (a.now < q + coLinkFilter (secs a) * msTicks → exec (.linkVoltage t) s = .next a)) ∧
    (a.clasp.phase = .contract → a.clasp.imbalance.length = 100 →
      (10000 * coImbal (secs a) < a.clasp.imbalance.sum → exec (.linkImbalance t) s = .next (chipPulse 0x0E07 []
        (endCoupling 6 false false (send tAlert [6, byte a.clasp.patina] a)))) ∧
      (a.clasp.imbalance.sum ≤ 10000 * coImbal (secs a) → exec (.linkImbalance t) s = .next a)) ∧
    (∀ e, a.clasp.phase = .ending → a.clasp.ending = some e →
      (e.startAt + 10 * msTicks ≤ a.now → exec (.couplingEndComplete t) s = .next (finishEnding a)) ∧
      (((∃ q, e.lowSince = some q ∧ q + msTicks ≤ a.now) ∨ couplingOpen a = true) → a.now < e.startAt + 10 * msTicks →
        exec (.couplingEndComplete t) s = .next (if endSent a then finishEnding a else stopCouplingKas a)) ∧
      (e.lowSince = none → couplingOpen a = false → a.now < e.startAt + 10 * msTicks →
        exec (.couplingEndComplete t) s = .next a)) ∧
    (a.clasp.phase = .contract → a.clasp.tandem = true → 3 ≤ a.clasp.missRun → a.clasp.lastValidAt + 5 * msTicks ≤ a.now →
      exec (.split t) s = .next (chipPulse 0x0E04 [] (endCoupling ceSplit true false
        { a with clasp := { a.clasp with out := none, outbox := [] } }))) ∧
    (∀ cause lock blocked u, (u.clasp.phase = .closing ∨ u.clasp.phase = .contract) →
      (endCoupling cause lock blocked u).clasp.phase = .ending ∧
      (endCoupling cause lock blocked u).clasp.ending = some {
        cause := cause, startAt := u.now, lock := lock || u.clasp.phase == .closing, blocked := blocked } ∧
      (endCoupling cause lock blocked u).clasp.ramp = some {
        startAt := rackTime u, duration := coEndRamp (secs u) * msTicks,
        imp := u.clasp.agreedImport, exp := u.clasp.agreedExport, base := u.clasp.base }) ∧
    (∀ rq u, claspServes u = true →
      (admitCmd (couplingSpec 0x0E10 4 4 noArgs) rq a = some u → (u.clasp.phase = .closing ∨ u.clasp.phase = .contract) →
        Reaches (exec (.couplingEnd t rq) s) (Answers rq stDone [] (endCoupling ceRequested false false u))) ∧
      (admitCmd (couplingSpec 0x0E11 4 4 noArgs) rq a = some u → u.clasp.transition = none → swapping u = false →
        u.clasp.phase = .contract → u.clasp.tandem = false → u.clasp.bridge = false →
        Reaches (exec (.couplingRoleSwap t rq) s) (Accepts 0x0E11 rq
          (send tRoleSwap [] { u with clasp := { u.clasp with swapByHost := true } }))) ∧
      (∀ d, admitCmd (couplingSpec 0x0E12 4 4 [2, 3]) rq a = some u → d = u8 rq.data 0 → u8 rq.data 1 = 0 → 1 ≤ d → d ≤ 2 →
        modeEnabled (secs u) d = true → pilotUsed u.clasp.phase = true →
        Reaches (exec (.couplingMode t rq) s) (fun v => ∃ w, w = sendVdm 0 4 d [] u ∧ Accepts 0x0E12 rq
          { w with clasp := { w.clasp with modeAsked := some (2 * d), modeByHost := true } } v)) ∧
      (∀ d, admitCmd (couplingSpec 0x0E12 4 4 [2, 3]) rq a = some u → d = u8 rq.data 0 → u8 rq.data 1 = 1 → 1 ≤ d → d ≤ 2 →
        modeEnabled (secs u) d = true → pilotUsed u.clasp.phase = true →
        (u.clasp.verified = false → Reaches (exec (.couplingMode t rq) s) (Answers rq stDenied [] u)) ∧
        (u.clasp.verified = true → Reaches (exec (.couplingMode t rq) s) (fun v => ∃ w,
          w = sendVdm 0 3 d (if d = 1 then [byte (coTandemDroop (secs u))] else []) u ∧ Accepts 0x0E12 rq
          { w with clasp := { w.clasp with modeAsked := some (2 * d + 1), modeByHost := true } } v))) ∧
      (∀ d, admitCmd (couplingSpec 0x0E13 8 244 [5, 6, 7]) rq a = some u → d = rq.data → u8 d 2 ≤ 63 → u8 d 3 ≤ 3 →
        u16 d 0 ≠ 0x4B52 → coVdmRelay (secs u) = true → pilotUsed u.clasp.phase = true → u.clasp.vdmWait = none →
        Reaches (exec (.couplingVdmSend t rq) s) (fun v =>
          v.clasp.outbox = u.clasp.outbox ++ [{
            type := tVdm, purpose := .hostVdm
            payload := beBytes 2 (u16 d 0) ++ [byte (u8 d 3 * 64 + u8 d 2), byte (u8 d 4)] ++ d.drop 8 }] ∧
          v.clasp.vdmWait ≠ none ∧ (v.hport (portNo rq.port)).serving = some rq.tag)))

/-- Two cycles of the asserted state assert an input, fewer are filtered. Asserting an input whose reaction forces no
level and resets nothing latches it, counts it, heads the last faults with its code, and touches nothing but records
and what waits for the fault. Deasserting keeps it latched. A pair mismatch and a missed test pulse mark the input
and raise 0x0C01 or 0x0C02, a bad reaction entry 0x0C05. An S1 set not confirmed in its time rises to S2 with
0x0C04. An input of CLEAR_MODE AUTO clears after HOLD_OFF and not before. FAULT_CLEAR waits for the next boundary,
where its cases follow Table 12.6. SAFE_IN_N low for its filter time raises 0x0C03, high for as long deasserts it,
and a shorter level does nothing. S1 held with the rack up for GUARD_WAIT powers down. A level only ever rises.
(R340, R341, R342, R345, R349, R351, R356, R357, R358, R359) -/
def Obligations.FaultsLatchReactAndClear : Prop :=
  ∀ (t code scope : Nat) (s a : State), a = advance t s →
    (∀ p pairs, lastCycles 2 pairAsserted pairs = true → inputExists a code scope = true → mildReaction (reactionOf a code scope) = true →
      (a.input code scope).asserted = false →
      Reaches (exec (.faultInputAssert ⟨t, pairs⟩ code scope p) s) (fun v => OnlyLatches a v ∧ (v.input code scope).asserted = true ∧
        (v.input code scope).latched = true ∧ v.plinth.lastFaults = (code :: a.plinth.lastFaults).take 4)) ∧
    (∀ p pairs, lastCycles 2 pairAsserted pairs = false → exec (.faultInputAssert ⟨t, pairs⟩ code scope p) s = .next a) ∧
    (∀ pairs, lastCycles 2 pairIdle pairs = false → exec (.faultInputDeassert ⟨t, pairs⟩ code scope) s = .next a) ∧
    (∀ pairs, lastCycles 2 pairIdle pairs = true → (a.input code scope).asserted = true →
      exec (.faultInputDeassert ⟨t, pairs⟩ code scope) s = .next (a.setInput code scope { a.input code scope with asserted := false, deassertedAt := a.now })) ∧
    (∀ u pairs, lastCycles 8 pairEqual pairs = true → inputExists a code scope = true → u = chipPulse 0x0C01 [inputNo a code scope]
        (a.setInput code scope { a.input code scope with mismatch := true }) → u.phase ≠ .inReset →
      exec (.pairMismatch ⟨t, pairs⟩ code scope) s = .next (assertInput code scope [] u)) ∧
    (∀ pairs, lastCycles 8 pairEqual pairs = false → exec (.pairMismatch ⟨t, pairs⟩ code scope) s = .next a) ∧
    (∀ high (one two : List (Bool × Bool)) older, inputExists a code scope = true → (a.input code scope).asserted = false →
      pulseMissed high one = true → pulseMissed high two = true → exec (.inputStuck t code scope ⟨high, older ++ [one, two]⟩) s
        = .next (chipPulse 0x0C02 [inputNo a code scope, flag high]
        (a.setInput code scope { a.input code scope with testMissed := true }))) ∧
    (∀ e held, isLive a = true → e < faEntryCount (secs a) → parityOf held = parityOf (faEntry (secs a) e) →
      exec (.reactionParity t ⟨e, held⟩) s = .next a) ∧
    (∀ e held, isLive a = true → e < faEntryCount (secs a) → parityOf held ≠ parityOf (faEntry (secs a) e) →
      a.collector.parityBad.contains e = false → exec (.reactionParity t ⟨e, held⟩) s = .next (chipPulse 0x0C05 [e] { a with
        collector := { a.collector with parityBad := e :: a.collector.parityBad } })) ∧
    (∀ u, u = { a with collector := { a.collector with
        s1Waits := a.collector.s1Waits.filter (fun w => decide (a.now < w.1)) } } →
      ((∀ w ∈ a.collector.s1Waits, w.1 ≤ a.now → stagesStopped w.2 a = true) → exec (.s1Escalated t) s = .next u) ∧
      ((∃ w ∈ a.collector.s1Waits, w.1 ≤ a.now ∧ stagesStopped w.2 a = false) → exec (.s1Escalated t) s
        = .next (chipPulse 0x0C04 [] (enterSafe 2 (inputNo a 0x0C04 0) (applyLevel 2 0 0 u))))) ∧
    (∀ e, entryOf a code scope = some e → (a.input code scope).latched = true → (a.input code scope).asserted = false →
      u8 e 5 = 0 →
      ((a.input code scope).deassertedAt + u16 e 6 * msTicks ≤ a.now → a.collector.s1UpSince = none →
        exec (.clearHoldOffExpiry t code scope) s = .next (clearInput code scope a)) ∧
      (a.now < (a.input code scope).deassertedAt + u16 e 6 * msTicks →
        exec (.clearHoldOffExpiry t code scope) s = .next a)) ∧
    (∀ rq u, admitCmd faultClearSpec rq a = some u → Reaches (exec (.faultClear t rq) s) (fun v =>
      v.collector.clearWaits = u.collector.clearWaits ++ [requestOf faultClearSpec rq] ∧
      (v.hport (portNo rq.port)).serving = some rq.tag ∧ v.collector.inputs = u.collector.inputs)) ∧
    (∀ d, u16 d 0 = code → u8 d 2 = scope → code ≠ 0xFFFF →
      (entryOf a code scope = none → faultClear d a = (stRange, a)) ∧
      (entryOf a code scope ≠ none → clearModeOf a code scope = 2 → faultClear d a = (stDenied, a)) ∧
      (entryOf a code scope ≠ none → clearModeOf a code scope ≠ 2 → (a.input code scope).asserted = true →
        faultClear d a = (stCauseActive, a)) ∧
      (entryOf a code scope ≠ none → clearModeOf a code scope ≠ 2 → (a.input code scope).asserted = false →
        (a.input code scope).latched = true → a.collector.s1UpSince = none →
        faultClear d a = (stDone, clearInput code scope a))) ∧
    ((clearInput code scope a).collector.heldLevel = a.collector.heldLevel ∧
      ((clearInput code scope a).input code scope).latched = false) ∧
    (∀ held, held < safeInTicks a → ∀ low, exec (.safeIn ⟨t, low, held⟩) s = .next a) ∧
    (∀ held, safeInTicks a ≤ held → a.phase ≠ .inReset →
      exec (.safeIn ⟨t, true, held⟩) s = .next (chipFault 0x0C03 [] { a with pins := { a.pins with safeIn := true } }) ∧
      exec (.safeIn ⟨t, false, held⟩) s = .next (lowerFault 0x0C03 0 { a with pins := { a.pins with safeIn := false } })) ∧
    (∀ q, a.collector.s1UpSince = some q → a.mode = .safe →
      (q + sqGuardWait (secs a) * secTicks ≤ a.now → exec (.s1GuardWaitExpiry t) s
        = .next (powerDown causeClear { a with collector := { a.collector with s1UpSince := none } })) ∧
      (a.now < q + sqGuardWait (secs a) * secTicks → exec (.s1GuardWaitExpiry t) s = .next a)) ∧
    (∀ level s1, a.collector.heldLevel ≤ (applyLevel level scope s1 a).collector.heldLevel ∧
      level ≤ (applyLevel level scope s1 a).collector.heldLevel)

/-- A mount that finds no device fails, a good one mounts, flushes what BOOT staged and arms a last-breath slot. A
record is staged with its severity, folded into the newest one in REPEAT mode, or suppressed without a token in RATE
mode; a refill adds a token up to BURST once its REFILL ms are over, and not before. The oldest staged record is
sealed onto the TAIL chain at the append point, its sector retired when the program fails, or kept staged when
PWR_FAIL_N cuts the operation. Odometer entries and the last-breath record go to their slots, the latter not before
a started learned-value commit. PWR_FAIL_N stops erases and writes. RECORDER_SEAL answers a signature over the
nonce, the flashed SEQUENCE, its TAIL and the operating seconds. RECORDER_CLEAR with a token starts a new
generation, which its commit makes current, or which ends INTEGRITY where a power failure cut it. (R369, R371, R373,
R374, R376, R380, R383, R384, R386, R388, R389) -/
def Obligations.RecordsAreStagedFlushedAndCleared : Prop :=
  ∀ (t : Nat) (s a : State), a = advance t s →
    (running a = true → a.vitrine.mount = .notYet → a.pins.pwrFail = false →
      (exec (.recorderMount t none) s = .next (mountFails 1 a) ∧ (mountFails 1 a).vitrine.mount = .failed) ∧
      (∀ d u, 134217728 ≤ d.bytes → d.erase4k = true → d.suspend = true → u = mountRecorder d.bytes d.programUs a →
        u.vitrine.mount = .mounted ∧ exec (.recorderMount t (some d)) s
          = .next (mountRack (armBreath (flushAll { u with vitrine := { u.vitrine with odoAt := u.plinth.opSeconds } }))))) ∧
    (∀ code scope p sev flood n, a.phase ≠ .inReset → recordClass a code scope = (sev, flood, n) → p.length ≤ 1020 →
      (flood = 0 → vitrineSev.any (·.1 == code) = false → code ≠ 0x8F03 → code ≠ 0x8F04 → a.vitrine.dropUntold = 0 →
        stagedBytes a.vitrine.staged + (32 + 4 * ceilDiv p.length 4) ≤ stagingCap a →
        Reaches (exec (.recordStage t code scope p) s) (fun v => OnlyRecords a v ∧ ∃ r, v.vitrine.staged = a.vitrine.staged ++ [r] ∧
          r.code = code ∧ r.severity = sev ∧ r.payload = p ∧ r.rep = 0 ∧ r.opSeconds = a.plinth.opSeconds)) ∧
      (∀ l r, flood = 2 → a.vitrine.dropUntold = 0 → code ≠ 0x8F03 → code ≠ 0x8F04 → a.vitrine.staged = l ++ [r] →
        r.code = code → r.payload = p → r.rep < 8191 → exec (.recordStage t code scope p) s
          = .next { a with vitrine := { a.vitrine with staged := l ++ [{ r with rep := r.rep + 1 }] } }) ∧
      (∀ b, flood = 1 → a.vitrine.dropUntold = 0 → code ≠ 0x8F03 → code ≠ 0x8F04 →
        Tab.find a.vitrine.buckets code = some b → b.tokens = 0 → exec (.recordStage t code scope p) s
          = .next { a with vitrine := { a.vitrine with
              buckets := Tab.set a.vitrine.buckets code { b with suppressed := b.suppressed + 1 } } })) ∧
    (∀ code b, Tab.find a.vitrine.buckets code = some b →
      (b.due ≤ a.now → exec (.tokenRefill t code) s = .next { a with vitrine := { a.vitrine with
        buckets := Tab.set a.vitrine.buckets code
          { b with tokens := min (recordClass a code 0).2.2 (b.tokens + 1), due := b.due + refillTicks a code } } }) ∧
      (a.now < b.due → exec (.tokenRefill t code) s = .next a)) ∧
    (∀ key r rest cur, a.vitrine.mount = .mounted → a.vitrine.staged = r :: rest → a.vitrine.clear = none →
      a.pins.pwrFail = false → a.benra.recorderKey = some key → a.vitrine.sectors.getLast? = some cur →
      (logFull (recordBytes r) a = false → a.vitrine.fullWritten = false → fitsCurrent (recordBytes r) a = true →
        a.vitrine.dropUntold = 0 → Reaches (exec (.recordFlush t .ok) s) (fun v =>
          v.cs1 = flashProgram a.cs1 (cur.addr + a.vitrine.append)
            (recordBody r ++ recordTail key a.vitrine.tail (recordBody r)) ∧
          v.vitrine.tail = recordTail key a.vitrine.tail (recordBody r) ∧ v.vitrine.staged = rest ∧
          v.vitrine.append = a.vitrine.append + (recordBody r).length + 16)) ∧
      (∀ op, openedBy r a = none → op ≠ 1 → exec (.recordFlush t (.failed op)) s = .next (retireSector cur.addr op a)) ∧
      (∀ op q, openedBy r a = some q →
        exec (.recordFlush t (.failed op)) s = .next (retireSector q op (abandonOpening q (op ≠ 1) a)))) ∧
    (a.vitrine.mount = .mounted → a.pins.pwrFail = true → a.vitrine.clear = none → a.benra.recorderKey ≠ none →
      ∀ r rest, a.vitrine.staged = r :: rest →
        exec (.recordFlush t .ok) s = .next a ∧
        (openedBy r a = none → exec (.recordFlush t .cut) s = .next a) ∧
        (∀ q, openedBy r a = some q → exec (.recordFlush t .cut) s = .next (abandonOpening q true a))) ∧
    (∀ i, a.vitrine.odoAt + viOdoPeriod (secs a) * 60 ≤ a.plinth.opSeconds → a.vitrine.mount = .mounted →
      a.pins.pwrFail = false → odoFree a.cs1 a.vitrine.odoSector 64 a.vitrine.odoNext = some i →
      exec (.odometerWrite t) s = .next { a with
        cs1 := flashProgram a.cs1 (odoBase a.vitrine.odoSector + 64 * i) (odoBytes a (a.vitrine.odoSeq + 1))
        vitrine := { a.vitrine with
          odoNext := i + 1, odoSeq := a.vitrine.odoSeq + 1, odoAt := a.plinth.opSeconds } }) ∧
    (a.plinth.opSeconds < a.vitrine.odoAt + viOdoPeriod (secs a) * 60 → exec (.odometerWrite t) s = .next a) ∧
    (Reaches (exec (.powerFail t) s) (fun v => v.pins.pwrFail = true ∧ v.cs0 = a.cs0 ∧ v.cs1 = a.cs1 ∧ v.mode = a.mode ∧
      (∀ u, v = u → flushOldest u = u ∧ writeOdometer u = u))) ∧
    (a.pins.pwrFail = true → commitRuns a = true → exec (.lastBreath t 1) s = .next a) ∧
    (a.pins.pwrFail = true → a.mode ≠ .dormant → commitRuns a = false →
      (∀ q, a.plinth.lbNext = some q → exec (.lastBreath t 1) s = .next { a with
        cs1 := flashProgram a.cs1 q (breathBytes 1 a), plinth := { a.plinth with lbNext := none } }) ∧
      (a.plinth.lbNext = none → exec (.lastBreath t 1) s = .next a)) ∧
    (∀ rq u b x, admitCmd { object := 0x0B10, role := some 7, lo := 32, hi := 32 } rq a = some u → u.benra.drbgHalted = false →
      b = leBytes 4 u.vitrine.flashedSeq ++ fit 16 u.vitrine.tail ++ leBytes 4 u.plinth.opSeconds →
      x = deviceSign (rq.data ++ b) u →
      Reaches (exec (.recorderSeal t rq) s) (Answers rq stDone (b ++ x.1.1 ++ x.1.2) x.2)) ∧
    (∀ rq u w x q, admitCmd { object := 0x0B11, role := some 7, lo := 144, hi := 144 } rq a = some u →
      (u.mode = .standby ∨ u.mode = .service) →
      (tokenOk 0 rq.data u = true → w = event 0x8D07 [u32 rq.data 16, 0] u → w.vitrine.clear = none →
        w.vitrine.mount = .mounted → w.pins.pwrFail = false → x = flushAll w → clearSector x = some q →
        Reaches (exec (.recorderClear t rq) s) (Accepts 0x0B11 rq (beginClear q (u32 rq.data 16) x))) ∧
      (tokenOk 0 rq.data u = false →
        Reaches (exec (.recorderClear t rq) s) (Answers rq stDenied [] (chipPulse 0x0D08 [u32 rq.data 16] u)))) ∧
    (∀ c, a.vitrine.clear = some c →
      (c.cut = true → ∀ ok, exec (.recorderClearComplete t ok) s = .next (finishCommand 0x0B11 stIntegrity 0 { a with
        vitrine := { a.vitrine with clear := none, programRunning := false } })) ∧
      (c.cut = false → Reaches (exec (.recorderClearComplete t true) s) (fun v =>
        v.vitrine.generation = c.generation ∧ v.vitrine.clear = none ∧ v.vitrine.flashedSeq = seqOf c.generation 0 ∧
        v.vitrine.sectors.map (·.addr) = [c.addr] ∧
        v.cs1 = flashProgram a.cs1 (c.addr + 48) (sectorCommit c.sectorSeq))))

/-- Bytes that make no request are counted as a discard, for their PEC too, and answered so. A read transfer to the own
address returns the response buffer, any other address nothing. A request not answered in 1 ms is answered BUSY with
PENDING, its final answer later. SCL low over 25 ms and SDA low over 35 ms are counted with 0x8F03. An attention
pulse that is due starts after 4.7 µs of idle bus and is counted, again when aborted; an episode escalates once with
0x8F02. A CAN segment on REQ_ID is served when it completes a request, kept while it does not, and dropped out of
order or after a gap. Remote frames are counted. Bus-off drops status and telemetry frames with 0x8F04 and ends with
0x8F05. Telemetry copies and status frames are queued at their times. A port takes the HOST settings once idle.
(R420, R424, R426, R427, R430, R431, R432, R433, R434, R435, R436, R437) -/
def Obligations.HostPortsCarryRequests : Prop :=
  ∀ (t : Nat) (s a : State), a = advance t s →
    (∀ port b, (rawDiscards port b a).1 = false → exec (.requestDiscarded t port b) s = .next a) ∧
    (∀ port b bad n, rawDiscards port b a = (true, bad) → n = portNo port → portsMute a = false → portOn a port = true →
      Reaches (exec (.requestDiscarded t port b) s) (fun v => OnlyHost a v ∧
        (v.hport n).discard = sat32 (a.hport n).discard 1 ∧
        (v.hport n).pecErr = sat32 (a.hport n).pecErr (flag bad) ∧
        (v.hport n).response.discarded = true ∧ (v.hport n).assembly = none)) ∧
    (twOn a = true →
      (∀ x n, (x = 0x58 + a.plinth.straps →
          exec (.twReadTransfer t ⟨x, n⟩) s = .next (a.setHport 0 { a.hport 0 with wire := twBytes a n })) ∧
        (x ≠ 0x58 + a.plinth.straps → exec (.twReadTransfer t ⟨x, n⟩) s = .next a)) ∧
      (∀ low, low ≤ 25 * msTicks → exec (.sclTimeout ⟨t, low⟩) s = .next a) ∧
      (∀ low, low ≤ 35 * msTicks → exec (.sdaTimeout ⟨t, low⟩) s = .next a) ∧
      (∀ low, 25 * msTicks < low → exec (.sclTimeout ⟨t, low⟩) s = .next (event 0x8F03 [0]
        (a.setHport 0 { a.hport 0 with sclTimeout := sat32 (a.hport 0).sclTimeout 1 }))) ∧
      (∀ low, 35 * msTicks < low → exec (.sdaTimeout ⟨t, low⟩) s = .next (event 0x8F03 [1]
        (a.setHport 0 { a.hport 0 with sdaTimeout := sat32 (a.hport 0).sdaTimeout 1 })))) ∧
    (∀ rq : Request, rq.port = .tw → gate rq a = none → Reaches (exec (.twResponsePending t rq) s) (fun v =>
      OnlyHost { a with plinth := { a.plinth with lastHostCmd := a.now } } v ∧
      (v.hport 0).response = { status := stBusy, tag := rq.tag, pending := true, attention := a.host.causes != 0 } ∧
      (v.hport 0).serving = some rq.tag ∧ (v.hport 0).pendingSent = true)) ∧
    (∀ f, (a.hport 0).final = some f → exec (.deferredResponse t .tw) s = .next (a.setHport 0 { a.hport 0 with
      response := { f with attention := a.host.causes != 0 }, final := none, serving := none, pendingSent := false })) ∧
    (attentionOn a = true →
      (∀ idle, pulseDue a = true → busIdleTicks ≤ idle → exec (.attentionPulse ⟨t, idle⟩) s = .next { a with host := { a.host with
        pulses := sat32 a.host.pulses 1, lastPulse := a.now, pulsing := true } }) ∧
      (∀ idle, (pulseDue a = false ∨ idle < busIdleTicks) → exec (.attentionPulse ⟨t, idle⟩) s = .next a)) ∧
    (a.host.pulsing = true → a.now ≤ a.host.lastPulse + pulseTicks → Reaches (exec (.attentionPulseAbort t) s) (fun v =>
      OnlyHost a v ∧ v.host.pulsing = false ∧ (v.hport 0).attnAbort = sat32 (a.hport 0).attnAbort 1)) ∧
    (isLive a = true → a.host.causes ≠ 0 →
      (a.host.lastEscalation + hoAttnWindow (secs a) * msTicks ≤ a.now → a.host.escalated = false →
        Reaches (exec (.attentionEscalation t) s) (fun v => OnlyRecords a v ∧ v.host.escalated = true ∧
          v.host.escalations = sat32 a.host.escalations 1 ∧ v.host.lastEscalation = a.now)) ∧
      (a.now < a.host.lastEscalation + hoAttnWindow (secs a) * msTicks → exec (.attentionEscalation t) s = .next a)) ∧
    (∀ port n b, n = portNo port → canOn a port = true → (a.hport n).assembly = none → requestBad b = false →
      (∀ id d, id ≠ canId a (n - 1) 0 → exec (.canSegment t port ⟨id, d⟩) s = .next a) ∧
      (∀ k, requestNeeds b = some k → k ≤ b.length → exec (.canSegment t port ⟨canId a (n - 1) 0, 0x00 :: b⟩) s
        = .next (serve (requestAt port b) (a.setHport n { a.hport n with assembly := none }))) ∧
      (requestNeeds b = none → exec (.canSegment t port ⟨canId a (n - 1) 0, 0x40 :: b⟩) s
        = .next (a.setHport n { a.hport n with assembly := some b, asmSeq := 0, asmTime := a.now }))) ∧
    (∀ port n x, n = portNo port → canOn a port = true → (a.hport n).assembly = some x →
      ((a.hport n).asmTime + 50 * msTicks < a.now → exec (.canSegmentGap t port) s
        = .next (discardRequest port (a.setHport n { a.hport n with assembly := none }))) ∧
      (a.now ≤ (a.hport n).asmTime + 50 * msTicks → exec (.canSegmentGap t port) s = .next a)) ∧
    (∀ port n, n = portNo port → canOn a port = true →
      exec (.canRemoteFrame t port) s
        = .next (a.setHport n { a.hport n with rtrIgnored := sat32 (a.hport n).rtrIgnored 1 }) ∧
      Reaches (exec (.canBusOff t port) s) (fun v => OnlyRecords a v ∧ (v.hport n).isBusOff = true ∧
        (v.hport n).busOffs = sat32 (a.hport n).busOffs 1 ∧ (v.hport n).queue.all (fun f => f.kind != 1 && f.kind != 2) = true)) ∧
    (∀ port n, n = portNo port → (a.hport n).isBusOff = true → Reaches (exec (.canRecovered t port) s) (fun v =>
      OnlyRecords a v ∧ (v.hport n).isBusOff = false)) ∧
    (∀ k c, isLive a = true → k < hoTlmCount (secs a) → c = u8 (hoTlm (secs a) k) 0 → (a.hport (c + 1)).hostSettings = true →
      canEnabled a c = true → (a.hport (c + 1)).isBusOff = false → rackTime a % msTicks = 0 →
      rackTime a / msTicks % max 1 (u16 (hoTlm (secs a) k) 8) = u16 (hoTlm (secs a) k) 10 →
      Reaches (exec (.telemetryCopy t k) s) (fun v => OnlyHost a v ∧
        Tab.get 0 v.host.tlmCount k = (Tab.get 0 a.host.tlmCount k + 1) % 256 ∧
        (telemetryFrame k (hoTlm (secs a) k) a) ∈ (v.hport (c + 1)).queue)) ∧
    (∀ port n q, n = portNo port → n ≠ 0 → isLive a = true → statusOn a (n - 1) = true →
      q = u16 (hoCan (secs a) (n - 1)) 28 → q ≠ 0 →
      ((a.hport n).statusAt + q * msTicks ≤ a.now → exec (.statusFrame t port) s
        = .next (sendStatusFrame 2 (n - 1) (a.setHport n { a.hport n with statusAt := a.now }))) ∧
      (a.now < (a.hport n).statusAt + q * msTicks → exec (.statusFrame t port) s = .next a)) ∧
    (∀ port n, n = portNo port → isLive a = true → (a.hport n).hostSettings = false → (a.hport n).serving = none →
      exec (.hostSettingsSwitch t port) s
        = .next (a.setHport n { a.hport n with hostSettings := true, statusAt := a.now }))

/-- A request for data that is admitted is served and answered. A READ of the attention status at offset 0 of at least 4
bytes answers its copy and clears the causes; a write of the recorder cursor sets that of its own port only, one of
another length is OVERSIZE or RANGE; a read of the recorder record at offset 0 answers the record the cursor names
and leaves the cursor and the copies of other ports alone. At the dispatcher, an object outside the map answers
NO_OBJECT, a read of a command object DENIED, and a read at or beyond an object's end RANGE; a write of a command
object runs its command. (R381, R382, R419, R429, R442, R443, R446) -/
def Obligations.DataObjectsAreServed : Prop :=
  ∀ (t : Nat) (rq : Request) (s a : State), a = advance t s →
    (∀ u r, r = readOf 0x0F01 rq → admitData r a = some u → running u = true → rq.inst = 0 → rq.offset = 0 → 4 ≤ rq.length →
      rq.trailer.any (fun x => x.resv != 0) = false →
      Reaches (exec (.attentionStatusRead t rq) s) (Replies r stDone (slice (attentionStatus u) 0 rq.length)
        { u with host := { u.host with causes := 0 } })) ∧
    (∀ u r p, r = writeOf 0x0B02 rq → p = portNo rq.port → admitData r a = some u → running u = true → rq.inst = 0 →
      rq.trailer.any (fun x => x.resv != 0) = false →
      (rq.offset = 0 → rq.length = 4 → Reaches (exec (.recorderCursorWrite t rq) s)
        (Replies r stDone [] (u.setHport p { u.hport p with cursor := u32 rq.data 0 }))) ∧
      (rq.offset + rq.length ≤ 4 → rq.length ≠ 4 → Reaches (exec (.recorderCursorWrite t rq) s) (Replies r stRange [] u)) ∧
      (4 < rq.offset + rq.length → Reaches (exec (.recorderCursorWrite t rq) s) (Replies r stOversize [] u))) ∧
    (∀ u r p b, r = readOf 0x0B03 rq → p = portNo rq.port → admitData r a = some u → running u = true → rq.inst = 0 →
      rq.offset = 0 → rq.trailer.any (fun x => x.resv != 0) = false → recordRead u (u.hport p).cursor = (stDone, b) → b ≠ [] →
      Reaches (exec (.recorderRecordRead t rq) s) (Replies r stDone (slice b 0 rq.length)
        (u.setHport p { u.hport p with copy := some b }))) ∧
    (∀ u, admitData rq a = some u → rq.trailer = none → (rq.op = 1 ∨ rq.op = 4) →
      (view u (portNo rq.port) rq.object rq.inst = .absent →
        Reaches (exec (.objectWrite t rq) s) (Replies rq stNoObject [] u)) ∧
      (view u (portNo rq.port) rq.object rq.inst = .command →
        Reaches (exec (.objectWrite t rq) s) (Replies rq stDenied [] u)) ∧
      (∀ b, view u (portNo rq.port) rq.object rq.inst = .bytes b → objectServed u rq.object = true →
        rq.object ≠ 0x0F01 → rq.object ≠ 0x0B03 →
        (rq.offset < b.length → Reaches (exec (.objectWrite t rq) s) (Replies rq stDone (slice b rq.offset rq.length) u)) ∧
        (b.length ≤ rq.offset → Reaches (exec (.objectWrite t rq) s) (Replies rq stRange [] u)))) ∧
    (∀ c : CmdReq, rq = { requestOf faultClearSpec c with op := rq.op } → malformed rq = false → (rq.op = 2 ∨ rq.op = 3) →
      exec (.objectWrite t rq) s = .next (stateOf a (execFaultClear a.now c a)))

/-- A relayed customer VDM fills the lowest free mailbox entry. Writing the single byte 0 at offset 0 frees an entry and
is DONE, also where another port's write has freed it before; any other value is RANGE. A free entry reads zero
throughout. Word j of the injection table, at offset 4j, holds sample j as int24 with its top byte 0; an
authenticated write in SERVICE covers whole words with that byte 0, or is RANGE, and sets their samples at once; it
is BUSY while an injection of waveform TABLE is active. (R447, R448) -/
def Obligations.MailboxAndInjectionTable : Prop :=
  ∀ (t : Nat) (s a : State), a = advance t s →
    (∀ m u k p, Hears .customer m a → Fresh m a → u = noteRx m.bytes false a → p = msgPayload m.bytes →
      coVdmRelay (secs a) = true → k < 4 → Tab.find a.clasp.mailbox k = none →
      (∀ j, j < k → Tab.find a.clasp.mailbox j ≠ none) →
      Reaches (exec (.customerVdm t m) s) (fun v =>
        Tab.find v.clasp.mailbox k = some { order := a.clasp.relayed % 256, rxTime := a.plinth.opSeconds, vdm := p } ∧
        (∀ j, j ≠ k → Tab.find v.clasp.mailbox j = Tab.find a.clasp.mailbox j))) ∧
    (∀ rq u r, r = writeOf 0x0E02 rq → admitData r a = some u → running u = true → rq.inst < 4 →
      rq.trailer.any (fun x => x.resv != 0) = false →
      (rq.offset = 0 → rq.data = [0] → rq.length = 1 → Reaches (exec (.vdmMailboxRelease t rq) s) (fun v =>
        Replies r stDone [] { u with clasp := { u.clasp with mailbox := Tab.del u.clasp.mailbox rq.inst } } v ∧
        Tab.find v.clasp.mailbox rq.inst = none ∧ vdmMailbox v rq.inst = zeros 248)) ∧
      (rq.offset + rq.length ≤ 248 → (rq.offset ≠ 0 ∨ rq.data ≠ [0]) →
        Reaches (exec (.vdmMailboxRelease t rq) s) (Replies r stRange [] u))) ∧
    (∀ u k, k < 4 → Tab.find u.clasp.mailbox k = none → ∀ p, view u p 0x0E02 k = .bytes (zeros 248)) ∧
    (∀ u p j, j < 65536 → readView u p (4 * j) 4 (view u p 0x0605 0) = (stDone, leInt 3 (Tab.get 0 u.loops.table j) ++ [0])) ∧
    (∀ rq u r, r = writeOf 0x0605 rq → admitData r a = some u → u.mode = .service → rq.inst = 0 → rq.trailer ≠ none →
      rq.trailer.any (fun x => x.resv != 0) = false → running u = true → rq.offset + rq.length ≤ 262144 →
      ((rq.offset % 4 ≠ 0 ∨ rq.length % 4 ≠ 0) → Reaches (exec (.injectionTableWrite t rq) s) (Replies r stRange [] u)) ∧
      (rq.offset % 4 = 0 → rq.length % 4 = 0 →
        ((∃ k, k < rq.length / 4 ∧ u8 rq.data (4 * k + 3) ≠ 0) →
          Reaches (exec (.injectionTableWrite t rq) s) (Replies r stRange [] u)) ∧
        ((∀ k, k < rq.length / 4 → u8 rq.data (4 * k + 3) = 0) →
          (∀ j, u.loops.inject = some j → 2 ≤ j.wave →
            Reaches (exec (.injectionTableWrite t rq) s) (Replies r stBusy [] u)) ∧
          (u.loops.inject.all (fun j => decide (j.wave < 2)) = true →
            Reaches (exec (.injectionTableWrite t rq) s) (fun v =>
              Replies r stDone [] { u with loops := { u.loops with table := v.loops.table } } v ∧
              (∀ k, k < rq.length / 4 → Tab.get 0 v.loops.table (rq.offset / 4 + k) = i24 rq.data (4 * k)) ∧
              (∀ j, (j < rq.offset / 4 ∨ rq.offset / 4 + rq.length / 4 ≤ j) →
                Tab.get 0 v.loops.table j = Tab.get 0 u.loops.table j))))))

/-- BYPASS, IDCODE and SAMPLE/PRELOAD are always decoded; the six EXTEST rows where TEST_EN is high and the entry
condition of TEST holds, and they enter TEST; DEBUG_ACCESS where TEST_EN is low and DEBUG_UNLOCKED is 1, and it
never enters TEST. Every other opcode, and one whose condition fails, acts as BYPASS and leaves the mode and the
pins alone. Outside R469: a load captures 0b01 and whether the entry condition holds, then scans the data register
it selects; test-logic-reset selects IDCODE, and it, a load of BYPASS, IDCODE or SAMPLE/PRELOAD, and TEST_EN low for
1 µs leave TEST by the reset of cause 0x08. (R469) -/
def Obligations.TapDecodesInstructions : Prop :=
  ∀ (t op dr : Nat) (en entry : Bool) (s a : State), a = advance t s →
    (entry = true ↔ (a.mode = .boot ∧ bootHeld a = true) ∨ (a.mode = .standby ∧ kaMask a = 0)) →
    (a.mode ≠ .test →
      (op = 0x01 → exec (.instructionLoad t op ⟨en, dr⟩) s = .next { a with
        tap := { a.tap with instruction := 0x01, irCapture := 1 + 4 * flag (en && entry), drCapture := 0x1C1920A7 }
        pins := { a.pins with testEn := en } }) ∧
      (op = 0x02 → Reaches (exec (.instructionLoad t op ⟨en, dr⟩) s) (fun v => v.tap.drCapture < 2 ^ 612 ∧ v = { a with
        freeIx := a.freeIx + 1
        tap := { a.tap with
          instruction := 0x02, irCapture := 1 + 4 * flag (en && entry), drCapture := v.tap.drCapture, boundary := dr % 2 ^ 612 }
        pins := { a.pins with testEn := en } })) ∧
      ((op = 0x03 ∨ op = 0x04 ∨ op = 0x05 ∨ op = 0x06 ∨ op = 0x07 ∨ op = 0x50) →
        (en = true → entry = true → Reaches (exec (.instructionLoad t op ⟨en, dr⟩) s) (fun v => v.mode = .test ∧
          OnlyHost { a with
            mode := .test, freeIx := v.freeIx, pins := { a.pins with testEn := true, domains := 0xFFFF, allOff := 0 }
            tap := { a.tap with
              instruction := op, irCapture := 5, drCapture := v.tap.drCapture
              boundary := if boundaryOpcodes.contains op then dr % 2 ^ 612 else a.tap.boundary } } v)) ∧
        ((en = false ∨ entry = false) → exec (.instructionLoad t op ⟨en, dr⟩) s = .next { a with
          tap := { a.tap with instruction := 0xFF, irCapture := 1, drCapture := 0 }, pins := { a.pins with testEn := en } })) ∧
      (op = 0x40 → exec (.instructionLoad t op ⟨en, dr⟩) s = .next { a with
        tap := { a.tap with
          instruction := if en = false ∧ a.benra.debugUnlocked = true then 0x40 else 0xFF
          irCapture := 1 + 4 * flag (en && entry), drCapture := 0 }
        pins := { a.pins with testEn := en } }) ∧
      (op ∉ [0x01, 0x02, 0x03, 0x04, 0x05, 0x06, 0x07, 0x40, 0x50] → exec (.instructionLoad t op ⟨en, dr⟩) s = .next { a with
        tap := { a.tap with instruction := 0xFF, irCapture := 1 + 4 * flag (en && entry), drCapture := 0 }
        pins := { a.pins with testEn := en } }) ∧
      exec (.tapReset t) s = .next { a with tap := { a.tap with instruction := 0x01 } } ∧
      (∀ low, low < usTicks → exec (.testEnLow ⟨t, low⟩) s = .next a) ∧
      ∀ low, usTicks ≤ low → exec (.testEnLow ⟨t, low⟩) s = .next { a with pins := { a.pins with testEn := false } }) ∧
    (a.mode = .test →
      Reaches (exec (.tapReset t) s) (fun v => v.tap.instruction = 0x01 ∧
        ResetBy 0x08 { a with tap := { a.tap with instruction := 0x01 } } v) ∧
      (∀ low, low < usTicks → exec (.testEnLow ⟨t, low⟩) s = .next a) ∧
      (∀ low, usTicks ≤ low →
        Reaches (exec (.testEnLow ⟨t, low⟩) s) (ResetBy 0x08 { a with pins := { a.pins with testEn := false } })) ∧
      ((op = 0xFF ∨ op = 0x01 ∨ op = 0x02) → Reaches (exec (.instructionLoad t op ⟨en, dr⟩) s) (fun v =>
        v.tap.instruction = op ∧ v.tap.irCapture = 1 + 4 * flag en ∧
        ResetBy 0x08 { a with tap := v.tap, pins := { a.pins with testEn := en } } v)))

end
end

