-- ==== Sys2Proof/Laws/State.lean ====
section
/-! SUPPORT. What every named update of the state leaves alone and what reading back answers, each said once, so that no
proof unfolds a record update. -/

namespace Sys2Proof.Machine

@[simp] theorem Tab.get_set_same {α : Type} (d : α) (t : Tab α) (k : Nat) (v : α) :
    Tab.get d (Tab.set t k v) k = v := by
  induction t with
  | nil => simp [Tab.set, Tab.get]
  | cons a t ih =>
    obtain ⟨j, w⟩ := a
    unfold Tab.set
    split
    · simp [Tab.get]
    · split
      · simp [Tab.get]
      · simp [Tab.get, *]

theorem Tab.find_set {α : Type} (t : Tab α) (k : Nat) (v : α) : Tab.find (Tab.set t k v) k = some v := by
  induction t with
  | nil => simp [Tab.set, Tab.find]
  | cons a t ih =>
    obtain ⟨j, w⟩ := a
    unfold Tab.set
    split
    · simp [Tab.find]
    · split
      · simp [Tab.find]
      · simp [Tab.find, *]

theorem Tab.find_set_other {α : Type} (t : Tab α) (k q : Nat) (v : α) (h : q ≠ k) :
    Tab.find (Tab.set t k v) q = Tab.find t q := by
  induction t with
  | nil => simp [Tab.set, Tab.find, h]
  | cons a t ih =>
    obtain ⟨j, w⟩ := a
    unfold Tab.set
    split
    · simp [Tab.find, h]
    · split
      · simp_all [Tab.find]
      · simp [Tab.find, ih]

theorem Tab.find_del {α : Type} (t : Tab α) (k : Nat) : Tab.find (Tab.del t k) k = none := by
  induction t with
  | nil => rfl
  | cons a t ih =>
    obtain ⟨j, w⟩ := a
    unfold Tab.del at *
    by_cases h : j = k
    · simpa [h] using ih
    · simp only [List.filter, ne_eq, h, not_false_eq_true, decide_true]
      rw [Tab.find, if_neg (fun e => h e.symm)]
      exact ih

@[simp] theorem Tab.set_set {α : Type} (t : Tab α) (k : Nat) (v w : α) : Tab.set (Tab.set t k v) k w = Tab.set t k w := by
  induction t with
  | nil => simp [Tab.set]
  | cons a t ih =>
    obtain ⟨j, x⟩ := a
    by_cases h : k < j
    · simp [Tab.set, h]
    · by_cases e : k = j
      · simp [Tab.set, e]
      · simp [Tab.set, h, e, ih]

@[simp] theorem Tab.get_set_other {α : Type} (d : α) (t : Tab α) (k q : Nat) (v : α) (h : q ≠ k) :
    Tab.get d (Tab.set t k v) q = Tab.get d t q := by
  induction t with
  | nil => simp [Tab.set, Tab.get, h]
  | cons a t ih =>
    obtain ⟨j, w⟩ := a
    unfold Tab.set
    split
    · simp [Tab.get, h]
    · split
      · rename_i hk
        subst hk
        simp [Tab.get, h]
      · simp [Tab.get, ih]

/-! ### State.setPort -/

@[simp] theorem State.setPort_rest (s : State) (p : Nat) (x : TPort) :
    (s.setPort p x).pending = s.pending ∧ (s.setPort p x).now = s.now ∧ (s.setPort p x).epoch = s.epoch ∧
    (s.setPort p x).ledger = s.ledger ∧ (s.setPort p x).mode = s.mode ∧ (s.setPort p x).under = s.under ∧
    (s.setPort p x).phase = s.phase ∧ (s.setPort p x).plinth = s.plinth ∧ (s.setPort p x).pins = s.pins ∧
    (s.setPort p x).armature = s.armature ∧ (s.setPort p x).loader = s.loader ∧
    (s.setPort p x).benra = s.benra ∧ (s.setPort p x).host = s.host ∧ (s.setPort p x).vitrine = s.vitrine ∧
    (s.setPort p x).collector = s.collector ∧ (s.setPort p x).tap = s.tap ∧ (s.setPort p x).cs0 = s.cs0 ∧
    (s.setPort p x).cs1 = s.cs1 ∧ (s.setPort p x).tiles = s.tiles ∧ (s.setPort p x).pave = s.pave ∧
    (s.setPort p x).loops = s.loops ∧ (s.setPort p x).modul = s.modul ∧ (s.setPort p x).balance = s.balance ∧
    (s.setPort p x).maq = s.maq ∧ (s.setPort p x).seq = s.seq ∧ (s.setPort p x).clasp = s.clasp ∧
    (s.setPort p x).freeIx = s.freeIx :=
  ⟨rfl, rfl, rfl, rfl, rfl, rfl, rfl, rfl, rfl, rfl, rfl, rfl, rfl, rfl, rfl, rfl, rfl, rfl, rfl, rfl, rfl, rfl, rfl, rfl, rfl, rfl, rfl⟩

@[simp] theorem State.port_setPort (s : State) (p : Nat) (x : TPort) : (s.setPort p x).port p = x := by
  simp [State.port, State.setPort]

@[simp] theorem State.port_setPort_other (s : State) (p : Nat) (x : TPort) (q : Nat) (h : q ≠ p) :
    (s.setPort p x).port q = s.port q := by
  simp [State.port, State.setPort, h]

@[simp] theorem State.setPort_readers (s : State) (p : Nat) (x : TPort) (q : Nat) :
    (s.setPort p x).tile q = s.tile q ∧ (s.setPort p x).bank q = s.bank q ∧
    (s.setPort p x).hport q = s.hport q ∧ (s.setPort p x).setIn q = s.setIn q ∧
    (s.setPort p x).sense q = s.sense q ∧ (s.setPort p x).ctx q = s.ctx q ∧
    (s.setPort p x).engine q = s.engine q ∧ (s.setPort p x).stage q = s.stage q ∧
    (s.setPort p x).ph q = s.ph q ∧ (s.setPort p x).str q = s.str q ∧ (s.setPort p x).ka q = s.ka q ∧
    (s.setPort p x).rail q = s.rail q :=
  ⟨rfl, rfl, rfl, rfl, rfl, rfl, rfl, rfl, rfl, rfl, rfl, rfl⟩

/-! ### State.setTile -/

@[simp] theorem State.setTile_rest (s : State) (p : Nat) (x : Tile) :
    (s.setTile p x).pending = s.pending ∧ (s.setTile p x).now = s.now ∧ (s.setTile p x).epoch = s.epoch ∧
    (s.setTile p x).ledger = s.ledger ∧ (s.setTile p x).mode = s.mode ∧ (s.setTile p x).under = s.under ∧
    (s.setTile p x).phase = s.phase ∧ (s.setTile p x).plinth = s.plinth ∧ (s.setTile p x).pins = s.pins ∧
    (s.setTile p x).armature = s.armature ∧ (s.setTile p x).loader = s.loader ∧
    (s.setTile p x).benra = s.benra ∧ (s.setTile p x).host = s.host ∧ (s.setTile p x).vitrine = s.vitrine ∧
    (s.setTile p x).collector = s.collector ∧ (s.setTile p x).tap = s.tap ∧ (s.setTile p x).cs0 = s.cs0 ∧
    (s.setTile p x).cs1 = s.cs1 ∧ (s.setTile p x).ports = s.ports ∧ (s.setTile p x).pave = s.pave ∧
    (s.setTile p x).loops = s.loops ∧ (s.setTile p x).modul = s.modul ∧ (s.setTile p x).balance = s.balance ∧
    (s.setTile p x).maq = s.maq ∧ (s.setTile p x).seq = s.seq ∧ (s.setTile p x).clasp = s.clasp ∧
    (s.setTile p x).freeIx = s.freeIx :=
  ⟨rfl, rfl, rfl, rfl, rfl, rfl, rfl, rfl, rfl, rfl, rfl, rfl, rfl, rfl, rfl, rfl, rfl, rfl, rfl, rfl, rfl, rfl, rfl, rfl, rfl, rfl, rfl⟩

@[simp] theorem State.tile_setTile (s : State) (p : Nat) (x : Tile) : (s.setTile p x).tile p = x := by
  simp [State.tile, State.setTile]

@[simp] theorem State.tile_setTile_other (s : State) (p : Nat) (x : Tile) (q : Nat) (h : q ≠ p) :
    (s.setTile p x).tile q = s.tile q := by
  simp [State.tile, State.setTile, h]

@[simp] theorem State.setTile_readers (s : State) (p : Nat) (x : Tile) (q : Nat) :
    (s.setTile p x).port q = s.port q ∧ (s.setTile p x).bank q = s.bank q ∧
    (s.setTile p x).hport q = s.hport q ∧ (s.setTile p x).setIn q = s.setIn q ∧
    (s.setTile p x).sense q = s.sense q ∧ (s.setTile p x).ctx q = s.ctx q ∧
    (s.setTile p x).engine q = s.engine q ∧ (s.setTile p x).stage q = s.stage q ∧
    (s.setTile p x).ph q = s.ph q ∧ (s.setTile p x).str q = s.str q ∧ (s.setTile p x).ka q = s.ka q ∧
    (s.setTile p x).rail q = s.rail q :=
  ⟨rfl, rfl, rfl, rfl, rfl, rfl, rfl, rfl, rfl, rfl, rfl, rfl⟩

/-! ### State.setBank -/

@[simp] theorem State.setBank_rest (s : State) (p : Nat) (x : Bank) :
    (s.setBank p x).pending = s.pending ∧ (s.setBank p x).now = s.now ∧ (s.setBank p x).epoch = s.epoch ∧
    (s.setBank p x).ledger = s.ledger ∧ (s.setBank p x).mode = s.mode ∧ (s.setBank p x).under = s.under ∧
    (s.setBank p x).phase = s.phase ∧ (s.setBank p x).plinth = s.plinth ∧ (s.setBank p x).pins = s.pins ∧
    (s.setBank p x).loader = s.loader ∧ (s.setBank p x).benra = s.benra ∧ (s.setBank p x).host = s.host ∧
    (s.setBank p x).vitrine = s.vitrine ∧ (s.setBank p x).collector = s.collector ∧
    (s.setBank p x).tap = s.tap ∧ (s.setBank p x).cs0 = s.cs0 ∧ (s.setBank p x).cs1 = s.cs1 ∧
    (s.setBank p x).ports = s.ports ∧ (s.setBank p x).tiles = s.tiles ∧ (s.setBank p x).pave = s.pave ∧
    (s.setBank p x).loops = s.loops ∧ (s.setBank p x).modul = s.modul ∧ (s.setBank p x).balance = s.balance ∧
    (s.setBank p x).maq = s.maq ∧ (s.setBank p x).seq = s.seq ∧ (s.setBank p x).clasp = s.clasp ∧
    (s.setBank p x).freeIx = s.freeIx :=
  ⟨rfl, rfl, rfl, rfl, rfl, rfl, rfl, rfl, rfl, rfl, rfl, rfl, rfl, rfl, rfl, rfl, rfl, rfl, rfl, rfl, rfl, rfl, rfl, rfl, rfl, rfl, rfl⟩

@[simp] theorem State.setBank_group (s : State) (p : Nat) (x : Bank) :
    (s.setBank p x).armature.conflicts = s.armature.conflicts ∧
    (s.setBank p x).armature.alerted = s.armature.alerted ∧ (s.setBank p x).armature.failed = s.armature.failed :=
  ⟨rfl, rfl, rfl⟩

@[simp] theorem State.bank_setBank (s : State) (p : Nat) (x : Bank) : (s.setBank p x).bank p = x := by
  simp [State.bank, State.setBank]

@[simp] theorem State.bank_setBank_other (s : State) (p : Nat) (x : Bank) (q : Nat) (h : q ≠ p) :
    (s.setBank p x).bank q = s.bank q := by
  simp [State.bank, State.setBank, h]

@[simp] theorem State.setBank_readers (s : State) (p : Nat) (x : Bank) (q : Nat) :
    (s.setBank p x).port q = s.port q ∧ (s.setBank p x).tile q = s.tile q ∧
    (s.setBank p x).hport q = s.hport q ∧ (s.setBank p x).setIn q = s.setIn q ∧
    (s.setBank p x).sense q = s.sense q ∧ (s.setBank p x).ctx q = s.ctx q ∧
    (s.setBank p x).engine q = s.engine q ∧ (s.setBank p x).stage q = s.stage q ∧
    (s.setBank p x).ph q = s.ph q ∧ (s.setBank p x).str q = s.str q ∧ (s.setBank p x).ka q = s.ka q ∧
    (s.setBank p x).rail q = s.rail q :=
  ⟨rfl, rfl, rfl, rfl, rfl, rfl, rfl, rfl, rfl, rfl, rfl, rfl⟩

/-! ### State.setHport -/

@[simp] theorem State.setHport_rest (s : State) (p : Nat) (x : HPort) :
    (s.setHport p x).pending = s.pending ∧ (s.setHport p x).now = s.now ∧ (s.setHport p x).epoch = s.epoch ∧
    (s.setHport p x).ledger = s.ledger ∧ (s.setHport p x).mode = s.mode ∧ (s.setHport p x).under = s.under ∧
    (s.setHport p x).phase = s.phase ∧ (s.setHport p x).plinth = s.plinth ∧ (s.setHport p x).pins = s.pins ∧
    (s.setHport p x).armature = s.armature ∧ (s.setHport p x).loader = s.loader ∧
    (s.setHport p x).benra = s.benra ∧ (s.setHport p x).vitrine = s.vitrine ∧
    (s.setHport p x).collector = s.collector ∧ (s.setHport p x).tap = s.tap ∧ (s.setHport p x).cs0 = s.cs0 ∧
    (s.setHport p x).cs1 = s.cs1 ∧ (s.setHport p x).ports = s.ports ∧ (s.setHport p x).tiles = s.tiles ∧
    (s.setHport p x).pave = s.pave ∧ (s.setHport p x).loops = s.loops ∧ (s.setHport p x).modul = s.modul ∧
    (s.setHport p x).balance = s.balance ∧ (s.setHport p x).maq = s.maq ∧ (s.setHport p x).seq = s.seq ∧
    (s.setHport p x).clasp = s.clasp ∧ (s.setHport p x).freeIx = s.freeIx :=
  ⟨rfl, rfl, rfl, rfl, rfl, rfl, rfl, rfl, rfl, rfl, rfl, rfl, rfl, rfl, rfl, rfl, rfl, rfl, rfl, rfl, rfl, rfl, rfl, rfl, rfl, rfl, rfl⟩

@[simp] theorem State.setHport_group (s : State) (p : Nat) (x : HPort) :
    (s.setHport p x).host.silent = s.host.silent ∧ (s.setHport p x).host.accepted = s.host.accepted ∧
    (s.setHport p x).host.causes = s.host.causes ∧ (s.setHport p x).host.newestFault = s.host.newestFault ∧
    (s.setHport p x).host.oldestSince = s.host.oldestSince ∧ (s.setHport p x).host.pulses = s.host.pulses ∧
    (s.setHport p x).host.lastPulse = s.host.lastPulse ∧ (s.setHport p x).host.pulsing = s.host.pulsing ∧
    (s.setHport p x).host.escalations = s.host.escalations ∧
    (s.setHport p x).host.escalated = s.host.escalated ∧
    (s.setHport p x).host.lastEscalation = s.host.lastEscalation ∧
    (s.setHport p x).host.tlmCount = s.host.tlmCount ∧ (s.setHport p x).host.lastAnswer = s.host.lastAnswer :=
  ⟨rfl, rfl, rfl, rfl, rfl, rfl, rfl, rfl, rfl, rfl, rfl, rfl, rfl⟩

@[simp] theorem State.hport_setHport (s : State) (p : Nat) (x : HPort) : (s.setHport p x).hport p = x := by
  simp [State.hport, State.setHport]

@[simp] theorem State.hport_setHport_other (s : State) (p : Nat) (x : HPort) (q : Nat) (h : q ≠ p) :
    (s.setHport p x).hport q = s.hport q := by
  simp [State.hport, State.setHport, h]

@[simp] theorem State.setHport_readers (s : State) (p : Nat) (x : HPort) (q : Nat) :
    (s.setHport p x).port q = s.port q ∧ (s.setHport p x).tile q = s.tile q ∧
    (s.setHport p x).bank q = s.bank q ∧ (s.setHport p x).setIn q = s.setIn q ∧
    (s.setHport p x).sense q = s.sense q ∧ (s.setHport p x).ctx q = s.ctx q ∧
    (s.setHport p x).engine q = s.engine q ∧ (s.setHport p x).stage q = s.stage q ∧
    (s.setHport p x).ph q = s.ph q ∧ (s.setHport p x).str q = s.str q ∧ (s.setHport p x).ka q = s.ka q ∧
    (s.setHport p x).rail q = s.rail q :=
  ⟨rfl, rfl, rfl, rfl, rfl, rfl, rfl, rfl, rfl, rfl, rfl, rfl⟩

/-! ### State.setSetIn -/

@[simp] theorem State.setSetIn_rest (s : State) (p : Nat) (x : SetIn) :
    (s.setSetIn p x).pending = s.pending ∧ (s.setSetIn p x).now = s.now ∧ (s.setSetIn p x).epoch = s.epoch ∧
    (s.setSetIn p x).ledger = s.ledger ∧ (s.setSetIn p x).mode = s.mode ∧ (s.setSetIn p x).under = s.under ∧
    (s.setSetIn p x).phase = s.phase ∧ (s.setSetIn p x).plinth = s.plinth ∧ (s.setSetIn p x).pins = s.pins ∧
    (s.setSetIn p x).armature = s.armature ∧ (s.setSetIn p x).loader = s.loader ∧
    (s.setSetIn p x).benra = s.benra ∧ (s.setSetIn p x).host = s.host ∧ (s.setSetIn p x).vitrine = s.vitrine ∧
    (s.setSetIn p x).collector = s.collector ∧ (s.setSetIn p x).tap = s.tap ∧ (s.setSetIn p x).cs0 = s.cs0 ∧
    (s.setSetIn p x).cs1 = s.cs1 ∧ (s.setSetIn p x).ports = s.ports ∧ (s.setSetIn p x).tiles = s.tiles ∧
    (s.setSetIn p x).loops = s.loops ∧ (s.setSetIn p x).modul = s.modul ∧ (s.setSetIn p x).balance = s.balance ∧
    (s.setSetIn p x).maq = s.maq ∧ (s.setSetIn p x).seq = s.seq ∧ (s.setSetIn p x).clasp = s.clasp ∧
    (s.setSetIn p x).freeIx = s.freeIx :=
  ⟨rfl, rfl, rfl, rfl, rfl, rfl, rfl, rfl, rfl, rfl, rfl, rfl, rfl, rfl, rfl, rfl, rfl, rfl, rfl, rfl, rfl, rfl, rfl, rfl, rfl, rfl, rfl⟩

@[simp] theorem State.setSetIn_group (s : State) (p : Nat) (x : SetIn) :
    (s.setSetIn p x).pave.phases = s.pave.phases ∧ (s.setSetIn p x).pave.zeroRun = s.pave.zeroRun ∧
    (s.setSetIn p x).pave.ains = s.pave.ains ∧ (s.setSetIn p x).pave.setId = s.pave.setId ∧
    (s.setSetIn p x).pave.setCount = s.pave.setCount ∧ (s.setSetIn p x).pave.openSets = s.pave.openSets ∧
    (s.setSetIn p x).pave.autoSets = s.pave.autoSets ∧ (s.setSetIn p x).pave.published = s.pave.published :=
  ⟨rfl, rfl, rfl, rfl, rfl, rfl, rfl, rfl⟩

@[simp] theorem State.setIn_setSetIn (s : State) (p : Nat) (x : SetIn) : (s.setSetIn p x).setIn p = x := by
  simp [State.setIn, State.setSetIn]

@[simp] theorem State.setIn_setSetIn_other (s : State) (p : Nat) (x : SetIn) (q : Nat) (h : q ≠ p) :
    (s.setSetIn p x).setIn q = s.setIn q := by
  simp [State.setIn, State.setSetIn, h]

@[simp] theorem State.setSetIn_readers (s : State) (p : Nat) (x : SetIn) (q : Nat) :
    (s.setSetIn p x).port q = s.port q ∧ (s.setSetIn p x).tile q = s.tile q ∧
    (s.setSetIn p x).bank q = s.bank q ∧ (s.setSetIn p x).hport q = s.hport q ∧
    (s.setSetIn p x).sense q = s.sense q ∧ (s.setSetIn p x).ctx q = s.ctx q ∧
    (s.setSetIn p x).engine q = s.engine q ∧ (s.setSetIn p x).stage q = s.stage q ∧
    (s.setSetIn p x).ph q = s.ph q ∧ (s.setSetIn p x).str q = s.str q ∧ (s.setSetIn p x).ka q = s.ka q ∧
    (s.setSetIn p x).rail q = s.rail q :=
  ⟨rfl, rfl, rfl, rfl, rfl, rfl, rfl, rfl, rfl, rfl, rfl, rfl⟩

/-! ### State.setSense -/

@[simp] theorem State.setSense_rest (s : State) (p : Nat) (x : PhaseSense) :
    (s.setSense p x).pending = s.pending ∧ (s.setSense p x).now = s.now ∧ (s.setSense p x).epoch = s.epoch ∧
    (s.setSense p x).ledger = s.ledger ∧ (s.setSense p x).mode = s.mode ∧ (s.setSense p x).under = s.under ∧
    (s.setSense p x).phase = s.phase ∧ (s.setSense p x).plinth = s.plinth ∧ (s.setSense p x).pins = s.pins ∧
    (s.setSense p x).armature = s.armature ∧ (s.setSense p x).loader = s.loader ∧
    (s.setSense p x).benra = s.benra ∧ (s.setSense p x).host = s.host ∧ (s.setSense p x).vitrine = s.vitrine ∧
    (s.setSense p x).collector = s.collector ∧ (s.setSense p x).tap = s.tap ∧ (s.setSense p x).cs0 = s.cs0 ∧
    (s.setSense p x).cs1 = s.cs1 ∧ (s.setSense p x).ports = s.ports ∧ (s.setSense p x).tiles = s.tiles ∧
    (s.setSense p x).loops = s.loops ∧ (s.setSense p x).modul = s.modul ∧ (s.setSense p x).balance = s.balance ∧
    (s.setSense p x).maq = s.maq ∧ (s.setSense p x).seq = s.seq ∧ (s.setSense p x).clasp = s.clasp ∧
    (s.setSense p x).freeIx = s.freeIx :=
  ⟨rfl, rfl, rfl, rfl, rfl, rfl, rfl, rfl, rfl, rfl, rfl, rfl, rfl, rfl, rfl, rfl, rfl, rfl, rfl, rfl, rfl, rfl, rfl, rfl, rfl, rfl, rfl⟩

@[simp] theorem State.setSense_group (s : State) (p : Nat) (x : PhaseSense) :
    (s.setSense p x).pave.zeroRun = s.pave.zeroRun ∧ (s.setSense p x).pave.ains = s.pave.ains ∧
    (s.setSense p x).pave.setIns = s.pave.setIns ∧ (s.setSense p x).pave.setId = s.pave.setId ∧
    (s.setSense p x).pave.setCount = s.pave.setCount ∧ (s.setSense p x).pave.openSets = s.pave.openSets ∧
    (s.setSense p x).pave.autoSets = s.pave.autoSets ∧ (s.setSense p x).pave.published = s.pave.published :=
  ⟨rfl, rfl, rfl, rfl, rfl, rfl, rfl, rfl⟩

@[simp] theorem State.sense_setSense (s : State) (p : Nat) (x : PhaseSense) : (s.setSense p x).sense p = x := by
  simp [State.sense, State.setSense]

@[simp] theorem State.sense_setSense_other (s : State) (p : Nat) (x : PhaseSense) (q : Nat) (h : q ≠ p) :
    (s.setSense p x).sense q = s.sense q := by
  simp [State.sense, State.setSense, h]

@[simp] theorem State.setSense_readers (s : State) (p : Nat) (x : PhaseSense) (q : Nat) :
    (s.setSense p x).port q = s.port q ∧ (s.setSense p x).tile q = s.tile q ∧
    (s.setSense p x).bank q = s.bank q ∧ (s.setSense p x).hport q = s.hport q ∧
    (s.setSense p x).setIn q = s.setIn q ∧ (s.setSense p x).ctx q = s.ctx q ∧
    (s.setSense p x).engine q = s.engine q ∧ (s.setSense p x).stage q = s.stage q ∧
    (s.setSense p x).ph q = s.ph q ∧ (s.setSense p x).str q = s.str q ∧ (s.setSense p x).ka q = s.ka q ∧
    (s.setSense p x).rail q = s.rail q :=
  ⟨rfl, rfl, rfl, rfl, rfl, rfl, rfl, rfl, rfl, rfl, rfl, rfl⟩

/-! ### State.setCtx -/

@[simp] theorem State.setCtx_rest (s : State) (p : Nat) (x : Ctx) :
    (s.setCtx p x).pending = s.pending ∧ (s.setCtx p x).now = s.now ∧ (s.setCtx p x).epoch = s.epoch ∧
    (s.setCtx p x).ledger = s.ledger ∧ (s.setCtx p x).mode = s.mode ∧ (s.setCtx p x).under = s.under ∧
    (s.setCtx p x).phase = s.phase ∧ (s.setCtx p x).plinth = s.plinth ∧ (s.setCtx p x).pins = s.pins ∧
    (s.setCtx p x).armature = s.armature ∧ (s.setCtx p x).loader = s.loader ∧ (s.setCtx p x).benra = s.benra ∧
    (s.setCtx p x).host = s.host ∧ (s.setCtx p x).vitrine = s.vitrine ∧ (s.setCtx p x).collector = s.collector ∧
    (s.setCtx p x).tap = s.tap ∧ (s.setCtx p x).cs0 = s.cs0 ∧ (s.setCtx p x).cs1 = s.cs1 ∧
    (s.setCtx p x).ports = s.ports ∧ (s.setCtx p x).tiles = s.tiles ∧ (s.setCtx p x).pave = s.pave ∧
    (s.setCtx p x).modul = s.modul ∧ (s.setCtx p x).balance = s.balance ∧ (s.setCtx p x).maq = s.maq ∧
    (s.setCtx p x).seq = s.seq ∧ (s.setCtx p x).clasp = s.clasp ∧ (s.setCtx p x).freeIx = s.freeIx :=
  ⟨rfl, rfl, rfl, rfl, rfl, rfl, rfl, rfl, rfl, rfl, rfl, rfl, rfl, rfl, rfl, rfl, rfl, rfl, rfl, rfl, rfl, rfl, rfl, rfl, rfl, rfl, rfl⟩

@[simp] theorem State.setCtx_group (s : State) (p : Nat) (x : Ctx) :
    (s.setCtx p x).loops.engines = s.loops.engines ∧ (s.setCtx p x).loops.due = s.loops.due ∧
    (s.setCtx p x).loops.flights = s.loops.flights ∧ (s.setCtx p x).loops.inject = s.loops.inject ∧
    (s.setCtx p x).loops.table = s.loops.table ∧ (s.setCtx p x).loops.capture = s.loops.capture ∧
    (s.setCtx p x).loops.outs = s.loops.outs :=
  ⟨rfl, rfl, rfl, rfl, rfl, rfl, rfl⟩

@[simp] theorem State.ctx_setCtx (s : State) (p : Nat) (x : Ctx) : (s.setCtx p x).ctx p = x := by
  simp [State.ctx, State.setCtx]

@[simp] theorem State.ctx_setCtx_other (s : State) (p : Nat) (x : Ctx) (q : Nat) (h : q ≠ p) :
    (s.setCtx p x).ctx q = s.ctx q := by
  simp [State.ctx, State.setCtx, h]

@[simp] theorem State.setCtx_readers (s : State) (p : Nat) (x : Ctx) (q : Nat) :
    (s.setCtx p x).port q = s.port q ∧ (s.setCtx p x).tile q = s.tile q ∧ (s.setCtx p x).bank q = s.bank q ∧
    (s.setCtx p x).hport q = s.hport q ∧ (s.setCtx p x).setIn q = s.setIn q ∧
    (s.setCtx p x).sense q = s.sense q ∧ (s.setCtx p x).engine q = s.engine q ∧
    (s.setCtx p x).stage q = s.stage q ∧ (s.setCtx p x).ph q = s.ph q ∧ (s.setCtx p x).str q = s.str q ∧
    (s.setCtx p x).ka q = s.ka q ∧ (s.setCtx p x).rail q = s.rail q :=
  ⟨rfl, rfl, rfl, rfl, rfl, rfl, rfl, rfl, rfl, rfl, rfl, rfl⟩

/-! ### State.setEngine -/

@[simp] theorem State.setEngine_rest (s : State) (p : Nat) (x : Engine) :
    (s.setEngine p x).pending = s.pending ∧ (s.setEngine p x).now = s.now ∧ (s.setEngine p x).epoch = s.epoch ∧
    (s.setEngine p x).ledger = s.ledger ∧ (s.setEngine p x).mode = s.mode ∧ (s.setEngine p x).under = s.under ∧
    (s.setEngine p x).phase = s.phase ∧ (s.setEngine p x).plinth = s.plinth ∧ (s.setEngine p x).pins = s.pins ∧
    (s.setEngine p x).armature = s.armature ∧ (s.setEngine p x).loader = s.loader ∧
    (s.setEngine p x).benra = s.benra ∧ (s.setEngine p x).host = s.host ∧
    (s.setEngine p x).vitrine = s.vitrine ∧ (s.setEngine p x).collector = s.collector ∧
    (s.setEngine p x).tap = s.tap ∧ (s.setEngine p x).cs0 = s.cs0 ∧ (s.setEngine p x).cs1 = s.cs1 ∧
    (s.setEngine p x).ports = s.ports ∧ (s.setEngine p x).tiles = s.tiles ∧ (s.setEngine p x).pave = s.pave ∧
    (s.setEngine p x).modul = s.modul ∧ (s.setEngine p x).balance = s.balance ∧ (s.setEngine p x).maq = s.maq ∧
    (s.setEngine p x).seq = s.seq ∧ (s.setEngine p x).clasp = s.clasp ∧ (s.setEngine p x).freeIx = s.freeIx :=
  ⟨rfl, rfl, rfl, rfl, rfl, rfl, rfl, rfl, rfl, rfl, rfl, rfl, rfl, rfl, rfl, rfl, rfl, rfl, rfl, rfl, rfl, rfl, rfl, rfl, rfl, rfl, rfl⟩

@[simp] theorem State.setEngine_group (s : State) (p : Nat) (x : Engine) :
    (s.setEngine p x).loops.ctxs = s.loops.ctxs ∧ (s.setEngine p x).loops.due = s.loops.due ∧
    (s.setEngine p x).loops.flights = s.loops.flights ∧ (s.setEngine p x).loops.inject = s.loops.inject ∧
    (s.setEngine p x).loops.table = s.loops.table ∧ (s.setEngine p x).loops.capture = s.loops.capture ∧
    (s.setEngine p x).loops.outs = s.loops.outs :=
  ⟨rfl, rfl, rfl, rfl, rfl, rfl, rfl⟩

@[simp] theorem State.engine_setEngine (s : State) (p : Nat) (x : Engine) : (s.setEngine p x).engine p = x := by
  simp [State.engine, State.setEngine]

@[simp] theorem State.engine_setEngine_other (s : State) (p : Nat) (x : Engine) (q : Nat) (h : q ≠ p) :
    (s.setEngine p x).engine q = s.engine q := by
  simp [State.engine, State.setEngine, h]

@[simp] theorem State.setEngine_readers (s : State) (p : Nat) (x : Engine) (q : Nat) :
    (s.setEngine p x).port q = s.port q ∧ (s.setEngine p x).tile q = s.tile q ∧
    (s.setEngine p x).bank q = s.bank q ∧ (s.setEngine p x).hport q = s.hport q ∧
    (s.setEngine p x).setIn q = s.setIn q ∧ (s.setEngine p x).sense q = s.sense q ∧
    (s.setEngine p x).ctx q = s.ctx q ∧ (s.setEngine p x).stage q = s.stage q ∧
    (s.setEngine p x).ph q = s.ph q ∧ (s.setEngine p x).str q = s.str q ∧ (s.setEngine p x).ka q = s.ka q ∧
    (s.setEngine p x).rail q = s.rail q :=
  ⟨rfl, rfl, rfl, rfl, rfl, rfl, rfl, rfl, rfl, rfl, rfl, rfl⟩

/-! ### State.setStage -/

@[simp] theorem State.setStage_rest (s : State) (p : Nat) (x : Stage) :
    (s.setStage p x).pending = s.pending ∧ (s.setStage p x).now = s.now ∧ (s.setStage p x).epoch = s.epoch ∧
    (s.setStage p x).ledger = s.ledger ∧ (s.setStage p x).mode = s.mode ∧ (s.setStage p x).under = s.under ∧
    (s.setStage p x).phase = s.phase ∧ (s.setStage p x).plinth = s.plinth ∧ (s.setStage p x).pins = s.pins ∧
    (s.setStage p x).armature = s.armature ∧ (s.setStage p x).loader = s.loader ∧
    (s.setStage p x).benra = s.benra ∧ (s.setStage p x).host = s.host ∧ (s.setStage p x).vitrine = s.vitrine ∧
    (s.setStage p x).collector = s.collector ∧ (s.setStage p x).tap = s.tap ∧ (s.setStage p x).cs0 = s.cs0 ∧
    (s.setStage p x).cs1 = s.cs1 ∧ (s.setStage p x).ports = s.ports ∧ (s.setStage p x).tiles = s.tiles ∧
    (s.setStage p x).pave = s.pave ∧ (s.setStage p x).loops = s.loops ∧ (s.setStage p x).balance = s.balance ∧
    (s.setStage p x).maq = s.maq ∧ (s.setStage p x).seq = s.seq ∧ (s.setStage p x).clasp = s.clasp ∧
    (s.setStage p x).freeIx = s.freeIx :=
  ⟨rfl, rfl, rfl, rfl, rfl, rfl, rfl, rfl, rfl, rfl, rfl, rfl, rfl, rfl, rfl, rfl, rfl, rfl, rfl, rfl, rfl, rfl, rfl, rfl, rfl, rfl, rfl⟩

@[simp] theorem State.setStage_group (s : State) (p : Nat) (x : Stage) :
    (s.setStage p x).modul.phases = s.modul.phases ∧ (s.setStage p x).modul.cutFrame = s.modul.cutFrame :=
  ⟨rfl, rfl⟩

@[simp] theorem State.stage_setStage (s : State) (p : Nat) (x : Stage) : (s.setStage p x).stage p = x := by
  simp [State.stage, State.setStage]

@[simp] theorem State.stage_setStage_other (s : State) (p : Nat) (x : Stage) (q : Nat) (h : q ≠ p) :
    (s.setStage p x).stage q = s.stage q := by
  simp [State.stage, State.setStage, h]

@[simp] theorem State.setStage_readers (s : State) (p : Nat) (x : Stage) (q : Nat) :
    (s.setStage p x).port q = s.port q ∧ (s.setStage p x).tile q = s.tile q ∧
    (s.setStage p x).bank q = s.bank q ∧ (s.setStage p x).hport q = s.hport q ∧
    (s.setStage p x).setIn q = s.setIn q ∧ (s.setStage p x).sense q = s.sense q ∧
    (s.setStage p x).ctx q = s.ctx q ∧ (s.setStage p x).engine q = s.engine q ∧ (s.setStage p x).ph q = s.ph q ∧
    (s.setStage p x).str q = s.str q ∧ (s.setStage p x).ka q = s.ka q ∧ (s.setStage p x).rail q = s.rail q :=
  ⟨rfl, rfl, rfl, rfl, rfl, rfl, rfl, rfl, rfl, rfl, rfl, rfl⟩

/-! ### State.setPh -/

@[simp] theorem State.setPh_rest (s : State) (p : Nat) (x : Phase) :
    (s.setPh p x).pending = s.pending ∧ (s.setPh p x).now = s.now ∧ (s.setPh p x).epoch = s.epoch ∧
    (s.setPh p x).ledger = s.ledger ∧ (s.setPh p x).mode = s.mode ∧ (s.setPh p x).under = s.under ∧
    (s.setPh p x).phase = s.phase ∧ (s.setPh p x).plinth = s.plinth ∧ (s.setPh p x).pins = s.pins ∧
    (s.setPh p x).armature = s.armature ∧ (s.setPh p x).loader = s.loader ∧ (s.setPh p x).benra = s.benra ∧
    (s.setPh p x).host = s.host ∧ (s.setPh p x).vitrine = s.vitrine ∧ (s.setPh p x).collector = s.collector ∧
    (s.setPh p x).tap = s.tap ∧ (s.setPh p x).cs0 = s.cs0 ∧ (s.setPh p x).cs1 = s.cs1 ∧
    (s.setPh p x).ports = s.ports ∧ (s.setPh p x).tiles = s.tiles ∧ (s.setPh p x).pave = s.pave ∧
    (s.setPh p x).loops = s.loops ∧ (s.setPh p x).balance = s.balance ∧ (s.setPh p x).maq = s.maq ∧
    (s.setPh p x).seq = s.seq ∧ (s.setPh p x).clasp = s.clasp ∧ (s.setPh p x).freeIx = s.freeIx :=
  ⟨rfl, rfl, rfl, rfl, rfl, rfl, rfl, rfl, rfl, rfl, rfl, rfl, rfl, rfl, rfl, rfl, rfl, rfl, rfl, rfl, rfl, rfl, rfl, rfl, rfl, rfl, rfl⟩

@[simp] theorem State.setPh_group (s : State) (p : Nat) (x : Phase) :
    (s.setPh p x).modul.stages = s.modul.stages ∧ (s.setPh p x).modul.cutFrame = s.modul.cutFrame :=
  ⟨rfl, rfl⟩

@[simp] theorem State.ph_setPh (s : State) (p : Nat) (x : Phase) : (s.setPh p x).ph p = x := by
  simp [State.ph, State.setPh]

@[simp] theorem State.ph_setPh_other (s : State) (p : Nat) (x : Phase) (q : Nat) (h : q ≠ p) :
    (s.setPh p x).ph q = s.ph q := by
  simp [State.ph, State.setPh, h]

@[simp] theorem State.setPh_readers (s : State) (p : Nat) (x : Phase) (q : Nat) :
    (s.setPh p x).port q = s.port q ∧ (s.setPh p x).tile q = s.tile q ∧ (s.setPh p x).bank q = s.bank q ∧
    (s.setPh p x).hport q = s.hport q ∧ (s.setPh p x).setIn q = s.setIn q ∧ (s.setPh p x).sense q = s.sense q ∧
    (s.setPh p x).ctx q = s.ctx q ∧ (s.setPh p x).engine q = s.engine q ∧ (s.setPh p x).stage q = s.stage q ∧
    (s.setPh p x).str q = s.str q ∧ (s.setPh p x).ka q = s.ka q ∧ (s.setPh p x).rail q = s.rail q :=
  ⟨rfl, rfl, rfl, rfl, rfl, rfl, rfl, rfl, rfl, rfl, rfl, rfl⟩

/-! ### State.setStr -/

@[simp] theorem State.setStr_rest (s : State) (p : Nat) (x : StringM) :
    (s.setStr p x).pending = s.pending ∧ (s.setStr p x).now = s.now ∧ (s.setStr p x).epoch = s.epoch ∧
    (s.setStr p x).ledger = s.ledger ∧ (s.setStr p x).mode = s.mode ∧ (s.setStr p x).under = s.under ∧
    (s.setStr p x).phase = s.phase ∧ (s.setStr p x).plinth = s.plinth ∧ (s.setStr p x).pins = s.pins ∧
    (s.setStr p x).armature = s.armature ∧ (s.setStr p x).loader = s.loader ∧ (s.setStr p x).benra = s.benra ∧
    (s.setStr p x).host = s.host ∧ (s.setStr p x).vitrine = s.vitrine ∧ (s.setStr p x).collector = s.collector ∧
    (s.setStr p x).tap = s.tap ∧ (s.setStr p x).cs0 = s.cs0 ∧ (s.setStr p x).cs1 = s.cs1 ∧
    (s.setStr p x).ports = s.ports ∧ (s.setStr p x).tiles = s.tiles ∧ (s.setStr p x).pave = s.pave ∧
    (s.setStr p x).loops = s.loops ∧ (s.setStr p x).modul = s.modul ∧ (s.setStr p x).balance = s.balance ∧
    (s.setStr p x).seq = s.seq ∧ (s.setStr p x).clasp = s.clasp ∧ (s.setStr p x).freeIx = s.freeIx :=
  ⟨rfl, rfl, rfl, rfl, rfl, rfl, rfl, rfl, rfl, rfl, rfl, rfl, rfl, rfl, rfl, rfl, rfl, rfl, rfl, rfl, rfl, rfl, rfl, rfl, rfl, rfl, rfl⟩

@[simp] theorem State.setStr_group (s : State) (p : Nat) (x : StringM) :
    (s.setStr p x).maq.write = s.maq.write ∧ (s.setStr p x).maq.requested = s.maq.requested ∧
    (s.setStr p x).maq.failed = s.maq.failed ∧ (s.setStr p x).maq.barred = s.maq.barred ∧
    (s.setStr p x).maq.mounted = s.maq.mounted ∧ (s.setStr p x).maq.restoreBy = s.maq.restoreBy ∧
    (s.setStr p x).maq.eraseDue = s.maq.eraseDue ∧ (s.setStr p x).maq.savedAt = s.maq.savedAt ∧
    (s.setStr p x).maq.wearAt = s.maq.wearAt ∧ (s.setStr p x).maq.step = s.maq.step ∧
    (s.setStr p x).maq.second = s.maq.second :=
  ⟨rfl, rfl, rfl, rfl, rfl, rfl, rfl, rfl, rfl, rfl, rfl⟩

@[simp] theorem State.str_setStr (s : State) (p : Nat) (x : StringM) : (s.setStr p x).str p = x := by
  simp [State.str, State.setStr]

@[simp] theorem State.str_setStr_other (s : State) (p : Nat) (x : StringM) (q : Nat) (h : q ≠ p) :
    (s.setStr p x).str q = s.str q := by
  simp [State.str, State.setStr, h]

@[simp] theorem State.setStr_readers (s : State) (p : Nat) (x : StringM) (q : Nat) :
    (s.setStr p x).port q = s.port q ∧ (s.setStr p x).tile q = s.tile q ∧ (s.setStr p x).bank q = s.bank q ∧
    (s.setStr p x).hport q = s.hport q ∧ (s.setStr p x).setIn q = s.setIn q ∧
    (s.setStr p x).sense q = s.sense q ∧ (s.setStr p x).ctx q = s.ctx q ∧ (s.setStr p x).engine q = s.engine q ∧
    (s.setStr p x).stage q = s.stage q ∧ (s.setStr p x).ph q = s.ph q ∧ (s.setStr p x).ka q = s.ka q ∧
    (s.setStr p x).rail q = s.rail q :=
  ⟨rfl, rfl, rfl, rfl, rfl, rfl, rfl, rfl, rfl, rfl, rfl, rfl⟩

/-! ### State.setKa -/

@[simp] theorem State.setKa_rest (s : State) (p : Nat) (x : KeepAlive) :
    (s.setKa p x).pending = s.pending ∧ (s.setKa p x).now = s.now ∧ (s.setKa p x).epoch = s.epoch ∧
    (s.setKa p x).ledger = s.ledger ∧ (s.setKa p x).mode = s.mode ∧ (s.setKa p x).under = s.under ∧
    (s.setKa p x).phase = s.phase ∧ (s.setKa p x).plinth = s.plinth ∧ (s.setKa p x).pins = s.pins ∧
    (s.setKa p x).armature = s.armature ∧ (s.setKa p x).loader = s.loader ∧ (s.setKa p x).benra = s.benra ∧
    (s.setKa p x).host = s.host ∧ (s.setKa p x).vitrine = s.vitrine ∧ (s.setKa p x).collector = s.collector ∧
    (s.setKa p x).tap = s.tap ∧ (s.setKa p x).cs0 = s.cs0 ∧ (s.setKa p x).cs1 = s.cs1 ∧
    (s.setKa p x).ports = s.ports ∧ (s.setKa p x).tiles = s.tiles ∧ (s.setKa p x).pave = s.pave ∧
    (s.setKa p x).loops = s.loops ∧ (s.setKa p x).modul = s.modul ∧ (s.setKa p x).balance = s.balance ∧
    (s.setKa p x).maq = s.maq ∧ (s.setKa p x).clasp = s.clasp ∧ (s.setKa p x).freeIx = s.freeIx :=
  ⟨rfl, rfl, rfl, rfl, rfl, rfl, rfl, rfl, rfl, rfl, rfl, rfl, rfl, rfl, rfl, rfl, rfl, rfl, rfl, rfl, rfl, rfl, rfl, rfl, rfl, rfl, rfl⟩

@[simp] theorem State.setKa_group (s : State) (p : Nat) (x : KeepAlive) :
    (s.setKa p x).seq.phase = s.seq.phase ∧ (s.setKa p x).seq.step = s.seq.step ∧
    (s.setKa p x).seq.since = s.seq.since ∧ (s.setKa p x).seq.flagged = s.seq.flagged ∧
    (s.setKa p x).seq.timedOut = s.seq.timedOut ∧ (s.setKa p x).seq.cause = s.seq.cause ∧
    (s.setKa p x).seq.latched = s.seq.latched ∧ (s.setKa p x).seq.guardSince = s.seq.guardSince ∧
    (s.setKa p x).seq.couplingHeld = s.seq.couplingHeld ∧ (s.setKa p x).seq.rails = s.seq.rails :=
  ⟨rfl, rfl, rfl, rfl, rfl, rfl, rfl, rfl, rfl, rfl⟩

@[simp] theorem State.ka_setKa (s : State) (p : Nat) (x : KeepAlive) : (s.setKa p x).ka p = x := by
  simp [State.ka, State.setKa]

@[simp] theorem State.ka_setKa_other (s : State) (p : Nat) (x : KeepAlive) (q : Nat) (h : q ≠ p) :
    (s.setKa p x).ka q = s.ka q := by
  simp [State.ka, State.setKa, h]

@[simp] theorem State.setKa_readers (s : State) (p : Nat) (x : KeepAlive) (q : Nat) :
    (s.setKa p x).port q = s.port q ∧ (s.setKa p x).tile q = s.tile q ∧ (s.setKa p x).bank q = s.bank q ∧
    (s.setKa p x).hport q = s.hport q ∧ (s.setKa p x).setIn q = s.setIn q ∧ (s.setKa p x).sense q = s.sense q ∧
    (s.setKa p x).ctx q = s.ctx q ∧ (s.setKa p x).engine q = s.engine q ∧ (s.setKa p x).stage q = s.stage q ∧
    (s.setKa p x).ph q = s.ph q ∧ (s.setKa p x).str q = s.str q ∧ (s.setKa p x).rail q = s.rail q :=
  ⟨rfl, rfl, rfl, rfl, rfl, rfl, rfl, rfl, rfl, rfl, rfl, rfl⟩

/-! ### State.setRail -/

@[simp] theorem State.setRail_rest (s : State) (p : Nat) (x : Rail) :
    (s.setRail p x).pending = s.pending ∧ (s.setRail p x).now = s.now ∧ (s.setRail p x).epoch = s.epoch ∧
    (s.setRail p x).ledger = s.ledger ∧ (s.setRail p x).mode = s.mode ∧ (s.setRail p x).under = s.under ∧
    (s.setRail p x).phase = s.phase ∧ (s.setRail p x).plinth = s.plinth ∧ (s.setRail p x).pins = s.pins ∧
    (s.setRail p x).armature = s.armature ∧ (s.setRail p x).loader = s.loader ∧
    (s.setRail p x).benra = s.benra ∧ (s.setRail p x).host = s.host ∧ (s.setRail p x).vitrine = s.vitrine ∧
    (s.setRail p x).collector = s.collector ∧ (s.setRail p x).tap = s.tap ∧ (s.setRail p x).cs0 = s.cs0 ∧
    (s.setRail p x).cs1 = s.cs1 ∧ (s.setRail p x).ports = s.ports ∧ (s.setRail p x).tiles = s.tiles ∧
    (s.setRail p x).pave = s.pave ∧ (s.setRail p x).loops = s.loops ∧ (s.setRail p x).modul = s.modul ∧
    (s.setRail p x).balance = s.balance ∧ (s.setRail p x).maq = s.maq ∧ (s.setRail p x).clasp = s.clasp ∧
    (s.setRail p x).freeIx = s.freeIx :=
  ⟨rfl, rfl, rfl, rfl, rfl, rfl, rfl, rfl, rfl, rfl, rfl, rfl, rfl, rfl, rfl, rfl, rfl, rfl, rfl, rfl, rfl, rfl, rfl, rfl, rfl, rfl, rfl⟩

@[simp] theorem State.setRail_group (s : State) (p : Nat) (x : Rail) :
    (s.setRail p x).seq.phase = s.seq.phase ∧ (s.setRail p x).seq.step = s.seq.step ∧
    (s.setRail p x).seq.since = s.seq.since ∧ (s.setRail p x).seq.flagged = s.seq.flagged ∧
    (s.setRail p x).seq.timedOut = s.seq.timedOut ∧ (s.setRail p x).seq.cause = s.seq.cause ∧
    (s.setRail p x).seq.latched = s.seq.latched ∧ (s.setRail p x).seq.guardSince = s.seq.guardSince ∧
    (s.setRail p x).seq.couplingHeld = s.seq.couplingHeld ∧ (s.setRail p x).seq.keepAlives = s.seq.keepAlives :=
  ⟨rfl, rfl, rfl, rfl, rfl, rfl, rfl, rfl, rfl, rfl⟩

@[simp] theorem State.rail_setRail (s : State) (p : Nat) (x : Rail) : (s.setRail p x).rail p = x := by
  simp [State.rail, State.setRail]

@[simp] theorem State.rail_setRail_other (s : State) (p : Nat) (x : Rail) (q : Nat) (h : q ≠ p) :
    (s.setRail p x).rail q = s.rail q := by
  simp [State.rail, State.setRail, h]

@[simp] theorem State.setRail_readers (s : State) (p : Nat) (x : Rail) (q : Nat) :
    (s.setRail p x).port q = s.port q ∧ (s.setRail p x).tile q = s.tile q ∧ (s.setRail p x).bank q = s.bank q ∧
    (s.setRail p x).hport q = s.hport q ∧ (s.setRail p x).setIn q = s.setIn q ∧
    (s.setRail p x).sense q = s.sense q ∧ (s.setRail p x).ctx q = s.ctx q ∧
    (s.setRail p x).engine q = s.engine q ∧ (s.setRail p x).stage q = s.stage q ∧
    (s.setRail p x).ph q = s.ph q ∧ (s.setRail p x).str q = s.str q ∧ (s.setRail p x).ka q = s.ka q :=
  ⟨rfl, rfl, rfl, rfl, rfl, rfl, rfl, rfl, rfl, rfl, rfl, rfl⟩

/-! ### State.setInput -/

@[simp] theorem State.setInput_rest (s : State) (code scope : Nat) (x : FaultIn) :
    (s.setInput code scope x).pending = s.pending ∧ (s.setInput code scope x).now = s.now ∧
    (s.setInput code scope x).epoch = s.epoch ∧ (s.setInput code scope x).ledger = s.ledger ∧
    (s.setInput code scope x).mode = s.mode ∧ (s.setInput code scope x).under = s.under ∧
    (s.setInput code scope x).phase = s.phase ∧ (s.setInput code scope x).plinth = s.plinth ∧
    (s.setInput code scope x).pins = s.pins ∧ (s.setInput code scope x).armature = s.armature ∧
    (s.setInput code scope x).loader = s.loader ∧ (s.setInput code scope x).benra = s.benra ∧
    (s.setInput code scope x).host = s.host ∧ (s.setInput code scope x).vitrine = s.vitrine ∧
    (s.setInput code scope x).tap = s.tap ∧ (s.setInput code scope x).cs0 = s.cs0 ∧
    (s.setInput code scope x).cs1 = s.cs1 ∧ (s.setInput code scope x).ports = s.ports ∧
    (s.setInput code scope x).tiles = s.tiles ∧ (s.setInput code scope x).pave = s.pave ∧
    (s.setInput code scope x).loops = s.loops ∧ (s.setInput code scope x).modul = s.modul ∧
    (s.setInput code scope x).balance = s.balance ∧ (s.setInput code scope x).maq = s.maq ∧
    (s.setInput code scope x).seq = s.seq ∧ (s.setInput code scope x).clasp = s.clasp ∧
    (s.setInput code scope x).freeIx = s.freeIx :=
  ⟨rfl, rfl, rfl, rfl, rfl, rfl, rfl, rfl, rfl, rfl, rfl, rfl, rfl, rfl, rfl, rfl, rfl, rfl, rfl, rfl, rfl, rfl, rfl, rfl, rfl, rfl, rfl⟩

@[simp] theorem State.setInput_group (s : State) (code scope : Nat) (x : FaultIn) :
    (s.setInput code scope x).collector.parityBad = s.collector.parityBad ∧
    (s.setInput code scope x).collector.heldLevel = s.collector.heldLevel ∧
    (s.setInput code scope x).collector.firstInput = s.collector.firstInput ∧
    (s.setInput code scope x).collector.enteredAt = s.collector.enteredAt ∧
    (s.setInput code scope x).collector.forcedPorts = s.collector.forcedPorts ∧
    (s.setInput code scope x).collector.forcedStages = s.collector.forcedStages ∧
    (s.setInput code scope x).collector.s1Stages = s.collector.s1Stages ∧
    (s.setInput code scope x).collector.s1Due = s.collector.s1Due ∧
    (s.setInput code scope x).collector.s1Waits = s.collector.s1Waits ∧
    (s.setInput code scope x).collector.safePowerDownOwed = s.collector.safePowerDownOwed ∧
    (s.setInput code scope x).collector.enteredUp = s.collector.enteredUp ∧
    (s.setInput code scope x).collector.s1UpSince = s.collector.s1UpSince ∧
    (s.setInput code scope x).collector.recoveryUntil = s.collector.recoveryUntil ∧
    (s.setInput code scope x).collector.contextCrc = s.collector.contextCrc ∧
    (s.setInput code scope x).collector.currentRun = s.collector.currentRun ∧
    (s.setInput code scope x).collector.dutyRun = s.collector.dutyRun ∧
    (s.setInput code scope x).collector.clearWaits = s.collector.clearWaits :=
  ⟨rfl, rfl, rfl, rfl, rfl, rfl, rfl, rfl, rfl, rfl, rfl, rfl, rfl, rfl, rfl, rfl, rfl⟩

@[simp] theorem State.input_setInput (s : State) (code scope : Nat) (x : FaultIn) : (s.setInput code scope x).input code scope = x := by
  simp [State.input, State.setInput]

@[simp] theorem State.input_setInput_other (s : State) (code scope : Nat) (x : FaultIn) (c q : Nat) (h : faultKey c q ≠ faultKey code scope) :
    (s.setInput code scope x).input c q = s.input c q := by
  simp [State.input, State.setInput, h]

@[simp] theorem State.setInput_readers (s : State) (code scope : Nat) (x : FaultIn) (q : Nat) :
    (s.setInput code scope x).port q = s.port q ∧ (s.setInput code scope x).tile q = s.tile q ∧
    (s.setInput code scope x).bank q = s.bank q ∧ (s.setInput code scope x).hport q = s.hport q ∧
    (s.setInput code scope x).setIn q = s.setIn q ∧ (s.setInput code scope x).sense q = s.sense q ∧
    (s.setInput code scope x).ctx q = s.ctx q ∧ (s.setInput code scope x).engine q = s.engine q ∧
    (s.setInput code scope x).stage q = s.stage q ∧ (s.setInput code scope x).ph q = s.ph q ∧
    (s.setInput code scope x).str q = s.str q ∧ (s.setInput code scope x).ka q = s.ka q ∧
    (s.setInput code scope x).rail q = s.rail q :=
  ⟨rfl, rfl, rfl, rfl, rfl, rfl, rfl, rfl, rfl, rfl, rfl, rfl, rfl⟩

/-! ### State.setSeq -/

@[simp] theorem State.setSeq_rest (s : State) (x : Seq) :
    (s.setSeq x).pending = s.pending ∧ (s.setSeq x).now = s.now ∧ (s.setSeq x).epoch = s.epoch ∧
    (s.setSeq x).ledger = s.ledger ∧ (s.setSeq x).mode = s.mode ∧ (s.setSeq x).under = s.under ∧
    (s.setSeq x).phase = s.phase ∧ (s.setSeq x).plinth = s.plinth ∧ (s.setSeq x).pins = s.pins ∧
    (s.setSeq x).armature = s.armature ∧ (s.setSeq x).loader = s.loader ∧ (s.setSeq x).benra = s.benra ∧
    (s.setSeq x).host = s.host ∧ (s.setSeq x).vitrine = s.vitrine ∧ (s.setSeq x).collector = s.collector ∧
    (s.setSeq x).tap = s.tap ∧ (s.setSeq x).cs0 = s.cs0 ∧ (s.setSeq x).cs1 = s.cs1 ∧
    (s.setSeq x).ports = s.ports ∧ (s.setSeq x).tiles = s.tiles ∧ (s.setSeq x).pave = s.pave ∧
    (s.setSeq x).loops = s.loops ∧ (s.setSeq x).modul = s.modul ∧ (s.setSeq x).balance = s.balance ∧
    (s.setSeq x).maq = s.maq ∧ (s.setSeq x).clasp = s.clasp ∧ (s.setSeq x).freeIx = s.freeIx :=
  ⟨rfl, rfl, rfl, rfl, rfl, rfl, rfl, rfl, rfl, rfl, rfl, rfl, rfl, rfl, rfl, rfl, rfl, rfl, rfl, rfl, rfl, rfl, rfl, rfl, rfl, rfl, rfl⟩

@[simp] theorem State.setSeq_seq (s : State) (x : Seq) : (s.setSeq x).seq = x := rfl

/-! ### State.setClasp -/

@[simp] theorem State.setClasp_rest (s : State) (x : Clasp) :
    (s.setClasp x).pending = s.pending ∧ (s.setClasp x).now = s.now ∧ (s.setClasp x).epoch = s.epoch ∧
    (s.setClasp x).ledger = s.ledger ∧ (s.setClasp x).mode = s.mode ∧ (s.setClasp x).under = s.under ∧
    (s.setClasp x).phase = s.phase ∧ (s.setClasp x).plinth = s.plinth ∧ (s.setClasp x).pins = s.pins ∧
    (s.setClasp x).armature = s.armature ∧ (s.setClasp x).loader = s.loader ∧ (s.setClasp x).benra = s.benra ∧
    (s.setClasp x).host = s.host ∧ (s.setClasp x).vitrine = s.vitrine ∧ (s.setClasp x).collector = s.collector ∧
    (s.setClasp x).tap = s.tap ∧ (s.setClasp x).cs0 = s.cs0 ∧ (s.setClasp x).cs1 = s.cs1 ∧
    (s.setClasp x).ports = s.ports ∧ (s.setClasp x).tiles = s.tiles ∧ (s.setClasp x).pave = s.pave ∧
    (s.setClasp x).loops = s.loops ∧ (s.setClasp x).modul = s.modul ∧ (s.setClasp x).balance = s.balance ∧
    (s.setClasp x).maq = s.maq ∧ (s.setClasp x).seq = s.seq ∧ (s.setClasp x).freeIx = s.freeIx :=
  ⟨rfl, rfl, rfl, rfl, rfl, rfl, rfl, rfl, rfl, rfl, rfl, rfl, rfl, rfl, rfl, rfl, rfl, rfl, rfl, rfl, rfl, rfl, rfl, rfl, rfl, rfl, rfl⟩

@[simp] theorem State.setClasp_clasp (s : State) (x : Clasp) : (s.setClasp x).clasp = x := rfl

/-! ### Time -/

/-- The passing of time touches the clock and the operating seconds alone (R56). -/
@[simp] theorem advance_rest (t : Nat) (s : State) :
    (advance t s).pending = s.pending ∧ (advance t s).epoch = s.epoch ∧ (advance t s).ledger = s.ledger ∧
    (advance t s).mode = s.mode ∧ (advance t s).under = s.under ∧ (advance t s).phase = s.phase ∧
    (advance t s).pins = s.pins ∧ (advance t s).armature = s.armature ∧ (advance t s).loader = s.loader ∧
    (advance t s).benra = s.benra ∧ (advance t s).host = s.host ∧ (advance t s).vitrine = s.vitrine ∧
    (advance t s).collector = s.collector ∧ (advance t s).tap = s.tap ∧ (advance t s).cs0 = s.cs0 ∧
    (advance t s).cs1 = s.cs1 ∧ (advance t s).ports = s.ports ∧ (advance t s).tiles = s.tiles ∧
    (advance t s).pave = s.pave ∧ (advance t s).loops = s.loops ∧ (advance t s).modul = s.modul ∧
    (advance t s).balance = s.balance ∧ (advance t s).maq = s.maq ∧ (advance t s).seq = s.seq ∧
    (advance t s).clasp = s.clasp ∧ (advance t s).freeIx = s.freeIx := by
  unfold advance
  dsimp only
  split <;> exact ⟨rfl, rfl, rfl, rfl, rfl, rfl, rfl, rfl, rfl, rfl, rfl, rfl, rfl, rfl, rfl, rfl, rfl, rfl, rfl, rfl, rfl, rfl, rfl, rfl, rfl, rfl⟩

@[simp] theorem advance_readers (t : Nat) (s : State) (q : Nat) :
    (advance t s).port q = s.port q ∧ (advance t s).tile q = s.tile q ∧ (advance t s).bank q = s.bank q ∧
    (advance t s).hport q = s.hport q ∧ (advance t s).setIn q = s.setIn q ∧ (advance t s).sense q = s.sense q ∧
    (advance t s).ctx q = s.ctx q ∧ (advance t s).engine q = s.engine q ∧ (advance t s).stage q = s.stage q ∧
    (advance t s).ph q = s.ph q ∧ (advance t s).str q = s.str q ∧ (advance t s).ka q = s.ka q ∧
    (advance t s).rail q = s.rail q := by
  unfold advance
  dsimp only
  split <;> exact ⟨rfl, rfl, rfl, rfl, rfl, rfl, rfl, rfl, rfl, rfl, rfl, rfl, rfl⟩

@[simp] theorem advance_input (t : Nat) (s : State) (c q : Nat) : (advance t s).input c q = s.input c q := by
  simp [State.input]

@[simp] theorem advance_secs (t : Nat) (s : State) : secs (advance t s) = secs s := by
  simp only [secs, advance_rest]

@[simp] theorem advance_running (t : Nat) (s : State) : running (advance t s) = running s := by
  simp only [running, isLive, advance_rest]

@[simp] theorem advance_isLive (t : Nat) (s : State) : isLive (advance t s) = isLive s := by
  simp only [isLive, advance_rest]

end Sys2Proof.Machine
end

