-- ==== Sys2Proof/Laws/Commands.lean ====
section
/-! SUPPORT. What the answer of a request does, and how an admitted command ends, each said once. -/

namespace Sys2Proof.Machine

theorem OnlyHost.refl (s : State) : OnlyHost s s := rfl

theorem OnlyHost.trans {s t u : State} (h : OnlyHost s t) (k : OnlyHost t u) : OnlyHost s u := by
  unfold OnlyHost at *
  rw [k, h]

theorem setHport_onlyHost (s : State) (p : Nat) (x : HPort) : OnlyHost s (s.setHport p x) := rfl

theorem queueFrames_onlyHost (k : Nat) (fs : List CanFrame) (s : State) : OnlyHost s (queueFrames k fs s) := rfl

theorem queueFrames_lastAnswer (k : Nat) (fs : List CanFrame) (s : State) :
    (queueFrames k fs s).host.lastAnswer = s.host.lastAnswer := rfl

theorem queueResponse_onlyHost (k : Nat) (r : Response) (s : State) : OnlyHost s (queueResponse k r s) := rfl

theorem queueResponse_lastAnswer (k : Nat) (r : Response) (s : State) :
    (queueResponse k r s).host.lastAnswer = s.host.lastAnswer := rfl

theorem respond_onlyHost (port : HostPort) (r : Response) (s : State) : OnlyHost s (respond port r s) := by
  unfold respond
  dsimp only
  split
  · rfl
  · split
    · rfl
    · split <;> rfl

theorem respond_lastAnswer (port : HostPort) (r : Response) (s : State) :
    (respond port r s).host.lastAnswer = some (portNo port, { r with attention := s.host.causes != 0 }) := by
  unfold respond
  dsimp only
  split
  · rfl
  · split
    · rfl
    · split <;> rfl

theorem answerBy_onlyHost (keys : Tab Bytes) (r : Request) (withMac : Bool) (status : Nat) (data : Bytes) (s : State) :
    OnlyHost s (answerBy keys r withMac status data s) := respond_onlyHost _ _ _

theorem answerBy_lastAnswer (keys : Tab Bytes) (r : Request) (withMac : Bool) (status : Nat) (data : Bytes) (s : State) :
    ∃ a, (answerBy keys r withMac status data s).host.lastAnswer = some (portNo r.port, a) ∧ a.status = status ∧
      a.tag = r.tag ∧ a.data = data := ⟨_, respond_lastAnswer _ _ _, rfl, rfl, rfl⟩

/-- A command that ends with a status of its own: the answer is given, and nothing but the host ports moves. -/
theorem settle_answers (keys : Tab Bytes) (c : CmdSpec) (rq : CmdReq) (e : CmdEnd) (h : e.1 ≠ stLater) :
    Answers rq e.1 e.2.1 e.2.2 (settle keys c (requestOf c rq) e) := by
  unfold settle
  dsimp only
  rw [if_neg h]
  refine ⟨?_, ?_⟩
  · refine OnlyHost.trans ?_ (answerBy_onlyHost _ _ _ _ _ _)
    split <;> rfl
  · exact answerBy_lastAnswer _ _ _ _ _ _

/-- A command that answers later holds its request as being served. -/
theorem settle_later (keys : Tab Bytes) (c : CmdSpec) (r : Request) (e : CmdEnd) (h : e.1 = stLater) :
    settle keys c r e = e.2.2.setHport (portNo r.port) { e.2.2.hport (portNo r.port) with serving := some r.tag } := by
  unfold settle
  dsimp only
  rw [if_pos h, if_neg (by rw [h]; decide)]

/-- An admitted command runs its body on the admitted state and is settled. -/
theorem runThen_admit {c : CmdSpec} {rq : CmdReq} {s u : State} (body : Bytes → State → CmdEnd)
    (after : Nat → State → State) (h : admitCmd c rq s = some u) :
    runThen c rq body after s
      = after (body rq.data u).1 (settle u.benra.cmdKeys c (requestOf c rq) (body rq.data u)) := by
  unfold admitCmd at h
  unfold runThen
  dsimp only at h ⊢
  cases hg : gate (requestOf c rq) s with
  | some x => simp [hg] at h
  | none =>
    rw [hg] at h
    simp only [Option.isSome_none, Bool.false_eq_true, if_false] at h ⊢
    split at h
    · simp at h
    · rename_i hm
      rw [if_neg hm]
      cases ht : (requestOf c rq).trailer with
      | none =>
        rw [ht] at h
        dsimp only at h ⊢
        split at h
        · rename_i hp
          rw [Bool.and_eq_true, decide_eq_true_eq] at hp
          injection h with h
          subst h
          rw [hp.1]
          simp only [Bool.not_true, Bool.false_eq_true, if_false]
          rw [if_neg (by simp [hp.2])]
          rfl
        · simp at h
      | some t =>
        rw [ht] at h
        dsimp only at h ⊢
        cases ha : authenticate c.role c.serviceOnly (requestOf c rq) t (takeRequest (requestOf c rq) s) with
        | mk a b =>
          rw [ha] at h
          cases a with
          | refused st m => simp at h
          | passed =>
            dsimp only at h ⊢
            split at h
            · rename_i hs
              injection h with h
              subst h
              rw [if_neg (by simp [hs])]
              rfl
            · simp at h

/-- A command whose answer ends it, admitted. -/
theorem runCommand_admit {c : CmdSpec} {rq : CmdReq} {s u : State} (body : Bytes → State → CmdEnd)
    (h : admitCmd c rq s = some u) :
    runCommand c rq body s = settle u.benra.cmdKeys c (requestOf c rq) (body rq.data u) :=
  runThen_admit body _ h

/-- A command that ends with a status of its own is answered so. -/
theorem admitted_answers {c : CmdSpec} {rq : CmdReq} {s u w : State} {body : Bytes → State → CmdEnd} {st : Nat} {data : Bytes}
    (h : admitCmd c rq s = some u) (hb : body rq.data u = (st, data, w)) (hst : st ≠ stLater) :
    Answers rq st data w (runCommand c rq body s) := by
  rw [runCommand_admit body h, hb]
  exact settle_answers _ _ _ (st, data, w) hst

theorem respond_accepted (port : HostPort) (r : Response) (s : State) :
    (respond port r s).host.accepted = s.host.accepted := by
  unfold respond
  dsimp only
  split
  · rfl
  · split
    · rfl
    · split <;> rfl

theorem settle_accepts (keys : Tab Bytes) (c : CmdSpec) (rq : CmdReq) (w : State) :
    Accepts c.object rq w (settle keys c (requestOf c rq) (stAccepted, [], w)) := by
  refine ⟨settle_answers keys c rq (stAccepted, [], w) (show stAccepted ≠ stLater by decide), ⟨portNo rq.port, c.inst, rq.tag⟩, ?_, rfl, rfl⟩
  unfold settle
  dsimp only
  rw [if_neg (by decide)]
  unfold answerBy
  rw [respond_accepted]
  exact Tab.find_set _ _ _

/-- A command that its object accepts is answered so and remembered. -/
theorem admitted_accepts {c : CmdSpec} {rq : CmdReq} {s u w : State} {body : Bytes → State → CmdEnd}
    (h : admitCmd c rq s = some u) (hb : body rq.data u = (stAccepted, [], w)) : Accepts c.object rq w (runCommand c rq body s) := by
  rw [runCommand_admit body h, hb]
  exact settle_accepts _ _ _ _

/-- An admitted command that answers later: its request is being served. -/
theorem admitted_later {c : CmdSpec} {rq : CmdReq} {s u w : State} {body : Bytes → State → CmdEnd} {data : Bytes}
    (h : admitCmd c rq s = some u) (hb : body rq.data u = (stLater, data, w)) :
    runCommand c rq body s = w.setHport (portNo rq.port) { w.hport (portNo rq.port) with serving := some rq.tag } := by
  rw [runCommand_admit body h, hb]
  exact settle_later _ _ _ (stLater, data, w) rfl

theorem setCause_onlyHost (i : Nat) (s : State) : OnlyHost s (setCause i s) := by
  unfold setCause
  split <;> rfl

/-- The final status of an accepted command touches the host ports alone. -/
theorem finishCommand_onlyHost (object status detail : Nat) (s : State) : OnlyHost s (finishCommand object status detail s) := by
  unfold finishCommand
  split
  · rfl
  · exact OnlyHost.trans (t := { s with host := _ }) rfl (setCause_onlyHost _ _)

/-- A request for data that is admitted is served and answered. -/
theorem serveObject_admit {r : Request} {s u : State} {st : Nat} {data : Bytes} {w : State} (h : admitData r s = some u)
    (hv : view (takeRequest r s) (portNo r.port) r.object r.inst ≠ .absent) (hd : serveData r u = (st, data, w)) :
    Replies r st data w (serveObject r s) := by
  have done : ∀ b, Replies r st data w (answer r b st data w) := fun b =>
    ⟨answerBy_onlyHost _ _ _ _ _ _, answerBy_lastAnswer _ _ _ _ _ _⟩
  unfold admitData at h
  unfold serveObject
  dsimp only at h ⊢
  cases hg : gate r s with
  | some x => simp [hg] at h
  | none =>
    rw [hg] at h
    simp only [Option.isSome_none, Bool.false_eq_true, if_false] at h ⊢
    split at h
    · simp at h
    · rename_i hm
      rw [if_neg hm]
      cases ht : r.trailer with
      | none =>
        rw [ht] at h
        dsimp only at h ⊢
        injection h with h
        subst h
        rw [hd]
        exact done _
      | some t =>
        rw [ht] at h
        dsimp only at h ⊢
        cases ha : authenticate (dataRole r.object) (r.object == 0x0605 && r.op == 3) r t (takeRequest r s) with
        | mk a b =>
          rw [ha] at h
          cases a with
          | refused st m => simp at h
          | passed =>
            dsimp only at h ⊢
            injection h with h
            subst h
            cases hw : view (takeRequest r s) (portNo r.port) r.object r.inst with
            | absent => exact absurd hw hv
            | _ =>
              rw [if_pos trivial, hd]
              exact done _

end Sys2Proof.Machine
end

