-- ==== Sys2Proof/Laws/Records.lean ====
section
/-! SUPPORT. What staging a record and raising a fault touch, said once. -/

namespace Sys2Proof.Machine

theorem OnlyRecords.refl (s : State) : OnlyRecords s s := rfl

theorem OnlyRecords.trans {s t u : State} (h : OnlyRecords s t) (k : OnlyRecords t u) : OnlyRecords s u := by
  unfold OnlyRecords at *
  rw [k, h]

theorem OnlyLatches.refl (s : State) : OnlyLatches s s := rfl

theorem OnlyLatches.trans {s t u : State} (h : OnlyLatches s t) (k : OnlyLatches t u) : OnlyLatches s u := by
  unfold OnlyLatches at *
  rw [k, h]

theorem OnlyRecords.latches {s t : State} (h : OnlyRecords s t) : OnlyLatches s t := by
  unfold OnlyRecords OnlyLatches at *
  rw [h]

theorem OnlyRecords.ite {s a b : State} {c : Prop} [Decidable c] (ha : OnlyRecords s a) (hb : OnlyRecords s b) :
    OnlyRecords s (if c then a else b) := by split <;> assumption

theorem setCause_onlyRecords (i : Nat) (s : State) : OnlyRecords s (setCause i s) := by
  unfold setCause
  split <;> rfl

theorem pushRecord_onlyRecords (code sev : Nat) (p : Bytes) (s : State) : OnlyRecords s (pushRecord code sev p s) := by
  unfold pushRecord
  dsimp only
  refine OnlyRecords.ite rfl (OnlyRecords.ite rfl rfl)

theorem pushOwn_onlyRecords (code : Nat) (p : Bytes) (s : State) : OnlyRecords s (pushOwn code p s) := by
  unfold pushOwn
  dsimp only
  split
  · exact (pushRecord_onlyRecords _ _ _ _).trans (setCause_onlyRecords _ _)
  · exact pushRecord_onlyRecords _ _ _ _

theorem tellDrops_onlyRecords (s : State) : OnlyRecords s (tellDrops s) := by
  unfold tellDrops
  split
  · rfl
  · refine OnlyRecords.trans ?_ (pushOwn_onlyRecords _ _ _)
    rfl

theorem stageRecord_onlyRecords (code scope : Nat) (p : Bytes) (s : State) :
    OnlyRecords s (stageRecord code scope p s) := by
  unfold stageRecord
  dsimp only
  refine OnlyRecords.trans ?_ (tellDrops_onlyRecords _)
  have key : ∀ x : State, OnlyRecords s x →
      OnlyRecords s (if code == 0x8F03 || code == 0x8F04 then setCause 7 x else x) := by
    intro x hx
    split
    · exact hx.trans (setCause_onlyRecords _ _)
    · exact hx
  apply key
  split
  · split
    · split
      · rfl
      · exact pushRecord_onlyRecords _ _ _ _
    · exact pushRecord_onlyRecords _ _ _ _
  · split
    · split
      · rfl
      · refine OnlyRecords.trans ?_ (pushRecord_onlyRecords _ _ _ _)
        split
        · rfl
        · refine OnlyRecords.trans ?_ (pushOwn_onlyRecords _ _ _)
          rfl
    · split
      · exact pushOwn_onlyRecords _ _ _
      · exact pushRecord_onlyRecords _ _ _ _

theorem event_onlyRecords (code : Nat) (l : List Nat) (s : State) : OnlyRecords s (event code l s) :=
  stageRecord_onlyRecords _ _ _ _

theorem OnlyRecords.input {s t : State} (h : OnlyRecords s t) (c q : Nat) : t.input c q = s.input c q := by
  rw [h]; rfl

theorem OnlyRecords.lastFaults {s t : State} (h : OnlyRecords s t) : t.plinth.lastFaults = s.plinth.lastFaults := by
  rw [h]

theorem OnlyRecords.isLive {s t : State} (h : OnlyRecords s t) : isLive t = isLive s := by
  rw [h]; rfl

theorem OnlyRecords.secs {s t : State} (h : OnlyRecords s t) : secs t = secs s := by
  rw [h]; rfl

theorem OnlyLatches.isLive {s t : State} (h : OnlyLatches s t) : isLive t = isLive s := by
  rw [h]; rfl

theorem OnlyLatches.reactionOf {s t : State} (h : OnlyLatches s t) (c q : Nat) : reactionOf t c q = reactionOf s c q := by
  rw [h]; rfl

theorem stopInject_onlyLatches (cause : Nat) (s : State) : OnlyLatches s (stopInject cause s) := by
  unfold stopInject
  split
  · rfl
  · refine OnlyLatches.trans ?_ (event_onlyRecords _ _ _).latches
    rfl

theorem triggerCapture_onlyLatches (s : State) : OnlyLatches s (triggerCapture s) := by
  unfold triggerCapture
  dsimp only
  split <;> rfl

theorem captureFault_onlyLatches (code : Nat) (p : Bytes) (s : State) : OnlyLatches s (captureFault code p s) := by
  unfold captureFault
  dsimp only
  have h : OnlyLatches s (if (s.loops.capture.state = 1 && s.loops.capture.trigger == 2 &&
      s.loops.capture.faultCode == code) = true then triggerCapture s else s) := by
    split
    · exact triggerCapture_onlyLatches s
    · rfl
  revert h
  generalize (if (s.loops.capture.state = 1 && s.loops.capture.trigger == 2 &&
      s.loops.capture.faultCode == code) = true then triggerCapture s else s) = x
  intro h
  split
  · exact h
  · split
    · exact h.trans (stopInject_onlyLatches _ _)
    · exact h

theorem captureFault_keeps (code : Nat) (p : Bytes) (s : State) :
    (captureFault code p s).collector = s.collector ∧ (captureFault code p s).plinth.lastFaults = s.plinth.lastFaults := by
  have hi : ∀ (c : Nat) (x : State), (stopInject c x).collector = x.collector ∧
      (stopInject c x).plinth.lastFaults = x.plinth.lastFaults := by
    intro c x
    unfold stopInject
    split
    · exact ⟨rfl, rfl⟩
    · rw [event_onlyRecords]; exact ⟨rfl, rfl⟩
  unfold captureFault
  dsimp only
  have h : (if (s.loops.capture.state = 1 && s.loops.capture.trigger == 2 &&
      s.loops.capture.faultCode == code) = true then triggerCapture s else s).collector = s.collector ∧
      (if (s.loops.capture.state = 1 && s.loops.capture.trigger == 2 &&
      s.loops.capture.faultCode == code) = true then triggerCapture s else s).plinth.lastFaults = s.plinth.lastFaults := by
    split
    · unfold triggerCapture
      dsimp only
      split <;> exact ⟨rfl, rfl⟩
    · exact ⟨rfl, rfl⟩
  revert h
  generalize (if (s.loops.capture.state = 1 && s.loops.capture.trigger == 2 &&
      s.loops.capture.faultCode == code) = true then triggerCapture s else s) = x
  intro h
  split
  · exact h
  · split
    · exact ⟨(hi _ _).1.trans h.1, (hi _ _).2.trans h.2⟩
    · exact h

theorem react_onlyRecords {code scope : Nat} {s : State} (p : Bytes) (h : mildReaction (reactionOf s code scope) = true) :
    OnlyRecords s (react code scope p s) := by
  unfold mildReaction at h
  simp only [Bool.and_eq_true, Bool.not_eq_true', beq_iff_eq] at h
  obtain ⟨⟨hl, h2⟩, h3⟩ := h
  unfold react
  dsimp only
  rw [h2, h3]
  simp only [Bool.false_eq_true, if_false, hl, if_true]
  split
  · refine OnlyRecords.trans ?_ (setCause_onlyRecords _ _)
    rfl
  · rfl

theorem latchInput_onlyLatches (code scope : Nat) (p : Bytes) (s : State) : OnlyLatches s (latchInput code scope p s) := rfl

@[simp] theorem latchInput_latched (code scope : Nat) (p : Bytes) (s : State) :
    ((latchInput code scope p s).input code scope).latched = true ∧
      (latchInput code scope p s).plinth.lastFaults.head? = some code := by
  constructor
  · simp [latchInput, State.input, State.setInput]
  · rfl

theorem assertInput_mild {code scope : Nat} {s : State} (p : Bytes) (h : mildReaction (reactionOf s code scope) = true) :
    OnlyLatches s (assertInput code scope p s) := by
  unfold assertInput
  split
  · rfl
  · have h1 := (latchInput_onlyLatches code scope p s).trans (captureFault_onlyLatches code p _)
    refine h1.trans (react_onlyRecords _ ?_).latches
    rw [h1.reactionOf]
    exact h

/-- An idle input asserts with a mild reaction: it latches, and its code heads the last faults. -/
theorem assertInput_latches {code scope : Nat} {s : State} (p : Bytes) (h : mildReaction (reactionOf s code scope) = true)
    (ha : (s.input code scope).asserted = false) :
    ((assertInput code scope p s).input code scope).latched = true ∧
      (assertInput code scope p s).plinth.lastFaults.head? = some code := by
  unfold assertInput
  rw [if_neg (by simp [ha])]
  have h1 := (latchInput_onlyLatches code scope p s).trans (captureFault_onlyLatches code p _)
  have hr := react_onlyRecords (code := code) (scope := scope) (s := captureFault code p (latchInput code scope p s)) p
    (by rw [h1.reactionOf]; exact h)
  have hc := captureFault_keeps code p (latchInput code scope p s)
  refine ⟨?_, ?_⟩
  · rw [hr.input]
    unfold State.input
    rw [hc.1]
    exact (latchInput_latched _ _ _ _).1
  · rw [hr.lastFaults, hc.2]
    exact (latchInput_latched _ _ _ _).2

theorem raiseFault_mild {code scope : Nat} {s : State} (p : Bytes) (h : mildReaction (reactionOf s code scope) = true) :
    OnlyLatches s (raiseFault code scope p s) := by
  unfold raiseFault
  have h1 : OnlyLatches s (captureFault code p (stageRecord code scope p s)) :=
    (stageRecord_onlyRecords _ _ _ _).latches.trans (captureFault_onlyLatches _ _ _)
  refine h1.trans (assertInput_mild _ ?_)
  rw [h1.reactionOf]
  exact h

theorem raiseFault_latches {code scope : Nat} {s : State} (p : Bytes) (h : mildReaction (reactionOf s code scope) = true)
    (ha : (s.input code scope).asserted = false) :
    ((raiseFault code scope p s).input code scope).latched = true ∧
      (raiseFault code scope p s).plinth.lastFaults.head? = some code := by
  unfold raiseFault
  have h1 : OnlyLatches s (captureFault code p (stageRecord code scope p s)) :=
    (stageRecord_onlyRecords _ _ _ _).latches.trans (captureFault_onlyLatches _ _ _)
  apply assertInput_latches
  · rw [h1.reactionOf]
    exact h
  · unfold State.input
    rw [(captureFault_keeps _ _ _).1]
    have := (stageRecord_onlyRecords code scope p s).input code scope
    unfold State.input at this ha
    rw [this]
    exact ha

theorem lowerFault_onlyLatches (code scope : Nat) (s : State) : OnlyLatches s (lowerFault code scope s) := by
  unfold lowerFault
  dsimp only
  split <;> rfl

theorem lowerFault_latched (code scope : Nat) (s : State) :
    ((lowerFault code scope s).input code scope).latched = (s.input code scope).latched ∧
      (lowerFault code scope s).plinth = s.plinth := by
  unfold lowerFault
  dsimp only
  split
  · simp
  · simp

theorem pulseFault_mild {code scope : Nat} {s : State} (p : Bytes) (h : mildReaction (reactionOf s code scope) = true) :
    OnlyLatches s (pulseFault code scope p s) :=
  (raiseFault_mild p h).trans (lowerFault_onlyLatches _ _ _)

theorem pulseFault_latches {code scope : Nat} {s : State} (p : Bytes) (h : mildReaction (reactionOf s code scope) = true)
    (ha : (s.input code scope).asserted = false) :
    ((pulseFault code scope p s).input code scope).latched = true ∧
      (pulseFault code scope p s).plinth.lastFaults.head? = some code := by
  unfold pulseFault
  rw [(lowerFault_latched _ _ _).1, (lowerFault_latched _ _ _).2]
  exact raiseFault_latches p h ha

/-- Before activation every reaction is mild (R350). -/
theorem mild_before_live {s : State} (h : isLive s = false) (code scope : Nat) :
    mildReaction (reactionOf s code scope) = true := by
  unfold reactionOf
  rw [h, if_pos (by rfl : (!false) = true)]
  decide

theorem chipFault_early {s : State} (code : Nat) (l : List Nat) (h : isLive s = false) : OnlyLatches s (chipFault code l s) :=
  raiseFault_mild _ (mild_before_live h _ _)

theorem chipPulse_early {s : State} (code : Nat) (l : List Nat) (h : isLive s = false) : OnlyLatches s (chipPulse code l s) :=
  pulseFault_mild _ (mild_before_live h _ _)

theorem chipFault_raised {s : State} (code : Nat) (l : List Nat) (h : isLive s = false) : Raised code s (chipFault code l s) :=
  fun ha => raiseFault_latches _ (mild_before_live h _ _) ha

theorem chipPulse_raised {s : State} (code : Nat) (l : List Nat) (h : isLive s = false) : Raised code s (chipPulse code l s) :=
  fun ha => pulseFault_latches _ (mild_before_live h _ _) ha

end Sys2Proof.Machine
end

