-- ==== Sys2Proof/Laws/Clasp.lean ====
section
/-! SUPPORT. What Clasp's shared acts do: a message taken, messages out, a transition, a request dropped, an end. -/

namespace Sys2Proof.Machine

/-! ### Messages in -/

/-- A message that is not a repeat is counted, receipted and acted on. -/
theorem onMessage_fresh {k : RxKind} {t : Nat} {m : PilotMsg} {s : State} {body : Bytes → State → State}
    (h : Hears k m (advance t s)) (f : Fresh m (advance t s)) :
    onMessage k t m body s = body (msgPayload m.bytes) (noteRx m.bytes false (advance t s)) := by
  unfold onMessage
  unfold Fresh at f
  generalize advance t s = a at *
  obtain ⟨h1, h2, h3, h4⟩ := h
  have : (a.clasp.lastAccepted == some (msgType m.bytes, msgCount m.bytes)) = false := by simpa using f
  simp only [h1, h2, h3, h4, this]
  simp

/-- A repeat is counted and receipted, and nothing else. -/
theorem onMessage_repeat {k : RxKind} {t : Nat} {m : PilotMsg} {s : State} {body : Bytes → State → State}
    (h : Hears k m (advance t s)) (f : ¬ Fresh m (advance t s)) (hk : k ≠ .resync) :
    onMessage k t m body s = noteRx m.bytes true (advance t s) := by
  unfold onMessage
  unfold Fresh at f
  generalize advance t s = a at *
  obtain ⟨h1, h2, h3, h4⟩ := h
  have : (a.clasp.lastAccepted == some (msgType m.bytes, msgCount m.bytes)) = true := by simpa using f
  simp only [h1, h2, h3, h4, this]
  simp [hk]

/-- RESYNC acts whether or not it is a repeat. -/
theorem onMessage_resync {t : Nat} {m : PilotMsg} {s : State} {body : Bytes → State → State}
    (h : Hears .resync m (advance t s)) :
    ∃ again, onMessage .resync t m body s = body (msgPayload m.bytes) (noteRx m.bytes again (advance t s)) := by
  unfold onMessage
  generalize advance t s = a at *
  obtain ⟨h1, h2, h3, h4⟩ := h
  refine ⟨a.clasp.lastAccepted == some (msgType m.bytes, msgCount m.bytes), ?_⟩
  simp only [h1, h2, h3, h4]
  simp

/-- What an accepted message leaves as it was. -/
@[simp] theorem noteRx_rest (b : Bytes) (again : Bool) (s : State) :
    secs (noteRx b again s) = secs s ∧ (noteRx b again s).now = s.now ∧ (noteRx b again s).benra = s.benra ∧
    (noteRx b again s).host = s.host ∧ (noteRx b again s).balance = s.balance ∧ (noteRx b again s).maq = s.maq ∧
    (noteRx b again s).mode = s.mode ∧ (noteRx b again s).plinth = s.plinth := ⟨rfl, rfl, rfl, rfl, rfl, rfl, rfl, rfl⟩

@[simp] theorem noteRx_clasp (b : Bytes) (again : Bool) (s : State) :
    (noteRx b again s).clasp.phase = s.clasp.phase ∧ (noteRx b again s).clasp.role = s.clasp.role ∧
    (noteRx b again s).clasp.own = s.clasp.own ∧ (noteRx b again s).clasp.partner = s.clasp.partner ∧
    (noteRx b again s).clasp.contract = s.clasp.contract ∧ (noteRx b again s).clasp.asked = s.clasp.asked ∧
    (noteRx b again s).clasp.transition = s.clasp.transition ∧ (noteRx b again s).clasp.swap = s.clasp.swap ∧
    (noteRx b again s).clasp.swapAsked = s.clasp.swapAsked ∧ (noteRx b again s).clasp.modeAsked = s.clasp.modeAsked ∧
    (noteRx b again s).clasp.modeByHost = s.clasp.modeByHost ∧ (noteRx b again s).clasp.tandem = s.clasp.tandem ∧
    (noteRx b again s).clasp.bridge = s.clasp.bridge ∧ (noteRx b again s).clasp.identity = s.clasp.identity ∧
    (noteRx b again s).clasp.outbox = s.clasp.outbox ∧ (noteRx b again s).clasp.mailbox = s.clasp.mailbox :=
  ⟨rfl, rfl, rfl, rfl, rfl, rfl, rfl, rfl, rfl, rfl, rfl, rfl, rfl, rfl, rfl, rfl⟩

/-! ### Messages out -/

/-- `t` differs from `s` in the messages to be sent and in the last STATUS alone. -/
def OnlySends (s t : State) : Prop :=
  t = { s with clasp := { s.clasp with
    outbox := t.clasp.outbox, lastStatus := t.clasp.lastStatus, statusAt := t.clasp.statusAt } }

theorem send_onlySends (type : Nat) (p : Bytes) (s : State) : OnlySends s (send type p s) := rfl

theorem sendStatus_onlySends (s : State) : OnlySends s (sendStatus s) := rfl

theorem tellStatus_onlySends (s : State) : OnlySends s (tellStatus s) := by
  unfold tellStatus
  split <;> rfl

/-- New CAPABILITIES keep the roles, the partner, the transition and V_r. -/
theorem newCaps_keeps (s : State) :
    (newCaps s).clasp.partner = s.clasp.partner ∧ (newCaps s).clasp.partnerPatina = s.clasp.partnerPatina ∧
    (newCaps s).clasp.phase = s.clasp.phase ∧ (newCaps s).clasp.role = s.clasp.role ∧
    (newCaps s).clasp.transition = s.clasp.transition ∧ (newCaps s).clasp.settled = s.clasp.settled ∧
    (newCaps s).clasp.vr = s.clasp.vr ∧ (newCaps s).clasp.vSafe = s.clasp.vSafe := by
  unfold newCaps
  split <;> exact ⟨rfl, rfl, rfl, rfl, rfl, rfl, rfl, rfl⟩

/-- A REQUEST formed keeps the roles, the partner, the transition and V_r. -/
theorem askContract_keeps (s : State) :
    (askContract s).clasp.partner = s.clasp.partner ∧ (askContract s).clasp.partnerPatina = s.clasp.partnerPatina ∧
    (askContract s).clasp.phase = s.clasp.phase ∧ (askContract s).clasp.role = s.clasp.role ∧
    (askContract s).clasp.transition = s.clasp.transition ∧ (askContract s).clasp.settled = s.clasp.settled ∧
    (askContract s).clasp.vr = s.clasp.vr ∧ (askContract s).clasp.vSafe = s.clasp.vSafe := by
  unfold askContract sendRequest
  dsimp only
  repeat' split
  all_goals exact ⟨rfl, rfl, rfl, rfl, rfl, rfl, rfl, rfl⟩

/-- A DISCOVER_IDENTITY keeps the roles and the partner. -/
theorem askIdentity_keeps (s : State) :
    (askIdentity s).clasp.partner = s.clasp.partner ∧ (askIdentity s).clasp.partnerPatina = s.clasp.partnerPatina ∧
    (askIdentity s).clasp.phase = s.clasp.phase ∧ (askIdentity s).clasp.role = s.clasp.role := by
  unfold askIdentity
  split <;> exact ⟨rfl, rfl, rfl, rfl⟩

/-! ### Transitions -/

theorem beginTransition_keeps (k : Contract) (old : Option Contract) (closing : Bool) (v : Int) (s : State) :
    (beginTransition k old closing v s).clasp.phase = s.clasp.phase ∧
    (beginTransition k old closing v s).clasp.role = s.clasp.role ∧
    (beginTransition k old closing v s).clasp.partnerLinkP = s.clasp.partnerLinkP ∧
    (beginTransition k old closing v s).clasp.partnerPatina = s.clasp.partnerPatina ∧
    (beginTransition k old closing v s).clasp.partnerFlags = s.clasp.partnerFlags ∧
    (beginTransition k old closing v s).clasp.partnerClosed = s.clasp.partnerClosed := by
  unfold beginTransition
  rw [tellStatus_onlySends]
  exact ⟨rfl, rfl, rfl, rfl, rfl, rfl⟩

/-- SETTLED ends the transition at V_c. -/
theorem completeTransition_settles {s : State} {x : Transition} {k : Contract} (h : s.clasp.transition = some x)
    (h' : s.clasp.contract = some k) :
    (completeTransition s).clasp.transition = none ∧ (completeTransition s).clasp.settled = true ∧
    (completeTransition s).clasp.vr = k.vc ∧ (completeTransition s).clasp.vSafe = k.vc := by
  have after : ∀ v : State, v.clasp.transition = none → v.clasp.settled = true → v.clasp.vr = k.vc → v.clasp.vSafe = k.vc →
      (afterBusy v).clasp.transition = none ∧ (afterBusy v).clasp.settled = true ∧ (afterBusy v).clasp.vr = k.vc ∧
      (afterBusy v).clasp.vSafe = k.vc := by
    intro v h1 h2 h3 h4
    have caps : ∀ u : State, (newCaps u).clasp.transition = u.clasp.transition ∧ (newCaps u).clasp.settled = u.clasp.settled ∧
        (newCaps u).clasp.vr = u.clasp.vr ∧ (newCaps u).clasp.vSafe = u.clasp.vSafe := fun u => (newCaps_keeps u).2.2.2.2
    have asks : ∀ u : State, (askContract u).clasp.transition = u.clasp.transition ∧
        (askContract u).clasp.settled = u.clasp.settled ∧ (askContract u).clasp.vr = u.clasp.vr ∧
        (askContract u).clasp.vSafe = u.clasp.vSafe := fun u => (askContract_keeps u).2.2.2.2
    unfold afterBusy
    dsimp only
    split <;> split <;> simp [caps, asks, h1, h2, h3, h4]
  unfold completeTransition
  rw [h, h']
  dsimp only
  have ev : ∀ c l (u : State), (event c l u).clasp = u.clasp := fun c l u => by rw [event_onlyRecords c l u]
  refine after _ ?_ ?_ ?_ ?_ <;> rw [tellStatus_onlySends] <;> dsimp only <;> split <;> rw [ev] <;> split <;> rfl

/-- A transition abandoned is over, and requests stand. -/
theorem abandonTransition_keeps (s : State) :
    (abandonTransition s).clasp.transition = none ∧ (abandonTransition s).clasp.asked = s.clasp.asked ∧
    (abandonTransition s).clasp.modeAsked = s.clasp.modeAsked ∧ (abandonTransition s).clasp.swapAsked = s.clasp.swapAsked ∧
    (abandonTransition s).clasp.phase = s.clasp.phase := by
  unfold abandonTransition
  split
  · simp [*]
  · rw [tellStatus_onlySends]; exact ⟨rfl, rfl, rfl, rfl, rfl⟩

/-! ### Pending requests dropped, and the end -/

@[simp] theorem finishCommand_clasp (object status detail : Nat) (s : State) :
    (finishCommand object status detail s).clasp = s.clasp := by rw [finishCommand_onlyHost object status detail s]

theorem denySwap_is (s : State) : ∃ h, denySwap s = { s with
    host := h, clasp := { s.clasp with swapAsked := false, swapByHost := false } } := by
  unfold denySwap
  dsimp only
  split
  · exact ⟨_, by rw [finishCommand_onlyHost 0x0E11 stDenied 0 s]; rfl⟩
  · exact ⟨s.host, rfl⟩

theorem denyMode_is (s : State) : ∃ h, denyMode s = { s with
    host := h, clasp := { s.clasp with modeAsked := none, modeByHost := false } } := by
  unfold denyMode
  dsimp only
  split
  · exact ⟨_, by rw [finishCommand_onlyHost 0x0E12 stDenied 0 s]; rfl⟩
  · exact ⟨s.host, rfl⟩

/-- Dropping what is pending touches Clasp's requests and the host ports alone. -/
theorem dropPending_is (s : State) : ∃ h, dropPending s = { s with
    host := h
    clasp := { s.clasp with
      modeAsked := none, modeByHost := false, swapAsked := false, swapByHost := false, asked := none, askOwed := false
      outbox := s.clasp.outbox.filter (fun m => !isAsk m) } } := by
  obtain ⟨h1, e1⟩ := denySwap_is s
  obtain ⟨h2, e2⟩ := denyMode_is (denySwap s)
  refine ⟨h2, ?_⟩
  unfold dropPending
  dsimp only
  rw [e2, e1]
  rfl

/-- RESYNC at either end (R312). -/
theorem resyncActs_clears (s : State) :
    (resyncActs s).clasp.nextCount = 0 ∧ (resyncActs s).clasp.lastAccepted = none ∧ (resyncActs s).clasp.asked = none ∧
    (resyncActs s).clasp.modeAsked = none ∧ (resyncActs s).clasp.swapAsked = false ∧
    (resyncActs s).clasp.transition = none ∧ (resyncActs s).clasp.phase = s.clasp.phase := by
  obtain ⟨h1, h2, h3, h4, h5⟩ := abandonTransition_keeps (dropPending s)
  obtain ⟨h, d⟩ := dropPending_is s
  refine ⟨rfl, rfl, h2.trans ?_, h3.trans ?_, h4.trans ?_, h1, h5.trans ?_⟩ <;> rw [d]

/-- A coupling in CLOSING or CONTRACT goes to ENDING, its agreements on their ramp (R333, R336). -/
theorem endCoupling_ends (cause : Nat) (lock blocked : Bool) {u : State}
    (h : u.clasp.phase = .closing ∨ u.clasp.phase = .contract) :
    (endCoupling cause lock blocked u).clasp.phase = .ending ∧ (endCoupling cause lock blocked u).clasp.transition = none ∧
    (endCoupling cause lock blocked u).clasp.ending = some {
      cause := cause, startAt := u.now, lock := lock || u.clasp.phase == .closing, blocked := blocked } ∧
    (endCoupling cause lock blocked u).clasp.ramp = some {
      startAt := rackTime u, duration := coEndRamp (secs u) * msTicks
      imp := u.clasp.agreedImport, exp := u.clasp.agreedExport, base := u.clasp.base } := by
  unfold endCoupling
  dsimp only
  obtain ⟨x, d⟩ := dropPending_is u
  rw [if_pos h, d]
  rw [tellStatus_onlySends]; exact ⟨rfl, rfl, rfl, rfl⟩

end Sys2Proof.Machine
end

