-- ==== Sys2Proof/Laws/Memory.lean ====
section
/-! SUPPORT. The laws of the flash devices: what a write, a program and an erase leave to be read, and that each keeps
the canonical form. -/

namespace Sys2Proof.Machine

/-- The canonical form, said of the whole list at once. -/
theorem flashWf_iff (m : Flash) :
    flashWf m = true ↔ m.Pairwise (fun x y => x.1 < y.1) ∧ ∀ c ∈ m, c.2 ≠ erased := by
  induction m with
  | nil => simp [flashWf]
  | cons a rest ih =>
    cases rest with
    | nil => simp [flashWf]
    | cons b rest =>
      simp only [flashWf, Bool.and_eq_true, decide_eq_true_eq, bne_iff_ne, ih, List.pairwise_cons, List.mem_cons,
        forall_eq_or_imp]
      constructor
      · rintro ⟨⟨hab, ha⟩, ⟨hb, hr⟩, hbe, hre⟩
        exact ⟨⟨⟨hab, fun c hc => Nat.lt_trans hab (hb c hc)⟩, hb, hr⟩, ha, hbe, hre⟩
      · rintro ⟨⟨⟨hab, -⟩, hb, hr⟩, ha, hbe, hre⟩
        exact ⟨⟨hab, ha⟩, ⟨hb, hr⟩, hbe, hre⟩

/-- A written byte adds no address but its own. -/
theorem mem_flashPut {m : Flash} {a : Nat} {v : Byte} {c : Host.Cell} (h : c ∈ flashPut m a v) :
    c ∈ m ∨ c = (a, v) ∧ v ≠ erased := by
  induction m with
  | nil =>
    simp only [flashPut] at h
    split at h <;> simp_all
  | cons x rest ih =>
    obtain ⟨j, w⟩ := x
    simp only [flashPut] at h
    split at h
    · split at h
      · exact .inl h
      · simp_all only [List.mem_cons]
        tauto
    · split at h
      · split at h
        · exact .inl (List.mem_cons_of_mem _ h)
        · simp_all only [List.mem_cons]
          tauto
      · simp only [List.mem_cons] at h ⊢
        rcases h with h | h
        · exact .inl (.inl h)
        · exact (ih h).imp_left .inr

/-- A byte written keeps the canonical form. -/
theorem flashPut_wf {m : Flash} {a : Nat} {v : Byte} (h : flashWf m = true) : flashWf (flashPut m a v) = true := by
  rw [flashWf_iff] at h ⊢
  refine ⟨?_, fun c hc => ?_⟩
  · induction m with
    | nil => simp only [flashPut]; split <;> simp
    | cons x rest ih =>
      obtain ⟨j, w⟩ := x
      obtain ⟨hp, he⟩ := h
      have hpr := List.pairwise_cons.mp hp
      simp only [flashPut]
      split
      · split
        · exact hp
        · rename_i hlt _
          refine List.pairwise_cons.mpr ⟨fun c hc => ?_, hp⟩
          rcases List.mem_cons.mp hc with rfl | hc
          · exact hlt
          · exact Nat.lt_trans hlt (hpr.1 c hc)
      · split
        · rename_i _ heq
          split
          · exact hpr.2
          · exact List.pairwise_cons.mpr ⟨fun c hc => heq ▸ hpr.1 c hc, hpr.2⟩
        · rename_i hlt hne
          refine List.pairwise_cons.mpr ⟨fun c hc => ?_, ih ⟨hpr.2, fun c hc => he c (List.mem_cons_of_mem _ hc)⟩⟩
          rcases mem_flashPut hc with hc | ⟨rfl, -⟩
          · exact hpr.1 c hc
          · simp only; omega
  · rcases mem_flashPut hc with hc | ⟨rfl, hv⟩
    · exact h.2 c hc
    · exact hv

/-- A program keeps the canonical form. -/
theorem flashProgram_wf {m : Flash} (a : Nat) (b : Bytes) (h : flashWf m = true) :
    flashWf (flashProgram m a b) = true := by
  induction b generalizing m a with
  | nil => exact h
  | cons x b ih => exact ih (a + 1) (flashPut_wf h)

/-- An erase keeps the canonical form. -/
theorem flashErase_wf {m : Flash} (a n : Nat) (h : flashWf m = true) : flashWf (flashErase m a n) = true := by
  rw [flashWf_iff] at h ⊢
  exact ⟨h.1.filter _, fun c hc => h.2 c (List.mem_filter.mp hc).1⟩

/-- Addresses below every cell read erased. -/
theorem flashByte_below {m : Flash} {a : Nat} (h : ∀ c ∈ m, a < c.1) : flashByte m a = erased := by
  induction m with
  | nil => rfl
  | cons x rest ih =>
    have := h x (List.mem_cons_self ..)
    simp only [flashByte]
    rw [if_neg (by omega)]
    exact ih fun c hc => h c (List.mem_cons_of_mem _ hc)

/-- A written byte reads back, and every other address reads as before. -/
theorem flashByte_put {m : Flash} (h : flashWf m = true) (a : Nat) (v : Byte) (x : Nat) :
    flashByte (flashPut m a v) x = if x = a then v else flashByte m x := by
  rw [flashWf_iff] at h
  induction m with
  | nil =>
    simp only [flashPut]
    split <;> simp only [flashByte] <;> split <;> simp_all
  | cons c rest ih =>
    obtain ⟨j, w⟩ := c
    obtain ⟨hp, he⟩ := h
    have hpr := List.pairwise_cons.mp hp
    have ih := ih ⟨hpr.2, fun c hc => he c (List.mem_cons_of_mem _ hc)⟩
    simp only [flashPut]
    split
    · rename_i hlt
      have hb : flashByte ((j, w) :: rest) a = erased :=
        flashByte_below fun c hc => by
          rcases List.mem_cons.mp hc with rfl | hc
          · exact hlt
          · exact Nat.lt_trans hlt (hpr.1 c hc)
      split
      · by_cases hx : x = a
        · simp_all
        · simp [hx]
      · by_cases hx : x = a <;> simp [flashByte, hx]
    · split
      · rename_i _ heq
        subst heq
        have hb : flashByte rest a = erased := flashByte_below fun c hc => hpr.1 c hc
        split <;> by_cases hx : x = a <;> simp_all [flashByte]
      · rename_i hlt hne
        simp only [flashByte, ih]
        by_cases hx : x = a <;> by_cases hj : x = j <;> simp_all

/-- Programming leaves every address outside its range as it was. -/
theorem flashByte_program_outside {m : Flash} (h : flashWf m = true) (a : Nat) (b : Bytes) (x : Nat)
    (hx : x < a ∨ a + b.length ≤ x) : flashByte (flashProgram m a b) x = flashByte m x := by
  induction b generalizing m a with
  | nil => rfl
  | cons v b ih =>
    simp only [List.length_cons] at hx
    have := ih (flashPut_wf (a := a) (v := flashByte m a &&& v) h) (a + 1) (by omega)
    simp only [flashProgram, this, flashByte_put h]
    rw [if_neg (by omega)]

/-- An erase leaves the range erased and every other address as it was. -/
theorem flashByte_erase (m : Flash) (a n x : Nat) :
    flashByte (flashErase m a n) x = if a ≤ x ∧ x < a + n then erased else flashByte m x := by
  induction m with
  | nil => simp [flashErase, flashByte]
  | cons c rest ih =>
    obtain ⟨j, w⟩ := c
    simp only [flashErase, List.filter_cons] at ih ⊢
    split
    · rename_i hk
      simp only [Bool.not_eq_true', Bool.and_eq_false_iff, decide_eq_false_iff_not] at hk
      simp only [flashByte, ih]
      by_cases hj : x = j
      · subst hj; simp; omega
      · simp [hj]
    · rename_i hk
      simp only [Bool.not_eq_true', Bool.and_eq_false_iff, decide_eq_false_iff_not, not_or, not_not] at hk
      simp only [ih, flashByte]
      by_cases hj : x = j
      · subst hj; simp [hk]
      · simp [hj]

end Sys2Proof.Machine
end

