-- ==== Sys2Proof/Laws/Onward.lean ====
section
/-! SUPPORT. What every act of the block keeps, said once: the queue and the clock stay, programmed fuse bits stay
programmed, and the flash devices stay in canonical form. The other files of this family say it of every shared operation
and of every command. -/

namespace Sys2Proof.Machine

/-- Every bit of `a` is one of `b`. -/
def bitsIn (a b : Nat) : Prop := ∀ i, a.testBit i = true → b.testBit i = true

/-- `t` may follow `s` within one command. -/
structure Onward (s t : State) : Prop where
  pending : t.pending = s.pending
  now : t.now = s.now
  fuses : bitsIn s.benra.fuses t.benra.fuses
  cs0 : flashWf s.cs0 = true → flashWf t.cs0 = true
  cs1 : flashWf s.cs1 = true → flashWf t.cs1 = true

theorem Onward.refl (s : State) : Onward s s := ⟨rfl, rfl, fun _ h => h, id, id⟩

theorem Onward.trans {s t u : State} (h : Onward s t) (k : Onward t u) : Onward s u :=
  ⟨k.pending.trans h.pending, k.now.trans h.now, fun i x => k.fuses i (h.fuses i x), fun x => k.cs0 (h.cs0 x),
    fun x => k.cs1 (h.cs1 x)⟩

/-- A record update that leaves the queue, the clock, the fuses and both flashes alone. -/
theorem Onward.mk' {s t : State} {pending now epoch ledger mode under phase plinth pins armature loader benra host vitrine
    collector tap cs0 cs1 ports tiles pave loops modul balance maq seq clasp freeIx}
    (h : Onward s t) (hp : pending = t.pending) (hn : now = t.now) (hf : benra.fuses = t.benra.fuses)
    (h0 : cs0 = t.cs0) (h1 : cs1 = t.cs1) :
    Onward s (State.mk pending now epoch ledger mode under phase plinth pins armature loader benra host vitrine
      collector tap cs0 cs1 ports tiles pave loops modul balance maq seq clasp freeIx) := by
  subst hp hn h0 h1
  exact ⟨h.pending, h.now, hf ▸ h.fuses, h.cs0, h.cs1⟩

/-- A record update that writes the recorder flash, in canonical form. -/
theorem Onward.mk1 {s t : State} {pending now epoch ledger mode under phase plinth pins armature loader benra host vitrine
    collector tap cs0 cs1 ports tiles pave loops modul balance maq seq clasp freeIx}
    (h : Onward s t) (hp : pending = t.pending) (hn : now = t.now) (hf : benra.fuses = t.benra.fuses)
    (h0 : cs0 = t.cs0) (h1 : flashWf t.cs1 = true → flashWf cs1 = true) :
    Onward s (State.mk pending now epoch ledger mode under phase plinth pins armature loader benra host vitrine
      collector tap cs0 cs1 ports tiles pave loops modul balance maq seq clasp freeIx) := by
  subst hp hn h0
  exact ⟨h.pending, h.now, hf ▸ h.fuses, h.cs0, fun k => h1 (h.cs1 k)⟩

/-- A record update that writes the configuration flash, in canonical form. -/
theorem Onward.mk0 {s t : State} {pending now epoch ledger mode under phase plinth pins armature loader benra host vitrine
    collector tap cs0 cs1 ports tiles pave loops modul balance maq seq clasp freeIx}
    (h : Onward s t) (hp : pending = t.pending) (hn : now = t.now) (hf : benra.fuses = t.benra.fuses)
    (h0 : flashWf t.cs0 = true → flashWf cs0 = true) (h1 : cs1 = t.cs1) :
    Onward s (State.mk pending now epoch ledger mode under phase plinth pins armature loader benra host vitrine
      collector tap cs0 cs1 ports tiles pave loops modul balance maq seq clasp freeIx) := by
  subst hp hn h1
  exact ⟨h.pending, h.now, hf ▸ h.fuses, fun k => h0 (h.cs0 k), h.cs1⟩

/-- A record update that programs fuse bits. -/
theorem Onward.mkFuse {s t : State} {pending now epoch ledger mode under phase plinth pins armature loader benra host vitrine
    collector tap cs0 cs1 ports tiles pave loops modul balance maq seq clasp freeIx}
    (h : Onward s t) (hp : pending = t.pending) (hn : now = t.now) (hf : bitsIn t.benra.fuses benra.fuses)
    (h0 : cs0 = t.cs0) (h1 : cs1 = t.cs1) :
    Onward s (State.mk pending now epoch ledger mode under phase plinth pins armature loader benra host vitrine
      collector tap cs0 cs1 ports tiles pave loops modul balance maq seq clasp freeIx) := by
  subst hp hn h0 h1
  exact ⟨h.pending, h.now, fun i k => hf i (h.fuses i k), h.cs0, h.cs1⟩

theorem Onward.ite {s a b : State} {c : Prop} [Decidable c] (ha : Onward s a) (hb : Onward s b) :
    Onward s (if c then a else b) := by split <;> assumption

theorem Onward.foldl {α : Type} {s t : State} {f : State → α → State} (l : List α) (h : Onward s t)
    (hf : ∀ u x, Onward s u → Onward s (f u x)) : Onward s (l.foldl f t) := by
  induction l generalizing t with
  | nil => exact h
  | cons x l ih => exact ih (hf t x h)

/-- An outcome is a next state that may follow `s`. -/
def Lands (s : State) (o : Out) : Prop := Reaches o (Onward s)

theorem Lands.next {s t : State} (h : Onward s t) : Lands s (.next t) := ⟨t, rfl, h⟩

theorem Lands.ite {s : State} {a b : Out} {c : Prop} [Decidable c] (ha : Lands s a) (hb : Lands s b) :
    Lands s (if c then a else b) := by split <;> assumption

end Sys2Proof.Machine
end

