-- ==== Sys2Proof/Laws/OnwardOps.lean ====
section
/-! SUPPORT. What the acts of Ops keep (Laws/Onward). -/

namespace Sys2Proof.Machine

/-- Time never runs back, and counts nothing else but operating seconds. -/
theorem advance_now {s w : State} (h : Onward w s) : Onward w (advance s.now s) := by
  unfold advance
  split <;> exact Onward.mk' h rfl (by simp) rfl rfl rfl

theorem drawFree_onward  {s w : State} (h : Onward w s) :
    Onward w (drawFree s).2 := by
  unfold drawFree
  repeat' (first
    | with_reducible assumption
    | fail_if_no_progress (with_reducible refine Onward.mk' ?_ rfl rfl rfl rfl rfl))

theorem setCause_onward (i : Nat) {s w : State} (h : Onward w s) :
    Onward w (setCause i s) := by
  unfold setCause
  repeat' (first
    | with_reducible assumption
    | with_reducible apply Onward.ite
    | fail_if_no_progress (with_reducible refine Onward.mk' ?_ rfl rfl rfl rfl rfl))

theorem setMode_onward (m : Mode) {s w : State} (h : Onward w s) :
    Onward w (setMode m s) := by
  unfold setMode
  repeat' (first
    | with_reducible assumption
    | with_reducible apply setCause_onward
    | with_reducible apply Onward.ite
    | fail_if_no_progress (with_reducible refine Onward.mk' ?_ rfl rfl rfl rfl rfl))

theorem pushRecord_onward (code : Nat) (sev : Nat) (payload : Bytes) {s w : State} (h : Onward w s) :
    Onward w (pushRecord code sev payload s) := by
  unfold pushRecord
  repeat' (first
    | with_reducible assumption
    | with_reducible apply Onward.ite
    | fail_if_no_progress (with_reducible refine Onward.mk' ?_ rfl rfl rfl rfl rfl))

theorem pushOwn_onward (code : Nat) (payload : Bytes) {s w : State} (h : Onward w s) :
    Onward w (pushOwn code payload s) := by
  unfold pushOwn
  repeat' (first
    | with_reducible assumption
    | with_reducible apply pushRecord_onward
    | with_reducible apply setCause_onward
    | with_reducible apply Onward.ite)

theorem tellDrops_onward  {s w : State} (h : Onward w s) :
    Onward w (tellDrops s) := by
  unfold tellDrops
  repeat' (first
    | with_reducible assumption
    | with_reducible apply pushOwn_onward
    | with_reducible apply Onward.ite
    | fail_if_no_progress (with_reducible refine Onward.mk' ?_ rfl rfl rfl rfl rfl))

theorem stageRecord_onward (code : Nat) (scope : Nat) (payload : Bytes) {s w : State} (h : Onward w s) :
    Onward w (stageRecord code scope payload s) := by
  unfold stageRecord
  repeat' (first
    | with_reducible assumption
    | with_reducible apply pushRecord_onward
    | with_reducible apply pushOwn_onward
    | with_reducible apply setCause_onward
    | with_reducible apply tellDrops_onward
    | with_reducible apply Onward.ite
    | fail_if_no_progress (with_reducible refine Onward.mk' ?_ rfl rfl rfl rfl rfl)
    | split)

theorem event_onward (code : Nat) (l : List Nat) {s w : State} (h : Onward w s) :
    Onward w (event code l s) := by
  unfold event
  repeat' (first
    | with_reducible assumption
    | with_reducible apply stageRecord_onward)

theorem State.setPort_onward (p : Nat) (a1 : TPort) {s w : State} (h : Onward w s) :
    Onward w (State.setPort s p a1) := by
  unfold State.setPort
  repeat' (first
    | with_reducible assumption
    | fail_if_no_progress (with_reducible refine Onward.mk' ?_ rfl rfl rfl rfl rfl))

theorem State.setTile_onward (i : Nat) (a1 : Tile) {s w : State} (h : Onward w s) :
    Onward w (State.setTile s i a1) := by
  unfold State.setTile
  repeat' (first
    | with_reducible assumption
    | fail_if_no_progress (with_reducible refine Onward.mk' ?_ rfl rfl rfl rfl rfl))

theorem State.setCtx_onward (c : Nat) (a1 : Ctx) {s w : State} (h : Onward w s) :
    Onward w (State.setCtx s c a1) := by
  unfold State.setCtx
  repeat' (first
    | with_reducible assumption
    | fail_if_no_progress (with_reducible refine Onward.mk' ?_ rfl rfl rfl rfl rfl))

theorem State.setEngine_onward (k : Nat) (a1 : Engine) {s w : State} (h : Onward w s) :
    Onward w (State.setEngine s k a1) := by
  unfold State.setEngine
  repeat' (first
    | with_reducible assumption
    | fail_if_no_progress (with_reducible refine Onward.mk' ?_ rfl rfl rfl rfl rfl))

theorem State.setStage_onward (g : Nat) (a1 : Stage) {s w : State} (h : Onward w s) :
    Onward w (State.setStage s g a1) := by
  unfold State.setStage
  repeat' (first
    | with_reducible assumption
    | fail_if_no_progress (with_reducible refine Onward.mk' ?_ rfl rfl rfl rfl rfl))

theorem State.setPh_onward (p : Nat) (a1 : Phase) {s w : State} (h : Onward w s) :
    Onward w (State.setPh s p a1) := by
  unfold State.setPh
  repeat' (first
    | with_reducible assumption
    | fail_if_no_progress (with_reducible refine Onward.mk' ?_ rfl rfl rfl rfl rfl))

theorem State.setSense_onward (p : Nat) (a1 : PhaseSense) {s w : State} (h : Onward w s) :
    Onward w (State.setSense s p a1) := by
  unfold State.setSense
  repeat' (first
    | with_reducible assumption
    | fail_if_no_progress (with_reducible refine Onward.mk' ?_ rfl rfl rfl rfl rfl))

theorem State.setBank_onward (a1 : Nat) (a2 : Bank) {s w : State} (h : Onward w s) :
    Onward w (State.setBank s a1 a2) := by
  unfold State.setBank
  repeat' (first
    | with_reducible assumption
    | fail_if_no_progress (with_reducible refine Onward.mk' ?_ rfl rfl rfl rfl rfl))

theorem State.setHport_onward (p : Nat) (a1 : HPort) {s w : State} (h : Onward w s) :
    Onward w (State.setHport s p a1) := by
  unfold State.setHport
  repeat' (first
    | with_reducible assumption
    | fail_if_no_progress (with_reducible refine Onward.mk' ?_ rfl rfl rfl rfl rfl))

theorem State.setSetIn_onward (k : Nat) (a1 : SetIn) {s w : State} (h : Onward w s) :
    Onward w (State.setSetIn s k a1) := by
  unfold State.setSetIn
  repeat' (first
    | with_reducible assumption
    | fail_if_no_progress (with_reducible refine Onward.mk' ?_ rfl rfl rfl rfl rfl))

theorem State.setStr_onward (a1 : Nat) (a2 : StringM) {s w : State} (h : Onward w s) :
    Onward w (State.setStr s a1 a2) := by
  unfold State.setStr
  repeat' (first
    | with_reducible assumption
    | fail_if_no_progress (with_reducible refine Onward.mk' ?_ rfl rfl rfl rfl rfl))

theorem State.setInput_onward (code : Nat) (scope : Nat) (a1 : FaultIn) {s w : State} (h : Onward w s) :
    Onward w (State.setInput s code scope a1) := by
  unfold State.setInput
  repeat' (first
    | with_reducible assumption
    | fail_if_no_progress (with_reducible refine Onward.mk' ?_ rfl rfl rfl rfl rfl))

theorem finishCommand_onward (object : Nat) (status : Nat) (detail : Nat) {s w : State} (h : Onward w s) :
    Onward w (finishCommand object status detail s) := by
  unfold finishCommand
  repeat' (first
    | with_reducible assumption
    | with_reducible apply setCause_onward
    | with_reducible apply State.setHport_onward
    | fail_if_no_progress (with_reducible refine Onward.mk' ?_ rfl rfl rfl rfl rfl)
    | split)

end Sys2Proof.Machine
end

