-- ==== Sys2Proof/Laws/OnwardHostAnswer.lean ====
section
/-! SUPPORT. What the acts of HostAnswer keep (Laws/Onward). -/

namespace Sys2Proof.Machine

theorem queueFrames_onward (k : Nat) (fs : List CanFrame) {s w : State} (h : Onward w s) :
    Onward w (queueFrames k fs s) := by
  unfold queueFrames
  repeat' (first
    | with_reducible assumption
    | with_reducible apply State.setHport_onward)

theorem queueResponse_onward (k : Nat) (r : Response) {s w : State} (h : Onward w s) :
    Onward w (queueResponse k r s) := by
  unfold queueResponse
  repeat' (first
    | with_reducible assumption
    | with_reducible apply queueFrames_onward)

theorem respond_onward (port : HostPort) (r : Response) {s w : State} (h : Onward w s) :
    Onward w (respond port r s) := by
  unfold respond
  repeat' (first
    | with_reducible assumption
    | with_reducible apply queueResponse_onward
    | with_reducible apply State.setHport_onward
    | with_reducible apply Onward.ite
    | fail_if_no_progress (with_reducible refine Onward.mk' ?_ rfl rfl rfl rfl rfl))

theorem discardRequest_onward (port : HostPort) {s w : State} (h : Onward w s) :
    Onward w (discardRequest port s) := by
  unfold discardRequest
  repeat' (first
    | with_reducible assumption
    | with_reducible apply queueResponse_onward
    | with_reducible apply State.setHport_onward
    | with_reducible apply Onward.ite
    | fail_if_no_progress (with_reducible refine Onward.mk' ?_ rfl rfl rfl rfl rfl))

theorem answerBy_onward (keys : Tab Bytes) (r : Request) (withMac : Bool) (status : Nat) (data : Bytes) {s w : State} (h : Onward w s) :
    Onward w (answerBy keys r withMac status data s) := by
  unfold answerBy
  repeat' (first
    | with_reducible assumption
    | with_reducible apply respond_onward)

theorem answer_onward (r : Request) (withMac : Bool) (status : Nat) (data : Bytes) {s w : State} (h : Onward w s) :
    Onward w (answer r withMac status data s) := by
  unfold answer
  repeat' (first
    | with_reducible assumption
    | with_reducible apply answerBy_onward)

end Sys2Proof.Machine
end

