-- ==== Sys2Proof/Laws/OnwardRandom.lean ====
section
/-! SUPPORT. What the acts of Random keep (Laws/Onward). -/

namespace Sys2Proof.Machine

theorem drbg_onward  {s w : State} (h : Onward w s) :
    Onward w (drbg s).2 := by
  unfold drbg
  repeat' (first
    | with_reducible assumption
    | fail_if_no_progress (with_reducible refine Onward.mk' ?_ rfl rfl rfl rfl rfl))

theorem seedDrbg_onward (raw : Bytes) {s w : State} (h : Onward w s) :
    Onward w (seedDrbg raw s) := by
  unfold seedDrbg
  repeat' (first
    | with_reducible assumption
    | fail_if_no_progress (with_reducible refine Onward.mk' ?_ rfl rfl rfl rfl rfl))

theorem reseedDrbg_onward (raw : Bytes) {s w : State} (h : Onward w s) :
    Onward w (reseedDrbg raw s) := by
  unfold reseedDrbg
  repeat' (first
    | with_reducible assumption
    | fail_if_no_progress (with_reducible refine Onward.mk' ?_ rfl rfl rfl rfl rfl))

end Sys2Proof.Machine
end

