-- ==== Sys2Proof/Laws/OnwardLinkOps.lean ====
section
/-! SUPPORT. What the acts of LinkOps keep (Laws/Onward). -/

namespace Sys2Proof.Machine

theorem queueSvc_onward (p : Nat) (op : Nat) (addr : Nat) (data : Nat) {s w : State} (h : Onward w s) :
    Onward w (queueSvc p op addr data s) := by
  unfold queueSvc
  repeat' (first
    | with_reducible assumption
    | with_reducible apply State.setPort_onward)

theorem startTraining_onward (p : Nat) {s w : State} (h : Onward w s) :
    Onward w (startTraining p s) := by
  unfold startTraining
  repeat' (first
    | with_reducible assumption
    | with_reducible apply State.setPort_onward
    | with_reducible apply Onward.ite)

theorem retrainPort_onward (p : Nat) {s w : State} (h : Onward w s) :
    Onward w (retrainPort p s) := by
  unfold retrainPort
  repeat' (first
    | with_reducible assumption
    | with_reducible apply startTraining_onward
    | with_reducible apply State.setPort_onward
    | with_reducible apply Onward.ite)

theorem startClear_onward (p : Nat) {s w : State} (h : Onward w s) :
    Onward w (startClear p s) := by
  unfold startClear
  repeat' (first
    | with_reducible assumption
    | with_reducible apply queueSvc_onward
    | with_reducible apply State.setPort_onward
    | with_reducible apply Onward.ite)

theorem numberEdges_onward (entry : Bytes) (l : Nat) (es : List Edge) {s w : State} (h : Onward w s) :
    Onward w (numberEdges entry l es s).2 := by
  induction es generalizing s with
  | nil => exact h
  | cons e rest ih =>
    unfold numberEdges
    split
    · exact ih (State.setPh_onward _ _ h)
    · exact ih h

theorem buildFrame_onward (f : Nat) (p : Nat) {s w : State} (h : Onward w s) :
    Onward w (buildFrame f p s) := by
  unfold buildFrame
  repeat' (first
    | with_reducible assumption
    | with_reducible apply numberEdges_onward
    | with_reducible apply State.setPort_onward
    | with_reducible apply Onward.ite
    | fail_if_no_progress (with_reducible refine Onward.mk' ?_ rfl rfl rfl rfl rfl)
    | split
    | dsimp only)

end Sys2Proof.Machine
end

