-- ==== Sys2Proof/Laws/OnwardStageBase.lean ====
section
/-! SUPPORT. What the acts of StageBase keep (Laws/Onward). -/

namespace Sys2Proof.Machine

theorem pushEdge_onward (p : Nat) (kind : Nat) (rise : Nat) (fall : Nat) (dtLead : Nat) (dtTrail : Nat) (lsEn : Bool) {s w : State} (h : Onward w s) :
    Onward w (pushEdge p kind rise fall dtLead dtTrail lsEn s) := by
  unfold pushEdge
  repeat' (first
    | with_reducible assumption
    | with_reducible apply State.setPort_onward
    | with_reducible apply State.setPh_onward
    | split)

theorem pushOff_onward (p : Nat) (rise : Nat) {s w : State} (h : Onward w s) :
    Onward w (pushOff p rise s) := by
  unfold pushOff
  repeat' (first
    | with_reducible assumption
    | with_reducible apply pushEdge_onward
    | with_reducible apply State.setPh_onward)

end Sys2Proof.Machine
end

