-- ==== Sys2Proof/Laws/OnwardSeqBase.lean ====
section
/-! SUPPORT. What the acts of SeqBase keep (Laws/Onward). -/

namespace Sys2Proof.Machine

theorem State.setKa_onward (k : Nat) (a1 : KeepAlive) {s w : State} (h : Onward w s) :
    Onward w (State.setKa s k a1) := by
  unfold State.setKa
  repeat' (first
    | with_reducible assumption
    | fail_if_no_progress (with_reducible refine Onward.mk' ?_ rfl rfl rfl rfl rfl))

theorem startKa_onward (k : Nat) {s w : State} (h : Onward w s) :
    Onward w (startKa k s) := by
  unfold startKa
  repeat' (first
    | with_reducible assumption
    | with_reducible apply State.setKa_onward
    | with_reducible apply Onward.ite)

theorem stopKa_onward (k : Nat) {s w : State} (h : Onward w s) :
    Onward w (stopKa k s) := by
  unfold stopKa
  repeat' (first
    | with_reducible assumption
    | with_reducible apply State.setKa_onward
    | with_reducible apply Onward.ite)

theorem kaAllLow_onward  {s w : State} (h : Onward w s) :
    Onward w (kaAllLow s) := by
  unfold kaAllLow
  repeat' (first
    | intro _
    | with_reducible assumption
    | with_reducible apply stopKa_onward
    | with_reducible apply Onward.foldl)

theorem refreshKas_onward  {s w : State} (h : Onward w s) :
    Onward w (refreshKas s) := by
  unfold refreshKas
  repeat' (first
    | intro _
    | with_reducible assumption
    | with_reducible apply State.setKa_onward
    | with_reducible apply Onward.foldl
    | with_reducible apply Onward.ite)

theorem State.setRail_onward (r : Nat) (a1 : Rail) {s w : State} (h : Onward w s) :
    Onward w (State.setRail s r a1) := by
  unfold State.setRail
  repeat' (first
    | with_reducible assumption
    | fail_if_no_progress (with_reducible refine Onward.mk' ?_ rfl rfl rfl rfl rfl))

theorem watchRail_onward (r : Nat) {s w : State} (h : Onward w s) :
    Onward w (watchRail r s) := by
  unfold watchRail
  repeat' (first
    | with_reducible assumption
    | with_reducible apply State.setRail_onward
    | with_reducible apply Onward.ite)

theorem watchRails_onward  {s w : State} (h : Onward w s) :
    Onward w (watchRails s) := by
  unfold watchRails
  repeat' (first
    | intro _
    | with_reducible assumption
    | with_reducible apply watchRail_onward
    | with_reducible apply Onward.foldl)

theorem watchRailsOf_onward (sel : Nat) {s w : State} (h : Onward w s) :
    Onward w (watchRailsOf sel s) := by
  unfold watchRailsOf
  repeat' (first
    | intro _
    | with_reducible assumption
    | with_reducible apply watchRail_onward
    | with_reducible apply Onward.foldl)

theorem watchInterlocks_onward (sel : Nat) {s w : State} (h : Onward w s) :
    Onward w (watchInterlocks sel s) := by
  unfold watchInterlocks
  repeat' (first
    | intro _
    | with_reducible assumption
    | with_reducible apply State.setKa_onward
    | with_reducible apply Onward.foldl
    | with_reducible apply Onward.ite)

end Sys2Proof.Machine
end

