-- ==== Sys2Proof/Laws/OnwardClaspBase.lean ====
section
/-! SUPPORT. What the acts of ClaspBase keep (Laws/Onward). -/

namespace Sys2Proof.Machine

theorem State.setClasp_onward (c : Clasp) {s w : State} (h : Onward w s) :
    Onward w (State.setClasp s c) := by
  unfold State.setClasp
  repeat' (first
    | with_reducible assumption
    | fail_if_no_progress (with_reducible refine Onward.mk' ?_ rfl rfl rfl rfl rfl))

theorem claspCount_onward (i : Nat) {s w : State} (h : Onward w s) :
    Onward w (claspCount i s) := by
  unfold claspCount
  repeat' (first
    | with_reducible assumption
    | with_reducible apply State.setClasp_onward)

theorem sendMsg_onward (m : OutMsg) {s w : State} (h : Onward w s) :
    Onward w (sendMsg m s) := by
  unfold sendMsg
  repeat' (first
    | with_reducible assumption
    | with_reducible apply State.setClasp_onward)

theorem send_onward (type : Nat) (payload : Bytes) {s w : State} (h : Onward w s) :
    Onward w (send type payload s) := by
  unfold send
  repeat' (first
    | with_reducible assumption
    | with_reducible apply sendMsg_onward)

theorem sendVdm_onward (cmdType : Nat) (command : Nat) (mode : Nat) (data : Bytes) {s w : State} (h : Onward w s) :
    Onward w (sendVdm cmdType command mode data s) := by
  unfold sendVdm
  repeat' (first
    | with_reducible assumption
    | with_reducible apply send_onward)

theorem sendStatus_onward  {s w : State} (h : Onward w s) :
    Onward w (sendStatus s) := by
  unfold sendStatus
  repeat' (first
    | with_reducible assumption
    | with_reducible apply send_onward
    | with_reducible apply State.setClasp_onward)

theorem tellStatus_onward  {s w : State} (h : Onward w s) :
    Onward w (tellStatus s) := by
  unfold tellStatus
  repeat' (first
    | with_reducible assumption
    | with_reducible apply sendStatus_onward
    | with_reducible apply Onward.ite)

theorem repeatCaps_onward  {s w : State} (h : Onward w s) :
    Onward w (repeatCaps s) := by
  unfold repeatCaps
  repeat' (first
    | with_reducible assumption
    | with_reducible apply send_onward
    | split)

theorem newCaps_onward  {s w : State} (h : Onward w s) :
    Onward w (newCaps s) := by
  unfold newCaps
  repeat' (first
    | with_reducible assumption
    | with_reducible apply send_onward
    | with_reducible apply State.setClasp_onward
    | with_reducible apply Onward.ite)

theorem drawTie_onward  {s w : State} (h : Onward w s) :
    Onward w (drawTie s) := by
  unfold drawTie
  repeat' (first
    | with_reducible assumption
    | with_reducible apply drbg_onward
    | with_reducible apply State.setClasp_onward)

theorem sendRequest_onward  {s w : State} (h : Onward w s) :
    Onward w (sendRequest s) := by
  unfold sendRequest
  repeat' (first
    | with_reducible assumption
    | with_reducible apply send_onward
    | with_reducible apply State.setClasp_onward
    | split
    | dsimp only)

theorem askContract_onward  {s w : State} (h : Onward w s) :
    Onward w (askContract s) := by
  unfold askContract
  repeat' (first
    | with_reducible assumption
    | with_reducible apply sendRequest_onward
    | with_reducible apply State.setClasp_onward
    | with_reducible apply Onward.ite)

theorem denySwap_onward  {s w : State} (h : Onward w s) :
    Onward w (denySwap s) := by
  unfold denySwap
  repeat' (first
    | with_reducible assumption
    | with_reducible apply finishCommand_onward
    | with_reducible apply State.setClasp_onward
    | with_reducible apply Onward.ite)

theorem denyMode_onward  {s w : State} (h : Onward w s) :
    Onward w (denyMode s) := by
  unfold denyMode
  repeat' (first
    | with_reducible assumption
    | with_reducible apply finishCommand_onward
    | with_reducible apply State.setClasp_onward
    | with_reducible apply Onward.ite)

theorem dropPending_onward  {s w : State} (h : Onward w s) :
    Onward w (dropPending s) := by
  unfold dropPending
  repeat' (first
    | with_reducible assumption
    | with_reducible apply denyMode_onward
    | with_reducible apply denySwap_onward
    | with_reducible apply State.setClasp_onward)

theorem sendAnswer_onward (type : Nat) (payload : Bytes) {s w : State} (h : Onward w s) :
    Onward w (sendAnswer type payload s) := by
  unfold sendAnswer
  repeat' (first
    | with_reducible assumption
    | with_reducible apply State.setClasp_onward)

theorem steer_onward (target : Int) (ramp : Nat) {s w : State} (h : Onward w s) :
    Onward w (steer target ramp s) := by
  unfold steer
  repeat' (first
    | with_reducible assumption
    | with_reducible apply State.setClasp_onward)

theorem abandonTransition_onward  {s w : State} (h : Onward w s) :
    Onward w (abandonTransition s) := by
  unfold abandonTransition
  repeat' (first
    | with_reducible assumption
    | with_reducible apply tellStatus_onward
    | with_reducible apply steer_onward
    | with_reducible apply State.setClasp_onward
    | split)

theorem resyncActs_onward  {s w : State} (h : Onward w s) :
    Onward w (resyncActs s) := by
  unfold resyncActs
  repeat' (first
    | with_reducible assumption
    | with_reducible apply abandonTransition_onward
    | with_reducible apply dropPending_onward
    | with_reducible apply State.setClasp_onward)

theorem forgetCoupling_onward  {s w : State} (h : Onward w s) :
    Onward w (forgetCoupling s) := by
  unfold forgetCoupling
  repeat' (first
    | with_reducible assumption
    | with_reducible apply State.setClasp_onward)

theorem forgetPartner_onward  {s w : State} (h : Onward w s) :
    Onward w (forgetPartner s) := by
  unfold forgetPartner
  repeat' (first
    | with_reducible assumption
    | with_reducible apply State.setClasp_onward)

theorem answerHostVdm_onward (status : Nat) {s w : State} (h : Onward w s) :
    Onward w (answerHostVdm status s) := by
  unfold answerHostVdm
  repeat' (first
    | with_reducible assumption
    | with_reducible apply answer_onward
    | with_reducible apply State.setClasp_onward
    | split)

theorem dropHostVdm_onward  {s w : State} (h : Onward w s) :
    Onward w (dropHostVdm s) := by
  unfold dropHostVdm
  repeat' (first
    | with_reducible assumption
    | with_reducible apply answerHostVdm_onward
    | with_reducible apply State.setClasp_onward)

theorem enterClasp_onward (p : ClaspPhase) {s w : State} (h : Onward w s) :
    Onward w (enterClasp p s) := by
  unfold enterClasp
  repeat' (first
    | with_reducible assumption
    | with_reducible apply State.setClasp_onward)

theorem enterDiscover_onward  {s w : State} (h : Onward w s) :
    Onward w (enterDiscover s) := by
  unfold enterDiscover
  repeat' (first
    | with_reducible assumption
    | with_reducible apply enterClasp_onward
    | with_reducible apply forgetCoupling_onward
    | with_reducible apply dropHostVdm_onward
    | with_reducible apply dropPending_onward
    | with_reducible apply newCaps_onward
    | with_reducible apply tellStatus_onward
    | with_reducible apply State.setClasp_onward)

theorem enterCheck_onward  {s w : State} (h : Onward w s) :
    Onward w (enterCheck s) := by
  unfold enterCheck
  repeat' (first
    | with_reducible assumption
    | with_reducible apply enterClasp_onward
    | with_reducible apply State.setClasp_onward)

theorem enterLockout_onward  {s w : State} (h : Onward w s) :
    Onward w (enterLockout s) := by
  unfold enterLockout
  repeat' (first
    | with_reducible assumption
    | with_reducible apply enterClasp_onward
    | with_reducible apply forgetPartner_onward
    | with_reducible apply forgetCoupling_onward
    | with_reducible apply dropHostVdm_onward
    | with_reducible apply dropPending_onward
    | with_reducible apply State.setClasp_onward)

theorem stopCouplingKas_onward  {s w : State} (h : Onward w s) :
    Onward w (stopCouplingKas s) := by
  unfold stopCouplingKas
  repeat' (first
    | with_reducible assumption
    | with_reducible apply stopKa_onward)

theorem rampAway_onward (duration : Nat) {s w : State} (h : Onward w s) :
    Onward w (rampAway duration s) := by
  unfold rampAway
  repeat' (first
    | with_reducible assumption
    | with_reducible apply State.setClasp_onward)

theorem finishEnding_onward  {s w : State} (h : Onward w s) :
    Onward w (finishEnding s) := by
  unfold finishEnding
  repeat' (first
    | with_reducible assumption
    | with_reducible apply stopCouplingKas_onward
    | with_reducible apply event_onward
    | with_reducible apply enterLockout_onward
    | with_reducible apply enterClasp_onward
    | with_reducible apply forgetCoupling_onward
    | with_reducible apply dropHostVdm_onward
    | with_reducible apply dropPending_onward
    | with_reducible apply enterDiscover_onward
    | with_reducible apply State.setClasp_onward
    | with_reducible apply Onward.ite
    | split)

theorem endCoupling_onward (cause : Nat) (lock : Bool) (blocked : Bool) {s w : State} (h : Onward w s) :
    Onward w (endCoupling cause lock blocked s) := by
  unfold endCoupling
  repeat' (first
    | with_reducible assumption
    | with_reducible apply rampAway_onward
    | with_reducible apply dropPending_onward
    | with_reducible apply tellStatus_onward
    | with_reducible apply send_onward
    | with_reducible apply enterClasp_onward
    | with_reducible apply State.setClasp_onward
    | with_reducible apply Onward.ite)

theorem claspStageStopped_onward  {s w : State} (h : Onward w s) :
    Onward w (claspStageStopped s) := by
  unfold claspStageStopped
  repeat' (first
    | with_reducible assumption
    | with_reducible apply stopCouplingKas_onward
    | with_reducible apply enterClasp_onward
    | with_reducible apply dropPending_onward
    | with_reducible apply tellStatus_onward
    | with_reducible apply State.setClasp_onward
    | with_reducible apply Onward.ite)

theorem claspPowerDown_onward  {s w : State} (h : Onward w s) :
    Onward w (claspPowerDown s) := by
  unfold claspPowerDown
  repeat' (first
    | with_reducible assumption
    | with_reducible apply endCoupling_onward
    | with_reducible apply Onward.ite)

theorem claspHardReset_onward  {s w : State} (h : Onward w s) :
    Onward w (claspHardReset s) := by
  unfold claspHardReset
  repeat' (first
    | with_reducible assumption
    | with_reducible apply endCoupling_onward
    | with_reducible apply enterLockout_onward
    | with_reducible apply State.setClasp_onward
    | with_reducible apply Onward.ite)

theorem moveVr_onward  {s w : State} (h : Onward w s) :
    Onward w (moveVr s) := by
  unfold moveVr
  repeat' (first
    | with_reducible assumption
    | with_reducible apply State.setClasp_onward
    | with_reducible apply Onward.ite)

theorem watchSettle_onward  {s w : State} (h : Onward w s) :
    Onward w (watchSettle s) := by
  unfold watchSettle
  repeat' (first
    | with_reducible assumption
    | with_reducible apply State.setClasp_onward
    | split
    | dsimp only)

theorem watchLink_onward  {s w : State} (h : Onward w s) :
    Onward w (watchLink s) := by
  unfold watchLink
  repeat' (first
    | with_reducible assumption
    | with_reducible apply State.setClasp_onward
    | split
    | dsimp only)

theorem watchOpen_onward  {s w : State} (h : Onward w s) :
    Onward w (watchOpen s) := by
  unfold watchOpen
  repeat' (first
    | with_reducible assumption
    | with_reducible apply State.setClasp_onward
    | split)

theorem stopPulled_onward  {s w : State} (h : Onward w s) :
    Onward w (stopPulled s) := by
  unfold stopPulled
  repeat' (first
    | with_reducible assumption
    | with_reducible apply stopCouplingKas_onward
    | with_reducible apply State.setClasp_onward
    | with_reducible apply Onward.ite
    | split)

theorem swapLedger_onward  {s w : State} (h : Onward w s) :
    Onward w (swapLedger s) := by
  unfold swapLedger
  repeat' (first
    | with_reducible assumption
    | with_reducible apply send_onward
    | with_reducible apply State.setClasp_onward
    | with_reducible apply Onward.ite
    | split)

theorem claspLedger_onward  {s w : State} (h : Onward w s) :
    Onward w (claspLedger s) := by
  unfold claspLedger
  repeat' (first
    | with_reducible assumption
    | with_reducible apply stopCouplingKas_onward
    | with_reducible apply moveVr_onward
    | with_reducible apply swapLedger_onward
    | with_reducible apply stopPulled_onward
    | with_reducible apply watchOpen_onward
    | with_reducible apply watchLink_onward
    | with_reducible apply watchSettle_onward
    | with_reducible apply State.setClasp_onward
    | with_reducible apply Onward.ite)

theorem startClasp_onward  {s w : State} (h : Onward w s) :
    Onward w (startClasp s) := by
  unfold startClasp
  repeat' (first
    | with_reducible assumption
    | with_reducible apply enterClasp_onward
    | with_reducible apply Onward.ite)

end Sys2Proof.Machine
end

