-- ==== Sys2Proof/Laws/OnwardMaqStore.lean ====
section
/-! SUPPORT. What the acts of MaqStore keep (Laws/Onward). -/

namespace Sys2Proof.Machine

theorem restoreString_onward (p : Option Bytes) (a1 : Nat) {s w : State} (h : Onward w s) :
    Onward w (restoreString p a1 s) := by
  unfold restoreString
  repeat' (first
    | with_reducible assumption
    | with_reducible apply event_onward
    | with_reducible apply State.setStr_onward
    | with_reducible apply Onward.ite
    | split)

theorem restoreWear_onward (p : Option Bytes) (k : Nat) {s w : State} (h : Onward w s) :
    Onward w (restoreWear p k s) := by
  unfold restoreWear
  repeat' (first
    | with_reducible assumption
    | with_reducible apply event_onward
    | with_reducible apply State.setPh_onward
    | with_reducible apply Onward.ite
    | split
    | dsimp only)

theorem initMaquette_onward  {s w : State} (h : Onward w s) :
    Onward w (initMaquette s) := by
  unfold initMaquette
  repeat' (first
    | intro _
    | with_reducible assumption
    | with_reducible apply State.setStr_onward
    | with_reducible apply State.setPh_onward
    | with_reducible apply Onward.foldl
    | with_reducible apply Onward.ite
    | split)

theorem maquetteReload_onward  {s w : State} (h : Onward w s) :
    Onward w (maquetteReload s) := by
  unfold maquetteReload
  repeat' (first
    | intro _
    | with_reducible assumption
    | with_reducible apply restoreString_onward
    | with_reducible apply Onward.foldl)

theorem restoreStore_onward  {s w : State} (h : Onward w s) :
    Onward w (restoreStore s) := by
  unfold restoreStore
  repeat' (first
    | intro _
    | with_reducible assumption
    | with_reducible apply restoreString_onward
    | with_reducible apply restoreWear_onward
    | with_reducible apply Onward.foldl
    | with_reducible apply Onward.ite)

theorem settleRestore_onward  {s w : State} (h : Onward w s) :
    Onward w (settleRestore s) := by
  unfold settleRestore
  repeat' (first
    | with_reducible assumption
    | with_reducible apply restoreStore_onward
    | with_reducible apply Onward.ite
    | fail_if_no_progress (with_reducible refine Onward.mk' ?_ rfl rfl rfl rfl rfl)
    | split)

theorem readStore_onward  {s w : State} (h : Onward w s) :
    Onward w (readStore s) := by
  unfold readStore
  repeat' (first
    | with_reducible assumption
    | with_reducible apply settleRestore_onward
    | fail_if_no_progress (with_reducible refine Onward.mk' ?_ rfl rfl rfl rfl rfl))

theorem requestStore_onward  {s w : State} (h : Onward w s) :
    Onward w (requestStore s) := by
  unfold requestStore
  repeat' (first
    | with_reducible assumption
    | fail_if_no_progress (with_reducible refine Onward.mk' ?_ rfl rfl rfl rfl rfl))

end Sys2Proof.Machine
end

