-- ==== Sys2Proof/Laws/OnwardOdometer.lean ====
section
/-! SUPPORT. What the acts of Odometer keep (Laws/Onward). -/

namespace Sys2Proof.Machine

theorem writeOdometer_onward {s w : State} (h : Onward w s) : Onward w (writeOdometer s) := by
  unfold writeOdometer
  refine Onward.ite h ?_
  dsimp only
  split
  · exact Onward.mk1 h rfl rfl rfl rfl (flashProgram_wf _ _)
  · exact Onward.mk1 h rfl rfl rfl rfl fun k => flashProgram_wf _ _ (flashErase_wf _ _ k)

end Sys2Proof.Machine
end

