-- ==== Sys2Proof/Laws/OnwardPowerOps.lean ====
section
/-! SUPPORT. What the acts of PowerOps keep (Laws/Onward). -/

namespace Sys2Proof.Machine

theorem State.setSeq_onward (a1 : Seq) {s w : State} (h : Onward w s) :
    Onward w (State.setSeq s a1) := by
  unfold State.setSeq
  repeat' (first
    | with_reducible assumption
    | fail_if_no_progress (with_reducible refine Onward.mk' ?_ rfl rfl rfl rfl rfl))

theorem prepareStep_onward (i : Nat) {s w : State} (h : Onward w s) :
    Onward w (prepareStep i s) := by
  unfold prepareStep
  repeat' (first
    | with_reducible assumption
    | with_reducible apply State.setSeq_onward)

theorem startUp_onward (i : Nat) {s w : State} (h : Onward w s) :
    Onward w (startUp i s) := by
  unfold startUp
  repeat' (first
    | with_reducible assumption
    | with_reducible apply event_onward
    | with_reducible apply prepareStep_onward
    | with_reducible apply State.setSeq_onward
    | with_reducible apply Onward.ite)

theorem finishUp_onward  {s w : State} (h : Onward w s) :
    Onward w (finishUp s) := by
  unfold finishUp
  repeat' (first
    | with_reducible assumption
    | with_reducible apply setMode_onward
    | with_reducible apply setCause_onward
    | with_reducible apply event_onward
    | with_reducible apply State.setSeq_onward
    | with_reducible apply Onward.ite
    | fail_if_no_progress (with_reducible refine Onward.mk' ?_ rfl rfl rfl rfl rfl))

theorem endHoldup_onward  {s w : State} (h : Onward w s) :
    Onward w (endHoldup s) := by
  unfold endHoldup
  repeat' (first
    | with_reducible assumption
    | with_reducible apply event_onward
    | with_reducible apply Onward.ite
    | fail_if_no_progress (with_reducible refine Onward.mk' ?_ rfl rfl rfl rfl rfl))

theorem completeDown_onward  {s w : State} (h : Onward w s) :
    Onward w (completeDown s) := by
  unfold completeDown
  repeat' (first
    | with_reducible assumption
    | with_reducible apply setCause_onward
    | with_reducible apply endHoldup_onward
    | with_reducible apply event_onward
    | with_reducible apply setMode_onward
    | with_reducible apply State.setSeq_onward
    | with_reducible apply Onward.ite
    | fail_if_no_progress (with_reducible refine Onward.mk' ?_ rfl rfl rfl rfl rfl))

theorem beginDown_onward (cause : Nat) (i : Nat) {s w : State} (h : Onward w s) :
    Onward w (beginDown cause i s) := by
  unfold beginDown
  repeat' (first
    | with_reducible assumption
    | with_reducible apply claspPowerDown_onward
    | with_reducible apply writeOdometer_onward
    | with_reducible apply requestStore_onward
    | with_reducible apply event_onward
    | with_reducible apply State.setSeq_onward)

theorem dropUp_onward (cause : Nat) {s w : State} (h : Onward w s) :
    Onward w (dropUp cause s) := by
  unfold dropUp
  repeat' (first
    | with_reducible assumption
    | with_reducible apply completeDown_onward
    | with_reducible apply claspPowerDown_onward
    | with_reducible apply writeOdometer_onward
    | with_reducible apply requestStore_onward
    | with_reducible apply event_onward
    | with_reducible apply State.setSeq_onward
    | with_reducible apply Onward.ite
    | fail_if_no_progress (with_reducible refine Onward.mk' ?_ rfl rfl rfl rfl rfl))

theorem powerDown_onward (cause : Nat) {s w : State} (h : Onward w s) :
    Onward w (powerDown cause s) := by
  unfold powerDown
  repeat' (first
    | with_reducible assumption
    | with_reducible apply dropUp_onward
    | with_reducible apply beginDown_onward
    | with_reducible apply event_onward
    | with_reducible apply State.setSeq_onward
    | with_reducible apply Onward.ite
    | split
    | dsimp only)

theorem onRequest_onward  {s w : State} (h : Onward w s) :
    Onward w (onRequest s) := by
  unfold onRequest
  repeat' (first
    | with_reducible assumption
    | with_reducible apply startUp_onward
    | with_reducible apply event_onward
    | with_reducible apply State.setSeq_onward
    | with_reducible apply Onward.ite)

theorem offRequest_onward  {s w : State} (h : Onward w s) :
    Onward w (offRequest s) := by
  unfold offRequest
  repeat' (first
    | with_reducible assumption
    | with_reducible apply event_onward
    | with_reducible apply powerDown_onward
    | with_reducible apply State.setSeq_onward
    | with_reducible apply Onward.ite)

theorem marginMoves_onward (g : Nat) {s w : State} (h : Onward w s) :
    Onward w (marginMoves g s) := by
  unfold marginMoves
  repeat' (first
    | intro _
    | with_reducible assumption
    | with_reducible apply State.setRail_onward
    | with_reducible apply Onward.foldl)

theorem setMargin_onward (g : Nat) (steps : Int) {s w : State} (h : Onward w s) :
    Onward w (setMargin g steps s) := by
  unfold setMargin
  repeat' (first
    | with_reducible assumption
    | with_reducible apply event_onward
    | with_reducible apply marginMoves_onward
    | with_reducible apply State.setStage_onward)

theorem releaseMargins_onward  {s w : State} (h : Onward w s) :
    Onward w (releaseMargins s) := by
  unfold releaseMargins
  repeat' (first
    | intro _
    | with_reducible assumption
    | with_reducible apply setMargin_onward
    | with_reducible apply Onward.foldl
    | with_reducible apply Onward.ite)

theorem holdupSignal_onward  {s w : State} (h : Onward w s) :
    Onward w (holdupSignal s) := by
  unfold holdupSignal
  repeat' (first
    | intro _
    | with_reducible assumption
    | with_reducible apply stopKa_onward
    | with_reducible apply powerDown_onward
    | with_reducible apply Onward.foldl
    | with_reducible apply Onward.ite)

end Sys2Proof.Machine
end

