-- ==== Sys2Proof/Laws/OnwardStageOps.lean ====
section
/-! SUPPORT. What the acts of StageOps keep (Laws/Onward). -/

namespace Sys2Proof.Machine

theorem stopInject_onward (cause : Nat) {s w : State} (h : Onward w s) :
    Onward w (stopInject cause s) := by
  unfold stopInject
  repeat' (first
    | with_reducible assumption
    | with_reducible apply event_onward
    | fail_if_no_progress (with_reducible refine Onward.mk' ?_ rfl rfl rfl rfl rfl)
    | split)

theorem triggerCapture_onward  {s w : State} (h : Onward w s) :
    Onward w (triggerCapture s) := by
  unfold triggerCapture
  repeat' (first
    | with_reducible assumption
    | with_reducible apply Onward.ite
    | fail_if_no_progress (with_reducible refine Onward.mk' ?_ rfl rfl rfl rfl rfl))

theorem stopCapture_onward (cause : Nat) {s w : State} (h : Onward w s) :
    Onward w (stopCapture cause s) := by
  unfold stopCapture
  repeat' (first
    | with_reducible assumption
    | with_reducible apply setCause_onward
    | with_reducible apply Onward.ite
    | fail_if_no_progress (with_reducible refine Onward.mk' ?_ rfl rfl rfl rfl rfl))

theorem closeLoop_onward (c : Nat) (cause : Nat) {s w : State} (h : Onward w s) :
    Onward w (closeLoop c cause s) := by
  unfold closeLoop
  repeat' (first
    | with_reducible assumption
    | with_reducible apply event_onward
    | with_reducible apply State.setCtx_onward
    | with_reducible apply Onward.ite)

theorem closeLoops_onward  {s w : State} (h : Onward w s) :
    Onward w (closeLoops s) := by
  unfold closeLoops
  repeat' (first
    | intro _
    | with_reducible assumption
    | with_reducible apply stopInject_onward
    | with_reducible apply closeLoop_onward
    | with_reducible apply Onward.foldl)

theorem owesClear_onward (c : Nat) {s w : State} (h : Onward w s) :
    Onward w (owesClear c s) := by
  unfold owesClear
  repeat' (first
    | with_reducible assumption
    | with_reducible apply State.setCtx_onward
    | fail_if_no_progress (with_reducible refine Onward.mk' ?_ rfl rfl rfl rfl rfl))

theorem closeStageLoops_onward (g : Nat) {s w : State} (h : Onward w s) :
    Onward w (closeStageLoops g s) := by
  unfold closeStageLoops
  repeat' (first
    | intro _
    | with_reducible assumption
    | with_reducible apply owesClear_onward
    | with_reducible apply closeLoop_onward
    | with_reducible apply Onward.foldl)

theorem respread_onward (g : Nat) {s w : State} (h : Onward w s) :
    Onward w (respread g s) := by
  unfold respread
  repeat' (first
    | intro _
    | with_reducible assumption
    | with_reducible apply State.setPh_onward
    | with_reducible apply Onward.foldl
    | with_reducible apply Onward.ite)

theorem beginPhase_onward (g : Nat) (p : Nat) (from_ : Nat) {s w : State} (h : Onward w s) :
    Onward w (beginPhase g p from_ s) := by
  unfold beginPhase
  repeat' (first
    | with_reducible assumption
    | with_reducible apply State.setPh_onward
    | with_reducible apply State.setCtx_onward)

theorem clearTilesOf_onward (g : Nat) {s w : State} (h : Onward w s) :
    Onward w (clearTilesOf g s) := by
  unfold clearTilesOf
  repeat' (first
    | intro _
    | with_reducible assumption
    | with_reducible apply startClear_onward
    | with_reducible apply State.setPort_onward
    | with_reducible apply Onward.foldl
    | split)

theorem startStage_onward (g : Nat) {s w : State} (h : Onward w s) :
    Onward w (startStage g s) := by
  unfold startStage
  repeat' (first
    | intro _
    | with_reducible assumption
    | with_reducible apply beginPhase_onward
    | with_reducible apply clearTilesOf_onward
    | with_reducible apply State.setStage_onward
    | with_reducible apply State.setPh_onward
    | with_reducible apply Onward.foldl
    | with_reducible apply Onward.ite
    | fail_if_no_progress (with_reducible refine Onward.mk' ?_ rfl rfl rfl rfl rfl))

theorem endRest_onward (cause : Nat) {s w : State} (h : Onward w s) :
    Onward w (endRest cause s) := by
  unfold endRest
  repeat' (first
    | with_reducible assumption
    | with_reducible apply event_onward
    | fail_if_no_progress (with_reducible refine Onward.mk' ?_ rfl rfl rfl rfl rfl)
    | split)

theorem endPhase_onward (p : Nat) {s w : State} (h : Onward w s) :
    Onward w (endPhase p s) := by
  unfold endPhase
  repeat' (first
    | with_reducible assumption
    | with_reducible apply pushOff_onward
    | with_reducible apply State.setPh_onward)

theorem brakeEvent_onward (g : Nat) (cause : Nat) {s w : State} (h : Onward w s) :
    Onward w (brakeEvent g cause s) := by
  unfold brakeEvent
  repeat' (first
    | with_reducible assumption
    | with_reducible apply event_onward)

theorem stopStage_onward (g : Nat) {s w : State} (h : Onward w s) :
    Onward w (stopStage g s) := by
  unfold stopStage
  repeat' (first
    | intro _
    | with_reducible assumption
    | with_reducible apply brakeEvent_onward
    | with_reducible apply endPhase_onward
    | with_reducible apply closeStageLoops_onward
    | with_reducible apply claspStageStopped_onward
    | with_reducible apply endRest_onward
    | with_reducible apply State.setStage_onward
    | with_reducible apply Onward.foldl
    | with_reducible apply Onward.ite
    | split
    | dsimp only)

end Sys2Proof.Machine
end

