-- ==== Sys2Proof/Laws/OnwardRackOps.lean ====
section
/-! SUPPORT. What the acts of RackOps keep (Laws/Onward). -/

namespace Sys2Proof.Machine

theorem stopStages_onward (mask : Nat) {s w : State} (h : Onward w s) :
    Onward w (stopStages mask s) := by
  unfold stopStages
  repeat' (first
    | intro _
    | with_reducible assumption
    | with_reducible apply stopStage_onward
    | with_reducible apply Onward.foldl)

theorem captureFault_onward (code : Nat) (payload : Bytes) {s w : State} (h : Onward w s) :
    Onward w (captureFault code payload s) := by
  unfold captureFault
  repeat' (first
    | with_reducible assumption
    | with_reducible apply triggerCapture_onward
    | with_reducible apply stopInject_onward
    | with_reducible apply Onward.ite
    | split
    | dsimp only)

theorem captureSafe_onward  {s w : State} (h : Onward w s) :
    Onward w (captureSafe s) := by
  unfold captureSafe
  repeat' (first
    | with_reducible assumption
    | with_reducible apply stopInject_onward
    | with_reducible apply stopCapture_onward)

theorem crowbarClear_onward (scope : Nat) {s w : State} (h : Onward w s) :
    Onward w (crowbarClear scope s) := by
  unfold crowbarClear
  repeat' (first
    | intro _
    | with_reducible assumption
    | with_reducible apply endPhase_onward
    | with_reducible apply State.setStage_onward
    | with_reducible apply Onward.foldl
    | with_reducible apply Onward.ite)

end Sys2Proof.Machine
end

