-- ==== Sys2Proof/Laws/OnwardFaultOps.lean ====
section
/-! SUPPORT. What the acts of FaultOps keep (Laws/Onward). -/

namespace Sys2Proof.Machine

theorem forceLane_onward (p : Nat) {s w : State} (h : Onward w s) :
    Onward w (forceLane p s) := by
  unfold forceLane
  repeat' (first
    | with_reducible assumption
    | with_reducible apply State.setPort_onward
    | fail_if_no_progress (with_reducible refine Onward.mk' ?_ rfl rfl rfl rfl rfl))

theorem forceLanes_onward (mask : Nat) {s w : State} (h : Onward w s) :
    Onward w (forceLanes mask s) := by
  unfold forceLanes
  repeat' (first
    | intro _
    | with_reducible assumption
    | with_reducible apply forceLane_onward
    | with_reducible apply Onward.foldl)

theorem applyLevel_onward (level : Nat) (scope : Nat) (s1 : Nat) {s w : State} (h : Onward w s) :
    Onward w (applyLevel level scope s1 s) := by
  unfold applyLevel
  repeat' (first
    | intro _
    | with_reducible assumption
    | with_reducible apply forceLanes_onward
    | with_reducible apply stopStages_onward
    | with_reducible apply closeStageLoops_onward
    | with_reducible apply kaAllLow_onward
    | with_reducible apply Onward.foldl
    | with_reducible apply Onward.ite
    | fail_if_no_progress (with_reducible refine Onward.mk' ?_ rfl rfl rfl rfl rfl))

theorem endSession_onward (cause : Nat) {s w : State} (h : Onward w s) :
    Onward w (endSession cause s) := by
  unfold endSession
  repeat' (first
    | with_reducible assumption
    | with_reducible apply event_onward
    | with_reducible apply releaseMargins_onward
    | with_reducible apply closeLoops_onward
    | fail_if_no_progress (with_reducible refine Onward.mk' ?_ rfl rfl rfl rfl rfl)
    | split)

theorem enterSafe_onward (level : Nat) (input : Nat) {s w : State} (h : Onward w s) :
    Onward w (enterSafe level input s) := by
  unfold enterSafe
  repeat' (first
    | with_reducible assumption
    | with_reducible apply endSession_onward
    | with_reducible apply captureSafe_onward
    | with_reducible apply setMode_onward
    | with_reducible apply event_onward
    | with_reducible apply powerDown_onward
    | with_reducible apply Onward.ite
    | fail_if_no_progress (with_reducible refine Onward.mk' ?_ rfl rfl rfl rfl rfl))

theorem offDomains_onward  {s w : State} (h : Onward w s) :
    Onward w (offDomains s) := by
  unfold offDomains
  repeat' (first
    | with_reducible assumption
    | fail_if_no_progress (with_reducible refine Onward.mk' ?_ rfl rfl rfl rfl rfl))

theorem resetChip_onward (cause : Nat) {s w : State} (h : Onward w s) :
    Onward w (resetChip cause s) := by
  unfold resetChip
  repeat' (first
    | with_reducible assumption
    | with_reducible apply offDomains_onward
    | fail_if_no_progress (with_reducible refine Onward.mk' ?_ rfl rfl rfl rfl rfl))

theorem restartHostPorts_onward  {s w : State} (h : Onward w s) :
    Onward w (restartHostPorts s) := by
  unfold restartHostPorts
  repeat' (first
    | with_reducible assumption
    | fail_if_no_progress (with_reducible refine Onward.mk' ?_ rfl rfl rfl rfl rfl))

theorem unmountRecorder_onward  {s w : State} (h : Onward w s) :
    Onward w (unmountRecorder s) := by
  unfold unmountRecorder
  repeat' (first
    | with_reducible assumption
    | fail_if_no_progress (with_reducible refine Onward.mk' ?_ rfl rfl rfl rfl rfl))

theorem blockReset_onward (code : Nat) (payload : Bytes) {s w : State} (h : Onward w s) :
    Onward w (blockReset code payload s) := by
  unfold blockReset
  repeat' (first
    | with_reducible assumption
    | with_reducible apply retrainPort_onward
    | with_reducible apply maquetteReload_onward
    | with_reducible apply unmountRecorder_onward
    | with_reducible apply claspHardReset_onward
    | with_reducible apply restartHostPorts_onward
    | with_reducible apply Onward.ite)

theorem react_onward (code : Nat) (scope : Nat) (payload : Bytes) {s w : State} (h : Onward w s) :
    Onward w (react code scope payload s) := by
  unfold react
  repeat' (first
    | with_reducible assumption
    | with_reducible apply setCause_onward
    | with_reducible apply enterSafe_onward
    | with_reducible apply applyLevel_onward
    | with_reducible apply blockReset_onward
    | with_reducible apply resetChip_onward
    | with_reducible apply Onward.ite
    | fail_if_no_progress (with_reducible refine Onward.mk' ?_ rfl rfl rfl rfl rfl))

theorem latchInput_onward (code : Nat) (scope : Nat) (payload : Bytes) {s w : State} (h : Onward w s) :
    Onward w (latchInput code scope payload s) := by
  unfold latchInput
  repeat' (first
    | with_reducible assumption
    | with_reducible apply State.setInput_onward
    | fail_if_no_progress (with_reducible refine Onward.mk' ?_ rfl rfl rfl rfl rfl))

theorem assertInput_onward (code : Nat) (scope : Nat) (payload : Bytes) {s w : State} (h : Onward w s) :
    Onward w (assertInput code scope payload s) := by
  unfold assertInput
  repeat' (first
    | with_reducible assumption
    | with_reducible apply react_onward
    | with_reducible apply captureFault_onward
    | with_reducible apply latchInput_onward
    | with_reducible apply Onward.ite)

theorem raiseFault_onward (code : Nat) (scope : Nat) (payload : Bytes) {s w : State} (h : Onward w s) :
    Onward w (raiseFault code scope payload s) := by
  unfold raiseFault
  repeat' (first
    | with_reducible assumption
    | with_reducible apply assertInput_onward
    | with_reducible apply captureFault_onward
    | with_reducible apply stageRecord_onward)

theorem clearInput_onward (code : Nat) (scope : Nat) {s w : State} (h : Onward w s) :
    Onward w (clearInput code scope s) := by
  unfold clearInput
  repeat' (first
    | with_reducible assumption
    | with_reducible apply event_onward
    | with_reducible apply crowbarClear_onward
    | with_reducible apply State.setInput_onward
    | with_reducible apply Onward.ite)

theorem lowerFault_onward (code : Nat) (scope : Nat) {s w : State} (h : Onward w s) :
    Onward w (lowerFault code scope s) := by
  unfold lowerFault
  repeat' (first
    | with_reducible assumption
    | with_reducible apply State.setInput_onward
    | with_reducible apply Onward.ite)

theorem pulseFault_onward (code : Nat) (scope : Nat) (payload : Bytes) {s w : State} (h : Onward w s) :
    Onward w (pulseFault code scope payload s) := by
  unfold pulseFault
  repeat' (first
    | with_reducible assumption
    | with_reducible apply lowerFault_onward
    | with_reducible apply raiseFault_onward)

theorem chipFault_onward (code : Nat) (l : List Nat) {s w : State} (h : Onward w s) :
    Onward w (chipFault code l s) := by
  unfold chipFault
  repeat' (first
    | with_reducible assumption
    | with_reducible apply raiseFault_onward)

theorem chipPulse_onward (code : Nat) (l : List Nat) {s w : State} (h : Onward w s) :
    Onward w (chipPulse code l s) := by
  unfold chipPulse
  repeat' (first
    | with_reducible assumption
    | with_reducible apply pulseFault_onward)

end Sys2Proof.Machine
end

