-- ==== Sys2Proof/Laws/OnwardBalanceOps.lean ====
section
/-! SUPPORT. What the acts of BalanceOps keep (Laws/Onward). -/

namespace Sys2Proof.Machine

theorem weigh_onward (a1 : Nat) {s w : State} (h : Onward w s) :
    Onward w (weigh a1 s) := by
  unfold weigh
  repeat' (first
    | with_reducible assumption
    | with_reducible apply Onward.ite
    | fail_if_no_progress (with_reducible refine Onward.mk' ?_ rfl rfl rfl rfl rfl))

theorem watchShort_onward (l : List Nat) {s w : State} (h : Onward w s) :
    Onward w (watchShort l s) := by
  unfold watchShort
  repeat' (first
    | intro _
    | with_reducible assumption
    | with_reducible apply lowerFault_onward
    | with_reducible apply Onward.foldl
    | with_reducible apply Onward.ite
    | fail_if_no_progress (with_reducible refine Onward.mk' ?_ rfl rfl rfl rfl rfl))

theorem runFault_onward (code : Nat) (run : Nat) {s w : State} (h : Onward w s) :
    Onward w (runFault code run s) := by
  unfold runFault
  repeat' (first
    | with_reducible assumption
    | with_reducible apply lowerFault_onward
    | with_reducible apply chipFault_onward
    | with_reducible apply Onward.ite)

theorem chopperFault_onward  {s w : State} (h : Onward w s) :
    Onward w (chopperFault s) := by
  unfold chopperFault
  repeat' (first
    | with_reducible assumption
    | with_reducible apply chipFault_onward
    | with_reducible apply lowerFault_onward
    | with_reducible apply Onward.ite
    | fail_if_no_progress (with_reducible refine Onward.mk' ?_ rfl rfl rfl rfl rfl))

theorem watchRecord_onward (a1 : Nat) {s w : State} (h : Onward w s) :
    Onward w (watchRecord a1 s) := by
  unfold watchRecord
  repeat' (first
    | with_reducible assumption
    | with_reducible apply event_onward
    | with_reducible apply chipFault_onward
    | with_reducible apply Onward.ite
    | fail_if_no_progress (with_reducible refine Onward.mk' ?_ rfl rfl rfl rfl rfl))

theorem watchRecords_onward  {s w : State} (h : Onward w s) :
    Onward w (watchRecords s) := by
  unfold watchRecords
  repeat' (first
    | intro _
    | with_reducible assumption
    | with_reducible apply watchRecord_onward
    | with_reducible apply lowerFault_onward
    | with_reducible apply Onward.foldl
    | with_reducible apply Onward.ite)

theorem notePeak_onward (p : Int) {s w : State} (h : Onward w s) :
    Onward w (notePeak p s) := by
  unfold notePeak
  repeat' (first
    | with_reducible assumption
    | fail_if_no_progress (with_reducible refine Onward.mk' ?_ rfl rfl rfl rfl rfl))

theorem watchAbort_onward  {s w : State} (h : Onward w s) :
    Onward w (watchAbort s) := by
  unfold watchAbort
  repeat' (first
    | with_reducible assumption
    | fail_if_no_progress (with_reducible refine Onward.mk' ?_ rfl rfl rfl rfl rfl)
    | split)

theorem exhaust_onward  {s w : State} (h : Onward w s) :
    Onward w (exhaust s) := by
  unfold exhaust
  repeat' (first
    | intro _
    | with_reducible assumption
    | with_reducible apply endHoldup_onward
    | with_reducible apply pulseFault_onward
    | with_reducible apply Onward.foldl
    | with_reducible apply Onward.ite
    | fail_if_no_progress (with_reducible refine Onward.mk' ?_ rfl rfl rfl rfl rfl))

theorem computeLedger_onward  {s w : State} (h : Onward w s) :
    Onward w (computeLedger s) := by
  unfold computeLedger
  repeat' (first
    | intro _
    | with_reducible assumption
    | with_reducible apply weigh_onward
    | with_reducible apply drawFree_onward
    | with_reducible apply watchAbort_onward
    | with_reducible apply notePeak_onward
    | with_reducible apply watchShort_onward
    | with_reducible apply watchRecords_onward
    | with_reducible apply chopperFault_onward
    | with_reducible apply exhaust_onward
    | with_reducible apply runFault_onward
    | with_reducible apply Onward.foldl
    | with_reducible apply Onward.ite
    | fail_if_no_progress (with_reducible refine Onward.mk' ?_ rfl rfl rfl rfl rfl))

theorem capoLedger_onward (k : Nat) {s w : State} (h : Onward w s) :
    Onward w (capoLedger k s) := by
  unfold capoLedger
  repeat' (first
    | with_reducible assumption
    | with_reducible apply Onward.ite
    | fail_if_no_progress (with_reducible refine Onward.mk' ?_ rfl rfl rfl rfl rfl))

theorem nameStage_onward (g : Nat) {s w : State} (h : Onward w s) :
    Onward w (nameStage g s) := by
  unfold nameStage
  repeat' (first
    | with_reducible assumption
    | with_reducible apply stopStage_onward
    | with_reducible apply State.setStage_onward)

theorem enterHoldup_onward (trigger : Nat) {s w : State} (h : Onward w s) :
    Onward w (enterHoldup trigger s) := by
  unfold enterHoldup
  repeat' (first
    | intro _
    | with_reducible assumption
    | with_reducible apply event_onward
    | with_reducible apply holdupSignal_onward
    | with_reducible apply endRest_onward
    | with_reducible apply nameStage_onward
    | with_reducible apply Onward.foldl
    | fail_if_no_progress (with_reducible refine Onward.mk' ?_ rfl rfl rfl rfl rfl))

theorem balanceLedger_onward  {s w : State} (h : Onward w s) :
    Onward w (balanceLedger s) := by
  unfold balanceLedger
  repeat' (first
    | intro _
    | with_reducible assumption
    | with_reducible apply chipPulse_onward
    | with_reducible apply enterHoldup_onward
    | with_reducible apply capoLedger_onward
    | with_reducible apply Onward.foldl
    | with_reducible apply Onward.ite
    | fail_if_no_progress (with_reducible refine Onward.mk' ?_ rfl rfl rfl rfl rfl)
    | split)

end Sys2Proof.Machine
end

