-- ==== Sys2Proof/Laws/OnwardBalance.lean ====
section
/-! SUPPORT. What the acts of Balance keep (Laws/Onward). -/

namespace Sys2Proof.Machine

theorem execLedgerCompute_onward (t : Nat) (s : State) :
    Lands (advance t s) (execLedgerCompute t s) := by
  unfold execLedgerCompute
  repeat' (first
    | with_reducible exact Onward.refl _
    | with_reducible apply computeLedger_onward
    | with_reducible apply chipPulse_onward
    | with_reducible apply Lands.next
    | with_reducible apply Lands.ite
    | fail_if_no_progress (with_reducible refine Onward.mk' ?_ rfl rfl rfl rfl rfl))

theorem execCapoPeriodStart_onward (t : Nat) (capo : Nat) (s : State) :
    Lands (advance t s) (execCapoPeriodStart t capo s) := by
  unfold execCapoPeriodStart
  repeat' (first
    | with_reducible exact Onward.refl _
    | with_reducible apply Lands.next
    | with_reducible apply Lands.ite
    | fail_if_no_progress (with_reducible refine Onward.mk' ?_ rfl rfl rfl rfl rfl))

theorem execHoldupStageNamed_onward (t : Nat) (stage : Nat) (s : State) :
    Lands (advance t s) (execHoldupStageNamed t stage s) := by
  unfold execHoldupStageNamed
  repeat' (first
    | with_reducible exact Onward.refl _
    | with_reducible apply nameStage_onward
    | with_reducible apply Lands.next
    | with_reducible apply Lands.ite)

theorem execSupplyShort_onward (t : Nat) (consumer : Nat) (s : State) :
    Lands (advance t s) (execSupplyShort t consumer s) := by
  unfold execSupplyShort
  repeat' (first
    | with_reducible exact Onward.refl _
    | with_reducible apply raiseFault_onward
    | with_reducible apply Lands.next
    | with_reducible apply Lands.ite
    | fail_if_no_progress (with_reducible refine Onward.mk' ?_ rfl rfl rfl rfl rfl)
    | split
    | dsimp only)

theorem execRestGrant_onward (t : Nat) (s : State) :
    Lands (advance t s) (execRestGrant t s) := by
  unfold execRestGrant
  repeat' (first
    | with_reducible exact Onward.refl _
    | with_reducible apply event_onward
    | with_reducible apply Lands.next
    | with_reducible apply Lands.ite
    | fail_if_no_progress (with_reducible refine Onward.mk' ?_ rfl rfl rfl rfl rfl)
    | split)

theorem restTo_onward (p : RestPhase) (r : Rest) {s w : State} (h : Onward w s) :
    Onward w (restTo p r s) := by
  unfold restTo
  repeat' (first
    | with_reducible assumption
    | fail_if_no_progress (with_reducible refine Onward.mk' ?_ rfl rfl rfl rfl rfl))

theorem execRestRampDownEnd_onward (t : Nat) (s : State) :
    Lands (advance t s) (execRestRampDownEnd t s) := by
  unfold execRestRampDownEnd
  repeat' (first
    | with_reducible exact Onward.refl _
    | with_reducible apply restTo_onward
    | with_reducible apply Lands.next
    | with_reducible apply Lands.ite
    | split
    | dsimp only)

theorem execRestWindowEnd_onward (t : Nat) (s : State) :
    Lands (advance t s) (execRestWindowEnd t s) := by
  unfold execRestWindowEnd
  repeat' (first
    | with_reducible exact Onward.refl _
    | with_reducible apply restTo_onward
    | with_reducible apply Lands.next
    | with_reducible apply Lands.ite
    | split
    | dsimp only)

theorem execRestRampUpEnd_onward (t : Nat) (s : State) :
    Lands (advance t s) (execRestRampUpEnd t s) := by
  unfold execRestRampUpEnd
  repeat' (first
    | with_reducible exact Onward.refl _
    | with_reducible apply endRest_onward
    | with_reducible apply Lands.next
    | with_reducible apply Lands.ite
    | split
    | dsimp only)

theorem execRestAbort_onward (t : Nat) (s : State) :
    Lands (advance t s) (execRestAbort t s) := by
  unfold execRestAbort
  repeat' (first
    | with_reducible exact Onward.refl _
    | with_reducible apply restTo_onward
    | with_reducible apply Lands.next
    | with_reducible apply Lands.ite
    | fail_if_no_progress (with_reducible refine Onward.mk' ?_ rfl rfl rfl rfl rfl)
    | split
    | dsimp only)

theorem execRestWaitExpiry_onward (t : Nat) (string : Nat) (s : State) :
    Lands (advance t s) (execRestWaitExpiry t string s) := by
  unfold execRestWaitExpiry
  repeat' (first
    | with_reducible exact Onward.refl _
    | with_reducible apply event_onward
    | with_reducible apply Lands.next
    | with_reducible apply Lands.ite
    | fail_if_no_progress (with_reducible refine Onward.mk' ?_ rfl rfl rfl rfl rfl))

end Sys2Proof.Machine
end

