-- ==== Sys2Proof/Laws/OnwardHostOps.lean ====
section
/-! SUPPORT. What the acts of HostOps keep (Laws/Onward). -/

namespace Sys2Proof.Machine

theorem macFailure_onward (c : Nat) {s w : State} (h : Onward w s) :
    Onward w (macFailure c s) := by
  unfold macFailure
  repeat' (first
    | with_reducible assumption
    | with_reducible apply chipFault_onward
    | with_reducible apply Onward.ite
    | fail_if_no_progress (with_reducible refine Onward.mk' ?_ rfl rfl rfl rfl rfl))

theorem takeCounter_onward (t : Trailer) {s w : State} (h : Onward w s) :
    Onward w (takeCounter t s) := by
  unfold takeCounter
  repeat' (first
    | with_reducible assumption
    | with_reducible apply chipFault_onward
    | with_reducible apply Onward.ite
    | fail_if_no_progress (with_reducible refine Onward.mk' ?_ rfl rfl rfl rfl rfl))

theorem sessionCheck_onward (serviceOnly : Bool) (c : Nat) {s w : State} (h : Onward w s) :
    Onward w (sessionCheck serviceOnly c s).2 := by
  unfold sessionCheck
  repeat' (first
    | with_reducible assumption
    | fail_if_no_progress (with_reducible refine Onward.mk' ?_ rfl rfl rfl rfl rfl)
    | split)

theorem authenticate_onward (role : Option Nat) (serviceOnly : Bool) (r : Request) (t : Trailer) {s w : State} (h : Onward w s) :
    Onward w (authenticate role serviceOnly r t s).2 := by
  unfold authenticate
  repeat' (first
    | with_reducible assumption
    | with_reducible apply macFailure_onward
    | with_reducible apply takeCounter_onward
    | with_reducible apply sessionCheck_onward
    | split
    | dsimp only)

theorem takeRequest_onward (r : Request) {s w : State} (h : Onward w s) :
    Onward w (takeRequest r s) := by
  unfold takeRequest
  repeat' (first
    | with_reducible assumption
    | with_reducible apply State.setHport_onward
    | fail_if_no_progress (with_reducible refine Onward.mk' ?_ rfl rfl rfl rfl rfl))

theorem countPec_onward (n : Nat) (wrong : Bool) {s w : State} (h : Onward w s) :
    Onward w (countPec n wrong s) := by
  unfold countPec
  repeat' (first
    | with_reducible assumption
    | with_reducible apply State.setHport_onward)

theorem answerBusy_onward (r : Request) {s w : State} (h : Onward w s) :
    Onward w (answerBusy r s) := by
  unfold answerBusy
  repeat' (first
    | with_reducible assumption
    | with_reducible apply queueResponse_onward
    | with_reducible apply State.setHport_onward
    | fail_if_no_progress (with_reducible refine Onward.mk' ?_ rfl rfl rfl rfl rfl))

theorem gate_onward (r : Request) {s w : State} (h : Onward w s) : ∀ t, gate r s = some t → Onward w t := by
  unfold gate
  intro t ht
  split at ht
  · cases ht; exact h
  · split at ht
    · cases ht; exact discardRequest_onward _ (State.setHport_onward _ _ (countPec_onward _ _ h))
    · split at ht
      · cases ht; exact answerBusy_onward _ h
      · cases ht

theorem settle_onward (keys : Tab Bytes) (c : CmdSpec) (r : Request) (e : CmdEnd) {w : State} (h : Onward w e.2.2) :
    Onward w (settle keys c r e) := by
  have h2 : ∀ x : Tab Accepted, Onward w (if e.1 = stAccepted then
      { e.2.2 with host := { e.2.2.host with accepted := x } } else e.2.2) := fun x =>
    Onward.ite (Onward.mk' h rfl rfl rfl rfl rfl) h
  exact Onward.ite (State.setHport_onward _ _ (h2 _)) (answerBy_onward _ _ _ _ _ (h2 _))

theorem runThen_onward (c : CmdSpec) (rq : CmdReq) {body : Bytes → State → CmdEnd} {after : Nat → State → State}
    {s w : State} (hb : ∀ d u, Onward w u → Onward w (body d u).2.2) (ha : ∀ n u, Onward w u → Onward w (after n u))
    (h : Onward w s) : Onward w (runThen c rq body after s) := by
  have run : ∀ u, Onward w u →
      Onward w (if argStatus c (requestOf c rq) u ≠ stDone then
          answer (requestOf c rq) (requestOf c rq).trailer.isSome (argStatus c (requestOf c rq) u) [] u
        else after (body (requestOf c rq).data u).1
          (settle u.benra.cmdKeys c (requestOf c rq) (body (requestOf c rq).data u))) := fun u hu =>
    Onward.ite (answer_onward _ _ _ _ hu) (ha _ _ (settle_onward _ _ _ _ (hb _ _ hu)))
  have ht := takeRequest_onward (requestOf c rq) h
  unfold runThen
  dsimp only
  split
  · exact gate_onward _ h _ ‹_›
  · refine Onward.ite (answer_onward _ _ _ _ ht) ?_
    split
    · exact Onward.ite (answer_onward _ _ _ _ ht) (run _ ht)
    · have hx := authenticate_onward c.role c.serviceOnly (requestOf c rq) ‹Trailer› ht
      split
      · rename_i heq
        rw [heq] at hx
        exact answer_onward _ _ _ _ hx
      · rename_i heq
        rw [heq] at hx
        exact run _ hx

theorem runCommand_onward (c : CmdSpec) (rq : CmdReq) {body : Bytes → State → CmdEnd} {s w : State}
    (hb : ∀ d u, Onward w u → Onward w (body d u).2.2) (h : Onward w s) : Onward w (runCommand c rq body s) :=
  runThen_onward c rq hb (fun _ _ k => k) h

theorem say_onward (status : Nat) {s w : State} (h : Onward w s) :
    Onward w (say status s).2.2 := by
  unfold say
  repeat' (first
    | with_reducible assumption)

end Sys2Proof.Machine
end

