-- ==== Sys2Proof/Laws/OnwardRecorderOps.lean ====
section
/-! SUPPORT. What the acts of RecorderOps keep (Laws/Onward). -/

namespace Sys2Proof.Machine

theorem retireSector_onward (addr : Nat) (op : Nat) {s w : State} (h : Onward w s) :
    Onward w (retireSector addr op s) := by
  unfold retireSector
  repeat' (first
    | with_reducible assumption
    | with_reducible apply pushOwn_onward
    | with_reducible apply Onward.ite
    | fail_if_no_progress (with_reducible refine Onward.mk' ?_ rfl rfl rfl rfl rfl))

theorem openSector_onward (addr first : Nat) {s w : State} (h : Onward w s) : Onward w (openSector addr first s) :=
  Onward.mk1 h rfl rfl rfl rfl fun k => flashProgram_wf _ _ (flashErase_wf _ _ k)

theorem writeRecord_onward (key : Bytes) (r : Staged) {s w : State} (h : Onward w s) : Onward w (writeRecord key r s) := by
  unfold writeRecord
  dsimp only
  split
  · exact h
  · exact Onward.mk1 h rfl rfl rfl rfl (flashProgram_wf _ _)

theorem ownRecord_onward (code : Nat) (sev : Nat) (payload : Bytes) {s w : State} (h : Onward w s) :
    Onward w (ownRecord code sev payload s).2 := by
  unfold ownRecord
  repeat' (first
    | with_reducible assumption
    | fail_if_no_progress (with_reducible refine Onward.mk' ?_ rfl rfl rfl rfl rfl))

theorem dropFull_onward  {s w : State} (h : Onward w s) :
    Onward w (dropFull s) := by
  unfold dropFull
  repeat' (first
    | with_reducible assumption
    | fail_if_no_progress (with_reducible refine Onward.mk' ?_ rfl rfl rfl rfl rfl))

theorem placeRecord_onward (key : Bytes) (r : Staged) {s w : State} (h : Onward w s) :
    Onward w (placeRecord key r s) := by
  unfold placeRecord
  repeat' (first
    | with_reducible assumption
    | with_reducible apply writeRecord_onward
    | with_reducible apply openSector_onward
    | with_reducible apply Onward.ite
    | split)

theorem flushRecord_onward (key : Bytes) (r : Staged) {s w : State} (h : Onward w s) :
    Onward w (flushRecord key r s) := by
  unfold flushRecord
  repeat' (first
    | with_reducible assumption
    | with_reducible apply placeRecord_onward
    | with_reducible apply dropFull_onward
    | with_reducible apply ownRecord_onward
    | with_reducible apply openSector_onward
    | with_reducible apply writeRecord_onward
    | with_reducible apply setCause_onward
    | with_reducible apply Onward.ite
    | fail_if_no_progress (with_reducible refine Onward.mk' ?_ rfl rfl rfl rfl rfl)
    | split)

theorem abandonOpening_onward (addr : Nat) (header : Bool) {s w : State} (h : Onward w s) :
    Onward w (abandonOpening addr header s) := by
  unfold abandonOpening
  refine Onward.mk1 h rfl rfl rfl rfl fun k => ?_
  split
  · exact flashProgram_wf _ _ (flashErase_wf _ _ k)
  · exact k

theorem flushFails_onward (op : Nat) (r : Staged) {s w : State} (h : Onward w s) :
    Onward w (flushFails op r s) := by
  unfold flushFails
  repeat' (first
    | with_reducible assumption
    | with_reducible apply retireSector_onward
    | with_reducible apply abandonOpening_onward
    | with_reducible apply Onward.ite
    | split)

theorem flushCut_onward (r : Staged) {s w : State} (h : Onward w s) :
    Onward w (flushCut r s) := by
  unfold flushCut
  repeat' (first
    | with_reducible assumption
    | with_reducible apply abandonOpening_onward
    | split)

theorem flushOldest_onward  {s w : State} (h : Onward w s) :
    Onward w (flushOldest s) := by
  unfold flushOldest
  repeat' (first
    | with_reducible assumption
    | with_reducible apply flushRecord_onward
    | with_reducible apply Onward.ite
    | fail_if_no_progress (with_reducible refine Onward.mk' ?_ rfl rfl rfl rfl rfl)
    | split)

theorem flushMany_onward (n : Nat) {s w : State} (h : Onward w s) : Onward w (flushMany n s) := by
  induction n generalizing s with
  | zero => exact h
  | succ n ih => exact ih (flushOldest_onward h)

theorem flushAll_onward  {s w : State} (h : Onward w s) :
    Onward w (flushAll s) := by
  unfold flushAll
  repeat' (first
    | with_reducible assumption
    | with_reducible apply flushMany_onward)

theorem capturePending_onward  {s w : State} (h : Onward w s) :
    Onward w (capturePending s) := by
  unfold capturePending
  repeat' (first
    | with_reducible assumption
    | with_reducible apply drawFree_onward
    | with_reducible apply Onward.ite
    | fail_if_no_progress (with_reducible refine Onward.mk' ?_ rfl rfl rfl rfl rfl))

theorem writeBreath_onward (trigger : Nat) {s w : State} (h : Onward w s) : Onward w (writeBreath trigger s) := by
  unfold writeBreath
  split
  · exact h
  · exact Onward.mk1 h rfl rfl rfl rfl (flashProgram_wf _ _)

theorem armBreath_onward {s w : State} (h : Onward w s) : Onward w (armBreath s) := by
  unfold armBreath
  refine Onward.ite (Onward.mk' h rfl rfl rfl rfl rfl) ?_
  dsimp only
  split
  · exact Onward.mk' h rfl rfl rfl rfl rfl
  · refine Onward.mk1 h rfl rfl rfl rfl fun k => ?_
    split
    · exact k
    · exact flashErase_wf _ _ k

theorem assignSequences_onward  {s w : State} (h : Onward w s) :
    Onward w (assignSequences s) := by
  unfold assignSequences
  repeat' (first
    | with_reducible assumption
    | fail_if_no_progress (with_reducible refine Onward.mk' ?_ rfl rfl rfl rfl rfl))

theorem mountFails_onward (cause : Nat) {s w : State} (h : Onward w s) :
    Onward w (mountFails cause s) := by
  unfold mountFails
  repeat' (first
    | with_reducible assumption
    | with_reducible apply pushOwn_onward
    | with_reducible apply assignSequences_onward
    | fail_if_no_progress (with_reducible refine Onward.mk' ?_ rfl rfl rfl rfl rfl))

theorem restoreOdometer_onward  {s w : State} (h : Onward w s) :
    Onward w (restoreOdometer s) := by
  unfold restoreOdometer
  repeat' (first
    | with_reducible assumption
    | with_reducible apply pushOwn_onward
    | with_reducible apply Onward.ite
    | fail_if_no_progress (with_reducible refine Onward.mk' ?_ rfl rfl rfl rfl rfl))

theorem adoptLog_onward  {s w : State} (h : Onward w s) :
    Onward w (adoptLog s) := by
  unfold adoptLog
  repeat' (first
    | intro _
    | with_reducible assumption
    | with_reducible apply pushOwn_onward
    | with_reducible apply Onward.foldl
    | fail_if_no_progress (with_reducible refine Onward.mk' ?_ rfl rfl rfl rfl rfl)
    | split
    | dsimp only)

theorem firstRecord_onward  {s w : State} (h : Onward w s) :
    Onward w (firstRecord s) := by
  unfold firstRecord
  repeat' (first
    | with_reducible assumption
    | with_reducible apply writeRecord_onward
    | with_reducible apply ownRecord_onward
    | split)

theorem createLog_onward {s w : State} (h : Onward w s) : Onward w (createLog s) := by
  rw [createLog]
  split
  · exact h
  · exact firstRecord_onward (openSector_onward _ _ (Onward.mk' h rfl rfl rfl rfl rfl))

theorem copyBreaths_onward  {s w : State} (h : Onward w s) :
    Onward w (copyBreaths s) := by
  unfold copyBreaths
  repeat' (first
    | with_reducible assumption
    | fail_if_no_progress (with_reducible refine Onward.mk' ?_ rfl rfl rfl rfl rfl))

theorem mountRecorder_onward (bytes : Nat) (programUs : Nat) {s w : State} (h : Onward w s) :
    Onward w (mountRecorder bytes programUs s) := by
  unfold mountRecorder
  repeat' (first
    | with_reducible assumption
    | with_reducible apply restoreOdometer_onward
    | with_reducible apply createLog_onward
    | with_reducible apply adoptLog_onward
    | with_reducible apply assignSequences_onward
    | with_reducible apply copyBreaths_onward
    | with_reducible apply writeOdometer_onward
    | with_reducible apply pushOwn_onward
    | with_reducible apply Onward.ite
    | fail_if_no_progress (with_reducible refine Onward.mk' ?_ rfl rfl rfl rfl rfl))

end Sys2Proof.Machine
end

