-- ==== Sys2Proof/Laws/OnwardTrustOps.lean ====
section
/-! SUPPORT. What the acts of TrustOps keep (Laws/Onward). -/

namespace Sys2Proof.Machine

theorem fuseStop_onward (o : FuseOp) (bitNo : Nat) {s w : State} (h : Onward w s) :
    Onward w (fuseStop o bitNo s) := by
  unfold fuseStop
  repeat' (first
    | with_reducible assumption
    | with_reducible apply chipPulse_onward
    | with_reducible apply finishCommand_onward
    | fail_if_no_progress (with_reducible refine Onward.mk' ?_ rfl rfl rfl rfl rfl)
    | split)

theorem startRepair_onward (l : List (Nat × Nat)) {s w : State} (h : Onward w s) : Onward w (startRepair l s) := by
  induction l generalizing s with
  | nil => exact Onward.mk' h rfl rfl rfl rfl rfl
  | cons x rest ih =>
    unfold startRepair
    split
    · exact ih h
    · exact Onward.ite (Onward.mk' h rfl rfl rfl rfl rfl) (fuseStop_onward _ _ h)

theorem fuseDone_onward (o : FuseOp) {s w : State} (h : Onward w s) :
    Onward w (fuseDone o s) := by
  unfold fuseDone
  repeat' (first
    | with_reducible assumption
    | with_reducible apply finishCommand_onward
    | with_reducible apply event_onward
    | with_reducible apply startRepair_onward
    | fail_if_no_progress (with_reducible refine Onward.mk' ?_ rfl rfl rfl rfl rfl)
    | split)

theorem fuseStart_onward (purpose : FuseFor) (bits : List Nat) {s w : State} (h : Onward w s) :
    Onward w (fuseStart purpose bits s) := by
  unfold fuseStart
  repeat' (first
    | with_reducible assumption
    | with_reducible apply fuseDone_onward
    | fail_if_no_progress (with_reducible refine Onward.mk' ?_ rfl rfl rfl rfl rfl)
    | split
    | dsimp only)

theorem fuseBit_onward (verified : Bool) {s w : State} (h : Onward w s) :
    Onward w (fuseBit verified s) := by
  unfold fuseBit
  repeat' (first
    | with_reducible assumption
    | with_reducible apply fuseDone_onward
    | with_reducible apply fuseStop_onward
    | with_reducible apply Onward.ite
    | fail_if_no_progress (with_reducible refine Onward.mkFuse ?_ rfl rfl (fun i k => by simp [k]) rfl rfl)
    | split)

theorem deviceSign_onward (msg : Bytes) {s w : State} (h : Onward w s) :
    Onward w (deviceSign msg s).2 := by
  unfold deviceSign
  repeat' (first
    | with_reducible assumption
    | with_reducible apply drbg_onward
    | split)

theorem useToken_onward (act : Nat) (k : Bytes) {s w : State} (h : Onward w s) :
    Onward w (useToken act k s).2 := by
  unfold useToken
  repeat' (first
    | with_reducible assumption
    | with_reducible apply event_onward
    | with_reducible apply chipPulse_onward
    | split)

end Sys2Proof.Machine
end

