-- ==== Sys2Proof/Laws/OnwardClaspOps.lean ====
section
/-! SUPPORT. What the acts of ClaspOps keep (Laws/Onward). -/

namespace Sys2Proof.Machine

theorem noteRx_onward (a1 : Bytes) (again : Bool) {s w : State} (h : Onward w s) :
    Onward w (noteRx a1 again s) := by
  unfold noteRx
  repeat' (first
    | with_reducible assumption
    | with_reducible apply claspCount_onward
    | with_reducible apply State.setClasp_onward)

theorem onMessage_onward (k : RxKind) (t : Nat) (m : PilotMsg) {body : Bytes → State → State} {s w : State}
    (hb : ∀ b u, Onward w u → Onward w (body b u)) (h : Onward w (advance t s)) : Onward w (onMessage k t m body s) := by
  have hn : ∀ b a, Onward w (noteRx b a (advance t s)) := fun b a => noteRx_onward b a h
  exact Onward.ite h (Onward.ite (hn _ _) (hb _ _ (hn _ _)))

theorem beginTransition_onward (k : Contract) (old : Option Contract) (closing : Bool) (vr : Int) {s w : State} (h : Onward w s) :
    Onward w (beginTransition k old closing vr s) := by
  unfold beginTransition
  repeat' (first
    | with_reducible assumption
    | with_reducible apply tellStatus_onward
    | with_reducible apply steer_onward
    | with_reducible apply State.setClasp_onward)

theorem takeContract_onward (k : Contract) {s w : State} (h : Onward w s) :
    Onward w (takeContract k s) := by
  unfold takeContract
  repeat' (first
    | with_reducible assumption
    | with_reducible apply enterClasp_onward
    | with_reducible apply beginTransition_onward
    | with_reducible apply State.setClasp_onward
    | with_reducible apply Onward.ite)

theorem afterBusy_onward  {s w : State} (h : Onward w s) :
    Onward w (afterBusy s) := by
  unfold afterBusy
  repeat' (first
    | with_reducible assumption
    | with_reducible apply newCaps_onward
    | with_reducible apply askContract_onward
    | with_reducible apply State.setClasp_onward
    | with_reducible apply Onward.ite)

theorem completeTransition_onward  {s w : State} (h : Onward w s) :
    Onward w (completeTransition s) := by
  unfold completeTransition
  repeat' (first
    | with_reducible assumption
    | with_reducible apply enterClasp_onward
    | with_reducible apply event_onward
    | with_reducible apply afterBusy_onward
    | with_reducible apply tellStatus_onward
    | with_reducible apply State.setClasp_onward
    | with_reducible apply Onward.ite
    | split)

theorem tryClosing_onward  {s w : State} (h : Onward w s) :
    Onward w (tryClosing s) := by
  unfold tryClosing
  repeat' (first
    | with_reducible assumption
    | with_reducible apply beginTransition_onward
    | with_reducible apply Onward.ite
    | split
    | dsimp only)

theorem onRequestMsg_onward (p : Bytes) {s w : State} (h : Onward w s) :
    Onward w (onRequestMsg p s) := by
  unfold onRequestMsg
  repeat' (first
    | with_reducible assumption
    | with_reducible apply sendAnswer_onward
    | with_reducible apply takeContract_onward
    | with_reducible apply Onward.ite
    | split)

theorem startSwap_onward (mine : Bool) {s w : State} (h : Onward w s) :
    Onward w (startSwap mine s) := by
  unfold startSwap
  repeat' (first
    | with_reducible assumption
    | with_reducible apply rampAway_onward
    | with_reducible apply State.setClasp_onward)

theorem completeSwap_onward  {s w : State} (h : Onward w s) :
    Onward w (completeSwap s) := by
  unfold completeSwap
  repeat' (first
    | with_reducible assumption
    | with_reducible apply denySwap_onward
    | with_reducible apply finishCommand_onward
    | with_reducible apply event_onward
    | with_reducible apply askContract_onward
    | with_reducible apply State.setClasp_onward
    | with_reducible apply Onward.ite)

theorem onRoleSwap_onward  {s w : State} (h : Onward w s) :
    Onward w (onRoleSwap s) := by
  unfold onRoleSwap
  repeat' (first
    | with_reducible assumption
    | with_reducible apply sendAnswer_onward
    | with_reducible apply denySwap_onward
    | with_reducible apply startSwap_onward
    | with_reducible apply State.setClasp_onward
    | with_reducible apply Onward.ite)

theorem takeSource_onward  {s w : State} (h : Onward w s) :
    Onward w (takeSource s) := by
  unfold takeSource
  repeat' (first
    | with_reducible assumption
    | with_reducible apply sendMsg_onward
    | with_reducible apply newCaps_onward
    | with_reducible apply State.setClasp_onward)

theorem onSettled_onward  {s w : State} (h : Onward w s) :
    Onward w (onSettled s) := by
  unfold onSettled
  repeat' (first
    | with_reducible assumption
    | with_reducible apply completeSwap_onward
    | with_reducible apply takeSource_onward
    | with_reducible apply completeTransition_onward
    | with_reducible apply Onward.ite
    | split)

theorem askIdentity_onward  {s w : State} (h : Onward w s) :
    Onward w (askIdentity s) := by
  unfold askIdentity
  repeat' (first
    | with_reducible assumption
    | with_reducible apply drbg_onward
    | with_reducible apply sendVdm_onward
    | with_reducible apply State.setClasp_onward
    | with_reducible apply Onward.ite)

theorem onCaps_onward (p : Bytes) {s w : State} (h : Onward w s) :
    Onward w (onCaps p s) := by
  unfold onCaps
  repeat' (first
    | with_reducible assumption
    | with_reducible apply newCaps_onward
    | with_reducible apply drawTie_onward
    | with_reducible apply askIdentity_onward
    | with_reducible apply sendVdm_onward
    | with_reducible apply tellStatus_onward
    | with_reducible apply askContract_onward
    | with_reducible apply State.setClasp_onward
    | with_reducible apply Onward.ite
    | split)

theorem sendChunks_onward (blob : Bytes) {s w : State} (h : Onward w s) :
    Onward w (sendChunks blob s) := by
  unfold sendChunks
  repeat' (first
    | intro _
    | with_reducible assumption
    | with_reducible apply sendVdm_onward
    | with_reducible apply Onward.foldl)

theorem onIdentity_onward (p : Bytes) {s w : State} (h : Onward w s) :
    Onward w (onIdentity p s) := by
  unfold onIdentity
  repeat' (first
    | with_reducible assumption
    | with_reducible apply sendVdm_onward
    | with_reducible apply drbg_onward
    | with_reducible apply deviceSign_onward
    | with_reducible apply sendChunks_onward
    | with_reducible apply Onward.ite)

theorem untrust_onward  {s w : State} (h : Onward w s) :
    Onward w (untrust s) := by
  unfold untrust
  repeat' (first
    | with_reducible assumption
    | with_reducible apply tellStatus_onward
    | with_reducible apply chipPulse_onward
    | with_reducible apply State.setClasp_onward)

theorem dropIdentity_onward  {s w : State} (h : Onward w s) :
    Onward w (dropIdentity s) := by
  unfold dropIdentity
  repeat' (first
    | with_reducible assumption
    | with_reducible apply claspCount_onward
    | with_reducible apply untrust_onward
    | with_reducible apply State.setClasp_onward
    | with_reducible apply Onward.ite)

theorem onChunk_onward (p : Bytes) {s w : State} (h : Onward w s) :
    Onward w (onChunk p s) := by
  unfold onChunk
  repeat' (first
    | with_reducible assumption
    | with_reducible apply dropIdentity_onward
    | with_reducible apply State.setClasp_onward
    | with_reducible apply Onward.ite
    | split)

theorem markVerified_onward (serial : Nat) {s w : State} (h : Onward w s) :
    Onward w (markVerified serial s) := by
  unfold markVerified
  repeat' (first
    | with_reducible assumption
    | with_reducible apply event_onward
    | with_reducible apply tellStatus_onward
    | with_reducible apply newCaps_onward
    | with_reducible apply State.setClasp_onward
    | with_reducible apply Onward.ite)

theorem enterMode_onward (m : Nat) (droop : Nat) {s w : State} (h : Onward w s) :
    Onward w (enterMode m droop s) := by
  unfold enterMode
  repeat' (first
    | with_reducible assumption
    | with_reducible apply tellStatus_onward
    | with_reducible apply event_onward
    | with_reducible apply State.setClasp_onward)

theorem exitMode_onward (m : Nat) {s w : State} (h : Onward w s) :
    Onward w (exitMode m s) := by
  unfold exitMode
  repeat' (first
    | with_reducible assumption
    | with_reducible apply tellStatus_onward
    | with_reducible apply event_onward
    | with_reducible apply State.setClasp_onward
    | with_reducible apply Onward.ite)

theorem askLater_onward  {s w : State} (h : Onward w s) :
    Onward w (askLater s) := by
  unfold askLater
  repeat' (first
    | with_reducible assumption
    | with_reducible apply State.setClasp_onward)

theorem onEnterMode_onward (p : Bytes) {s w : State} (h : Onward w s) :
    Onward w (onEnterMode p s) := by
  unfold onEnterMode
  repeat' (first
    | with_reducible assumption
    | with_reducible apply sendVdm_onward
    | with_reducible apply enterMode_onward
    | with_reducible apply Onward.ite)

theorem onExitMode_onward (p : Bytes) {s w : State} (h : Onward w s) :
    Onward w (onExitMode p s) := by
  unfold onExitMode
  repeat' (first
    | with_reducible assumption
    | with_reducible apply sendVdm_onward
    | with_reducible apply exitMode_onward
    | with_reducible apply Onward.ite)

theorem onModeReply_onward (p : Bytes) {s w : State} (h : Onward w s) :
    Onward w (onModeReply p s) := by
  unfold onModeReply
  repeat' (first
    | with_reducible assumption
    | with_reducible apply finishCommand_onward
    | with_reducible apply enterMode_onward
    | with_reducible apply exitMode_onward
    | with_reducible apply denyMode_onward
    | with_reducible apply askLater_onward
    | with_reducible apply State.setClasp_onward
    | with_reducible apply Onward.ite
    | split)

theorem onAccept_onward (p : Bytes) {s w : State} (h : Onward w s) :
    Onward w (onAccept p s) := by
  unfold onAccept
  repeat' (first
    | with_reducible assumption
    | with_reducible apply startSwap_onward
    | with_reducible apply takeContract_onward
    | with_reducible apply Onward.ite
    | split)

theorem onReject_onward (p : Bytes) {s w : State} (h : Onward w s) :
    Onward w (onReject p s) := by
  unfold onReject
  repeat' (first
    | with_reducible assumption
    | with_reducible apply denySwap_onward
    | with_reducible apply State.setClasp_onward
    | with_reducible apply Onward.ite)

theorem onWait_onward  {s w : State} (h : Onward w s) :
    Onward w (onWait s) := by
  unfold onWait
  repeat' (first
    | with_reducible assumption
    | with_reducible apply denySwap_onward
    | with_reducible apply askLater_onward
    | with_reducible apply State.setClasp_onward
    | with_reducible apply Onward.ite)

theorem onStatus_onward (p : Bytes) {s w : State} (h : Onward w s) :
    Onward w (onStatus p s) := by
  unfold onStatus
  repeat' (first
    | with_reducible assumption
    | with_reducible apply tryClosing_onward
    | with_reducible apply State.setClasp_onward)

theorem onAlert_onward (p : Bytes) {s w : State} (h : Onward w s) :
    Onward w (onAlert p s) := by
  unfold onAlert
  repeat' (first
    | with_reducible assumption
    | with_reducible apply State.setClasp_onward)

theorem onCustomer_onward (p : Bytes) {s w : State} (h : Onward w s) :
    Onward w (onCustomer p s) := by
  unfold onCustomer
  repeat' (first
    | with_reducible assumption
    | with_reducible apply send_onward
    | with_reducible apply claspCount_onward
    | with_reducible apply setCause_onward
    | with_reducible apply State.setClasp_onward
    | with_reducible apply Onward.ite
    | split)

theorem onBridge_onward (p : Bytes) {s w : State} (h : Onward w s) :
    Onward w (onBridge p s) := by
  unfold onBridge
  repeat' (first
    | with_reducible assumption
    | with_reducible apply queueFrames_onward
    | with_reducible apply Onward.ite)

theorem hardReset_onward  {s w : State} (h : Onward w s) :
    Onward w (hardReset s) := by
  unfold hardReset
  repeat' (first
    | with_reducible assumption
    | with_reducible apply claspCount_onward
    | with_reducible apply chipPulse_onward
    | with_reducible apply claspHardReset_onward
    | with_reducible apply State.setClasp_onward)

theorem softReset_onward  {s w : State} (h : Onward w s) :
    Onward w (softReset s) := by
  unfold softReset
  repeat' (first
    | with_reducible assumption
    | with_reducible apply hardReset_onward
    | with_reducible apply dropHostVdm_onward
    | with_reducible apply event_onward
    | with_reducible apply claspCount_onward
    | with_reducible apply resyncActs_onward
    | with_reducible apply State.setClasp_onward
    | with_reducible apply Onward.ite)

theorem splitCouple_onward  {s w : State} (h : Onward w s) :
    Onward w (splitCouple s) := by
  unfold splitCouple
  repeat' (first
    | with_reducible assumption
    | with_reducible apply chipPulse_onward
    | with_reducible apply endCoupling_onward
    | with_reducible apply State.setClasp_onward)

theorem missAck_onward (o : Outstanding) {s w : State} (h : Onward w s) :
    Onward w (missAck o s) := by
  unfold missAck
  repeat' (first
    | with_reducible assumption
    | with_reducible apply claspCount_onward
    | with_reducible apply splitCouple_onward
    | with_reducible apply softReset_onward
    | with_reducible apply State.setClasp_onward
    | with_reducible apply Onward.ite)

theorem acked_onward (o : Outstanding) {s w : State} (h : Onward w s) :
    Onward w (acked o s) := by
  unfold acked
  repeat' (first
    | with_reducible assumption
    | with_reducible apply answerHostVdm_onward
    | with_reducible apply completeSwap_onward
    | with_reducible apply State.setClasp_onward
    | split)

theorem launch_onward (o : Outstanding) {s w : State} (h : Onward w s) :
    Onward w (launch o s) := by
  unfold launch
  repeat' (first
    | with_reducible assumption
    | with_reducible apply State.setClasp_onward)

theorem noteSent_onward (m : OutMsg) {s w : State} (h : Onward w s) :
    Onward w (noteSent m s) := by
  unfold noteSent
  repeat' (first
    | with_reducible assumption
    | with_reducible apply State.setClasp_onward
    | with_reducible apply Onward.ite)

theorem transmitNext_onward  {s w : State} (h : Onward w s) :
    Onward w (transmitNext s) := by
  unfold transmitNext
  repeat' (first
    | with_reducible assumption
    | with_reducible apply launch_onward
    | with_reducible apply noteSent_onward
    | with_reducible apply State.setClasp_onward
    | with_reducible apply Onward.ite
    | split
    | dsimp only)

theorem setPatina_onward (k : Nat) {s w : State} (h : Onward w s) :
    Onward w (setPatina k s) := by
  unfold setPatina
  repeat' (first
    | with_reducible assumption
    | with_reducible apply tellStatus_onward
    | with_reducible apply event_onward
    | with_reducible apply State.setClasp_onward
    | with_reducible apply Onward.ite)

theorem patinaResult_onward (r : Nat) {s w : State} (h : Onward w s) :
    Onward w (patinaResult r s) := by
  unfold patinaResult
  repeat' (first
    | with_reducible assumption
    | with_reducible apply setPatina_onward
    | with_reducible apply enterDiscover_onward
    | with_reducible apply enterClasp_onward
    | with_reducible apply chipPulse_onward
    | with_reducible apply endCoupling_onward
    | with_reducible apply State.setClasp_onward
    | with_reducible apply Onward.ite)

end Sys2Proof.Machine
end

