-- ==== Sys2Proof/Laws/OnwardClasp.lean ====
section
/-! SUPPORT. What the acts of Clasp keep (Laws/Onward). -/

namespace Sys2Proof.Machine

theorem execProxMate_onward (t : Nat) (s : State) :
    Lands (advance t s) (execProxMate t s) := by
  unfold execProxMate
  repeat' (first
    | with_reducible exact Onward.refl _
    | with_reducible apply enterCheck_onward
    | with_reducible apply drawTie_onward
    | with_reducible apply State.setClasp_onward
    | with_reducible apply Lands.next
    | with_reducible apply Lands.ite)

theorem execPatinaCheckComplete_onward (t : Nat) (p : PatinaMeasure) (s : State) :
    Lands (advance t s) (execPatinaCheckComplete t p s) := by
  unfold execPatinaCheckComplete
  repeat' (first
    | with_reducible exact Onward.refl _
    | with_reducible apply chipPulse_onward
    | with_reducible apply patinaResult_onward
    | with_reducible apply State.setClasp_onward
    | with_reducible apply Onward.ite
    | with_reducible apply Lands.next
    | with_reducible apply Lands.ite)

theorem execPatinaRetest_onward (t : Nat) (s : State) :
    Lands (advance t s) (execPatinaRetest t s) := by
  unfold execPatinaRetest
  repeat' (first
    | with_reducible exact Onward.refl _
    | with_reducible apply State.setClasp_onward
    | with_reducible apply Lands.next
    | with_reducible apply Lands.ite)

theorem execMessageDiscarded_onward (t : Nat) (m : PilotMsg) (s : State) :
    Lands (advance t s) (execMessageDiscarded t m s) := by
  unfold execMessageDiscarded
  repeat' (first
    | with_reducible exact Onward.refl _
    | with_reducible apply claspCount_onward
    | with_reducible apply State.setClasp_onward
    | with_reducible apply Lands.next
    | with_reducible apply Lands.ite
    | split)

theorem execAccept_onward (t : Nat) (m : PilotMsg) (s : State) :
    Lands (advance t s) (execAccept t m s) := by
  unfold execAccept
  repeat' (first
    | intro _
    | with_reducible assumption
    | with_reducible exact Onward.refl _
    | with_reducible apply onMessage_onward
    | with_reducible apply onAccept_onward
    | with_reducible apply Lands.next)

theorem execReject_onward (t : Nat) (m : PilotMsg) (s : State) :
    Lands (advance t s) (execReject t m s) := by
  unfold execReject
  repeat' (first
    | intro _
    | with_reducible assumption
    | with_reducible exact Onward.refl _
    | with_reducible apply onMessage_onward
    | with_reducible apply onReject_onward
    | with_reducible apply Lands.next)

theorem execWait_onward (t : Nat) (m : PilotMsg) (s : State) :
    Lands (advance t s) (execWait t m s) := by
  unfold execWait
  repeat' (first
    | intro _
    | with_reducible assumption
    | with_reducible exact Onward.refl _
    | with_reducible apply onMessage_onward
    | with_reducible apply onWait_onward
    | with_reducible apply Lands.next)

theorem execSettled_onward (t : Nat) (m : PilotMsg) (s : State) :
    Lands (advance t s) (execSettled t m s) := by
  unfold execSettled
  repeat' (first
    | intro _
    | with_reducible assumption
    | with_reducible exact Onward.refl _
    | with_reducible apply onMessage_onward
    | with_reducible apply onSettled_onward
    | with_reducible apply Lands.next)

theorem execCapsQuery_onward (t : Nat) (m : PilotMsg) (s : State) :
    Lands (advance t s) (execCapsQuery t m s) := by
  unfold execCapsQuery
  repeat' (first
    | intro _
    | with_reducible assumption
    | with_reducible exact Onward.refl _
    | with_reducible apply onMessage_onward
    | with_reducible apply repeatCaps_onward
    | with_reducible apply Lands.next)

theorem execRoleSwap_onward (t : Nat) (m : PilotMsg) (s : State) :
    Lands (advance t s) (execRoleSwap t m s) := by
  unfold execRoleSwap
  repeat' (first
    | intro _
    | with_reducible assumption
    | with_reducible exact Onward.refl _
    | with_reducible apply onMessage_onward
    | with_reducible apply onRoleSwap_onward
    | with_reducible apply Lands.next)

theorem execResync_onward (t : Nat) (m : PilotMsg) (s : State) :
    Lands (advance t s) (execResync t m s) := by
  unfold execResync
  repeat' (first
    | intro _
    | with_reducible assumption
    | with_reducible exact Onward.refl _
    | with_reducible apply onMessage_onward
    | with_reducible apply resyncActs_onward
    | with_reducible apply Lands.next)

theorem execEndCoupling_onward (t : Nat) (m : PilotMsg) (s : State) :
    Lands (advance t s) (execEndCoupling t m s) := by
  unfold execEndCoupling
  repeat' (first
    | intro _
    | with_reducible assumption
    | with_reducible exact Onward.refl _
    | with_reducible apply onMessage_onward
    | with_reducible apply endCoupling_onward
    | with_reducible apply Lands.next)

theorem execNotSupported_onward (t : Nat) (m : PilotMsg) (s : State) :
    Lands (advance t s) (execNotSupported t m s) := by
  unfold execNotSupported
  repeat' (first
    | intro _
    | with_reducible assumption
    | with_reducible exact Onward.refl _
    | with_reducible apply onMessage_onward
    | with_reducible apply Lands.next)

theorem execUnknownType_onward (t : Nat) (m : PilotMsg) (s : State) :
    Lands (advance t s) (execUnknownType t m s) := by
  unfold execUnknownType
  repeat' (first
    | intro _
    | with_reducible assumption
    | with_reducible exact Onward.refl _
    | with_reducible apply onMessage_onward
    | with_reducible apply send_onward
    | with_reducible apply Lands.next)

theorem execCapabilities_onward (t : Nat) (m : PilotMsg) (s : State) :
    Lands (advance t s) (execCapabilities t m s) := by
  unfold execCapabilities
  repeat' (first
    | intro _
    | with_reducible assumption
    | with_reducible exact Onward.refl _
    | with_reducible apply onMessage_onward
    | with_reducible apply onCaps_onward
    | with_reducible apply Lands.next)

theorem execRequest_onward (t : Nat) (m : PilotMsg) (s : State) :
    Lands (advance t s) (execRequest t m s) := by
  unfold execRequest
  repeat' (first
    | intro _
    | with_reducible assumption
    | with_reducible exact Onward.refl _
    | with_reducible apply onMessage_onward
    | with_reducible apply onRequestMsg_onward
    | with_reducible apply Lands.next)

theorem execStatus_onward (t : Nat) (m : PilotMsg) (s : State) :
    Lands (advance t s) (execStatus t m s) := by
  unfold execStatus
  repeat' (first
    | intro _
    | with_reducible assumption
    | with_reducible exact Onward.refl _
    | with_reducible apply onMessage_onward
    | with_reducible apply onStatus_onward
    | with_reducible apply Lands.next)

theorem execAlert_onward (t : Nat) (m : PilotMsg) (s : State) :
    Lands (advance t s) (execAlert t m s) := by
  unfold execAlert
  repeat' (first
    | intro _
    | with_reducible assumption
    | with_reducible exact Onward.refl _
    | with_reducible apply onMessage_onward
    | with_reducible apply onAlert_onward
    | with_reducible apply Lands.next)

theorem execDiscoverIdentity_onward (t : Nat) (m : PilotMsg) (s : State) :
    Lands (advance t s) (execDiscoverIdentity t m s) := by
  unfold execDiscoverIdentity
  repeat' (first
    | intro _
    | with_reducible assumption
    | with_reducible exact Onward.refl _
    | with_reducible apply onMessage_onward
    | with_reducible apply onIdentity_onward
    | with_reducible apply Lands.next)

theorem execIdentityChunk_onward (t : Nat) (m : PilotMsg) (s : State) :
    Lands (advance t s) (execIdentityChunk t m s) := by
  unfold execIdentityChunk
  repeat' (first
    | intro _
    | with_reducible assumption
    | with_reducible exact Onward.refl _
    | with_reducible apply onMessage_onward
    | with_reducible apply onChunk_onward
    | with_reducible apply Lands.next)

theorem execDiscoverModes_onward (t : Nat) (m : PilotMsg) (s : State) :
    Lands (advance t s) (execDiscoverModes t m s) := by
  unfold execDiscoverModes
  repeat' (first
    | intro _
    | with_reducible assumption
    | with_reducible exact Onward.refl _
    | with_reducible apply onMessage_onward
    | with_reducible apply sendVdm_onward
    | with_reducible apply Lands.next)

theorem execEnterMode_onward (t : Nat) (m : PilotMsg) (s : State) :
    Lands (advance t s) (execEnterMode t m s) := by
  unfold execEnterMode
  repeat' (first
    | intro _
    | with_reducible assumption
    | with_reducible exact Onward.refl _
    | with_reducible apply onMessage_onward
    | with_reducible apply onEnterMode_onward
    | with_reducible apply Lands.next)

theorem execExitMode_onward (t : Nat) (m : PilotMsg) (s : State) :
    Lands (advance t s) (execExitMode t m s) := by
  unfold execExitMode
  repeat' (first
    | intro _
    | with_reducible assumption
    | with_reducible exact Onward.refl _
    | with_reducible apply onMessage_onward
    | with_reducible apply onExitMode_onward
    | with_reducible apply Lands.next)

theorem execAttention_onward (t : Nat) (m : PilotMsg) (s : State) :
    Lands (advance t s) (execAttention t m s) := by
  unfold execAttention
  repeat' (first
    | intro _
    | with_reducible assumption
    | with_reducible exact Onward.refl _
    | with_reducible apply onMessage_onward
    | with_reducible apply sendStatus_onward
    | with_reducible apply Lands.next)

theorem execBridgeFrame_onward (t : Nat) (m : PilotMsg) (s : State) :
    Lands (advance t s) (execBridgeFrame t m s) := by
  unfold execBridgeFrame
  repeat' (first
    | intro _
    | with_reducible assumption
    | with_reducible exact Onward.refl _
    | with_reducible apply onMessage_onward
    | with_reducible apply onBridge_onward
    | with_reducible apply Lands.next)

theorem execCustomerVdm_onward (t : Nat) (m : PilotMsg) (s : State) :
    Lands (advance t s) (execCustomerVdm t m s) := by
  unfold execCustomerVdm
  repeat' (first
    | intro _
    | with_reducible assumption
    | with_reducible exact Onward.refl _
    | with_reducible apply onMessage_onward
    | with_reducible apply onCustomer_onward
    | with_reducible apply Lands.next)

theorem execVdmReply_onward (t : Nat) (m : PilotMsg) (s : State) :
    Lands (advance t s) (execVdmReply t m s) := by
  unfold execVdmReply
  repeat' (first
    | intro _
    | with_reducible assumption
    | with_reducible exact Onward.refl _
    | with_reducible apply onMessage_onward
    | with_reducible apply onModeReply_onward
    | with_reducible apply Lands.next)

theorem execKreiloVdmUnknown_onward (t : Nat) (m : PilotMsg) (s : State) :
    Lands (advance t s) (execKreiloVdmUnknown t m s) := by
  unfold execKreiloVdmUnknown
  repeat' (first
    | intro _
    | with_reducible assumption
    | with_reducible exact Onward.refl _
    | with_reducible apply onMessage_onward
    | with_reducible apply sendVdm_onward
    | with_reducible apply Lands.next)

theorem execReceipt_onward (t : Nat) (byte : Nat) (cellsOk : Bool) (s : State) :
    Lands (advance t s) (execReceipt t byte cellsOk s) := by
  unfold execReceipt
  repeat' (first
    | with_reducible exact Onward.refl _
    | with_reducible apply acked_onward
    | with_reducible apply State.setClasp_onward
    | with_reducible apply Lands.next
    | with_reducible apply Lands.ite
    | split
    | dsimp only)

theorem execAckTimeout_onward (t : Nat) (s : State) :
    Lands (advance t s) (execAckTimeout t s) := by
  unfold execAckTimeout
  repeat' (first
    | with_reducible exact Onward.refl _
    | with_reducible apply missAck_onward
    | with_reducible apply Lands.next
    | with_reducible apply Lands.ite
    | split
    | dsimp only)

theorem execCollision_onward (t : Nat) (s : State) :
    Lands (advance t s) (execCollision t s) := by
  unfold execCollision
  repeat' (first
    | with_reducible exact Onward.refl _
    | with_reducible apply drbg_onward
    | with_reducible apply claspCount_onward
    | with_reducible apply State.setClasp_onward
    | with_reducible apply Onward.ite
    | with_reducible apply Lands.next
    | with_reducible apply Lands.ite
    | split
    | dsimp only)

theorem execPilotTransmitStart_onward (t : Nat) (s : State) :
    Lands (advance t s) (execPilotTransmitStart t s) := by
  unfold execPilotTransmitStart
  repeat' (first
    | with_reducible exact Onward.refl _
    | with_reducible apply transmitNext_onward
    | with_reducible apply Lands.next
    | with_reducible apply Lands.ite)

theorem execLineBreak_onward (t : Nat) (s : State) :
    Lands (advance t s) (execLineBreak t s) := by
  unfold execLineBreak
  repeat' (first
    | with_reducible exact Onward.refl _
    | with_reducible apply chipPulse_onward
    | with_reducible apply claspHardReset_onward
    | with_reducible apply claspCount_onward
    | with_reducible apply Lands.next
    | with_reducible apply Lands.ite)

theorem execCapsWaitTimeout_onward (t : Nat) (s : State) :
    Lands (advance t s) (execCapsWaitTimeout t s) := by
  unfold execCapsWaitTimeout
  repeat' (first
    | with_reducible exact Onward.refl _
    | with_reducible apply send_onward
    | with_reducible apply State.setClasp_onward
    | with_reducible apply Lands.next
    | with_reducible apply Lands.ite
    | split
    | dsimp only)

theorem execStatusTimer_onward (t : Nat) (s : State) :
    Lands (advance t s) (execStatusTimer t s) := by
  unfold execStatusTimer
  repeat' (first
    | with_reducible exact Onward.refl _
    | with_reducible apply sendStatus_onward
    | with_reducible apply Lands.next
    | with_reducible apply Lands.ite)

theorem execClosingStart_onward (t : Nat) (s : State) :
    Lands (advance t s) (execClosingStart t s) := by
  unfold execClosingStart
  repeat' (first
    | intro _
    | with_reducible assumption
    | with_reducible exact Onward.refl _
    | with_reducible apply enterClasp_onward
    | with_reducible apply startKa_onward
    | with_reducible apply beginTransition_onward
    | with_reducible apply tryClosing_onward
    | with_reducible apply tellStatus_onward
    | with_reducible apply chipPulse_onward
    | with_reducible apply Onward.foldl
    | with_reducible apply Lands.next
    | with_reducible apply Lands.ite
    | split)

theorem execClosingTimeout_onward (t : Nat) (s : State) :
    Lands (advance t s) (execClosingTimeout t s) := by
  unfold execClosingTimeout
  repeat' (first
    | with_reducible exact Onward.refl _
    | with_reducible apply endCoupling_onward
    | with_reducible apply Lands.next
    | with_reducible apply Lands.ite)

theorem execTransitionSettle_onward (t : Nat) (s : State) :
    Lands (advance t s) (execTransitionSettle t s) := by
  unfold execTransitionSettle
  repeat' (first
    | with_reducible exact Onward.refl _
    | with_reducible apply completeTransition_onward
    | with_reducible apply send_onward
    | with_reducible apply Lands.next
    | with_reducible apply Lands.ite
    | split
    | dsimp only)

theorem execTransitionAbandon_onward (t : Nat) (s : State) :
    Lands (advance t s) (execTransitionAbandon t s) := by
  unfold execTransitionAbandon
  repeat' (first
    | with_reducible exact Onward.refl _
    | with_reducible apply abandonTransition_onward
    | with_reducible apply softReset_onward
    | with_reducible apply Onward.ite
    | with_reducible apply Lands.next
    | with_reducible apply Lands.ite
    | split
    | dsimp only)

theorem execSwapStepTimeout_onward (t : Nat) (s : State) :
    Lands (advance t s) (execSwapStepTimeout t s) := by
  unfold execSwapStepTimeout
  repeat' (first
    | with_reducible exact Onward.refl _
    | with_reducible apply endCoupling_onward
    | with_reducible apply Lands.next
    | with_reducible apply Lands.ite
    | split
    | dsimp only)

theorem alertEnd_onward (cause : Nat) (code : Nat) {s w : State} (h : Onward w s) :
    Onward w (alertEnd cause code s) := by
  unfold alertEnd
  repeat' (first
    | with_reducible assumption
    | with_reducible apply chipPulse_onward
    | with_reducible apply endCoupling_onward
    | with_reducible apply send_onward)

theorem execLinkVoltage_onward (t : Nat) (s : State) :
    Lands (advance t s) (execLinkVoltage t s) := by
  unfold execLinkVoltage
  repeat' (first
    | with_reducible exact Onward.refl _
    | with_reducible apply alertEnd_onward
    | with_reducible apply Lands.next
    | with_reducible apply Lands.ite
    | split
    | dsimp only)

theorem execLinkImbalance_onward (t : Nat) (s : State) :
    Lands (advance t s) (execLinkImbalance t s) := by
  unfold execLinkImbalance
  repeat' (first
    | with_reducible exact Onward.refl _
    | with_reducible apply alertEnd_onward
    | with_reducible apply Lands.next
    | with_reducible apply Lands.ite)

theorem execCouplingEndComplete_onward (t : Nat) (s : State) :
    Lands (advance t s) (execCouplingEndComplete t s) := by
  unfold execCouplingEndComplete
  repeat' (first
    | with_reducible exact Onward.refl _
    | with_reducible apply finishEnding_onward
    | with_reducible apply stopCouplingKas_onward
    | with_reducible apply Onward.ite
    | with_reducible apply Lands.next
    | with_reducible apply Lands.ite
    | split
    | dsimp only)

theorem execSplit_onward (t : Nat) (s : State) :
    Lands (advance t s) (execSplit t s) := by
  unfold execSplit
  repeat' (first
    | with_reducible exact Onward.refl _
    | with_reducible apply splitCouple_onward
    | with_reducible apply Lands.next
    | with_reducible apply Lands.ite)

theorem execCablePulled_onward (t : Nat) (s : State) :
    Lands (advance t s) (execCablePulled t s) := by
  unfold execCablePulled
  repeat' (first
    | with_reducible exact Onward.refl _
    | with_reducible apply rampAway_onward
    | with_reducible apply abandonTransition_onward
    | with_reducible apply enterClasp_onward
    | with_reducible apply forgetPartner_onward
    | with_reducible apply forgetCoupling_onward
    | with_reducible apply dropHostVdm_onward
    | with_reducible apply dropPending_onward
    | with_reducible apply event_onward
    | with_reducible apply chipPulse_onward
    | with_reducible apply State.setClasp_onward
    | with_reducible apply Onward.ite
    | with_reducible apply Lands.next
    | with_reducible apply Lands.ite)

theorem execLockoutExpiry_onward (t : Nat) (s : State) :
    Lands (advance t s) (execLockoutExpiry t s) := by
  unfold execLockoutExpiry
  repeat' (first
    | with_reducible exact Onward.refl _
    | with_reducible apply enterCheck_onward
    | with_reducible apply Lands.next
    | with_reducible apply Lands.ite)

theorem execHallmarkVerifyComplete_onward (t : Nat) (s : State) :
    Lands (advance t s) (execHallmarkVerifyComplete t s) := by
  unfold execHallmarkVerifyComplete
  repeat' (first
    | with_reducible exact Onward.refl _
    | with_reducible apply markVerified_onward
    | with_reducible apply untrust_onward
    | with_reducible apply Lands.next
    | with_reducible apply Lands.ite
    | split
    | dsimp only)

theorem execHallmarkRetry_onward (t : Nat) (s : State) :
    Lands (advance t s) (execHallmarkRetry t s) := by
  unfold execHallmarkRetry
  repeat' (first
    | with_reducible exact Onward.refl _
    | with_reducible apply askIdentity_onward
    | with_reducible apply Lands.next
    | with_reducible apply Lands.ite
    | split
    | dsimp only)

theorem execSinkRequestResend_onward (t : Nat) (s : State) :
    Lands (advance t s) (execSinkRequestResend t s) := by
  unfold execSinkRequestResend
  repeat' (first
    | with_reducible exact Onward.refl _
    | with_reducible apply askContract_onward
    | with_reducible apply Lands.next
    | with_reducible apply Lands.ite)

theorem execBridgeCanRx_onward (t : Nat) (id : Nat) (fdf : Bool) (brs : Bool) (data : Bytes) (s : State) :
    Lands (advance t s) (execBridgeCanRx t id fdf brs data s) := by
  unfold execBridgeCanRx
  repeat' (first
    | with_reducible exact Onward.refl _
    | with_reducible apply claspCount_onward
    | with_reducible apply State.setClasp_onward
    | with_reducible apply Onward.ite
    | with_reducible apply Lands.next
    | with_reducible apply Lands.ite)

theorem couplingEnd_onward  {s w : State} (h : Onward w s) :
    Onward w (couplingEnd s).2.2 := by
  unfold couplingEnd
  repeat' (first
    | with_reducible assumption
    | with_reducible apply say_onward
    | with_reducible apply endCoupling_onward
    | split)

theorem execCouplingEnd_onward (t : Nat) (rq : CmdReq) (s : State) :
    Lands (advance t s) (execCouplingEnd t rq s) := by
  unfold execCouplingEnd
  repeat' (first
    | intro _
    | with_reducible assumption
    | with_reducible exact Onward.refl _
    | with_reducible apply runCommand_onward
    | with_reducible apply couplingEnd_onward
    | with_reducible apply Lands.next)

theorem couplingRoleSwap_onward  {s w : State} (h : Onward w s) :
    Onward w (couplingRoleSwap s).2.2 := by
  unfold couplingRoleSwap
  repeat' (first
    | with_reducible assumption
    | with_reducible apply say_onward
    | with_reducible apply send_onward
    | with_reducible apply State.setClasp_onward
    | split
    | dsimp only)

theorem execCouplingRoleSwap_onward (t : Nat) (rq : CmdReq) (s : State) :
    Lands (advance t s) (execCouplingRoleSwap t rq s) := by
  unfold execCouplingRoleSwap
  repeat' (first
    | intro _
    | with_reducible assumption
    | with_reducible exact Onward.refl _
    | with_reducible apply runCommand_onward
    | with_reducible apply couplingRoleSwap_onward
    | with_reducible apply Lands.next)

theorem couplingMode_onward (d : Bytes) {s w : State} (h : Onward w s) :
    Onward w (couplingMode d s).2.2 := by
  unfold couplingMode
  repeat' (first
    | with_reducible assumption
    | with_reducible apply say_onward
    | with_reducible apply sendVdm_onward
    | with_reducible apply State.setClasp_onward
    | split
    | dsimp only)

theorem execCouplingMode_onward (t : Nat) (rq : CmdReq) (s : State) :
    Lands (advance t s) (execCouplingMode t rq s) := by
  unfold execCouplingMode
  repeat' (first
    | intro _
    | with_reducible assumption
    | with_reducible exact Onward.refl _
    | with_reducible apply runCommand_onward
    | with_reducible apply couplingMode_onward
    | with_reducible apply Lands.next)

theorem couplingVdmSend_onward (rq : CmdReq) (d : Bytes) {s w : State} (h : Onward w s) :
    Onward w (couplingVdmSend rq d s).2.2 := by
  unfold couplingVdmSend
  repeat' (first
    | with_reducible assumption
    | with_reducible apply say_onward
    | with_reducible apply sendMsg_onward
    | with_reducible apply State.setClasp_onward
    | split
    | dsimp only)

theorem execCouplingVdmSend_onward (t : Nat) (rq : CmdReq) (s : State) :
    Lands (advance t s) (execCouplingVdmSend t rq s) := by
  unfold execCouplingVdmSend
  repeat' (first
    | intro _
    | with_reducible assumption
    | with_reducible exact Onward.refl _
    | with_reducible apply runCommand_onward
    | with_reducible apply couplingVdmSend_onward
    | with_reducible apply Lands.next)

end Sys2Proof.Machine
end

