-- ==== Sys2Proof/Laws/OnwardFabric.lean ====
section
/-! SUPPORT. What the acts of Fabric keep (Laws/Onward). -/

namespace Sys2Proof.Machine

theorem noteConflict_onward (m : Nat) {s w : State} (h : Onward w s) :
    Onward w (noteConflict m s) := by
  unfold noteConflict
  repeat' (first
    | with_reducible assumption
    | with_reducible apply event_onward
    | with_reducible apply Onward.ite
    | fail_if_no_progress (with_reducible refine Onward.mk' ?_ rfl rfl rfl rfl rfl))

theorem answerMaster_onward (m : Nat) (error : Bool) {s w : State} (h : Onward w s) :
    Onward w (answerMaster m error s) := by
  unfold answerMaster
  repeat' (first
    | with_reducible assumption
    | fail_if_no_progress (with_reducible refine Onward.mk' ?_ rfl rfl rfl rfl rfl))

theorem bankAccess_onward (bank : Nat) (a : BankAccess) {s w : State} (h : Onward w s) :
    Onward w (bankAccess bank a s) := by
  unfold bankAccess
  repeat' (first
    | with_reducible assumption
    | with_reducible apply noteConflict_onward
    | with_reducible apply chipPulse_onward
    | with_reducible apply answerMaster_onward
    | with_reducible apply State.setBank_onward
    | with_reducible apply Onward.ite)

theorem bankAccesses_onward (bank : Nat) (l : List BankAccess) {s w : State} (h : Onward w s) :
    Onward w (bankAccesses bank l s) := by
  unfold bankAccesses
  repeat' (first
    | intro _
    | with_reducible assumption
    | with_reducible apply bankAccess_onward
    | with_reducible apply Onward.foldl
    | with_reducible apply Onward.ite)

end Sys2Proof.Machine
end

