-- ==== Sys2Proof/Laws/OnwardRackStart.lean ====
section
/-! SUPPORT. What the acts of RackStart keep (Laws/Onward). -/

namespace Sys2Proof.Machine

theorem poolEngines_onward (proofs : List Nat) {s w : State} (h : Onward w s) :
    Onward w (poolEngines proofs s) := by
  unfold poolEngines
  repeat' (first
    | intro _
    | with_reducible assumption
    | with_reducible apply State.setEngine_onward
    | with_reducible apply Onward.foldl)

theorem activateRack_onward (proofs : List Nat) {s w : State} (h : Onward w s) :
    Onward w (activateRack proofs s) := by
  unfold activateRack
  repeat' (first
    | with_reducible assumption
    | with_reducible apply poolEngines_onward
    | with_reducible apply initMaquette_onward
    | with_reducible apply chipPulse_onward
    | with_reducible apply Onward.ite
    | fail_if_no_progress (with_reducible refine Onward.mk' ?_ rfl rfl rfl rfl rfl))

theorem standbyRack_onward  {s w : State} (h : Onward w s) :
    Onward w (standbyRack s) := by
  unfold standbyRack
  repeat' (first
    | intro _
    | with_reducible assumption
    | with_reducible apply startTraining_onward
    | with_reducible apply onRequest_onward
    | with_reducible apply State.setPort_onward
    | with_reducible apply Onward.foldl
    | with_reducible apply Onward.ite)

theorem mountRack_onward  {s w : State} (h : Onward w s) :
    Onward w (mountRack s) := by
  unfold mountRack
  repeat' (first
    | intro _
    | with_reducible assumption
    | with_reducible apply event_onward
    | with_reducible apply readStore_onward
    | with_reducible apply chipPulse_onward
    | with_reducible apply Onward.foldl
    | with_reducible apply Onward.ite)

end Sys2Proof.Machine
end

