-- ==== Sys2Proof/Laws/OnwardStart.lean ====
section
/-! SUPPORT. What the acts of Start keep (Laws/Onward). -/

namespace Sys2Proof.Machine

theorem enterBoot_onward (straps : Nat) {s w : State} (h : Onward w s) :
    Onward w (enterBoot straps s) := by
  unfold enterBoot
  repeat' (first
    | intro _
    | with_reducible assumption
    | with_reducible apply setMode_onward
    | with_reducible apply event_onward
    | with_reducible apply Onward.foldl
    | fail_if_no_progress (with_reducible refine Onward.mk' ?_ rfl rfl rfl rfl rfl))

theorem execVaoPor_onward (t : Nat) (s : State) :
    Lands (advance t s) (execVaoPor t s) := by
  unfold execVaoPor
  repeat' (first
    | with_reducible exact Onward.refl _
    | with_reducible apply resetChip_onward
    | with_reducible apply Lands.next
    | fail_if_no_progress (with_reducible refine Onward.mk' ?_ rfl rfl rfl rfl rfl))

theorem execPowerGood_onward (t : Nat) (straps : Nat) (s : State) :
    Lands (advance t s) (execPowerGood t straps s) := by
  unfold execPowerGood
  repeat' (first
    | with_reducible exact Onward.refl _
    | with_reducible apply enterBoot_onward
    | with_reducible apply Lands.next
    | with_reducible apply Lands.ite
    | fail_if_no_progress (with_reducible refine Onward.mk' ?_ rfl rfl rfl rfl rfl))

theorem execSupplyLoss_onward (t : Nat) (s : State) :
    Lands (advance t s) (execSupplyLoss t s) := by
  unfold execSupplyLoss
  repeat' (first
    | with_reducible exact Onward.refl _
    | with_reducible apply resetChip_onward
    | with_reducible apply Lands.next
    | with_reducible apply Lands.ite
    | fail_if_no_progress (with_reducible refine Onward.mk' ?_ rfl rfl rfl rfl rfl))

theorem execRstN_onward (t : Nat) (s : State) :
    Lands (advance t s) (execRstN t s) := by
  unfold execRstN
  repeat' (first
    | with_reducible exact Onward.refl _
    | with_reducible apply resetChip_onward
    | with_reducible apply Lands.next
    | fail_if_no_progress (with_reducible refine Onward.mk' ?_ rfl rfl rfl rfl rfl))

theorem execPllLoss_onward (t : Nat) (s : State) :
    Lands (advance t s) (execPllLoss t s) := by
  unfold execPllLoss
  repeat' (first
    | with_reducible exact Onward.refl _
    | with_reducible apply resetChip_onward
    | with_reducible apply Lands.next
    | with_reducible apply Lands.ite)

theorem wdtTrip_onward  {s w : State} (h : Onward w s) :
    Onward w (wdtTrip s) := by
  unfold wdtTrip
  repeat' (first
    | with_reducible assumption
    | with_reducible apply chipPulse_onward
    | with_reducible apply resetChip_onward
    | with_reducible apply writeBreath_onward
    | with_reducible apply capturePending_onward)

theorem execWatchdogExpiry_onward (a1 : At Bool) (s : State) :
    Lands (advance a1.time s) (execWatchdogExpiry a1 s) := by
  unfold execWatchdogExpiry
  repeat' (first
    | with_reducible exact Onward.refl _
    | with_reducible apply wdtTrip_onward
    | with_reducible apply Lands.next
    | with_reducible apply Lands.ite
    | fail_if_no_progress (with_reducible refine Onward.mk' ?_ rfl rfl rfl rfl rfl))

theorem domainOn_onward (d : Nat) {s w : State} (h : Onward w s) :
    Onward w (domainOn s d) := by
  unfold domainOn
  repeat' (first
    | with_reducible assumption
    | fail_if_no_progress (with_reducible refine Onward.mk' ?_ rfl rfl rfl rfl rfl))

theorem execPllLocked_onward (t : Nat) (s : State) :
    Lands (advance t s) (execPllLocked t s) := by
  unfold execPllLocked
  repeat' (first
    | intro _
    | with_reducible assumption
    | with_reducible exact Onward.refl _
    | with_reducible apply domainOn_onward
    | with_reducible apply Onward.foldl
    | with_reducible apply Lands.next
    | with_reducible apply Lands.ite
    | fail_if_no_progress (with_reducible refine Onward.mk' ?_ rfl rfl rfl rfl rfl))

theorem repairBank_onward (failing : List (Nat × Nat)) (a1 : Nat) {s w : State} (h : Onward w s) :
    Onward w (repairBank failing s a1) := by
  unfold repairBank
  repeat' (first
    | intro _
    | with_reducible assumption
    | with_reducible apply chipFault_onward
    | with_reducible apply event_onward
    | with_reducible apply State.setBank_onward
    | with_reducible apply Onward.foldl
    | with_reducible apply Onward.ite)

theorem execMbistComplete_onward (t : Nat) (failing : List (Nat × Nat)) (s : State) :
    Lands (advance t s) (execMbistComplete t failing s) := by
  unfold execMbistComplete
  repeat' (first
    | intro _
    | with_reducible assumption
    | with_reducible exact Onward.refl _
    | with_reducible apply repairBank_onward
    | with_reducible apply Onward.foldl
    | with_reducible apply Lands.next
    | with_reducible apply Lands.ite
    | fail_if_no_progress (with_reducible refine Onward.mk' ?_ rfl rfl rfl rfl rfl))

theorem startBenra_onward (raw : Bytes) {s w : State} (h : Onward w s) :
    Onward w (startBenra raw s) := by
  unfold startBenra
  repeat' (first
    | with_reducible assumption
    | with_reducible apply drbg_onward
    | with_reducible apply seedDrbg_onward
    | with_reducible apply chipFault_onward
    | with_reducible apply Onward.ite
    | fail_if_no_progress (with_reducible refine Onward.mk' ?_ rfl rfl rfl rfl rfl))

theorem execSelfTestComplete_onward (t : Nat) (kat : List Bool) (trng : List Bytes) (fuseReads : List Nat) (s : State) :
    Lands (advance t s) (execSelfTestComplete t kat trng fuseReads s) := by
  unfold execSelfTestComplete
  repeat' (first
    | with_reducible exact Onward.refl _
    | with_reducible apply chipFault_onward
    | with_reducible apply startBenra_onward
    | with_reducible apply Lands.next
    | with_reducible apply Lands.ite
    | fail_if_no_progress (with_reducible refine Onward.mk' ?_ rfl rfl rfl rfl rfl)
    | split)

theorem noBootableImage_onward  {s w : State} (h : Onward w s) :
    Onward w (noBootableImage s) := by
  unfold noBootableImage
  repeat' (first
    | with_reducible assumption
    | with_reducible apply chipFault_onward
    | with_reducible apply Onward.ite
    | fail_if_no_progress (with_reducible refine Onward.mk' ?_ rfl rfl rfl rfl rfl))

theorem execSfdpRead_onward (t : Nat) (modes : List XspiMode) (s : State) :
    Lands (advance t s) (execSfdpRead t modes s) := by
  unfold execSfdpRead
  repeat' (first
    | with_reducible exact Onward.refl _
    | with_reducible apply event_onward
    | with_reducible apply noBootableImage_onward
    | with_reducible apply Onward.ite
    | with_reducible apply Lands.next
    | with_reducible apply Lands.ite
    | fail_if_no_progress (with_reducible refine Onward.mk' ?_ rfl rfl rfl rfl rfl))

theorem execSlotVerifyComplete_onward (t : Nat) (readOk : Bool) (s : State) :
    Lands (advance t s) (execSlotVerifyComplete t readOk s) := by
  unfold execSlotVerifyComplete
  repeat' (first
    | with_reducible exact Onward.refl _
    | with_reducible apply noBootableImage_onward
    | with_reducible apply chipPulse_onward
    | with_reducible apply Onward.ite
    | with_reducible apply Lands.next
    | with_reducible apply Lands.ite
    | fail_if_no_progress (with_reducible refine Onward.mk' ?_ rfl rfl rfl rfl rfl)
    | split
    | dsimp only)

theorem reactLatched_onward  {s w : State} (h : Onward w s) :
    Onward w (reactLatched s) := by
  unfold reactLatched
  repeat' (first
    | intro _
    | with_reducible assumption
    | with_reducible apply react_onward
    | with_reducible apply Onward.foldl
    | with_reducible apply Onward.ite)

theorem execActivation_onward (t : Nat) (proofs : List Nat) (s : State) :
    Lands (advance t s) (execActivation t proofs s) := by
  unfold execActivation
  repeat' (first
    | with_reducible exact Onward.refl _
    | with_reducible apply activateRack_onward
    | with_reducible apply event_onward
    | with_reducible apply reactLatched_onward
    | with_reducible apply Onward.ite
    | with_reducible apply Lands.next
    | with_reducible apply Lands.ite
    | fail_if_no_progress (with_reducible refine Onward.mk' ?_ rfl rfl rfl rfl rfl)
    | split
    | dsimp only)

theorem execStandbyEntry_onward (t : Nat) (vpp : Nat) (s : State) :
    Lands (advance t s) (execStandbyEntry t vpp s) := by
  unfold execStandbyEntry
  repeat' (first
    | with_reducible exact Onward.refl _
    | with_reducible apply setMode_onward
    | with_reducible apply standbyRack_onward
    | with_reducible apply startClasp_onward
    | with_reducible apply enterSafe_onward
    | with_reducible apply startRepair_onward
    | with_reducible apply Onward.ite
    | with_reducible apply Lands.next
    | with_reducible apply Lands.ite
    | fail_if_no_progress (with_reducible refine Onward.mk' ?_ rfl rfl rfl rfl rfl))

theorem execDormantEntry_onward (t : Nat) (s : State) :
    Lands (advance t s) (execDormantEntry t s) := by
  unfold execDormantEntry
  repeat' (first
    | with_reducible exact Onward.refl _
    | with_reducible apply writeOdometer_onward
    | with_reducible apply flushAll_onward
    | with_reducible apply offDomains_onward
    | with_reducible apply Lands.next
    | with_reducible apply Lands.ite
    | fail_if_no_progress (with_reducible refine Onward.mk' ?_ rfl rfl rfl rfl rfl))

theorem wake_onward (straps : Nat) {s w : State} (h : Onward w s) :
    Onward w (wake straps s) := by
  unfold wake
  repeat' (first
    | with_reducible assumption
    | with_reducible apply enterBoot_onward
    | with_reducible apply Onward.ite
    | fail_if_no_progress (with_reducible refine Onward.mk' ?_ rfl rfl rfl rfl rfl))

theorem execDormantWake_onward (t : Nat) (source : WakeSource) (straps : Nat) (s : State) :
    Lands (advance t s) (execDormantWake t source straps s) := by
  unfold execDormantWake
  repeat' (first
    | with_reducible exact Onward.refl _
    | with_reducible apply wake_onward
    | with_reducible apply Lands.next
    | with_reducible apply Lands.ite
    | fail_if_no_progress (with_reducible refine Onward.mk' ?_ rfl rfl rfl rfl rfl)
    | split)

theorem execWakeIntervalExpiry_onward (t : Nat) (straps : Nat) (s : State) :
    Lands (advance t s) (execWakeIntervalExpiry t straps s) := by
  unfold execWakeIntervalExpiry
  repeat' (first
    | with_reducible exact Onward.refl _
    | with_reducible apply wake_onward
    | with_reducible apply Lands.next
    | with_reducible apply Lands.ite)

theorem execTwDormantAddressMatch_onward (t : Nat) (address : Nat) (straps : Nat) (s : State) :
    Lands (advance t s) (execTwDormantAddressMatch t address straps s) := by
  unfold execTwDormantAddressMatch
  repeat' (first
    | with_reducible exact Onward.refl _
    | with_reducible apply wake_onward
    | with_reducible apply Lands.next
    | with_reducible apply Lands.ite
    | fail_if_no_progress (with_reducible refine Onward.mk' ?_ rfl rfl rfl rfl rfl))

theorem suspect_onward (a1 : Nat) (c : Nat) {s w : State} (h : Onward w s) :
    Onward w (suspect a1 c s) := by
  unfold suspect
  repeat' (first
    | with_reducible assumption
    | with_reducible apply chipPulse_onward
    | with_reducible apply Onward.ite
    | fail_if_no_progress (with_reducible refine Onward.mk' ?_ rfl rfl rfl rfl rfl))

theorem scrubPass_onward (bank : Nat) (columns : List (Nat × Nat)) (doubles : List Nat) (contexts : List (Nat × Bytes)) {s w : State} (h : Onward w s) :
    Onward w (scrubPass bank columns doubles contexts s) := by
  unfold scrubPass
  repeat' (first
    | intro _
    | with_reducible assumption
    | with_reducible apply suspect_onward
    | with_reducible apply chipPulse_onward
    | with_reducible apply State.setBank_onward
    | with_reducible apply Onward.foldl
    | with_reducible apply Onward.ite)

theorem execScrubPassComplete_onward (t : Nat) (bank : Nat) (accesses : List BankAccess) (words : ScrubWords) (contexts : List (Nat × Bytes)) (s : State) :
    Lands (advance t s) (execScrubPassComplete t bank accesses words contexts s) := by
  unfold execScrubPassComplete
  repeat' (first
    | with_reducible exact Onward.refl _
    | with_reducible apply bankAccesses_onward
    | with_reducible apply scrubPass_onward
    | with_reducible apply Onward.ite
    | with_reducible apply Lands.next
    | with_reducible apply Lands.ite)

theorem execDieTempUpdate_onward (t : Nat) (tj : Int) (s : State) :
    Lands (advance t s) (execDieTempUpdate t tj s) := by
  unfold execDieTempUpdate
  repeat' (first
    | with_reducible exact Onward.refl _
    | with_reducible apply chipFault_onward
    | with_reducible apply lowerFault_onward
    | with_reducible apply Onward.ite
    | with_reducible apply Lands.next
    | with_reducible apply Lands.ite
    | fail_if_no_progress (with_reducible refine Onward.mk' ?_ rfl rfl rfl rfl rfl))

theorem execPwrFailDeassert_onward (t : Nat) (s : State) :
    Lands (advance t s) (execPwrFailDeassert t s) := by
  unfold execPwrFailDeassert
  repeat' (first
    | with_reducible exact Onward.refl _
    | with_reducible apply Lands.next
    | fail_if_no_progress (with_reducible refine Onward.mk' ?_ rfl rfl rfl rfl rfl))

end Sys2Proof.Machine
end

