-- ==== Sys2Proof/Laws/OnwardLoaderCmds.lean ====
section
/-! SUPPORT. What the acts of LoaderCmds keep (Laws/Onward). -/

namespace Sys2Proof.Machine

theorem stageTouch_onward  {s w : State} (h : Onward w s) :
    Onward w (stageTouch s) := by
  unfold stageTouch
  repeat' (first
    | with_reducible assumption
    | fail_if_no_progress (with_reducible refine Onward.mk' ?_ rfl rfl rfl rfl rfl))

theorem spendVerify_onward  {s w : State} (h : Onward w s) :
    Onward w (spendVerify s) := by
  unfold spendVerify
  repeat' (first
    | with_reducible assumption
    | fail_if_no_progress (with_reducible refine Onward.mk' ?_ rfl rfl rfl rfl rfl))

theorem stageOpen_onward (d : Bytes) {s w : State} (h : Onward w s) : Onward w (stageOpen d s).2.2 := by
  unfold stageOpen
  dsimp only
  split
  · exact h
  · split
    · exact h
    · split
      · exact h
      · exact Onward.mk0 (spendVerify_onward h) rfl rfl rfl (flashErase_wf _ _) rfl

theorem execImageStageOpen_onward (t : Nat) (rq : CmdReq) (s : State) :
    Lands (advance t s) (execImageStageOpen t rq s) := by
  unfold execImageStageOpen
  repeat' (first
    | intro _
    | with_reducible assumption
    | with_reducible exact Onward.refl _
    | with_reducible apply runCommand_onward
    | with_reducible apply stageOpen_onward
    | with_reducible apply Lands.next)

theorem execStageEraseComplete_onward (t : Nat) (s : State) : Lands (advance t s) (execStageEraseComplete t s) := by
  unfold execStageEraseComplete
  dsimp only
  split
  · exact Lands.next (finishCommand_onward _ _ _ (Onward.mk0 (Onward.refl _) rfl rfl rfl (flashErase_wf _ _) rfl))
  · exact Lands.next (Onward.refl _)

theorem stageWrite_onward (d : Bytes) {s w : State} (h : Onward w s) : Onward w (stageWrite d s).2.2 := by
  have ht := stageTouch_onward h
  unfold stageWrite
  dsimp only
  split
  · exact h
  · split
    · exact h
    · split
      · exact h
      · split
        · exact ht
        · split
          · exact ht
          · exact Onward.mk0 (spendVerify_onward ht) rfl rfl rfl (flashProgram_wf _ _) rfl

theorem execImageStageWrite_onward (t : Nat) (rq : CmdReq) (s : State) :
    Lands (advance t s) (execImageStageWrite t rq s) := by
  unfold execImageStageWrite
  repeat' (first
    | intro _
    | with_reducible assumption
    | with_reducible exact Onward.refl _
    | with_reducible apply runCommand_onward
    | with_reducible apply stageWrite_onward
    | with_reducible apply Lands.next)

theorem stageVerify_onward (_d : Bytes) {s w : State} (h : Onward w s) :
    Onward w (stageVerify _d s).2.2 := by
  unfold stageVerify
  repeat' (first
    | with_reducible assumption
    | with_reducible apply say_onward
    | with_reducible apply stageTouch_onward
    | fail_if_no_progress (with_reducible refine Onward.mk' ?_ rfl rfl rfl rfl rfl)
    | split)

theorem execImageStageVerify_onward (t : Nat) (rq : CmdReq) (s : State) :
    Lands (advance t s) (execImageStageVerify t rq s) := by
  unfold execImageStageVerify
  repeat' (first
    | intro _
    | with_reducible assumption
    | with_reducible exact Onward.refl _
    | with_reducible apply runCommand_onward
    | with_reducible apply stageVerify_onward
    | with_reducible apply Lands.next)

theorem execStageVerifyComplete_onward (t : Nat) (readOk : Bool) (s : State) :
    Lands (advance t s) (execStageVerifyComplete t readOk s) := by
  unfold execStageVerifyComplete
  repeat' (first
    | with_reducible exact Onward.refl _
    | with_reducible apply finishCommand_onward
    | with_reducible apply Lands.next
    | with_reducible apply Lands.ite
    | fail_if_no_progress (with_reducible refine Onward.mk' ?_ rfl rfl rfl rfl rfl)
    | split)

theorem stageCommit_onward (d : Bytes) {s w : State} (h : Onward w s) : Onward w (stageCommit d s).2.2 := by
  have ht := stageTouch_onward h
  unfold stageCommit
  dsimp only
  split
  · exact h
  · split
    · exact ht
    · split
      · exact ht
      · split
        · exact ht
        · refine stageRecord_onward _ _ _ (spendVerify_onward (Onward.mk0 h rfl rfl rfl (fun k => flashProgram_wf _ _ ?_) rfl))
          split
          · exact k
          · exact flashErase_wf _ _ k

theorem execImageStageCommit_onward (t : Nat) (rq : CmdReq) (s : State) :
    Lands (advance t s) (execImageStageCommit t rq s) := by
  unfold execImageStageCommit
  repeat' (first
    | intro _
    | with_reducible assumption
    | with_reducible exact Onward.refl _
    | with_reducible apply runCommand_onward
    | with_reducible apply stageCommit_onward
    | with_reducible apply Lands.next)

theorem stageAbort_onward (_d : Bytes) {s w : State} (h : Onward w s) :
    Onward w (stageAbort _d s).2.2 := by
  unfold stageAbort
  repeat' (first
    | with_reducible assumption
    | with_reducible apply say_onward
    | with_reducible apply spendVerify_onward
    | fail_if_no_progress (with_reducible refine Onward.mk' ?_ rfl rfl rfl rfl rfl)
    | split)

theorem execImageStageAbort_onward (t : Nat) (rq : CmdReq) (s : State) :
    Lands (advance t s) (execImageStageAbort t rq s) := by
  unfold execImageStageAbort
  repeat' (first
    | intro _
    | with_reducible assumption
    | with_reducible exact Onward.refl _
    | with_reducible apply runCommand_onward
    | with_reducible apply stageAbort_onward
    | with_reducible apply Lands.next)

theorem execStageSessionTimeout_onward (t : Nat) (s : State) :
    Lands (advance t s) (execStageSessionTimeout t s) := by
  unfold execStageSessionTimeout
  repeat' (first
    | with_reducible exact Onward.refl _
    | with_reducible apply Lands.next
    | with_reducible apply Lands.ite
    | fail_if_no_progress (with_reducible refine Onward.mk' ?_ rfl rfl rfl rfl rfl)
    | split
    | dsimp only)

theorem chipRestart_onward (_d : Bytes) {s w : State} (h : Onward w s) :
    Onward w (chipRestart _d s).2.2 := by
  unfold chipRestart
  repeat' (first
    | with_reducible assumption
    | with_reducible apply say_onward
    | split)

theorem execChipRestart_onward (t : Nat) (rq : CmdReq) (s : State) :
    Lands (advance t s) (execChipRestart t rq s) := by
  unfold execChipRestart
  repeat' (first
    | intro _
    | with_reducible assumption
    | with_reducible exact Onward.refl _
    | with_reducible apply runThen_onward
    | with_reducible apply chipRestart_onward
    | with_reducible apply resetChip_onward
    | with_reducible apply Onward.ite
    | with_reducible apply Lands.next)

theorem rollbackBody_onward (_d : Bytes) {s w : State} (h : Onward w s) :
    Onward w (rollbackBody _d s).2.2 := by
  unfold rollbackBody
  repeat' (first
    | with_reducible assumption
    | with_reducible apply say_onward)

theorem rollbackStart_onward  {s w : State} (h : Onward w s) :
    Onward w (rollbackStart s) := by
  unfold rollbackStart
  repeat' (first
    | with_reducible assumption
    | with_reducible apply fuseStart_onward
    | split)

theorem execImageRollbackAdvance_onward (t : Nat) (rq : CmdReq) (vpp : Nat) (s : State) :
    Lands (advance t s) (execImageRollbackAdvance t rq vpp s) := by
  unfold execImageRollbackAdvance
  repeat' (first
    | intro _
    | with_reducible assumption
    | with_reducible exact Onward.refl _
    | with_reducible apply runThen_onward
    | with_reducible apply rollbackBody_onward
    | with_reducible apply rollbackStart_onward
    | with_reducible apply Onward.ite
    | with_reducible apply Lands.next
    | fail_if_no_progress (with_reducible refine Onward.mk' ?_ rfl rfl rfl rfl rfl))

theorem execFuseBitComplete_onward (t : Nat) (verified : Bool) (vpp : Nat) (s : State) :
    Lands (advance t s) (execFuseBitComplete t verified vpp s) := by
  unfold execFuseBitComplete
  repeat' (first
    | with_reducible exact Onward.refl _
    | with_reducible apply fuseBit_onward
    | with_reducible apply Lands.next
    | fail_if_no_progress (with_reducible refine Onward.mk' ?_ rfl rfl rfl rfl rfl))

end Sys2Proof.Machine
end

