-- ==== Sys2Proof/Laws/OnwardTrust.lean ====
section
/-! SUPPORT. What the acts of Trust keep (Laws/Onward). -/

namespace Sys2Proof.Machine

theorem execAuthLockoutExpiry_onward (t : Nat) (channel : Nat) (s : State) :
    Lands (advance t s) (execAuthLockoutExpiry t channel s) := by
  unfold execAuthLockoutExpiry
  repeat' (first
    | with_reducible exact Onward.refl _
    | with_reducible apply lowerFault_onward
    | with_reducible apply Onward.ite
    | with_reducible apply Lands.next
    | with_reducible apply Lands.ite
    | fail_if_no_progress (with_reducible refine Onward.mk' ?_ rfl rfl rfl rfl rfl)
    | split
    | dsimp only)

theorem serviceOpen_onward (c : Nat) (_d : Bytes) {s w : State} (h : Onward w s) :
    Onward w (serviceOpen c _d s).2.2 := by
  unfold serviceOpen
  repeat' (first
    | with_reducible assumption
    | with_reducible apply say_onward
    | with_reducible apply event_onward
    | with_reducible apply setMode_onward
    | fail_if_no_progress (with_reducible refine Onward.mk' ?_ rfl rfl rfl rfl rfl)
    | split)

theorem execServiceOpen_onward (t : Nat) (rq : CmdReq) (s : State) :
    Lands (advance t s) (execServiceOpen t rq s) := by
  unfold execServiceOpen
  repeat' (first
    | intro _
    | with_reducible assumption
    | with_reducible exact Onward.refl _
    | with_reducible apply runCommand_onward
    | with_reducible apply serviceOpen_onward
    | with_reducible apply Lands.next)

theorem leaveService_onward (cause : Nat) {s w : State} (h : Onward w s) :
    Onward w (leaveService cause s) := by
  unfold leaveService
  repeat' (first
    | with_reducible assumption
    | with_reducible apply endSession_onward
    | with_reducible apply setMode_onward
    | with_reducible apply Onward.ite)

theorem serviceClose_onward (_d : Bytes) {s w : State} (h : Onward w s) :
    Onward w (serviceClose _d s).2.2 := by
  unfold serviceClose
  repeat' (first
    | with_reducible assumption
    | with_reducible apply say_onward
    | with_reducible apply leaveService_onward
    | split)

theorem execServiceClose_onward (t : Nat) (rq : CmdReq) (s : State) :
    Lands (advance t s) (execServiceClose t rq s) := by
  unfold execServiceClose
  repeat' (first
    | intro _
    | with_reducible assumption
    | with_reducible exact Onward.refl _
    | with_reducible apply runCommand_onward
    | with_reducible apply serviceClose_onward
    | with_reducible apply Lands.next)

theorem execServiceTimeout_onward (t : Nat) (s : State) :
    Lands (advance t s) (execServiceTimeout t s) := by
  unfold execServiceTimeout
  repeat' (first
    | with_reducible exact Onward.refl _
    | with_reducible apply leaveService_onward
    | with_reducible apply Lands.next
    | with_reducible apply Lands.ite
    | split
    | dsimp only)

theorem enrolStart_onward  {s w : State} (h : Onward w s) :
    Onward w (enrolStart s) := by
  unfold enrolStart
  repeat' (first
    | with_reducible assumption
    | with_reducible apply fuseStart_onward
    | split)

theorem execOwnerEnrol_onward (t : Nat) (rq : CmdReq) (vpp : Nat) (s : State) :
    Lands (advance t s) (execOwnerEnrol t rq vpp s) := by
  unfold execOwnerEnrol
  repeat' (first
    | intro _
    | with_reducible assumption
    | with_reducible exact Onward.refl _
    | with_reducible apply runThen_onward
    | with_reducible apply say_onward
    | with_reducible apply enrolStart_onward
    | with_reducible apply Onward.ite
    | with_reducible apply Lands.next
    | fail_if_no_progress (with_reducible refine Onward.mk' ?_ rfl rfl rfl rfl rfl))

theorem execOwnerTransfer_onward (t : Nat) (rq : CmdReq) (vpp : Nat) (s : State) :
    Lands (advance t s) (execOwnerTransfer t rq vpp s) := by
  unfold execOwnerTransfer
  repeat' (first
    | intro _
    | with_reducible assumption
    | with_reducible exact Onward.refl _
    | with_reducible apply runThen_onward
    | with_reducible apply say_onward
    | with_reducible apply fuseStart_onward
    | with_reducible apply Onward.ite
    | with_reducible apply Lands.next
    | fail_if_no_progress (with_reducible refine Onward.mk' ?_ rfl rfl rfl rfl rfl))

theorem execPatchRollbackAdvance_onward (t : Nat) (rq : CmdReq) (vpp : Nat) (s : State) :
    Lands (advance t s) (execPatchRollbackAdvance t rq vpp s) := by
  unfold execPatchRollbackAdvance
  repeat' (first
    | intro _
    | with_reducible assumption
    | with_reducible exact Onward.refl _
    | with_reducible apply runThen_onward
    | with_reducible apply say_onward
    | with_reducible apply fuseStart_onward
    | with_reducible apply Onward.ite
    | with_reducible apply Lands.next
    | fail_if_no_progress (with_reducible refine Onward.mk' ?_ rfl rfl rfl rfl rfl))

theorem debugUnlock_onward (d : Bytes) {s w : State} (h : Onward w s) : Onward w (debugUnlock d s).2.2 := by
  have hu := useToken_onward 1 d h
  unfold debugUnlock
  split
  · exact h
  · split
    · rename_i heq
      rw [heq] at hu
      exact hu
    · rename_i heq
      rw [heq] at hu
      exact Onward.mk' (flushAll_onward (event_onward _ _ hu)) rfl rfl rfl rfl rfl

theorem execDebugUnlock_onward (t : Nat) (rq : CmdReq) (s : State) :
    Lands (advance t s) (execDebugUnlock t rq s) := by
  unfold execDebugUnlock
  repeat' (first
    | intro _
    | with_reducible assumption
    | with_reducible exact Onward.refl _
    | with_reducible apply runCommand_onward
    | with_reducible apply debugUnlock_onward
    | with_reducible apply Lands.next)

theorem attest_onward (d : Bytes) {s w : State} (h : Onward w s) :
    Onward w (attest d s).2.2 := by
  unfold attest
  repeat' (first
    | with_reducible assumption
    | with_reducible apply say_onward
    | with_reducible apply deviceSign_onward
    | split)

theorem execAttest_onward (t : Nat) (rq : CmdReq) (s : State) :
    Lands (advance t s) (execAttest t rq s) := by
  unfold execAttest
  repeat' (first
    | intro _
    | with_reducible assumption
    | with_reducible exact Onward.refl _
    | with_reducible apply runCommand_onward
    | with_reducible apply attest_onward
    | with_reducible apply Lands.next)

theorem execTrngHealth_onward (a1 : At Bytes) (s : State) :
    Lands (advance a1.time s) (execTrngHealth a1 s) := by
  unfold execTrngHealth
  repeat' (first
    | with_reducible exact Onward.refl _
    | with_reducible apply chipFault_onward
    | with_reducible apply Lands.next
    | with_reducible apply Lands.ite
    | fail_if_no_progress (with_reducible refine Onward.mk' ?_ rfl rfl rfl rfl rfl))

theorem execTrngRetest_onward (t : Nat) (raw : Bytes) (s : State) :
    Lands (advance t s) (execTrngRetest t raw s) := by
  unfold execTrngRetest
  repeat' (first
    | with_reducible exact Onward.refl _
    | with_reducible apply lowerFault_onward
    | with_reducible apply seedDrbg_onward
    | with_reducible apply Lands.next
    | with_reducible apply Lands.ite
    | fail_if_no_progress (with_reducible refine Onward.mk' ?_ rfl rfl rfl rfl rfl))

theorem execDrbgReseed_onward (a1 : At Bytes) (s : State) :
    Lands (advance a1.time s) (execDrbgReseed a1 s) := by
  unfold execDrbgReseed
  repeat' (first
    | with_reducible exact Onward.refl _
    | with_reducible apply reseedDrbg_onward
    | with_reducible apply Lands.next
    | with_reducible apply Lands.ite)

end Sys2Proof.Machine
end

