-- ==== Sys2Proof/Laws/OnwardRecorder.lean ====
section
/-! SUPPORT. What the acts of Recorder keep (Laws/Onward). -/

namespace Sys2Proof.Machine

theorem execRecorderMount_onward (t : Nat) (device : Option CsDevice) (s : State) :
    Lands (advance t s) (execRecorderMount t device s) := by
  unfold execRecorderMount
  repeat' (first
    | with_reducible exact Onward.refl _
    | with_reducible apply mountRack_onward
    | with_reducible apply mountFails_onward
    | with_reducible apply mountRecorder_onward
    | with_reducible apply armBreath_onward
    | with_reducible apply flushAll_onward
    | with_reducible apply Lands.next
    | with_reducible apply Lands.ite
    | fail_if_no_progress (with_reducible refine Onward.mk' ?_ rfl rfl rfl rfl rfl)
    | split)

theorem execRecordStage_onward (t : Nat) (code : Nat) (scope : Nat) (payload : Bytes) (s : State) :
    Lands (advance t s) (execRecordStage t code scope payload s) := by
  unfold execRecordStage
  repeat' (first
    | with_reducible exact Onward.refl _
    | with_reducible apply stageRecord_onward
    | with_reducible apply Lands.next
    | with_reducible apply Lands.ite)

theorem execTokenRefill_onward (t : Nat) (code : Nat) (s : State) :
    Lands (advance t s) (execTokenRefill t code s) := by
  unfold execTokenRefill
  repeat' (first
    | with_reducible exact Onward.refl _
    | with_reducible apply Lands.next
    | with_reducible apply Lands.ite
    | fail_if_no_progress (with_reducible refine Onward.mk' ?_ rfl rfl rfl rfl rfl)
    | split
    | dsimp only)

theorem execRecordFlush_onward (t : Nat) (ended : FlashEnd) (s : State) :
    Lands (advance t s) (execRecordFlush t ended s) := by
  unfold execRecordFlush
  repeat' (first
    | with_reducible exact Onward.refl _
    | with_reducible apply flushCut_onward
    | with_reducible apply tellDrops_onward
    | with_reducible apply flushOldest_onward
    | with_reducible apply flushFails_onward
    | with_reducible apply Onward.ite
    | with_reducible apply Lands.next
    | with_reducible apply Lands.ite
    | split
    | dsimp only)

theorem execOdometerWrite_onward (t : Nat) (s : State) :
    Lands (advance t s) (execOdometerWrite t s) := by
  unfold execOdometerWrite
  repeat' (first
    | with_reducible exact Onward.refl _
    | with_reducible apply writeOdometer_onward
    | with_reducible apply Lands.next
    | with_reducible apply Lands.ite)

theorem execPowerFail_onward (t : Nat) (s : State) :
    Lands (advance t s) (execPowerFail t s) := by
  unfold execPowerFail
  repeat' (first
    | with_reducible exact Onward.refl _
    | with_reducible apply capturePending_onward
    | with_reducible apply Lands.next
    | fail_if_no_progress (with_reducible refine Onward.mk' ?_ rfl rfl rfl rfl rfl))

theorem execLastBreath_onward (t : Nat) (trigger : Nat) (s : State) :
    Lands (advance t s) (execLastBreath t trigger s) := by
  unfold execLastBreath
  repeat' (first
    | with_reducible exact Onward.refl _
    | with_reducible apply writeBreath_onward
    | with_reducible apply Lands.next
    | with_reducible apply Lands.ite)

theorem recorderSeal_onward (d : Bytes) {s w : State} (h : Onward w s) :
    Onward w (recorderSeal d s).2.2 := by
  unfold recorderSeal
  repeat' (first
    | with_reducible assumption
    | with_reducible apply say_onward
    | with_reducible apply deviceSign_onward
    | split)

theorem execRecorderSeal_onward (t : Nat) (rq : CmdReq) (s : State) :
    Lands (advance t s) (execRecorderSeal t rq s) := by
  unfold execRecorderSeal
  repeat' (first
    | intro _
    | with_reducible assumption
    | with_reducible exact Onward.refl _
    | with_reducible apply runCommand_onward
    | with_reducible apply recorderSeal_onward
    | with_reducible apply Lands.next)

theorem beginClear_onward (addr tokenId : Nat) {s w : State} (h : Onward w s) : Onward w (beginClear addr tokenId s) :=
  Onward.mk1 h rfl rfl rfl rfl fun k => flashProgram_wf _ _ (flashProgram_wf _ _ (flashErase_wf _ _ k))

theorem recorderClear_onward (d : Bytes) {s w : State} (h : Onward w s) : Onward w (recorderClear d s).2.2 := by
  have hu := useToken_onward 0 d h
  unfold recorderClear
  split
  · exact h
  · dsimp only
    split
    · rename_i heq
      rw [heq] at hu
      exact hu
    · rename_i heq
      rw [heq] at hu
      split
      · exact hu
      · split
        · exact flushAll_onward hu
        · exact beginClear_onward _ _ (flushAll_onward hu)

theorem execRecorderClear_onward (t : Nat) (rq : CmdReq) (s : State) :
    Lands (advance t s) (execRecorderClear t rq s) := by
  unfold execRecorderClear
  repeat' (first
    | intro _
    | with_reducible assumption
    | with_reducible exact Onward.refl _
    | with_reducible apply runCommand_onward
    | with_reducible apply recorderClear_onward
    | with_reducible apply Lands.next)

theorem execRecorderClearComplete_onward (t : Nat) (programOk : Bool) (s : State) :
    Lands (advance t s) (execRecorderClearComplete t programOk s) := by
  have hv : ∀ v, Onward (advance t s) { advance t s with vitrine := v } := fun v =>
    Onward.mk' (Onward.refl _) rfl rfl rfl rfl rfl
  unfold execRecorderClearComplete
  dsimp only
  split
  · exact Lands.next (Onward.refl _)
  · refine Lands.ite (Lands.next (finishCommand_onward _ _ _ (hv _))) (Lands.ite
      (Lands.next (finishCommand_onward _ _ _ (retireSector_onward _ _ (hv _)))) (Lands.next (finishCommand_onward _ _ _ ?_)))
    exact Onward.mk1 (Onward.refl _) rfl rfl rfl rfl (flashProgram_wf _ _)

end Sys2Proof.Machine
end

