-- ==== Sys2Proof/Laws/OnwardCollector.lean ====
section
/-! SUPPORT. What the acts of Collector keep (Laws/Onward). -/

namespace Sys2Proof.Machine

theorem execFaultInputAssert_onward (a1 : At (List (Bool × Bool))) (code : Nat) (scope : Nat) (payload : List Nat) (s : State) :
    Lands (advance a1.time s) (execFaultInputAssert a1 code scope payload s) := by
  unfold execFaultInputAssert
  repeat' (first
    | with_reducible exact Onward.refl _
    | with_reducible apply raiseFault_onward
    | with_reducible apply Lands.next
    | with_reducible apply Lands.ite)

theorem execFaultInputDeassert_onward (a1 : At (List (Bool × Bool))) (code : Nat) (scope : Nat) (s : State) :
    Lands (advance a1.time s) (execFaultInputDeassert a1 code scope s) := by
  unfold execFaultInputDeassert
  repeat' (first
    | with_reducible exact Onward.refl _
    | with_reducible apply lowerFault_onward
    | with_reducible apply Lands.next
    | with_reducible apply Lands.ite)

theorem execPairMismatch_onward (a1 : At (List (Bool × Bool))) (code : Nat) (scope : Nat) (s : State) :
    Lands (advance a1.time s) (execPairMismatch a1 code scope s) := by
  unfold execPairMismatch
  repeat' (first
    | with_reducible exact Onward.refl _
    | with_reducible apply chipPulse_onward
    | with_reducible apply assertInput_onward
    | with_reducible apply State.setInput_onward
    | with_reducible apply Lands.next
    | with_reducible apply Lands.ite)

theorem execInputStuck_onward (t : Nat) (code : Nat) (scope : Nat) (test : TestPulses) (s : State) :
    Lands (advance t s) (execInputStuck t code scope test s) := by
  unfold execInputStuck
  repeat' (first
    | with_reducible exact Onward.refl _
    | with_reducible apply chipPulse_onward
    | with_reducible apply State.setInput_onward
    | with_reducible apply Lands.next
    | with_reducible apply Lands.ite)

theorem execReactionParity_onward (t : Nat) (entry : HeldEntry) (s : State) :
    Lands (advance t s) (execReactionParity t entry s) := by
  unfold execReactionParity
  repeat' (first
    | with_reducible exact Onward.refl _
    | with_reducible apply chipPulse_onward
    | with_reducible apply Lands.next
    | with_reducible apply Lands.ite
    | fail_if_no_progress (with_reducible refine Onward.mk' ?_ rfl rfl rfl rfl rfl))

theorem execS1Escalated_onward (t : Nat) (s : State) :
    Lands (advance t s) (execS1Escalated t s) := by
  unfold execS1Escalated
  repeat' (first
    | with_reducible exact Onward.refl _
    | with_reducible apply chipPulse_onward
    | with_reducible apply enterSafe_onward
    | with_reducible apply applyLevel_onward
    | with_reducible apply Lands.next
    | with_reducible apply Lands.ite
    | fail_if_no_progress (with_reducible refine Onward.mk' ?_ rfl rfl rfl rfl rfl))

theorem afterClear_onward  {s w : State} (h : Onward w s) :
    Onward w (afterClear s) := by
  unfold afterClear
  repeat' (first
    | with_reducible assumption
    | with_reducible apply powerDown_onward
    | with_reducible apply Onward.ite
    | fail_if_no_progress (with_reducible refine Onward.mk' ?_ rfl rfl rfl rfl rfl))

theorem execClearHoldOffExpiry_onward (t : Nat) (code : Nat) (scope : Nat) (s : State) :
    Lands (advance t s) (execClearHoldOffExpiry t code scope s) := by
  unfold execClearHoldOffExpiry
  repeat' (first
    | with_reducible exact Onward.refl _
    | with_reducible apply afterClear_onward
    | with_reducible apply clearInput_onward
    | with_reducible apply Lands.next
    | with_reducible apply Lands.ite
    | split
    | dsimp only)

theorem faultClear_onward (d : Bytes) {s w : State} (h : Onward w s) :
    Onward w (faultClear d s).2 := by
  unfold faultClear
  repeat' (first
    | intro _
    | with_reducible assumption
    | with_reducible apply afterClear_onward
    | with_reducible apply clearInput_onward
    | with_reducible apply Onward.foldl
    | split
    | dsimp only)

theorem execFaultClear_onward (t : Nat) (rq : CmdReq) (s : State) :
    Lands (advance t s) (execFaultClear t rq s) := by
  unfold execFaultClear
  repeat' (first
    | intro _
    | with_reducible assumption
    | with_reducible exact Onward.refl _
    | with_reducible apply runCommand_onward
    | with_reducible apply say_onward
    | with_reducible apply Lands.next
    | fail_if_no_progress (with_reducible refine Onward.mk' ?_ rfl rfl rfl rfl rfl))

theorem serveClears_onward  {s w : State} (h : Onward w s) :
    Onward w (serveClears s) := by
  unfold serveClears
  repeat' (first
    | intro _
    | with_reducible assumption
    | with_reducible apply answer_onward
    | with_reducible apply faultClear_onward
    | with_reducible apply Onward.foldl
    | fail_if_no_progress (with_reducible refine Onward.mk' ?_ rfl rfl rfl rfl rfl))

theorem execSafeIn_onward (a1 : At HeldLevel) (s : State) :
    Lands (advance a1.time s) (execSafeIn a1 s) := by
  unfold execSafeIn
  repeat' (first
    | with_reducible exact Onward.refl _
    | with_reducible apply chipFault_onward
    | with_reducible apply lowerFault_onward
    | with_reducible apply Lands.next
    | with_reducible apply Lands.ite
    | fail_if_no_progress (with_reducible refine Onward.mk' ?_ rfl rfl rfl rfl rfl))

theorem execS1GuardWaitExpiry_onward (t : Nat) (s : State) :
    Lands (advance t s) (execS1GuardWaitExpiry t s) := by
  unfold execS1GuardWaitExpiry
  repeat' (first
    | with_reducible exact Onward.refl _
    | with_reducible apply powerDown_onward
    | with_reducible apply Lands.next
    | with_reducible apply Lands.ite
    | fail_if_no_progress (with_reducible refine Onward.mk' ?_ rfl rfl rfl rfl rfl)
    | split
    | dsimp only)

end Sys2Proof.Machine
end

