-- ==== Sys2Proof/Laws/OnwardPaveOps.lean ====
section
/-! SUPPORT. What the acts of PaveOps keep (Laws/Onward). -/

namespace Sys2Proof.Machine

theorem phasePulse_onward (code : Nat) (ph : Nat) (l : List Nat) {s w : State} (h : Onward w s) :
    Onward w (phasePulse code ph l s) := by
  unfold phasePulse
  repeat' (first
    | with_reducible assumption
    | with_reducible apply pulseFault_onward)

theorem trackRun_onward (code : Nat) (ph : Nat) (n : Nat) (was : Nat) (now : Nat) (run : PhaseSense → Nat) {s w : State} (h : Onward w s) :
    Onward w (trackRun code ph n was now run s) := by
  unfold trackRun
  repeat' (first
    | with_reducible assumption
    | with_reducible apply raiseFault_onward
    | with_reducible apply lowerFault_onward
    | with_reducible apply Onward.ite)

theorem fastWindow_onward (ph : Nat) {s w : State} (h : Onward w s) :
    Onward w (fastWindow ph s) := by
  unfold fastWindow
  repeat' (first
    | with_reducible assumption
    | with_reducible apply trackRun_onward
    | with_reducible apply State.setSense_onward
    | with_reducible apply Onward.ite)

theorem takeBits_onward (ph : Nat) (slot : Nat) (f : Nat) (body : Option Bytes) {s w : State} (h : Onward w s) :
    Onward w (takeBits ph slot f body s) := by
  unfold takeBits
  repeat' (first
    | with_reducible assumption
    | with_reducible apply fastWindow_onward
    | with_reducible apply State.setSense_onward)

theorem fillMissing_onward (ph : Nat) (slot : Nat) (f : Nat) {s w : State} (h : Onward w s) :
    Onward w (fillMissing ph slot f s) := by
  unfold fillMissing
  repeat' (first
    | intro _
    | with_reducible assumption
    | with_reducible apply takeBits_onward
    | with_reducible apply State.setSense_onward
    | with_reducible apply Onward.foldl
    | with_reducible apply Onward.ite)

theorem fillSilent_onward (ph : Nat) {s w : State} (h : Onward w s) :
    Onward w (fillSilent ph s) := by
  unfold fillSilent
  repeat' (first
    | with_reducible assumption
    | with_reducible apply fillMissing_onward
    | with_reducible apply Onward.ite
    | split)

theorem paveFrame_onward (e : Bytes) (f : Nat) (body : Option Bytes) {s w : State} (h : Onward w s) :
    Onward w (paveFrame e f body s) := by
  unfold paveFrame
  repeat' (first
    | intro _
    | with_reducible assumption
    | with_reducible apply fillMissing_onward
    | with_reducible apply takeBits_onward
    | with_reducible apply Onward.foldl
    | with_reducible apply Onward.ite
    | fail_if_no_progress (with_reducible refine Onward.mk' ?_ rfl rfl rfl rfl rfl)
    | split
    | dsimp only)

theorem crossCheck_onward (ph : Nat) {s w : State} (h : Onward w s) :
    Onward w (crossCheck ph s) := by
  unfold crossCheck
  repeat' (first
    | with_reducible assumption
    | with_reducible apply trackRun_onward
    | with_reducible apply State.setSense_onward
    | with_reducible apply Onward.ite)

theorem satFault_onward (ph : Nat) (c : Nat) (sat : Bool) {s w : State} (h : Onward w s) :
    Onward w (satFault ph c sat s) := by
  unfold satFault
  repeat' (first
    | with_reducible assumption
    | with_reducible apply phasePulse_onward
    | with_reducible apply Onward.ite)

theorem addZero_onward (ph : Nat) (x0 : Int) {s w : State} (h : Onward w s) :
    Onward w (addZero ph x0 s) := by
  unfold addZero
  repeat' (first
    | with_reducible assumption
    | with_reducible apply Onward.ite
    | fail_if_no_progress (with_reducible refine Onward.mk' ?_ rfl rfl rfl rfl rfl)
    | split)

theorem mainWindow_onward (ph : Nat) {s w : State} (h : Onward w s) :
    Onward w (mainWindow ph s) := by
  unfold mainWindow
  repeat' (first
    | with_reducible assumption
    | with_reducible apply satFault_onward
    | with_reducible apply crossCheck_onward
    | with_reducible apply addZero_onward
    | with_reducible apply State.setSense_onward
    | with_reducible apply Onward.ite)

theorem cellFrame_onward (e : Bytes) (body : Bytes) {s w : State} (h : Onward w s) :
    Onward w (cellFrame e body s) := by
  unfold cellFrame
  repeat' (first
    | with_reducible assumption
    | with_reducible apply State.setPort_onward
    | with_reducible apply Onward.ite
    | fail_if_no_progress (with_reducible refine Onward.mk' ?_ rfl rfl rfl rfl rfl)
    | split
    | dsimp only)

theorem issueSample_onward (a1 : Nat) (wantTemps : Bool) (bleeding : Bool) {s w : State} (h : Onward w s) :
    Onward w (issueSample a1 wantTemps bleeding s) := by
  unfold issueSample
  repeat' (first
    | intro _
    | with_reducible assumption
    | with_reducible apply State.setPort_onward
    | with_reducible apply Onward.foldl
    | fail_if_no_progress (with_reducible refine Onward.mk' ?_ rfl rfl rfl rfl rfl)
    | split)

theorem issueBleed_onward (e : Bytes) (mask : Nat) (time : Nat) {s w : State} (h : Onward w s) :
    Onward w (issueBleed e mask time s) := by
  unfold issueBleed
  repeat' (first
    | with_reducible assumption
    | with_reducible apply State.setPort_onward
    | split)

theorem pauseBleed_onward (a1 : Nat) (on : Bool) {s w : State} (h : Onward w s) :
    Onward w (pauseBleed a1 on s) := by
  unfold pauseBleed
  repeat' (first
    | intro _
    | with_reducible assumption
    | with_reducible apply State.setPort_onward
    | with_reducible apply Onward.foldl
    | split)

theorem publishIn_onward (k : Nat) (v : Int) (fallback : Bool) {s w : State} (h : Onward w s) :
    Onward w (publishIn k v fallback s) := by
  unfold publishIn
  repeat' (first
    | with_reducible assumption
    | with_reducible apply State.setSetIn_onward)

theorem enterFallback_onward (k : Nat) {s w : State} (h : Onward w s) :
    Onward w (enterFallback k s) := by
  unfold enterFallback
  repeat' (first
    | with_reducible assumption
    | with_reducible apply chipFault_onward
    | with_reducible apply State.setSetIn_onward
    | with_reducible apply Onward.ite)

theorem leaveFallback_onward (k : Nat) {s w : State} (h : Onward w s) :
    Onward w (leaveFallback k s) := by
  unfold leaveFallback
  repeat' (first
    | with_reducible assumption
    | with_reducible apply event_onward
    | with_reducible apply lowerFault_onward
    | with_reducible apply State.setSetIn_onward
    | with_reducible apply Onward.ite)

theorem spaSample_onward (k : Nat) (code : Nat) {s w : State} (h : Onward w s) :
    Onward w (spaSample k code s) := by
  unfold spaSample
  repeat' (first
    | with_reducible assumption
    | with_reducible apply leaveFallback_onward
    | with_reducible apply publishIn_onward
    | with_reducible apply enterFallback_onward
    | with_reducible apply State.setSetIn_onward
    | with_reducible apply Onward.ite)

theorem sppLedger_onward (k : Nat) {s w : State} (h : Onward w s) :
    Onward w (sppLedger k s) := by
  unfold sppLedger
  repeat' (first
    | with_reducible assumption
    | with_reducible apply publishIn_onward
    | with_reducible apply Onward.ite)

end Sys2Proof.Machine
end

