-- ==== Sys2Proof/Laws/OnwardModOps.lean ====
section
/-! SUPPORT. What the acts of ModOps keep (Laws/Onward). -/

namespace Sys2Proof.Machine

theorem stagePulse_onward (code : Nat) (g : Nat) (l : List Nat) {s w : State} (h : Onward w s) :
    Onward w (stagePulse code g l s) := by
  unfold stagePulse
  repeat' (first
    | with_reducible assumption
    | with_reducible apply pulseFault_onward)

theorem transitionLost_onward (g : Nat) (p : Nat) {s w : State} (h : Onward w s) :
    Onward w (transitionLost g p s) := by
  unfold transitionLost
  repeat' (first
    | with_reducible assumption
    | with_reducible apply phasePulse_onward
    | with_reducible apply State.setPh_onward
    | with_reducible apply Onward.ite)

theorem takeTransition_onward (p : Nat) (b1 : Nat) (launch : Nat) {s w : State} (h : Onward w s) :
    Onward w (takeTransition p b1 launch s) := by
  unfold takeTransition
  repeat' (first
    | with_reducible assumption
    | with_reducible apply transitionLost_onward
    | with_reducible apply State.setPh_onward
    | with_reducible apply Onward.ite)

theorem skipPulse_onward (g : Nat) (p : Nat) (start : Nat) {s w : State} (h : Onward w s) :
    Onward w (skipPulse g p start s) := by
  unfold skipPulse
  repeat' (first
    | with_reducible assumption
    | with_reducible apply pushOff_onward
    | with_reducible apply State.setPh_onward)

theorem missPulse_onward (g : Nat) (p : Nat) (start : Nat) {s w : State} (h : Onward w s) :
    Onward w (missPulse g p start s) := by
  unfold missPulse
  repeat' (first
    | with_reducible assumption
    | with_reducible apply skipPulse_onward
    | with_reducible apply phasePulse_onward
    | with_reducible apply State.setPh_onward
    | with_reducible apply Onward.ite)

theorem placeFormed_onward (g : Nat) (p : Nat) (start : Nat) (f : Formed) (o : PulseOut) {s w : State} (h : Onward w s) :
    Onward w (placeFormed g p start f o s) := by
  unfold placeFormed
  repeat' (first
    | with_reducible assumption
    | with_reducible apply skipPulse_onward
    | with_reducible apply pushEdge_onward
    | with_reducible apply transitionLost_onward
    | with_reducible apply State.setPh_onward
    | with_reducible apply Onward.ite)

theorem cutoffPhase_onward (l : Nat) (g : Nat) (p : Nat) {s w : State} (h : Onward w s) :
    Onward w (cutoffPhase l g p s) := by
  unfold cutoffPhase
  repeat' (first
    | with_reducible assumption
    | with_reducible apply skipPulse_onward
    | with_reducible apply missPulse_onward
    | with_reducible apply placeFormed_onward
    | with_reducible apply Onward.ite
    | split
    | dsimp only)

theorem cutoffLast_onward (l : Nat) (p : Nat) {s w : State} (h : Onward w s) :
    Onward w (cutoffLast l p s) := by
  unfold cutoffLast
  repeat' (first
    | with_reducible assumption
    | with_reducible apply pushOff_onward
    | with_reducible apply State.setPh_onward
    | with_reducible apply Onward.ite
    | split
    | dsimp only)

theorem cutoffCrowbar_onward (f : Nat) (g : Nat) {s w : State} (h : Onward w s) :
    Onward w (cutoffCrowbar f g s) := by
  unfold cutoffCrowbar
  repeat' (first
    | intro _
    | with_reducible assumption
    | with_reducible apply pushEdge_onward
    | with_reducible apply State.setStage_onward
    | with_reducible apply Onward.foldl
    | with_reducible apply Onward.ite
    | split
    | dsimp only)

theorem joinPhases_onward (g : Nat) {s w : State} (h : Onward w s) :
    Onward w (joinPhases g s) := by
  unfold joinPhases
  repeat' (first
    | intro _
    | with_reducible assumption
    | with_reducible apply respread_onward
    | with_reducible apply beginPhase_onward
    | with_reducible apply State.setPh_onward
    | with_reducible apply Onward.foldl
    | with_reducible apply Onward.ite)

theorem startedUp_onward (g : Nat) {s w : State} (h : Onward w s) :
    Onward w (startedUp g s) := by
  unfold startedUp
  repeat' (first
    | with_reducible assumption
    | with_reducible apply State.setStage_onward
    | with_reducible apply Onward.ite)

theorem cutoffStage_onward (f : Nat) (g : Nat) {s w : State} (h : Onward w s) :
    Onward w (cutoffStage f g s) := by
  unfold cutoffStage
  repeat' (first
    | intro _
    | with_reducible assumption
    | with_reducible apply cutoffCrowbar_onward
    | with_reducible apply cutoffLast_onward
    | with_reducible apply joinPhases_onward
    | with_reducible apply cutoffPhase_onward
    | with_reducible apply startedUp_onward
    | with_reducible apply Onward.foldl
    | with_reducible apply Onward.ite)

theorem dropLate_onward (f : Nat) (t : Nat) {s w : State} (h : Onward w s) :
    Onward w (dropLate f t s) := by
  unfold dropLate
  repeat' (first
    | intro _
    | with_reducible assumption
    | with_reducible apply pulseFault_onward
    | with_reducible apply State.setPort_onward
    | with_reducible apply State.setPh_onward
    | with_reducible apply Onward.foldl
    | with_reducible apply Onward.ite
    | split)

theorem trackWindow_onward (g : Nat) (p : Nat) (i : Int) {s w : State} (h : Onward w s) :
    Onward w (trackWindow g p i s) := by
  unfold trackWindow
  repeat' (first
    | with_reducible assumption
    | with_reducible apply State.setPh_onward
    | with_reducible apply Onward.ite)

theorem endBrake_onward (g : Nat) (cause : Nat) {s w : State} (h : Onward w s) :
    Onward w (endBrake g cause s) := by
  unfold endBrake
  repeat' (first
    | intro _
    | with_reducible assumption
    | with_reducible apply brakeEvent_onward
    | with_reducible apply State.setStage_onward
    | with_reducible apply State.setPh_onward
    | with_reducible apply State.setCtx_onward
    | with_reducible apply Onward.foldl)

theorem brakeCheck_onward (g : Nat) {s w : State} (h : Onward w s) :
    Onward w (brakeCheck g s) := by
  unfold brakeCheck
  repeat' (first
    | with_reducible assumption
    | with_reducible apply endBrake_onward
    | with_reducible apply State.setStage_onward
    | with_reducible apply Onward.ite)

theorem brakeWatch_onward (sel : Nat) (but : Nat) {s w : State} (h : Onward w s) :
    Onward w (brakeWatch sel but s) := by
  unfold brakeWatch
  repeat' (first
    | intro _
    | with_reducible assumption
    | with_reducible apply brakeCheck_onward
    | with_reducible apply Onward.foldl)

theorem fireCrowbar_onward (g : Nat) {s w : State} (h : Onward w s) :
    Onward w (fireCrowbar g s) := by
  unfold fireCrowbar
  repeat' (first
    | intro _
    | with_reducible assumption
    | with_reducible apply brakeEvent_onward
    | with_reducible apply event_onward
    | with_reducible apply closeStageLoops_onward
    | with_reducible apply State.setStage_onward
    | with_reducible apply State.setPh_onward
    | with_reducible apply State.setPort_onward
    | with_reducible apply Onward.foldl
    | with_reducible apply Onward.ite
    | split
    | dsimp only)

theorem wearTo_onward (p : Nat) (st : WearState) {s w : State} (h : Onward w s) :
    Onward w (wearTo p st s) := by
  unfold wearTo
  repeat' (first
    | with_reducible assumption
    | with_reducible apply State.setPh_onward)

theorem wearDrop_onward (g : Nat) (p : Nat) (drop : Int) {s w : State} (h : Onward w s) :
    Onward w (wearDrop g p drop s) := by
  unfold wearDrop
  repeat' (first
    | with_reducible assumption
    | with_reducible apply wearTo_onward
    | with_reducible apply event_onward
    | with_reducible apply phasePulse_onward
    | with_reducible apply State.setPh_onward
    | with_reducible apply Onward.ite)

theorem wearWindow_onward (g : Nat) (p : Nat) {s w : State} (h : Onward w s) :
    Onward w (wearWindow g p s) := by
  unfold wearWindow
  repeat' (first
    | with_reducible assumption
    | with_reducible apply wearDrop_onward
    | with_reducible apply State.setPh_onward
    | with_reducible apply Onward.ite)

theorem releasePhase_onward (g : Nat) (p : Nat) {s w : State} (h : Onward w s) :
    Onward w (releasePhase g p s) := by
  unfold releasePhase
  repeat' (first
    | with_reducible assumption
    | with_reducible apply State.setPh_onward
    | with_reducible apply Onward.ite
    | split
    | dsimp only)

theorem restorePicks_onward (g k n : Nat) {s w : State} (h : Onward w s) : Onward w (restorePicks g k n s).2 := by
  induction k generalizing s with
  | zero => exact h
  | succ k ih =>
    unfold restorePicks
    split
    · exact h
    · split
      · exact h
      · exact ih (State.setPh_onward _ _ h)

theorem restoreTo_onward (g n : Nat) {s w : State} (h : Onward w s) : Onward w (restoreTo g n s) :=
  respread_onward _ (Onward.foldl _ (restorePicks_onward _ _ _ h) fun _ _ k => beginPhase_onward _ _ _ k)

theorem shedStage_onward (g : Nat) {s w : State} (h : Onward w s) : Onward w (shedStage g s) := by
  have hs : ∀ x, Onward w (s.setStage g x) := fun x => State.setStage_onward _ _ h
  unfold shedStage
  dsimp only
  split
  · refine Onward.ite (restoreTo_onward _ _ (Onward.ite (hs _) h)) (Onward.foldl _ (Onward.ite (hs _) h) fun u p k => ?_)
    exact Onward.ite (State.setPh_onward _ _ k) k
  · refine Onward.ite (restoreTo_onward _ _ (hs _)) (Onward.ite ?_ (hs _))
    split
    · exact hs _
    · refine Onward.ite ?_ h
      split
      · exact h
      · exact respread_onward _ (releasePhase_onward _ _ (State.setPh_onward _ _ (hs _)))

theorem noReserve_onward (g : Nat) {s w : State} (h : Onward w s) :
    Onward w (noReserve g s) := by
  unfold noReserve
  repeat' (first
    | with_reducible assumption
    | with_reducible apply raiseFault_onward
    | with_reducible apply State.setStage_onward)

theorem reserveFound_onward (g : Nat) {s w : State} (h : Onward w s) :
    Onward w (reserveFound g s) := by
  unfold reserveFound
  repeat' (first
    | with_reducible assumption
    | with_reducible apply lowerFault_onward
    | with_reducible apply State.setStage_onward
    | with_reducible apply Onward.ite)

theorem promote_onward (g : Nat) {s w : State} (h : Onward w s) :
    Onward w (promote g s).1 := by
  unfold promote
  repeat' (first
    | with_reducible assumption
    | with_reducible apply reserveFound_onward
    | with_reducible apply noReserve_onward
    | with_reducible apply releasePhase_onward
    | with_reducible apply wearTo_onward
    | with_reducible apply event_onward
    | with_reducible apply State.setPh_onward
    | with_reducible apply State.setCtx_onward
    | with_reducible apply Onward.ite
    | split)

theorem applyOffsets_onward (g : Nat) {s w : State} (h : Onward w s) :
    Onward w (applyOffsets g s) := by
  unfold applyOffsets
  repeat' (first
    | intro _
    | with_reducible assumption
    | with_reducible apply State.setPh_onward
    | with_reducible apply Onward.foldl
    | with_reducible apply Onward.ite
    | split
    | dsimp only)

theorem rampStage_onward (g : Nat) (own : Option Int) {s w : State} (h : Onward w s) :
    Onward w (rampStage g own s) := by
  unfold rampStage
  repeat' (first
    | with_reducible assumption
    | with_reducible apply State.setStage_onward
    | with_reducible apply Onward.ite)

theorem quietWatch_onward (g : Nat) {s w : State} (h : Onward w s) :
    Onward w (quietWatch g s) := by
  unfold quietWatch
  repeat' (first
    | with_reducible assumption
    | with_reducible apply State.setStage_onward
    | with_reducible apply Onward.ite)

theorem publishStage_onward (g : Nat) {s w : State} (h : Onward w s) :
    Onward w (publishStage g s) := by
  unfold publishStage
  repeat' (first
    | with_reducible assumption
    | with_reducible apply stagePulse_onward
    | with_reducible apply stopStage_onward
    | with_reducible apply State.setStage_onward
    | with_reducible apply Onward.ite)

theorem rollDuty_onward (g : Nat) {s w : State} (h : Onward w s) :
    Onward w (rollDuty g s) := by
  unfold rollDuty
  repeat' (first
    | intro _
    | with_reducible assumption
    | with_reducible apply State.setPh_onward
    | with_reducible apply Onward.foldl
    | with_reducible apply Onward.ite)

theorem ledgerStage_onward (g : Nat) (own : Option Int) {s w : State} (h : Onward w s) :
    Onward w (ledgerStage g own s) := by
  unfold ledgerStage
  repeat' (first
    | with_reducible assumption
    | with_reducible apply rampStage_onward
    | with_reducible apply rollDuty_onward
    | with_reducible apply applyOffsets_onward
    | with_reducible apply startedUp_onward
    | with_reducible apply respread_onward
    | with_reducible apply promote_onward
    | with_reducible apply quietWatch_onward
    | with_reducible apply shedStage_onward
    | with_reducible apply publishStage_onward
    | with_reducible apply Onward.ite)

end Sys2Proof.Machine
end

