-- ==== Sys2Proof/Laws/OnwardLoops.lean ====
section
/-! SUPPORT. What the acts of Loops keep (Laws/Onward). -/

namespace Sys2Proof.Machine

theorem passMaster_onward (g : Nat) (p : Nat) {s w : State} (h : Onward w s) :
    Onward w (passMaster g p s) := by
  unfold passMaster
  repeat' (first
    | with_reducible assumption
    | with_reducible apply State.setStage_onward
    | with_reducible apply State.setCtx_onward
    | with_reducible apply Onward.ite
    | split)

theorem issueOne_onward (d : Due) (k : Nat) {s w : State} (h : Onward w s) :
    Onward w (issueOne d k s) := by
  unfold issueOne
  repeat' (first
    | with_reducible assumption
    | with_reducible apply passMaster_onward
    | with_reducible apply stopInject_onward
    | with_reducible apply pulseFault_onward
    | with_reducible apply State.setCtx_onward
    | with_reducible apply Onward.ite
    | fail_if_no_progress (with_reducible refine Onward.mk' ?_ rfl rfl rfl rfl rfl)
    | split)

theorem placeDues_onward (l : List Due) {s w : State} (h : Onward w s) : Onward w (placeDues l s) := by
  induction l generalizing s with
  | nil => exact h
  | cons d ds ih =>
    unfold placeDues
    refine Onward.ite h (Onward.ite (ih h) ?_)
    split
    · exact Onward.ite (ih (Onward.mk' h rfl rfl rfl rfl rfl)) (ih (issueOne_onward _ _ h))
    · exact ih (Onward.mk' h rfl rfl rfl rfl rfl)

theorem removeEngine_onward (k : Nat) {s w : State} (h : Onward w s) :
    Onward w (removeEngine k s) := by
  unfold removeEngine
  repeat' (first
    | with_reducible assumption
    | with_reducible apply event_onward
    | with_reducible apply chipPulse_onward
    | with_reducible apply State.setEngine_onward
    | with_reducible apply Onward.ite
    | fail_if_no_progress (with_reducible refine Onward.mk' ?_ rfl rfl rfl rfl rfl))

theorem settleEngines_onward  {s w : State} (h : Onward w s) :
    Onward w (settleEngines s) := by
  unfold settleEngines
  repeat' (first
    | intro _
    | with_reducible assumption
    | with_reducible apply removeEngine_onward
    | with_reducible apply Onward.foldl
    | with_reducible apply Onward.ite
    | split)

theorem execEvaluationIssue_onward (t : Nat) (s : State) :
    Lands (advance t s) (execEvaluationIssue t s) := by
  unfold execEvaluationIssue
  repeat' (first
    | with_reducible exact Onward.refl _
    | with_reducible apply settleEngines_onward
    | with_reducible apply placeDues_onward
    | with_reducible apply Lands.next
    | with_reducible apply Lands.ite
    | fail_if_no_progress (with_reducible refine Onward.mk' ?_ rfl rfl rfl rfl rfl))

theorem endWaiting_onward (c : Nat) {s w : State} (h : Onward w s) :
    Onward w (endWaiting c s) := by
  unfold endWaiting
  repeat' (first
    | with_reducible assumption
    | with_reducible apply lowerFault_onward
    | with_reducible apply State.setCtx_onward
    | with_reducible apply Onward.ite)

theorem beginWaiting_onward (c : Nat) (k : Nat) {s w : State} (h : Onward w s) :
    Onward w (beginWaiting c k s) := by
  unfold beginWaiting
  repeat' (first
    | with_reducible assumption
    | with_reducible apply raiseFault_onward
    | with_reducible apply State.setCtx_onward
    | with_reducible apply Onward.ite)

theorem equalise_onward (g : Nat) {s w : State} (h : Onward w s) :
    Onward w (equalise g s) := by
  unfold equalise
  repeat' (first
    | intro _
    | with_reducible assumption
    | with_reducible apply State.setPh_onward
    | with_reducible apply Onward.foldl
    | with_reducible apply Onward.ite)

theorem takeCapture_onward (f : Flight) {s w : State} (h : Onward w s) :
    Onward w (takeCapture f s) := by
  unfold takeCapture
  repeat' (first
    | with_reducible assumption
    | with_reducible apply triggerCapture_onward
    | with_reducible apply stopCapture_onward
    | with_reducible apply Onward.ite
    | fail_if_no_progress (with_reducible refine Onward.mk' ?_ rfl rfl rfl rfl rfl))

theorem publishOut_onward (f : Flight) {s w : State} (h : Onward w s) :
    Onward w (publishOut f s) := by
  unfold publishOut
  repeat' (first
    | with_reducible assumption
    | fail_if_no_progress (with_reducible refine Onward.mk' ?_ rfl rfl rfl rfl rfl))

theorem checkFaults_onward (f : Flight) {s w : State} (h : Onward w s) :
    Onward w (checkFaults f s) := by
  unfold checkFaults
  repeat' (first
    | intro _
    | with_reducible assumption
    | with_reducible apply pulseFault_onward
    | with_reducible apply Onward.foldl
    | with_reducible apply Onward.ite)

theorem execEvaluationComplete_onward (t : Nat) (context : Nat) (s : State) :
    Lands (advance t s) (execEvaluationComplete t context s) := by
  unfold execEvaluationComplete
  repeat' (first
    | with_reducible exact Onward.refl _
    | with_reducible apply settleEngines_onward
    | with_reducible apply takeCapture_onward
    | with_reducible apply publishOut_onward
    | with_reducible apply equalise_onward
    | with_reducible apply beginWaiting_onward
    | with_reducible apply endWaiting_onward
    | with_reducible apply checkFaults_onward
    | with_reducible apply State.setCtx_onward
    | with_reducible apply Onward.ite
    | with_reducible apply Lands.next
    | with_reducible apply Lands.ite
    | fail_if_no_progress (with_reducible refine Onward.mk' ?_ rfl rfl rfl rfl rfl)
    | split
    | dsimp only)

theorem execEqualiseLimit_onward (t : Nat) (phase : Nat) (s : State) :
    Lands (advance t s) (execEqualiseLimit t phase s) := by
  unfold execEqualiseLimit
  repeat' (first
    | with_reducible exact Onward.refl _
    | with_reducible apply phasePulse_onward
    | with_reducible apply State.setPh_onward
    | with_reducible apply Lands.next
    | with_reducible apply Lands.ite
    | split
    | dsimp only)

theorem engineFails_onward (k : Nat) (v : Nat) {s w : State} (h : Onward w s) :
    Onward w (engineFails k v s) := by
  unfold engineFails
  repeat' (first
    | with_reducible assumption
    | with_reducible apply chipPulse_onward
    | with_reducible apply settleEngines_onward
    | with_reducible apply State.setEngine_onward
    | with_reducible apply Onward.ite)

theorem execProofEvaluation_onward (t : Nat) (engine : Nat) (passed : Bool) (s : State) :
    Lands (advance t s) (execProofEvaluation t engine passed s) := by
  unfold execProofEvaluation
  repeat' (first
    | with_reducible exact Onward.refl _
    | with_reducible apply settleEngines_onward
    | with_reducible apply engineFails_onward
    | with_reducible apply State.setEngine_onward
    | with_reducible apply Lands.next
    | with_reducible apply Lands.ite
    | split
    | dsimp only)

theorem execProofIntervalEnd_onward (t : Nat) (engine : Nat) (s : State) :
    Lands (advance t s) (execProofIntervalEnd t engine s) := by
  unfold execProofIntervalEnd
  repeat' (first
    | with_reducible exact Onward.refl _
    | with_reducible apply settleEngines_onward
    | with_reducible apply engineFails_onward
    | with_reducible apply State.setEngine_onward
    | with_reducible apply Lands.next
    | with_reducible apply Lands.ite
    | split
    | dsimp only)

theorem loopOpen_onward (d : Bytes) {s w : State} (h : Onward w s) :
    Onward w (loopOpen d s).2.2 := by
  unfold loopOpen
  repeat' (first
    | with_reducible assumption
    | with_reducible apply say_onward
    | with_reducible apply event_onward
    | with_reducible apply State.setCtx_onward
    | split
    | dsimp only)

theorem execLoopOpen_onward (t : Nat) (rq : CmdReq) (s : State) :
    Lands (advance t s) (execLoopOpen t rq s) := by
  unfold execLoopOpen
  repeat' (first
    | intro _
    | with_reducible assumption
    | with_reducible exact Onward.refl _
    | with_reducible apply runCommand_onward
    | with_reducible apply loopOpen_onward
    | with_reducible apply Lands.next)

theorem loopSet_onward (d : Bytes) {s w : State} (h : Onward w s) :
    Onward w (loopSet d s).2.2 := by
  unfold loopSet
  repeat' (first
    | with_reducible assumption
    | with_reducible apply say_onward
    | with_reducible apply State.setCtx_onward
    | split
    | dsimp only)

theorem execLoopSet_onward (t : Nat) (rq : CmdReq) (s : State) :
    Lands (advance t s) (execLoopSet t rq s) := by
  unfold execLoopSet
  repeat' (first
    | intro _
    | with_reducible assumption
    | with_reducible exact Onward.refl _
    | with_reducible apply runCommand_onward
    | with_reducible apply loopSet_onward
    | with_reducible apply Lands.next)

theorem storeCrc_onward (k : Nat) (a1 : Bytes) {s w : State} (h : Onward w s) :
    Onward w (storeCrc k a1 s) := by
  unfold storeCrc
  repeat' (first
    | with_reducible assumption
    | fail_if_no_progress (with_reducible refine Onward.mk' ?_ rfl rfl rfl rfl rfl))

theorem coefWrite_onward (d : Bytes) {s w : State} (h : Onward w s) :
    Onward w (coefWrite d s).2.2 := by
  unfold coefWrite
  repeat' (first
    | with_reducible assumption
    | with_reducible apply say_onward
    | with_reducible apply storeCrc_onward
    | with_reducible apply State.setCtx_onward
    | split
    | dsimp only)

theorem execCtxCoefWrite_onward (t : Nat) (rq : CmdReq) (s : State) :
    Lands (advance t s) (execCtxCoefWrite t rq s) := by
  unfold execCtxCoefWrite
  repeat' (first
    | intro _
    | with_reducible assumption
    | with_reducible exact Onward.refl _
    | with_reducible apply runCommand_onward
    | with_reducible apply coefWrite_onward
    | with_reducible apply Lands.next)

theorem loopClose_onward (d : Bytes) {s w : State} (h : Onward w s) :
    Onward w (loopClose d s).2.2 := by
  unfold loopClose
  repeat' (first
    | with_reducible assumption
    | with_reducible apply say_onward
    | with_reducible apply closeLoop_onward
    | split
    | dsimp only)

theorem execLoopClose_onward (t : Nat) (rq : CmdReq) (s : State) :
    Lands (advance t s) (execLoopClose t rq s) := by
  unfold execLoopClose
  repeat' (first
    | intro _
    | with_reducible assumption
    | with_reducible exact Onward.refl _
    | with_reducible apply runCommand_onward
    | with_reducible apply loopClose_onward
    | with_reducible apply Lands.next)

theorem injectStart_onward (d : Bytes) {s w : State} (h : Onward w s) :
    Onward w (injectStart d s).2.2 := by
  unfold injectStart
  repeat' (first
    | with_reducible assumption
    | with_reducible apply say_onward
    | with_reducible apply drawFree_onward
    | with_reducible apply triggerCapture_onward
    | with_reducible apply Onward.ite
    | fail_if_no_progress (with_reducible refine Onward.mk' ?_ rfl rfl rfl rfl rfl)
    | split
    | dsimp only)

theorem execInjectStart_onward (t : Nat) (rq : CmdReq) (s : State) :
    Lands (advance t s) (execInjectStart t rq s) := by
  unfold execInjectStart
  repeat' (first
    | intro _
    | with_reducible assumption
    | with_reducible exact Onward.refl _
    | with_reducible apply runCommand_onward
    | with_reducible apply injectStart_onward
    | with_reducible apply Lands.next)

theorem execInjectStop_onward (t : Nat) (rq : CmdReq) (s : State) :
    Lands (advance t s) (execInjectStop t rq s) := by
  unfold execInjectStop
  repeat' (first
    | intro _
    | with_reducible assumption
    | with_reducible exact Onward.refl _
    | with_reducible apply runCommand_onward
    | with_reducible apply say_onward
    | with_reducible apply stopInject_onward
    | with_reducible apply Lands.next
    | split)

theorem captureArm_onward (d : Bytes) {s w : State} (h : Onward w s) :
    Onward w (captureArm d s).2.2 := by
  unfold captureArm
  repeat' (first
    | with_reducible assumption
    | with_reducible apply say_onward
    | with_reducible apply triggerCapture_onward
    | fail_if_no_progress (with_reducible refine Onward.mk' ?_ rfl rfl rfl rfl rfl)
    | split
    | dsimp only)

theorem execCaptureArm_onward (t : Nat) (rq : CmdReq) (s : State) :
    Lands (advance t s) (execCaptureArm t rq s) := by
  unfold execCaptureArm
  repeat' (first
    | intro _
    | with_reducible assumption
    | with_reducible exact Onward.refl _
    | with_reducible apply runCommand_onward
    | with_reducible apply captureArm_onward
    | with_reducible apply Lands.next)

theorem execCaptureAbort_onward (t : Nat) (rq : CmdReq) (s : State) :
    Lands (advance t s) (execCaptureAbort t rq s) := by
  unfold execCaptureAbort
  repeat' (first
    | intro _
    | with_reducible assumption
    | with_reducible exact Onward.refl _
    | with_reducible apply runCommand_onward
    | with_reducible apply say_onward
    | with_reducible apply stopCapture_onward
    | with_reducible apply Lands.next)

end Sys2Proof.Machine
end

