-- ==== Sys2Proof/Laws/OnwardMaqOps.lean ====
section
/-! SUPPORT. What the acts of MaqOps keep (Laws/Onward). -/

namespace Sys2Proof.Machine

theorem flagFault_onward (code : Nat) (a1 : Nat) (was : Bool) (is_ : Bool) (any : StringM → Bool) {s w : State} (h : Onward w s) :
    Onward w (flagFault code a1 was is_ any s) := by
  unfold flagFault
  repeat' (first
    | with_reducible assumption
    | with_reducible apply chipFault_onward
    | with_reducible apply lowerFault_onward
    | with_reducible apply Onward.ite)

theorem countString_onward (a1 : Nat) {s w : State} (h : Onward w s) :
    Onward w (countString a1 s) := by
  unfold countString
  repeat' (first
    | with_reducible assumption
    | with_reducible apply flagFault_onward
    | with_reducible apply State.setStr_onward
    | with_reducible apply Onward.ite
    | split
    | dsimp only)

theorem maqLedger_onward  {s w : State} (h : Onward w s) :
    Onward w (maqLedger s) := by
  unfold maqLedger
  repeat' (first
    | intro _
    | with_reducible assumption
    | with_reducible apply countString_onward
    | with_reducible apply Onward.foldl)

theorem takeTemps_onward (a1 : Nat) {s w : State} (h : Onward w s) :
    Onward w (takeTemps a1 s) := by
  unfold takeTemps
  repeat' (first
    | with_reducible assumption
    | with_reducible apply drawFree_onward
    | with_reducible apply flagFault_onward
    | with_reducible apply State.setStr_onward
    | with_reducible apply Onward.ite)

theorem rateStep_onward (a1 : Nat) {s w : State} (h : Onward w s) :
    Onward w (rateStep a1 s) := by
  unfold rateStep
  repeat' (first
    | with_reducible assumption
    | with_reducible apply State.setStr_onward
    | with_reducible apply Onward.ite
    | split)

theorem restRequest_onward (a1 : Nat) {s w : State} (h : Onward w s) :
    Onward w (restRequest a1 s) := by
  unfold restRequest
  repeat' (first
    | with_reducible assumption
    | with_reducible apply event_onward
    | with_reducible apply State.setStr_onward
    | with_reducible apply Onward.ite)

theorem publishString_onward (a1 : Nat) {s w : State} (h : Onward w s) :
    Onward w (publishString a1 s) := by
  unfold publishString
  repeat' (first
    | with_reducible assumption
    | with_reducible apply State.setStr_onward)

theorem closeStep_onward (a1 : Nat) {s w : State} (h : Onward w s) :
    Onward w (closeStep a1 s) := by
  unfold closeStep
  repeat' (first
    | with_reducible assumption
    | with_reducible apply drawFree_onward
    | with_reducible apply State.setStr_onward
    | with_reducible apply Onward.ite)

theorem stepString_onward (step : Nat) (a1 : Nat) {s w : State} (h : Onward w s) :
    Onward w (stepString step a1 s) := by
  unfold stepString
  repeat' (first
    | with_reducible assumption
    | with_reducible apply takeTemps_onward
    | with_reducible apply closeStep_onward
    | with_reducible apply publishString_onward
    | with_reducible apply rateStep_onward
    | with_reducible apply restRequest_onward
    | with_reducible apply issueSample_onward
    | with_reducible apply State.setStr_onward
    | with_reducible apply Onward.ite)

theorem takeSet_onward (a1 : Nat) (d : CellData) {s w : State} (h : Onward w s) :
    Onward w (takeSet a1 d s) := by
  unfold takeSet
  repeat' (first
    | intro _
    | with_reducible assumption
    | with_reducible apply chipFault_onward
    | with_reducible apply lowerFault_onward
    | with_reducible apply State.setStr_onward
    | with_reducible apply Onward.foldl
    | with_reducible apply Onward.ite)

theorem residuals_onward (a1 : Nat) (i : Int) {s w : State} (h : Onward w s) :
    Onward w (residuals a1 i s) := by
  unfold residuals
  repeat' (first
    | intro _
    | with_reducible assumption
    | with_reducible apply chipPulse_onward
    | with_reducible apply State.setStr_onward
    | with_reducible apply Onward.foldl
    | with_reducible apply Onward.ite)

theorem learnR_onward (a1 : Nat) (old : Tab Cell) (di : Int) {s w : State} (h : Onward w s) :
    Onward w (learnR a1 old di s) := by
  unfold learnR
  repeat' (first
    | intro _
    | with_reducible assumption
    | with_reducible apply chipPulse_onward
    | with_reducible apply State.setStr_onward
    | with_reducible apply Onward.foldl
    | with_reducible apply Onward.ite)

theorem openCircuit_onward (a1 : Nat) (kind : Nat) (i : Int) {s w : State} (h : Onward w s) :
    Onward w (openCircuit a1 kind i s) := by
  unfold openCircuit
  repeat' (first
    | intro _
    | with_reducible assumption
    | with_reducible apply event_onward
    | with_reducible apply chipPulse_onward
    | with_reducible apply requestStore_onward
    | with_reducible apply State.setStr_onward
    | with_reducible apply Onward.foldl
    | with_reducible apply Onward.ite)

theorem maqSet_onward (a1 : Nat) (d : CellData) {s w : State} (h : Onward w s) :
    Onward w (maqSet a1 d s) := by
  unfold maqSet
  repeat' (first
    | with_reducible assumption
    | with_reducible apply takeSet_onward
    | with_reducible apply takeTemps_onward
    | with_reducible apply residuals_onward
    | with_reducible apply learnR_onward
    | with_reducible apply openCircuit_onward
    | with_reducible apply State.setStr_onward
    | with_reducible apply Onward.ite
    | split
    | dsimp only)

theorem balanceString_onward (a1 : Nat) {s w : State} (h : Onward w s) :
    Onward w (balanceString a1 s) := by
  unfold balanceString
  repeat' (first
    | intro _
    | with_reducible assumption
    | with_reducible apply issueBleed_onward
    | with_reducible apply pauseBleed_onward
    | with_reducible apply State.setStr_onward
    | with_reducible apply Onward.foldl)

end Sys2Proof.Machine
end

