-- ==== Sys2Proof/Laws/OnwardLink.lean ====
section
/-! SUPPORT. What the acts of Link keep (Laws/Onward). -/

namespace Sys2Proof.Machine

theorem portPulse_onward (code : Nat) (p : Nat) (l : List Nat) {s w : State} (h : Onward w s) :
    Onward w (portPulse code p l s) := by
  unfold portPulse
  repeat' (first
    | with_reducible assumption
    | with_reducible apply pulseFault_onward)

theorem portFault_onward (code : Nat) (p : Nat) (l : List Nat) {s w : State} (h : Onward w s) :
    Onward w (portFault code p l s) := by
  unfold portFault
  repeat' (first
    | with_reducible assumption
    | with_reducible apply raiseFault_onward)

theorem attemptFails_onward (p : Nat) {s w : State} (h : Onward w s) :
    Onward w (attemptFails p s) := by
  unfold attemptFails
  repeat' (first
    | with_reducible assumption
    | with_reducible apply portFault_onward
    | with_reducible apply State.setPort_onward
    | with_reducible apply Onward.ite)

theorem execTrainLockComplete_onward (t : Nat) (port : Nat) (eq : Equaliser) (s : State) :
    Lands (advance t s) (execTrainLockComplete t port eq s) := by
  unfold execTrainLockComplete
  repeat' (first
    | with_reducible exact Onward.refl _
    | with_reducible apply State.setPort_onward
    | with_reducible apply Lands.next
    | with_reducible apply Lands.ite)

theorem execTs2Received_onward (t : Nat) (port : Nat) (echo : Nat) (kind : Nat) (maker : Nat) (count : Nat) (s : State) :
    Lands (advance t s) (execTs2Received t port echo kind maker count s) := by
  unfold execTs2Received
  repeat' (first
    | with_reducible exact Onward.refl _
    | with_reducible apply attemptFails_onward
    | with_reducible apply portPulse_onward
    | with_reducible apply State.setPort_onward
    | with_reducible apply Lands.next
    | with_reducible apply Lands.ite
    | split
    | dsimp only)

theorem execLatencyMeasured_onward (t : Nat) (port : Nat) (rttSum16 : Nat) (taTile : Nat) (s : State) :
    Lands (advance t s) (execLatencyMeasured t port rttSum16 taTile s) := by
  unfold execLatencyMeasured
  repeat' (first
    | intro _
    | with_reducible assumption
    | with_reducible exact Onward.refl _
    | with_reducible apply attemptFails_onward
    | with_reducible apply portPulse_onward
    | with_reducible apply queueSvc_onward
    | with_reducible apply State.setPort_onward
    | with_reducible apply Onward.foldl
    | with_reducible apply Lands.next
    | with_reducible apply Lands.ite
    | split
    | dsimp only)

theorem releaseOnActive_onward (e : Bytes) (p : Nat) {s w : State} (h : Onward w s) :
    Onward w (releaseOnActive e p s) := by
  unfold releaseOnActive
  repeat' (first
    | with_reducible assumption
    | with_reducible apply startClear_onward
    | with_reducible apply queueSvc_onward
    | with_reducible apply Onward.ite)

theorem trainFaultEnds_onward (p : Nat) {s w : State} (h : Onward w s) :
    Onward w (trainFaultEnds p s) := by
  unfold trainFaultEnds
  repeat' (first
    | with_reducible assumption
    | with_reducible apply lowerFault_onward
    | with_reducible apply Onward.ite)

theorem becomeActive_onward (e : Bytes) (p : Nat) {s w : State} (h : Onward w s) :
    Onward w (becomeActive e p s) := by
  unfold becomeActive
  repeat' (first
    | with_reducible assumption
    | with_reducible apply releaseOnActive_onward
    | with_reducible apply event_onward
    | with_reducible apply trainFaultEnds_onward)

theorem portTrained_onward (e : Bytes) (p : Nat) {s w : State} (h : Onward w s) :
    Onward w (portTrained e p s) := by
  unfold portTrained
  repeat' (first
    | with_reducible assumption
    | with_reducible apply becomeActive_onward
    | with_reducible apply trainFaultEnds_onward
    | with_reducible apply State.setPort_onward
    | with_reducible apply Onward.ite
    | split)

theorem finishTraining_onward (e : Bytes) (p : Nat) {s w : State} (h : Onward w s) :
    Onward w (finishTraining e p s) := by
  unfold finishTraining
  repeat' (first
    | with_reducible assumption
    | with_reducible apply portTrained_onward
    | with_reducible apply Onward.ite)

theorem execAlignCheckComplete_onward (t : Nat) (port : Nat) (residualSum16 : Int) (frames : Nat) (s : State) :
    Lands (advance t s) (execAlignCheckComplete t port residualSum16 frames s) := by
  unfold execAlignCheckComplete
  repeat' (first
    | with_reducible exact Onward.refl _
    | with_reducible apply attemptFails_onward
    | with_reducible apply portPulse_onward
    | with_reducible apply finishTraining_onward
    | with_reducible apply State.setPort_onward
    | with_reducible apply Lands.next
    | with_reducible apply Lands.ite
    | split
    | dsimp only)

theorem execTrainAttemptTimeout_onward (t : Nat) (port : Nat) (s : State) :
    Lands (advance t s) (execTrainAttemptTimeout t port s) := by
  unfold execTrainAttemptTimeout
  repeat' (first
    | with_reducible exact Onward.refl _
    | with_reducible apply attemptFails_onward
    | with_reducible apply Lands.next
    | with_reducible apply Lands.ite)

theorem execTrainAttemptStart_onward (t : Nat) (port : Nat) (s : State) :
    Lands (advance t s) (execTrainAttemptStart t port s) := by
  unfold execTrainAttemptStart
  repeat' (first
    | with_reducible exact Onward.refl _
    | with_reducible apply State.setPort_onward
    | with_reducible apply Lands.next
    | with_reducible apply Lands.ite)

theorem releaseOnFailover_onward (o : Nat) {s w : State} (h : Onward w s) :
    Onward w (releaseOnFailover o s) := by
  unfold releaseOnFailover
  repeat' (first
    | with_reducible assumption
    | with_reducible apply startClear_onward
    | with_reducible apply Onward.ite
    | split)

theorem linkTrigger_onward (trigger : Nat) (p : Nat) {s w : State} (h : Onward w s) :
    Onward w (linkTrigger trigger p s) := by
  unfold linkTrigger
  repeat' (first
    | with_reducible assumption
    | with_reducible apply retrainPort_onward
    | with_reducible apply portPulse_onward
    | with_reducible apply releaseOnFailover_onward
    | with_reducible apply event_onward
    | with_reducible apply State.setPort_onward
    | with_reducible apply Onward.ite
    | split
    | dsimp only)

theorem execReceiverLockLoss_onward (t : Nat) (port : Nat) (s : State) :
    Lands (advance t s) (execReceiverLockLoss t port s) := by
  unfold execReceiverLockLoss
  repeat' (first
    | with_reducible exact Onward.refl _
    | with_reducible apply linkTrigger_onward
    | with_reducible apply State.setPort_onward
    | with_reducible apply Lands.next
    | with_reducible apply Lands.ite)

theorem statusFault_onward (code : Nat) (a1 : Nat) (p : Nat) (fresh : List Nat) {s w : State} (h : Onward w s) :
    Onward w (statusFault code a1 p fresh s) := by
  unfold statusFault
  repeat' (first
    | intro _
    | with_reducible assumption
    | with_reducible apply raiseFault_onward
    | with_reducible apply lowerFault_onward
    | with_reducible apply Onward.foldl
    | with_reducible apply Onward.ite)

theorem countLate_onward (p : Nat) (n : Nat) {s w : State} (h : Onward w s) :
    Onward w (countLate p n s) := by
  unfold countLate
  repeat' (first
    | with_reducible assumption
    | with_reducible apply portPulse_onward
    | with_reducible apply State.setPort_onward
    | with_reducible apply Onward.ite)

theorem endHold_onward (p : Nat) {s w : State} (h : Onward w s) :
    Onward w (endHold p s) := by
  unfold endHold
  repeat' (first
    | with_reducible assumption
    | with_reducible apply State.setPort_onward
    | split
    | dsimp only)

theorem takeReadBack_onward (p : Nat) (addr : Nat) (v : Nat) {s w : State} (h : Onward w s) :
    Onward w (takeReadBack p addr v s) := by
  unfold takeReadBack
  repeat' (first
    | with_reducible assumption
    | with_reducible apply attemptFails_onward
    | with_reducible apply State.setPort_onward
    | with_reducible apply Onward.ite
    | split
    | dsimp only)

theorem takeResponse_onward (p : Nat) (r : Bytes) {s w : State} (h : Onward w s) :
    Onward w (takeResponse p r s) := by
  unfold takeResponse
  repeat' (first
    | with_reducible assumption
    | with_reducible apply takeReadBack_onward
    | with_reducible apply endHold_onward
    | with_reducible apply portPulse_onward
    | with_reducible apply State.setPort_onward
    | with_reducible apply Onward.ite
    | split
    | dsimp only)

theorem takeLatch_onward (e : Bytes) (p : Nat) (body : Bytes) {s w : State} (h : Onward w s) :
    Onward w (takeLatch e p body s) := by
  unfold takeLatch
  repeat' (first
    | with_reducible assumption
    | with_reducible apply event_onward
    | with_reducible apply portPulse_onward
    | with_reducible apply startClear_onward
    | with_reducible apply retrainPort_onward
    | with_reducible apply State.setPort_onward
    | with_reducible apply Onward.ite)

theorem latchStops_onward (e : Bytes) {s w : State} (h : Onward w s) :
    Onward w (latchStops e s) := by
  unfold latchStops
  repeat' (first
    | intro _
    | with_reducible assumption
    | with_reducible apply stopStage_onward
    | with_reducible apply Onward.foldl
    | with_reducible apply Onward.ite)

theorem transitions_onward (e : Bytes) (f : Nat) (body : Bytes) {s w : State} (h : Onward w s) :
    Onward w (transitions e f body s) := by
  unfold transitions
  repeat' (first
    | intro _
    | with_reducible assumption
    | with_reducible apply takeTransition_onward
    | with_reducible apply Onward.foldl
    | with_reducible apply Onward.ite)

theorem handOn_onward (e : Bytes) (p : Nat) (f : Nat) (body : Option Bytes) {s w : State} (h : Onward w s) :
    Onward w (handOn e p f body s) := by
  unfold handOn
  repeat' (first
    | with_reducible assumption
    | with_reducible apply paveFrame_onward
    | with_reducible apply cellFrame_onward
    | with_reducible apply State.setPort_onward
    | with_reducible apply Onward.ite
    | split)

theorem endOwed_onward (e : Bytes) (p : Nat) {s w : State} (h : Onward w s) :
    Onward w (endOwed e p s) := by
  unfold endOwed
  repeat' (first
    | with_reducible assumption
    | with_reducible apply handOn_onward
    | split)

theorem keepSpare_onward (e : Bytes) (p : Nat) (f : Nat) (body : Bytes) {s w : State} (h : Onward w s) :
    Onward w (keepSpare e p f body s) := by
  unfold keepSpare
  repeat' (first
    | with_reducible assumption
    | with_reducible apply handOn_onward
    | with_reducible apply State.setPort_onward
    | split
    | dsimp only)

theorem invalidUp_onward (e : Bytes) (p : Nat) {s w : State} (h : Onward w s) :
    Onward w (invalidUp e p s) := by
  unfold invalidUp
  repeat' (first
    | with_reducible assumption
    | with_reducible apply endOwed_onward
    | with_reducible apply handOn_onward
    | with_reducible apply linkTrigger_onward
    | with_reducible apply State.setPort_onward
    | with_reducible apply Onward.ite
    | split
    | dsimp only)

theorem validUp_onward (e : Bytes) (p : Nat) (body : Bytes) {s w : State} (h : Onward w s) :
    Onward w (validUp e p body s) := by
  unfold validUp
  repeat' (first
    | with_reducible assumption
    | with_reducible apply takeResponse_onward
    | with_reducible apply finishTraining_onward
    | with_reducible apply countLate_onward
    | with_reducible apply statusFault_onward
    | with_reducible apply takeLatch_onward
    | with_reducible apply endOwed_onward
    | with_reducible apply handOn_onward
    | with_reducible apply latchStops_onward
    | with_reducible apply transitions_onward
    | with_reducible apply linkTrigger_onward
    | with_reducible apply keepSpare_onward
    | with_reducible apply State.setPort_onward
    | with_reducible apply Onward.ite
    | split)

theorem execUpstreamFrame_onward (t : Nat) (port : Nat) (frame : WireFrame) (s : State) :
    Lands (advance t s) (execUpstreamFrame t port frame s) := by
  unfold execUpstreamFrame
  repeat' (first
    | with_reducible exact Onward.refl _
    | with_reducible apply validUp_onward
    | with_reducible apply invalidUp_onward
    | with_reducible apply State.setPort_onward
    | with_reducible apply Lands.next
    | with_reducible apply Lands.ite
    | split
    | dsimp only)

theorem execServiceOpTimeout_onward (t : Nat) (port : Nat) (s : State) :
    Lands (advance t s) (execServiceOpTimeout t port s) := by
  unfold execServiceOpTimeout
  repeat' (first
    | with_reducible exact Onward.refl _
    | with_reducible apply State.setPort_onward
    | with_reducible apply Lands.next
    | with_reducible apply Lands.ite
    | split
    | dsimp only)

theorem execResidualTrim_onward (t : Nat) (port : Nat) (mean16 : Int) (s : State) :
    Lands (advance t s) (execResidualTrim t port mean16 s) := by
  unfold execResidualTrim
  repeat' (first
    | with_reducible exact Onward.refl _
    | with_reducible apply queueSvc_onward
    | with_reducible apply portPulse_onward
    | with_reducible apply State.setPort_onward
    | with_reducible apply Onward.ite
    | with_reducible apply Lands.next
    | with_reducible apply Lands.ite)

theorem execEyeMarginMeasure_onward (t : Nat) (port : Nat) (mv : Nat) (ui64 : Nat) (eq : Equaliser) (s : State) :
    Lands (advance t s) (execEyeMarginMeasure t port mv ui64 eq s) := by
  unfold execEyeMarginMeasure
  repeat' (first
    | with_reducible exact Onward.refl _
    | with_reducible apply State.setPort_onward
    | with_reducible apply Lands.next
    | with_reducible apply Lands.ite)

theorem execAllClearRetry_onward (t : Nat) (port : Nat) (s : State) :
    Lands (advance t s) (execAllClearRetry t port s) := by
  unfold execAllClearRetry
  repeat' (first
    | with_reducible exact Onward.refl _
    | with_reducible apply portPulse_onward
    | with_reducible apply queueSvc_onward
    | with_reducible apply State.setPort_onward
    | with_reducible apply Lands.next
    | with_reducible apply Lands.ite
    | split
    | dsimp only)

theorem execSlotClear_onward (t : Nat) (port : Nat) (s : State) :
    Lands (advance t s) (execSlotClear t port s) := by
  unfold execSlotClear
  repeat' (first
    | with_reducible exact Onward.refl _
    | with_reducible apply queueSvc_onward
    | with_reducible apply State.setPort_onward
    | with_reducible apply Lands.next
    | with_reducible apply Lands.ite)

end Sys2Proof.Machine
end

