-- ==== Sys2Proof/Laws/OnwardModulator.lean ====
section
/-! SUPPORT. What the acts of Modulator keep (Laws/Onward). -/

namespace Sys2Proof.Machine

theorem execFrameCutoff_onward (t : Nat) (frameNo : Nat) (s : State) :
    Lands (advance t s) (execFrameCutoff t frameNo s) := by
  unfold execFrameCutoff
  repeat' (first
    | intro _
    | with_reducible assumption
    | with_reducible exact Onward.refl _
    | with_reducible apply cutoffStage_onward
    | with_reducible apply dropLate_onward
    | with_reducible apply buildFrame_onward
    | with_reducible apply retrainPort_onward
    | with_reducible apply Onward.foldl
    | with_reducible apply Onward.ite
    | with_reducible apply Lands.next
    | with_reducible apply Lands.ite
    | fail_if_no_progress (with_reducible refine Onward.mk' ?_ rfl rfl rfl rfl rfl))

theorem execBrakeMaxTimeExpiry_onward (t : Nat) (stage : Nat) (s : State) :
    Lands (advance t s) (execBrakeMaxTimeExpiry t stage s) := by
  unfold execBrakeMaxTimeExpiry
  repeat' (first
    | with_reducible exact Onward.refl _
    | with_reducible apply endBrake_onward
    | with_reducible apply Lands.next
    | with_reducible apply Lands.ite)

theorem execCrowbarFire_onward (t : Nat) (phase : Nat) (s : State) :
    Lands (advance t s) (execCrowbarFire t phase s) := by
  unfold execCrowbarFire
  repeat' (first
    | with_reducible exact Onward.refl _
    | with_reducible apply fireCrowbar_onward
    | with_reducible apply Lands.next
    | with_reducible apply Lands.ite)

theorem execQuietPoint_onward (t : Nat) (stage : Nat) (s : State) :
    Lands (advance t s) (execQuietPoint t stage s) := by
  unfold execQuietPoint
  repeat' (first
    | with_reducible exact Onward.refl _
    | with_reducible apply State.setStage_onward
    | with_reducible apply Lands.next
    | with_reducible apply Lands.ite
    | split
    | dsimp only)

theorem phaseRetire_onward (d : Bytes) {s w : State} (h : Onward w s) :
    Onward w (phaseRetire d s).2.2 := by
  unfold phaseRetire
  repeat' (first
    | with_reducible assumption
    | with_reducible apply say_onward
    | with_reducible apply wearTo_onward
    | with_reducible apply promote_onward
    | with_reducible apply Onward.ite
    | split
    | dsimp only)

theorem execPhaseRetire_onward (t : Nat) (rq : CmdReq) (s : State) :
    Lands (advance t s) (execPhaseRetire t rq s) := by
  unfold execPhaseRetire
  repeat' (first
    | intro _
    | with_reducible assumption
    | with_reducible exact Onward.refl _
    | with_reducible apply runCommand_onward
    | with_reducible apply phaseRetire_onward
    | with_reducible apply Lands.next)

theorem freshWear_onward (p : Nat) {s w : State} (h : Onward w s) :
    Onward w (freshWear p s) := by
  unfold freshWear
  repeat' (first
    | with_reducible assumption
    | with_reducible apply event_onward
    | with_reducible apply State.setPh_onward)

theorem wearReset_onward (d : Bytes) {s w : State} (h : Onward w s) :
    Onward w (wearReset d s).2.2 := by
  unfold wearReset
  repeat' (first
    | with_reducible assumption
    | with_reducible apply say_onward
    | with_reducible apply freshWear_onward
    | split
    | dsimp only)

theorem execWearReset_onward (t : Nat) (rq : CmdReq) (s : State) :
    Lands (advance t s) (execWearReset t rq s) := by
  unfold execWearReset
  repeat' (first
    | intro _
    | with_reducible assumption
    | with_reducible exact Onward.refl _
    | with_reducible apply runCommand_onward
    | with_reducible apply wearReset_onward
    | with_reducible apply Lands.next)

end Sys2Proof.Machine
end

