-- ==== Sys2Proof/Laws/OnwardPave.lean ====
section
/-! SUPPORT. What the acts of Pave keep (Laws/Onward). -/

namespace Sys2Proof.Machine

theorem windowPublished_onward (p : Nat) {s w : State} (h : Onward w s) :
    Onward w (windowPublished p s) := by
  unfold windowPublished
  repeat' (first
    | with_reducible assumption
    | with_reducible apply startedUp_onward
    | with_reducible apply trackWindow_onward
    | with_reducible apply wearWindow_onward
    | with_reducible apply brakeWatch_onward
    | with_reducible apply brakeCheck_onward
    | with_reducible apply watchInterlocks_onward
    | with_reducible apply watchRailsOf_onward
    | with_reducible apply Onward.ite)

theorem execWindowSamplePublish_onward (t : Nat) (phase : Nat) (s : State) :
    Lands (advance t s) (execWindowSamplePublish t phase s) := by
  unfold execWindowSamplePublish
  repeat' (first
    | with_reducible exact Onward.refl _
    | with_reducible apply fillSilent_onward
    | with_reducible apply mainWindow_onward
    | with_reducible apply windowPublished_onward
    | with_reducible apply Onward.ite
    | with_reducible apply Lands.next
    | with_reducible apply Lands.ite)

theorem senseZero_onward (d : Bytes) {s w : State} (h : Onward w s) :
    Onward w (senseZero d s).2.2 := by
  unfold senseZero
  repeat' (first
    | with_reducible assumption
    | with_reducible apply say_onward
    | fail_if_no_progress (with_reducible refine Onward.mk' ?_ rfl rfl rfl rfl rfl)
    | split
    | dsimp only)

theorem execSenseZero_onward (t : Nat) (rq : CmdReq) (s : State) :
    Lands (advance t s) (execSenseZero t rq s) := by
  unfold execSenseZero
  repeat' (first
    | intro _
    | with_reducible assumption
    | with_reducible exact Onward.refl _
    | with_reducible apply runCommand_onward
    | with_reducible apply senseZero_onward
    | with_reducible apply Lands.next)

theorem execSenseZeroComplete_onward (t : Nat) (s : State) :
    Lands (advance t s) (execSenseZeroComplete t s) := by
  unfold execSenseZeroComplete
  repeat' (first
    | intro _
    | with_reducible assumption
    | with_reducible exact Onward.refl _
    | with_reducible apply finishCommand_onward
    | with_reducible apply event_onward
    | with_reducible apply State.setSense_onward
    | with_reducible apply Onward.foldl
    | with_reducible apply Lands.next
    | with_reducible apply Lands.ite
    | fail_if_no_progress (with_reducible refine Onward.mk' ?_ rfl rfl rfl rfl rfl)
    | split
    | dsimp only)

theorem cellLimits_onward (a1 : Nat) (a2 : CellData) {s w : State} (h : Onward w s) :
    Onward w (cellLimits a1 a2 s) := by
  unfold cellLimits
  repeat' (first
    | intro _
    | with_reducible assumption
    | with_reducible apply chipPulse_onward
    | with_reducible apply Onward.foldl
    | with_reducible apply Onward.ite)

theorem publishSet_onward (a1 : Nat) (a2 : CellData) {s w : State} (h : Onward w s) :
    Onward w (publishSet a1 a2 s) := by
  unfold publishSet
  repeat' (first
    | intro _
    | with_reducible assumption
    | with_reducible apply cellLimits_onward
    | with_reducible apply pulseFault_onward
    | with_reducible apply maqSet_onward
    | with_reducible apply Onward.foldl
    | with_reducible apply Onward.ite
    | fail_if_no_progress (with_reducible refine Onward.mk' ?_ rfl rfl rfl rfl rfl))

theorem execCellSetPublish_onward (t : Nat) (string : Nat) (tile : Option Nat) (s : State) :
    Lands (advance t s) (execCellSetPublish t string tile s) := by
  unfold execCellSetPublish
  repeat' (first
    | with_reducible exact Onward.refl _
    | with_reducible apply publishSet_onward
    | with_reducible apply Lands.next
    | with_reducible apply Lands.ite
    | fail_if_no_progress (with_reducible refine Onward.mk' ?_ rfl rfl rfl rfl rfl)
    | split
    | dsimp only)

theorem execCellResend_onward (t : Nat) (string : Nat) (s : State) :
    Lands (advance t s) (execCellResend t string s) := by
  unfold execCellResend
  repeat' (first
    | intro _
    | with_reducible assumption
    | with_reducible exact Onward.refl _
    | with_reducible apply queueSvc_onward
    | with_reducible apply Onward.foldl
    | with_reducible apply Lands.next
    | with_reducible apply Lands.ite
    | fail_if_no_progress (with_reducible refine Onward.mk' ?_ rfl rfl rfl rfl rfl)
    | split
    | dsimp only)

theorem ainPublish_onward (k : Nat) (codes : List Nat) (close : Nat) {s w : State} (h : Onward w s) :
    Onward w (ainPublish k codes close s) := by
  unfold ainPublish
  repeat' (first
    | with_reducible assumption
    | with_reducible apply brakeWatch_onward
    | with_reducible apply watchInterlocks_onward
    | with_reducible apply watchRailsOf_onward
    | with_reducible apply chipFault_onward
    | with_reducible apply lowerFault_onward
    | with_reducible apply Onward.ite
    | fail_if_no_progress (with_reducible refine Onward.mk' ?_ rfl rfl rfl rfl rfl))

theorem execAinSample_onward (t : Nat) (channel : Nat) (code : Nat) (s : State) :
    Lands (advance t s) (execAinSample t channel code s) := by
  unfold execAinSample
  repeat' (first
    | with_reducible exact Onward.refl _
    | with_reducible apply ainPublish_onward
    | with_reducible apply Lands.next
    | with_reducible apply Lands.ite
    | fail_if_no_progress (with_reducible refine Onward.mk' ?_ rfl rfl rfl rfl rfl)
    | split
    | dsimp only)

theorem execSppRisingEdge_onward (t : Nat) (channel : Nat) (period : Nat) (high : Nat) (s : State) :
    Lands (advance t s) (execSppRisingEdge t channel period high s) := by
  unfold execSppRisingEdge
  repeat' (first
    | with_reducible exact Onward.refl _
    | with_reducible apply leaveFallback_onward
    | with_reducible apply publishIn_onward
    | with_reducible apply enterFallback_onward
    | with_reducible apply State.setSetIn_onward
    | with_reducible apply Onward.ite
    | with_reducible apply Lands.next
    | with_reducible apply Lands.ite)

theorem execSppEdgeTimeout_onward (a1 : At (Option Nat)) (channel : Nat) (s : State) :
    Lands (advance a1.time s) (execSppEdgeTimeout a1 channel s) := by
  unfold execSppEdgeTimeout
  repeat' (first
    | with_reducible exact Onward.refl _
    | with_reducible apply enterFallback_onward
    | with_reducible apply Lands.next
    | with_reducible apply Lands.ite)

end Sys2Proof.Machine
end

