-- ==== Sys2Proof/Laws/OnwardSeqOps.lean ====
section
/-! SUPPORT. What the acts of SeqOps keep (Laws/Onward). -/

namespace Sys2Proof.Machine

theorem flagStep_onward (i : Nat) {s w : State} (h : Onward w s) :
    Onward w (flagStep i s) := by
  unfold flagStep
  repeat' (first
    | with_reducible assumption
    | with_reducible apply State.setSeq_onward)

theorem issueStep_onward  {s w : State} (h : Onward w s) :
    Onward w (issueStep s) := by
  unfold issueStep
  repeat' (first
    | intro _
    | with_reducible assumption
    | with_reducible apply startKa_onward
    | with_reducible apply stopKa_onward
    | with_reducible apply startStage_onward
    | with_reducible apply flagStep_onward
    | with_reducible apply chipPulse_onward
    | with_reducible apply pulseFault_onward
    | with_reducible apply State.setSeq_onward
    | with_reducible apply Onward.foldl
    | with_reducible apply Onward.ite
    | fail_if_no_progress (with_reducible refine Onward.mk' ?_ rfl rfl rfl rfl rfl))

theorem endStep_onward  {s w : State} (h : Onward w s) :
    Onward w (endStep s) := by
  unfold endStep
  repeat' (first
    | intro _
    | with_reducible assumption
    | with_reducible apply prepareStep_onward
    | with_reducible apply State.setRail_onward
    | with_reducible apply State.setSeq_onward
    | with_reducible apply Onward.foldl
    | with_reducible apply Onward.ite)

theorem timeOutStep_onward  {s w : State} (h : Onward w s) :
    Onward w (timeOutStep s) := by
  unfold timeOutStep
  repeat' (first
    | intro _
    | with_reducible assumption
    | with_reducible apply chipPulse_onward
    | with_reducible apply flagStep_onward
    | with_reducible apply endStep_onward
    | with_reducible apply Onward.foldl
    | with_reducible apply Onward.ite)

theorem endUndischarged_onward  {s w : State} (h : Onward w s) :
    Onward w (endUndischarged s) := by
  unfold endUndischarged
  repeat' (first
    | intro _
    | with_reducible assumption
    | with_reducible apply chipPulse_onward
    | with_reducible apply flagStep_onward
    | with_reducible apply prepareStep_onward
    | with_reducible apply Onward.foldl
    | with_reducible apply Onward.ite)

theorem reverseStep_onward  {s w : State} (h : Onward w s) :
    Onward w (reverseStep s) := by
  unfold reverseStep
  repeat' (first
    | intro _
    | with_reducible assumption
    | with_reducible apply stopKa_onward
    | with_reducible apply stopStage_onward
    | with_reducible apply State.setSeq_onward
    | with_reducible apply Onward.foldl)

theorem endReverse_onward  {s w : State} (h : Onward w s) :
    Onward w (endReverse s) := by
  unfold endReverse
  repeat' (first
    | with_reducible assumption
    | with_reducible apply startUp_onward
    | with_reducible apply completeDown_onward
    | with_reducible apply State.setSeq_onward
    | with_reducible apply Onward.ite)

theorem stopKept_onward  {s w : State} (h : Onward w s) :
    Onward w (stopKept s) := by
  unfold stopKept
  repeat' (first
    | intro _
    | with_reducible assumption
    | with_reducible apply stopStage_onward
    | with_reducible apply Onward.foldl)

theorem lowerRailFault_onward  {s w : State} (h : Onward w s) :
    Onward w (lowerRailFault s) := by
  unfold lowerRailFault
  repeat' (first
    | intro _
    | with_reducible assumption
    | with_reducible apply lowerFault_onward
    | with_reducible apply State.setRail_onward
    | with_reducible apply Onward.foldl
    | with_reducible apply Onward.ite)

theorem lowerContactFault_onward  {s w : State} (h : Onward w s) :
    Onward w (lowerContactFault s) := by
  unfold lowerContactFault
  repeat' (first
    | intro _
    | with_reducible assumption
    | with_reducible apply lowerFault_onward
    | with_reducible apply State.setKa_onward
    | with_reducible apply Onward.foldl
    | with_reducible apply Onward.ite)

theorem resumeRails_onward  {s w : State} (h : Onward w s) :
    Onward w (resumeRails s) := by
  unfold resumeRails
  repeat' (first
    | intro _
    | with_reducible assumption
    | with_reducible apply State.setRail_onward
    | with_reducible apply Onward.foldl
    | with_reducible apply Onward.ite)

theorem guardLedger_onward  {s w : State} (h : Onward w s) :
    Onward w (guardLedger s) := by
  unfold guardLedger
  repeat' (first
    | with_reducible assumption
    | with_reducible apply stopKept_onward
    | with_reducible apply State.setSeq_onward
    | with_reducible apply Onward.ite)

theorem couplingLedger_onward  {s w : State} (h : Onward w s) :
    Onward w (couplingLedger s) := by
  unfold couplingLedger
  repeat' (first
    | with_reducible assumption
    | with_reducible apply stopStage_onward
    | with_reducible apply State.setSeq_onward
    | with_reducible apply Onward.ite)

theorem seqLedger_onward  {s w : State} (h : Onward w s) :
    Onward w (seqLedger s) := by
  unfold seqLedger
  repeat' (first
    | with_reducible assumption
    | with_reducible apply finishUp_onward
    | with_reducible apply couplingLedger_onward
    | with_reducible apply guardLedger_onward
    | with_reducible apply resumeRails_onward
    | with_reducible apply watchRails_onward
    | with_reducible apply refreshKas_onward
    | with_reducible apply lowerContactFault_onward
    | with_reducible apply lowerRailFault_onward
    | with_reducible apply endReverse_onward
    | with_reducible apply Onward.ite)

end Sys2Proof.Machine
end

