-- ==== Sys2Proof/Laws/OnwardSequencer.lean ====
section
/-! SUPPORT. What the acts of Sequencer keep (Laws/Onward). -/

namespace Sys2Proof.Machine

theorem execRackOnChange_onward (t : Nat) (level : Bool) (s : State) :
    Lands (advance t s) (execRackOnChange t level s) := by
  unfold execRackOnChange
  repeat' (first
    | with_reducible exact Onward.refl _
    | with_reducible apply onRequest_onward
    | with_reducible apply offRequest_onward
    | with_reducible apply Lands.next
    | with_reducible apply Lands.ite
    | fail_if_no_progress (with_reducible refine Onward.mk' ?_ rfl rfl rfl rfl rfl))

theorem execSequenceStepIssue_onward (t : Nat) (s : State) :
    Lands (advance t s) (execSequenceStepIssue t s) := by
  unfold execSequenceStepIssue
  repeat' (first
    | with_reducible exact Onward.refl _
    | with_reducible apply issueStep_onward
    | with_reducible apply Lands.next
    | with_reducible apply Lands.ite)

theorem execStepWaitEnd_onward (t : Nat) (s : State) :
    Lands (advance t s) (execStepWaitEnd t s) := by
  unfold execStepWaitEnd
  repeat' (first
    | with_reducible exact Onward.refl _
    | with_reducible apply endStep_onward
    | with_reducible apply endReverse_onward
    | with_reducible apply Lands.next
    | with_reducible apply Lands.ite)

theorem execReadWaitEnd_onward (t : Nat) (s : State) :
    Lands (advance t s) (execReadWaitEnd t s) := by
  unfold execReadWaitEnd
  repeat' (first
    | with_reducible exact Onward.refl _
    | with_reducible apply State.setSeq_onward
    | with_reducible apply Lands.next
    | with_reducible apply Lands.ite)

theorem execUpTimeout_onward (t : Nat) (s : State) :
    Lands (advance t s) (execUpTimeout t s) := by
  unfold execUpTimeout
  repeat' (first
    | with_reducible exact Onward.refl _
    | with_reducible apply timeOutStep_onward
    | with_reducible apply Lands.next
    | with_reducible apply Lands.ite)

theorem execStepReverse_onward (t : Nat) (s : State) :
    Lands (advance t s) (execStepReverse t s) := by
  unfold execStepReverse
  repeat' (first
    | with_reducible exact Onward.refl _
    | with_reducible apply reverseStep_onward
    | with_reducible apply Lands.next
    | with_reducible apply Lands.ite)

theorem execDischTimeout_onward (t : Nat) (rail : Nat) (s : State) :
    Lands (advance t s) (execDischTimeout t rail s) := by
  unfold execDischTimeout
  repeat' (first
    | with_reducible exact Onward.refl _
    | with_reducible apply chipPulse_onward
    | with_reducible apply State.setSeq_onward
    | with_reducible apply Lands.next
    | with_reducible apply Lands.ite
    | fail_if_no_progress (with_reducible refine Onward.mk' ?_ rfl rfl rfl rfl rfl))

theorem execUndischargedWaitEnd_onward (t : Nat) (s : State) :
    Lands (advance t s) (execUndischargedWaitEnd t s) := by
  unfold execUndischargedWaitEnd
  repeat' (first
    | with_reducible exact Onward.refl _
    | with_reducible apply endUndischarged_onward
    | with_reducible apply Lands.next
    | with_reducible apply Lands.ite)

theorem execGuardWaitExpiry_onward (t : Nat) (s : State) :
    Lands (advance t s) (execGuardWaitExpiry t s) := by
  unfold execGuardWaitExpiry
  repeat' (first
    | with_reducible exact Onward.refl _
    | with_reducible apply stopKept_onward
    | with_reducible apply flagStep_onward
    | with_reducible apply State.setSeq_onward
    | with_reducible apply Lands.next
    | with_reducible apply Lands.ite
    | split
    | dsimp only)

theorem execRailOutOfWindow_onward (t : Nat) (rail : Nat) (s : State) :
    Lands (advance t s) (execRailOutOfWindow t rail s) := by
  unfold execRailOutOfWindow
  repeat' (first
    | with_reducible exact Onward.refl _
    | with_reducible apply watchRail_onward
    | with_reducible apply raiseFault_onward
    | with_reducible apply State.setRail_onward
    | with_reducible apply Lands.next
    | with_reducible apply Lands.ite
    | split
    | dsimp only)

theorem execKeepaliveHoldExpiry_onward (t : Nat) (ka : Nat) (s : State) :
    Lands (advance t s) (execKeepaliveHoldExpiry t ka s) := by
  unfold execKeepaliveHoldExpiry
  repeat' (first
    | with_reducible exact Onward.refl _
    | with_reducible apply chipPulse_onward
    | with_reducible apply stopKa_onward
    | with_reducible apply Lands.next
    | with_reducible apply Lands.ite)

theorem execContactorMismatch_onward (t : Nat) (ka : Nat) (s : State) :
    Lands (advance t s) (execContactorMismatch t ka s) := by
  unfold execContactorMismatch
  repeat' (first
    | with_reducible exact Onward.refl _
    | with_reducible apply chipFault_onward
    | with_reducible apply State.setKa_onward
    | with_reducible apply Lands.next
    | with_reducible apply Lands.ite)

theorem railMargin_onward (d : Bytes) {s w : State} (h : Onward w s) :
    Onward w (railMargin d s).2.2 := by
  unfold railMargin
  repeat' (first
    | with_reducible assumption
    | with_reducible apply say_onward
    | with_reducible apply setMargin_onward
    | split
    | dsimp only)

theorem execRailMargin_onward (t : Nat) (rq : CmdReq) (s : State) :
    Lands (advance t s) (execRailMargin t rq s) := by
  unfold execRailMargin
  repeat' (first
    | intro _
    | with_reducible assumption
    | with_reducible exact Onward.refl _
    | with_reducible apply runCommand_onward
    | with_reducible apply railMargin_onward
    | with_reducible apply Lands.next)

end Sys2Proof.Machine
end

