-- ==== Sys2Proof/Laws/OnwardHostServe.lean ====
section
/-! SUPPORT. What the acts of HostServe keep (Laws/Onward). -/

namespace Sys2Proof.Machine

theorem afterRead_onward (r : Request) {s w : State} (h : Onward w s) :
    Onward w (afterRead r s) := by
  unfold afterRead
  repeat' (first
    | with_reducible assumption
    | with_reducible apply State.setHport_onward
    | with_reducible apply Onward.ite
    | fail_if_no_progress (with_reducible refine Onward.mk' ?_ rfl rfl rfl rfl rfl))

theorem tableWrite_onward (r : Request) {s w : State} (h : Onward w s) :
    Onward w (tableWrite r s).2 := by
  unfold tableWrite
  repeat' (first
    | with_reducible assumption
    | fail_if_no_progress (with_reducible refine Onward.mk' ?_ rfl rfl rfl rfl rfl)
    | split)

theorem writeObject_onward (r : Request) {s w : State} (h : Onward w s) :
    Onward w (writeObject r s).2 := by
  unfold writeObject
  repeat' (first
    | with_reducible assumption
    | with_reducible apply tableWrite_onward
    | with_reducible apply State.setHport_onward
    | with_reducible apply State.setClasp_onward
    | split)

theorem serveData_onward (r : Request) {s w : State} (h : Onward w s) :
    Onward w (serveData r s).2.2 := by
  unfold serveData
  repeat' (first
    | with_reducible assumption
    | with_reducible apply writeObject_onward
    | with_reducible apply afterRead_onward
    | with_reducible apply Onward.ite
    | split
    | dsimp only)

theorem serveObject_onward (r : Request) {s w : State} (h : Onward w s) : Onward w (serveObject r s) := by
  have ht := takeRequest_onward r h
  unfold serveObject
  split
  · exact gate_onward r h _ ‹_›
  · refine Onward.ite (answer_onward _ _ _ _ ht) ?_
    split
    · exact answer_onward _ _ _ _ (serveData_onward _ ht)
    · rename_i t _
      have ha := authenticate_onward (dataRole r.object) (r.object == 0x0605 && r.op == 3) r t ht
      dsimp only
      split
      · exact answer_onward _ _ _ _ ha
      · exact Onward.ite (answer_onward _ _ _ _ (serveData_onward _ ha))
          (answer_onward _ _ _ _ (Onward.mk' ha rfl rfl rfl rfl rfl))

theorem stateOf_onward {s w : State} {o : Out} (h : Lands w o) : Onward w (stateOf s o) := by
  obtain ⟨t, rfl, ht⟩ := h
  exact ht

/-- What may follow the present instant of a state may follow the state. -/
theorem Lands.at_now {s w : State} {o : Out} (h : Onward w s) (k : Lands (advance s.now s) o) : Lands w o := by
  obtain ⟨t, rfl, ht⟩ := k
  exact ⟨t, rfl, (advance_now h).trans ht⟩

/-- An outcome that is there is a next state that may follow. -/
def OptLands (s : State) (o : Option Out) : Prop := ∀ x, o = some x → Lands s x

theorem OptLands.ite {s : State} {a b : Option Out} {c : Prop} [Decidable c] (ha : OptLands s a) (hb : OptLands s b) :
    OptLands s (if c then a else b) := by split <;> assumption

theorem OptLands.none (s : State) : OptLands s none := fun x h => absurd h (by simp)

theorem OptLands.run {s w : State} {o : Out} (h : Onward w s) (k : Lands (advance s.now s) o) : OptLands w (some o) := by
  rintro x ⟨⟩
  exact Lands.at_now h k

theorem runObject_onward (o i : Nat) (c : CmdReq) {s w : State} (h : Onward w s) : OptLands w (runObject o i c s) := by
  unfold runObject
  repeat' apply OptLands.ite
  all_goals first
    | exact OptLands.none w
    | (apply OptLands.run h
       first
        | with_reducible exact execChipRestart_onward ..
        | with_reducible exact execAttest_onward ..
        | with_reducible exact execSenseZero_onward ..
        | with_reducible exact execLoopOpen_onward ..
        | with_reducible exact execLoopSet_onward ..
        | with_reducible exact execCtxCoefWrite_onward ..
        | with_reducible exact execLoopClose_onward ..
        | with_reducible exact execInjectStart_onward ..
        | with_reducible exact execInjectStop_onward ..
        | with_reducible exact execCaptureArm_onward ..
        | with_reducible exact execCaptureAbort_onward ..
        | with_reducible exact execPhaseRetire_onward ..
        | with_reducible exact execWearReset_onward ..
        | with_reducible exact execRailMargin_onward ..
        | with_reducible exact execRecorderSeal_onward ..
        | with_reducible exact execRecorderClear_onward ..
        | with_reducible exact execFaultClear_onward ..
        | with_reducible exact execImageStageOpen_onward ..
        | with_reducible exact execImageStageWrite_onward ..
        | with_reducible exact execImageStageVerify_onward ..
        | with_reducible exact execImageStageCommit_onward ..
        | with_reducible exact execImageStageAbort_onward ..
        | with_reducible exact execImageRollbackAdvance_onward ..
        | with_reducible exact execPatchRollbackAdvance_onward ..
        | with_reducible exact execServiceOpen_onward ..
        | with_reducible exact execServiceClose_onward ..
        | with_reducible exact execOwnerEnrol_onward ..
        | with_reducible exact execOwnerTransfer_onward ..
        | with_reducible exact execDebugUnlock_onward ..
        | with_reducible exact execCouplingEnd_onward ..
        | with_reducible exact execCouplingRoleSwap_onward ..
        | with_reducible exact execCouplingMode_onward ..
        | with_reducible exact execCouplingVdmSend_onward ..)

theorem serve_onward (r : Request) {s w : State} (h : Onward w s) : Onward w (serve r s) := by
  unfold serve
  refine Onward.ite (serveObject_onward _ h) ?_
  split
  · exact stateOf_onward (runObject_onward _ _ _ h _ ‹_›)
  · exact serveObject_onward _ h

end Sys2Proof.Machine
end

