-- ==== Sys2Proof/Laws/OnwardHostObjects.lean ====
section
/-! SUPPORT. What the acts of HostObjects keep (Laws/Onward). -/

namespace Sys2Proof.Machine

theorem execAttentionStatusRead_onward (t : Nat) (rq : Request) (s : State) :
    Lands (advance t s) (execAttentionStatusRead t rq s) := by
  unfold execAttentionStatusRead
  repeat' (first
    | with_reducible exact Onward.refl _
    | with_reducible apply serveObject_onward
    | with_reducible apply Lands.next)

theorem execRecorderRecordRead_onward (t : Nat) (rq : Request) (s : State) :
    Lands (advance t s) (execRecorderRecordRead t rq s) := by
  unfold execRecorderRecordRead
  repeat' (first
    | with_reducible exact Onward.refl _
    | with_reducible apply serveObject_onward
    | with_reducible apply Lands.next)

theorem execRecorderCursorWrite_onward (t : Nat) (rq : Request) (s : State) :
    Lands (advance t s) (execRecorderCursorWrite t rq s) := by
  unfold execRecorderCursorWrite
  repeat' (first
    | with_reducible exact Onward.refl _
    | with_reducible apply serveObject_onward
    | with_reducible apply Lands.next)

theorem execVdmMailboxRelease_onward (t : Nat) (rq : Request) (s : State) :
    Lands (advance t s) (execVdmMailboxRelease t rq s) := by
  unfold execVdmMailboxRelease
  repeat' (first
    | with_reducible exact Onward.refl _
    | with_reducible apply serveObject_onward
    | with_reducible apply Lands.next)

theorem execInjectionTableWrite_onward (t : Nat) (rq : Request) (s : State) :
    Lands (advance t s) (execInjectionTableWrite t rq s) := by
  unfold execInjectionTableWrite
  repeat' (first
    | with_reducible exact Onward.refl _
    | with_reducible apply serveObject_onward
    | with_reducible apply Lands.next)

theorem execObjectWrite_onward (t : Nat) (rq : Request) (s : State) :
    Lands (advance t s) (execObjectWrite t rq s) := by
  unfold execObjectWrite
  repeat' (first
    | with_reducible exact Onward.refl _
    | with_reducible apply serve_onward
    | with_reducible apply Lands.next)

end Sys2Proof.Machine
end

