-- ==== Sys2Proof/Laws/OnwardHostPorts.lean ====
section
/-! SUPPORT. What the acts of HostPorts keep (Laws/Onward). -/

namespace Sys2Proof.Machine

theorem execTwReadTransfer_onward (t : Nat) (a1 : TwRead) (s : State) :
    Lands (advance t s) (execTwReadTransfer t a1 s) := by
  unfold execTwReadTransfer
  repeat' (first
    | with_reducible exact Onward.refl _
    | with_reducible apply State.setHport_onward
    | with_reducible apply Lands.next
    | with_reducible apply Lands.ite)

theorem execTwResponsePending_onward (t : Nat) (rq : Request) (s : State) :
    Lands (advance t s) (execTwResponsePending t rq s) := by
  have h := Onward.refl (advance t s)
  have hp : ∀ p r, Onward (advance t s) { (takeRequest rq (advance t s)).setHport (portNo rq.port) p with
      host := { ((takeRequest rq (advance t s)).setHport (portNo rq.port) p).host with lastAnswer := r } } := fun p r =>
    Onward.mk' (State.setHport_onward _ _ (takeRequest_onward _ h)) rfl rfl rfl rfl rfl
  unfold execTwResponsePending
  dsimp only
  split
  · exact Lands.next (gate_onward _ h _ ‹_›)
  · exact Lands.next (Onward.ite (hp ..) (queueResponse_onward _ _ (hp ..)))

theorem execDeferredResponse_onward (t : Nat) (port : HostPort) (s : State) :
    Lands (advance t s) (execDeferredResponse t port s) := by
  unfold execDeferredResponse
  repeat' (first
    | with_reducible exact Onward.refl _
    | with_reducible apply queueResponse_onward
    | with_reducible apply State.setHport_onward
    | with_reducible apply Onward.ite
    | with_reducible apply Lands.next
    | split
    | dsimp only)

theorem execSclTimeout_onward (a1 : At Nat) (s : State) :
    Lands (advance a1.time s) (execSclTimeout a1 s) := by
  unfold execSclTimeout
  repeat' (first
    | with_reducible exact Onward.refl _
    | with_reducible apply event_onward
    | with_reducible apply State.setHport_onward
    | with_reducible apply Lands.next
    | with_reducible apply Lands.ite)

theorem execSdaTimeout_onward (a1 : At Nat) (s : State) :
    Lands (advance a1.time s) (execSdaTimeout a1 s) := by
  unfold execSdaTimeout
  repeat' (first
    | with_reducible exact Onward.refl _
    | with_reducible apply event_onward
    | with_reducible apply State.setHport_onward
    | with_reducible apply Lands.next
    | with_reducible apply Lands.ite)

theorem execAttentionPulse_onward (a1 : At Nat) (s : State) :
    Lands (advance a1.time s) (execAttentionPulse a1 s) := by
  unfold execAttentionPulse
  repeat' (first
    | with_reducible exact Onward.refl _
    | with_reducible apply Lands.next
    | with_reducible apply Lands.ite
    | fail_if_no_progress (with_reducible refine Onward.mk' ?_ rfl rfl rfl rfl rfl))

theorem execAttentionPulseAbort_onward (t : Nat) (s : State) :
    Lands (advance t s) (execAttentionPulseAbort t s) := by
  unfold execAttentionPulseAbort
  repeat' (first
    | with_reducible exact Onward.refl _
    | with_reducible apply State.setHport_onward
    | with_reducible apply Lands.next
    | with_reducible apply Lands.ite
    | fail_if_no_progress (with_reducible refine Onward.mk' ?_ rfl rfl rfl rfl rfl))

theorem sendFrames_onward (k : Nat) (fs : List CanFrame) {s w : State} (h : Onward w s) :
    Onward w (sendFrames k fs s) := by
  unfold sendFrames
  repeat' (first
    | with_reducible assumption
    | with_reducible apply queueFrames_onward
    | with_reducible apply State.setHport_onward
    | with_reducible apply Onward.ite)

theorem sendStatusFrame_onward (kind : Nat) (k : Nat) {s w : State} (h : Onward w s) :
    Onward w (sendStatusFrame kind k s) := by
  unfold sendStatusFrame
  repeat' (first
    | with_reducible assumption
    | with_reducible apply sendFrames_onward)

theorem execAttentionEscalation_onward (t : Nat) (s : State) :
    Lands (advance t s) (execAttentionEscalation t s) := by
  unfold execAttentionEscalation
  repeat' (first
    | intro _
    | with_reducible assumption
    | with_reducible exact Onward.refl _
    | with_reducible apply sendStatusFrame_onward
    | with_reducible apply event_onward
    | with_reducible apply Onward.foldl
    | with_reducible apply Onward.ite
    | with_reducible apply Lands.next
    | with_reducible apply Lands.ite
    | fail_if_no_progress (with_reducible refine Onward.mk' ?_ rfl rfl rfl rfl rfl))

theorem execStatusFrame_onward (t : Nat) (port : HostPort) (s : State) :
    Lands (advance t s) (execStatusFrame t port s) := by
  unfold execStatusFrame
  repeat' (first
    | with_reducible exact Onward.refl _
    | with_reducible apply sendStatusFrame_onward
    | with_reducible apply State.setHport_onward
    | with_reducible apply Lands.next
    | with_reducible apply Lands.ite)

theorem execTelemetryCopy_onward (t : Nat) (entry : Nat) (s : State) :
    Lands (advance t s) (execTelemetryCopy t entry s) := by
  unfold execTelemetryCopy
  repeat' (first
    | with_reducible exact Onward.refl _
    | with_reducible apply sendFrames_onward
    | with_reducible apply State.setHport_onward
    | with_reducible apply Lands.next
    | with_reducible apply Lands.ite
    | fail_if_no_progress (with_reducible refine Onward.mk' ?_ rfl rfl rfl rfl rfl))

theorem execRequestDiscarded_onward (t : Nat) (port : HostPort) (bytes : Bytes) (s : State) :
    Lands (advance t s) (execRequestDiscarded t port bytes s) := by
  unfold execRequestDiscarded
  repeat' (first
    | with_reducible exact Onward.refl _
    | with_reducible apply countPec_onward
    | with_reducible apply discardRequest_onward
    | with_reducible apply State.setHport_onward
    | with_reducible apply Lands.next
    | with_reducible apply Lands.ite)

theorem assemble_onward (port : HostPort) (seq : Nat) (a1 : Bytes) (last : Bool) {s w : State} (h : Onward w s) :
    Onward w (assemble port seq a1 last s) := by
  unfold assemble
  repeat' (first
    | with_reducible assumption
    | with_reducible apply discardRequest_onward
    | with_reducible apply serve_onward
    | with_reducible apply State.setHport_onward
    | with_reducible apply Onward.ite
    | split)

theorem dropAssembly_onward (port : HostPort) {s w : State} (h : Onward w s) :
    Onward w (dropAssembly port s) := by
  unfold dropAssembly
  repeat' (first
    | with_reducible assumption
    | with_reducible apply discardRequest_onward
    | with_reducible apply State.setHport_onward
    | split
    | dsimp only)

theorem takeSegment_onward (port : HostPort) (data : Bytes) {s w : State} (h : Onward w s) :
    Onward w (takeSegment port data s) := by
  unfold takeSegment
  repeat' (first
    | with_reducible assumption
    | with_reducible apply dropAssembly_onward
    | with_reducible apply discardRequest_onward
    | with_reducible apply assemble_onward
    | with_reducible apply Onward.ite
    | split)

theorem execCanSegment_onward (t : Nat) (port : HostPort) (segment : CanSegment) (s : State) :
    Lands (advance t s) (execCanSegment t port segment s) := by
  unfold execCanSegment
  repeat' (first
    | with_reducible exact Onward.refl _
    | with_reducible apply takeSegment_onward
    | with_reducible apply Lands.next
    | with_reducible apply Lands.ite)

theorem execCanSegmentGap_onward (t : Nat) (port : HostPort) (s : State) :
    Lands (advance t s) (execCanSegmentGap t port s) := by
  unfold execCanSegmentGap
  repeat' (first
    | with_reducible exact Onward.refl _
    | with_reducible apply dropAssembly_onward
    | with_reducible apply Lands.next
    | with_reducible apply Lands.ite)

theorem execCanRemoteFrame_onward (t : Nat) (port : HostPort) (s : State) :
    Lands (advance t s) (execCanRemoteFrame t port s) := by
  unfold execCanRemoteFrame
  repeat' (first
    | with_reducible exact Onward.refl _
    | with_reducible apply State.setHport_onward
    | with_reducible apply Lands.next
    | with_reducible apply Lands.ite)

theorem execCanBusOff_onward (t : Nat) (port : HostPort) (s : State) :
    Lands (advance t s) (execCanBusOff t port s) := by
  unfold execCanBusOff
  repeat' (first
    | with_reducible exact Onward.refl _
    | with_reducible apply event_onward
    | with_reducible apply State.setHport_onward
    | with_reducible apply Lands.next
    | with_reducible apply Lands.ite)

theorem execCanRecovered_onward (t : Nat) (port : HostPort) (s : State) :
    Lands (advance t s) (execCanRecovered t port s) := by
  unfold execCanRecovered
  repeat' (first
    | with_reducible exact Onward.refl _
    | with_reducible apply event_onward
    | with_reducible apply State.setHport_onward
    | with_reducible apply Lands.next
    | with_reducible apply Lands.ite)

theorem execHostSettingsSwitch_onward (t : Nat) (port : HostPort) (s : State) :
    Lands (advance t s) (execHostSettingsSwitch t port s) := by
  unfold execHostSettingsSwitch
  repeat' (first
    | with_reducible exact Onward.refl _
    | with_reducible apply State.setHport_onward
    | with_reducible apply Lands.next
    | with_reducible apply Lands.ite)

end Sys2Proof.Machine
end

