-- ==== Sys2Proof/Laws/OnwardLedgerOps.lean ====
section
/-! SUPPORT. What the acts of LedgerOps keep (Laws/Onward). -/

namespace Sys2Proof.Machine

theorem refreshSchedule_onward (c : Nat) {s w : State} (h : Onward w s) :
    Onward w (refreshSchedule c s) := by
  unfold refreshSchedule
  repeat' (first
    | with_reducible assumption
    | with_reducible apply State.setCtx_onward
    | split
    | dsimp only)

theorem refreshSchedules_onward  {s w : State} (h : Onward w s) :
    Onward w (refreshSchedules s) := by
  unfold refreshSchedules
  repeat' (first
    | intro _
    | with_reducible assumption
    | with_reducible apply refreshSchedule_onward
    | with_reducible apply Onward.foldl)

theorem endStopped_onward  {s w : State} (h : Onward w s) :
    Onward w (endStopped s) := by
  unfold endStopped
  repeat' (first
    | intro _
    | with_reducible assumption
    | with_reducible apply endWaiting_onward
    | with_reducible apply Onward.foldl)

theorem stopS1_onward  {s w : State} (h : Onward w s) :
    Onward w (stopS1 s) := by
  unfold stopS1
  repeat' (first
    | with_reducible assumption
    | with_reducible apply stopStages_onward
    | fail_if_no_progress (with_reducible refine Onward.mk' ?_ rfl rfl rfl rfl rfl)
    | split)

theorem judgeReleased_onward (mask : Nat) {s w : State} (h : Onward w s) :
    Onward w (judgeReleased mask s) := by
  unfold judgeReleased
  repeat' (first
    | intro _
    | with_reducible assumption
    | with_reducible apply linkTrigger_onward
    | with_reducible apply Onward.foldl
    | with_reducible apply Onward.ite)

theorem leaveSafe_onward  {s w : State} (h : Onward w s) :
    Onward w (leaveSafe s) := by
  unfold leaveSafe
  repeat' (first
    | with_reducible assumption
    | with_reducible apply judgeReleased_onward
    | with_reducible apply event_onward
    | with_reducible apply setMode_onward
    | with_reducible apply Onward.ite
    | fail_if_no_progress (with_reducible refine Onward.mk' ?_ rfl rfl rfl rfl rfl))

theorem plausFault_onward (code : Nat) (g : Nat) (old : Nat) (new : Nat) (limit : Nat) (others : Bool) {s w : State} (h : Onward w s) :
    Onward w (plausFault code g old new limit others s) := by
  unfold plausFault
  repeat' (first
    | with_reducible assumption
    | with_reducible apply raiseFault_onward
    | with_reducible apply lowerFault_onward
    | with_reducible apply Onward.ite)

theorem watchStage_onward (g : Nat) {s w : State} (h : Onward w s) :
    Onward w (watchStage g s) := by
  unfold watchStage
  repeat' (first
    | with_reducible assumption
    | with_reducible apply plausFault_onward
    | fail_if_no_progress (with_reducible refine Onward.mk' ?_ rfl rfl rfl rfl rfl))

theorem watchStages_onward  {s w : State} (h : Onward w s) :
    Onward w (watchStages s) := by
  unfold watchStages
  repeat' (first
    | intro _
    | with_reducible assumption
    | with_reducible apply watchStage_onward
    | with_reducible apply Onward.foldl)

theorem passBoundary_onward (spa : List (Nat × Nat)) {s w : State} (h : Onward w s) :
    Onward w (passBoundary spa s) := by
  unfold passBoundary
  repeat' (first
    | intro _
    | with_reducible assumption
    | with_reducible apply stopS1_onward
    | with_reducible apply serveClears_onward
    | with_reducible apply spaSample_onward
    | with_reducible apply sppLedger_onward
    | with_reducible apply balanceLedger_onward
    | with_reducible apply claspLedger_onward
    | with_reducible apply ledgerStage_onward
    | with_reducible apply endStopped_onward
    | with_reducible apply refreshSchedules_onward
    | with_reducible apply seqLedger_onward
    | with_reducible apply maqLedger_onward
    | with_reducible apply leaveSafe_onward
    | with_reducible apply watchStages_onward
    | with_reducible apply Onward.foldl
    | with_reducible apply Onward.ite
    | fail_if_no_progress (with_reducible refine Onward.mk' ?_ rfl rfl rfl rfl rfl))

end Sys2Proof.Machine
end

