-- ==== Sys2Proof/Laws/OnwardLedger.lean ====
section
/-! SUPPORT. What the acts of Ledger keep (Laws/Onward). -/

namespace Sys2Proof.Machine

theorem execLedgerBoundary_onward (t : Nat) (spa : List (Nat × Nat)) (s : State) :
    Lands (advance t s) (execLedgerBoundary t spa s) := by
  unfold execLedgerBoundary
  repeat' (first
    | with_reducible exact Onward.refl _
    | with_reducible apply passBoundary_onward
    | with_reducible apply Lands.next
    | with_reducible apply Lands.ite)

end Sys2Proof.Machine
end

