-- ==== Sys2Proof/Laws/OnwardMaquette.lean ====
section
/-! SUPPORT. What the acts of Maquette keep (Laws/Onward). -/

namespace Sys2Proof.Machine

theorem execModelStep_onward (t : Nat) (s : State) :
    Lands (advance t s) (execModelStep t s) := by
  unfold execModelStep
  repeat' (first
    | intro _
    | with_reducible assumption
    | with_reducible exact Onward.refl _
    | with_reducible apply settleRestore_onward
    | with_reducible apply stepString_onward
    | with_reducible apply Onward.foldl
    | with_reducible apply Lands.next
    | with_reducible apply Lands.ite
    | fail_if_no_progress (with_reducible refine Onward.mk' ?_ rfl rfl rfl rfl rfl))

theorem execBalancingSelect_onward (t : Nat) (s : State) :
    Lands (advance t s) (execBalancingSelect t s) := by
  unfold execBalancingSelect
  repeat' (first
    | intro _
    | with_reducible assumption
    | with_reducible exact Onward.refl _
    | with_reducible apply balanceString_onward
    | with_reducible apply Onward.foldl
    | with_reducible apply Lands.next
    | with_reducible apply Lands.ite
    | fail_if_no_progress (with_reducible refine Onward.mk' ?_ rfl rfl rfl rfl rfl))

theorem execStaleMark_onward (t : Nat) (string : Nat) (s : State) :
    Lands (advance t s) (execStaleMark t string s) := by
  unfold execStaleMark
  repeat' (first
    | with_reducible exact Onward.refl _
    | with_reducible apply State.setStr_onward
    | with_reducible apply Lands.next
    | with_reducible apply Lands.ite)

theorem execLearnSave_onward (t : Nat) (s : State) :
    Lands (advance t s) (execLearnSave t s) := by
  unfold execLearnSave
  repeat' (first
    | with_reducible exact Onward.refl _
    | with_reducible apply requestStore_onward
    | with_reducible apply Lands.next
    | with_reducible apply Lands.ite
    | fail_if_no_progress (with_reducible refine Onward.mk' ?_ rfl rfl rfl rfl rfl))

theorem execWearSave_onward (t : Nat) (s : State) :
    Lands (advance t s) (execWearSave t s) := by
  unfold execWearSave
  repeat' (first
    | with_reducible exact Onward.refl _
    | with_reducible apply requestStore_onward
    | with_reducible apply Lands.next
    | with_reducible apply Lands.ite
    | fail_if_no_progress (with_reducible refine Onward.mk' ?_ rfl rfl rfl rfl rfl))

theorem execStoreWriteStart_onward (t : Nat) (s : State) : Lands (advance t s) (execStoreWriteStart t s) := by
  have h := Onward.refl (advance t s)
  unfold execStoreWriteStart
  refine Lands.ite (Lands.next h) (Lands.ite (Lands.next (chipPulse_onward _ _ (Onward.mk' h rfl rfl rfl rfl rfl))) ?_)
  exact Lands.next (Onward.mk1 h rfl rfl rfl rfl (flashErase_wf _ _))

theorem execStoreWriteComplete_onward (t : Nat) (failedAt : Option Nat) (s : State) :
    Lands (advance t s) (execStoreWriteComplete t failedAt s) := by
  have hm : ∀ m d a, Onward (advance t s) { advance t s with maq := m, cs1 := flashProgram (advance t s).cs1 a d } := fun m d a =>
    Onward.mk1 (Onward.refl _) rfl rfl rfl rfl (flashProgram_wf _ _)
  unfold execStoreWriteComplete
  dsimp only
  split
  · exact Lands.next (Onward.refl _)
  · refine Lands.ite (Lands.next (chipPulse_onward _ _ (hm ..))) (Lands.ite (Lands.next (event_onward _ _ (hm ..)))
      (Lands.next (event_onward _ _ ?_)))
    exact Onward.mk1 (Onward.refl _) rfl rfl rfl rfl fun k => flashProgram_wf _ _ (flashProgram_wf _ _ k)

theorem execStoreSlotErase_onward (t : Nat) (s : State) : Lands (advance t s) (execStoreSlotErase t s) := by
  have h := Onward.refl (advance t s)
  unfold execStoreSlotErase
  dsimp only
  split
  · exact Lands.next h
  · exact Lands.ite (Lands.next (Onward.mk1 h rfl rfl rfl rfl (flashErase_wf _ _))) (Lands.next h)

end Sys2Proof.Machine
end

