-- ==== Sys2Proof/Laws/OnwardTestAccess.lean ====
section
/-! SUPPORT. What the acts of TestAccess keep (Laws/Onward). -/

namespace Sys2Proof.Machine

theorem leaveTest_onward  {s w : State} (h : Onward w s) :
    Onward w (leaveTest s) := by
  unfold leaveTest
  repeat' (first
    | with_reducible assumption
    | with_reducible apply resetChip_onward
    | with_reducible apply Onward.ite)

theorem execTapReset_onward (t : Nat) (s : State) :
    Lands (advance t s) (execTapReset t s) := by
  unfold execTapReset
  repeat' (first
    | with_reducible exact Onward.refl _
    | with_reducible apply leaveTest_onward
    | with_reducible apply Lands.next
    | fail_if_no_progress (with_reducible refine Onward.mk' ?_ rfl rfl rfl rfl rfl))

theorem captureDr_onward (op : Nat) {s w : State} (h : Onward w s) :
    Onward w (captureDr op s) := by
  unfold captureDr
  repeat' (first
    | with_reducible assumption
    | with_reducible apply drawFree_onward
    | with_reducible apply Onward.ite
    | fail_if_no_progress (with_reducible refine Onward.mk' ?_ rfl rfl rfl rfl rfl))

theorem scanDr_onward (op : Nat) (dr : Nat) {s w : State} (h : Onward w s) :
    Onward w (scanDr op dr s) := by
  unfold scanDr
  repeat' (first
    | with_reducible assumption
    | with_reducible apply captureDr_onward
    | with_reducible apply Onward.ite
    | fail_if_no_progress (with_reducible refine Onward.mk' ?_ rfl rfl rfl rfl rfl))

theorem execInstructionLoad_onward (t : Nat) (opcode : Nat) (scan : TapScan) (s : State) :
    Lands (advance t s) (execInstructionLoad t opcode scan s) := by
  unfold execInstructionLoad
  repeat' (first
    | with_reducible exact Onward.refl _
    | with_reducible apply scanDr_onward
    | with_reducible apply setMode_onward
    | with_reducible apply leaveTest_onward
    | with_reducible apply Lands.next
    | with_reducible apply Lands.ite
    | fail_if_no_progress (with_reducible refine Onward.mk' ?_ rfl rfl rfl rfl rfl))

theorem execTestEnLow_onward (a1 : At Nat) (s : State) :
    Lands (advance a1.time s) (execTestEnLow a1 s) := by
  unfold execTestEnLow
  repeat' (first
    | with_reducible exact Onward.refl _
    | with_reducible apply leaveTest_onward
    | with_reducible apply Lands.next
    | with_reducible apply Lands.ite
    | fail_if_no_progress (with_reducible refine Onward.mk' ?_ rfl rfl rfl rfl rfl))

end Sys2Proof.Machine
end

