-- ==== Sys2Proof/Laws/OnwardTiles.lean ====
section
/-! SUPPORT. What the acts of Tiles keep (Laws/Onward). -/

namespace Sys2Proof.Machine

theorem execTileEdgeExecute_onward (t : Nat) (tile : Nat) (slot : Nat) (s : State) :
    Lands (advance t s) (execTileEdgeExecute t tile slot s) := by
  unfold execTileEdgeExecute
  repeat' (first
    | with_reducible exact Onward.refl _
    | with_reducible apply State.setTile_onward
    | with_reducible apply Lands.next
    | with_reducible apply Lands.ite)

theorem execTileFrameProcess_onward (t : Nat) (tile : Nat) (lane : Nat) (arrival : TileArrival) (s : State) :
    Lands (advance t s) (execTileFrameProcess t tile lane arrival s) := by
  unfold execTileFrameProcess
  repeat' (first
    | with_reducible exact Onward.refl _
    | with_reducible apply State.setTile_onward
    | with_reducible apply Lands.next
    | with_reducible apply Lands.ite)

theorem execTileAllOff_onward (t : Nat) (tile : Nat) (s : State) :
    Lands (advance t s) (execTileAllOff t tile s) := by
  unfold execTileAllOff
  repeat' (first
    | with_reducible exact Onward.refl _
    | with_reducible apply State.setTile_onward
    | with_reducible apply Lands.next)

theorem execTileSilence_onward (t : Nat) (tile : Nat) (s : State) :
    Lands (advance t s) (execTileSilence t tile s) := by
  unfold execTileSilence
  repeat' (first
    | with_reducible exact Onward.refl _
    | with_reducible apply State.setTile_onward
    | with_reducible apply Lands.next
    | with_reducible apply Lands.ite)

theorem execTileTrain_onward (t : Nat) (tile : Nat) (run : LaneSets) (s : State) :
    Lands (advance t s) (execTileTrain t tile run s) := by
  unfold execTileTrain
  repeat' (first
    | with_reducible exact Onward.refl _
    | with_reducible apply State.setTile_onward
    | with_reducible apply Lands.next
    | with_reducible apply Lands.ite
    | split)

theorem execTileProtectionTrip_onward (t : Nat) (tile : Nat) (slot : Nat) (overcurrent : Bool) (active : Bool) (s : State) :
    Lands (advance t s) (execTileProtectionTrip t tile slot overcurrent active s) := by
  unfold execTileProtectionTrip
  repeat' (first
    | with_reducible exact Onward.refl _
    | with_reducible apply State.setTile_onward
    | with_reducible apply Lands.next
    | with_reducible apply Lands.ite)

theorem execTileCellSample_onward (t : Nat) (tile : Nat) (volts : List Nat) (temps : List Int) (s : State) :
    Lands (advance t s) (execTileCellSample t tile volts temps s) := by
  unfold execTileCellSample
  repeat' (first
    | with_reducible exact Onward.refl _
    | with_reducible apply State.setTile_onward
    | with_reducible apply Lands.next
    | with_reducible apply Lands.ite
    | split
    | dsimp only)

theorem execTileBleedExpiry_onward (t : Nat) (tile : Nat) (s : State) :
    Lands (advance t s) (execTileBleedExpiry t tile s) := by
  unfold execTileBleedExpiry
  repeat' (first
    | with_reducible exact Onward.refl _
    | with_reducible apply State.setTile_onward
    | with_reducible apply Lands.next
    | with_reducible apply Lands.ite)

theorem execTileAutoSample_onward (t : Nat) (tile : Nat) (volts : List Nat) (temps : List Int) (s : State) :
    Lands (advance t s) (execTileAutoSample t tile volts temps s) := by
  unfold execTileAutoSample
  repeat' (first
    | with_reducible exact Onward.refl _
    | with_reducible apply State.setTile_onward
    | with_reducible apply Lands.next
    | with_reducible apply Lands.ite)

theorem execTilePowerUp_onward (t : Nat) (tile : Nat) (s : State) :
    Lands (advance t s) (execTilePowerUp t tile s) := by
  unfold execTilePowerUp
  repeat' (first
    | with_reducible exact Onward.refl _
    | with_reducible apply State.setTile_onward
    | with_reducible apply Lands.next)

theorem execTileActiveDnLost_onward (t : Nat) (tile : Nat) (s : State) :
    Lands (advance t s) (execTileActiveDnLost t tile s) := by
  unfold execTileActiveDnLost
  repeat' (first
    | with_reducible exact Onward.refl _
    | with_reducible apply State.setTile_onward
    | with_reducible apply Lands.next
    | with_reducible apply Lands.ite)

end Sys2Proof.Machine
end

