-- ==== Sys2Proof/Laws/OnwardExec.lean ====
section
/-! SUPPORT. What every command and every step keep, from what each act keeps (Laws/Onward). -/

namespace Sys2Proof.Machine

/-- Every command lands on a state that may follow the one at its time: queue and clock, fuses and flash forms. -/
theorem exec_onward (c : Instr) (s : State) : Lands (advance c.time s) (exec c s) := by
  cases c with
  | vaoPor t => exact execVaoPor_onward t s
  | powerGood t straps => exact execPowerGood_onward t straps s
  | supplyLoss t => exact execSupplyLoss_onward t s
  | rstN t => exact execRstN_onward t s
  | pllLoss t => exact execPllLoss_onward t s
  | watchdogExpiry x => exact execWatchdogExpiry_onward x s
  | pllLocked t => exact execPllLocked_onward t s
  | mbistComplete t failing => exact execMbistComplete_onward t failing s
  | selfTestComplete t kat trng fuseReads => exact execSelfTestComplete_onward t kat trng fuseReads s
  | sfdpRead t modes => exact execSfdpRead_onward t modes s
  | slotVerifyComplete t readOk => exact execSlotVerifyComplete_onward t readOk s
  | activation t proofs => exact execActivation_onward t proofs s
  | standbyEntry t vpp => exact execStandbyEntry_onward t vpp s
  | dormantEntry t => exact execDormantEntry_onward t s
  | dormantWake t source straps => exact execDormantWake_onward t source straps s
  | wakeIntervalExpiry t straps => exact execWakeIntervalExpiry_onward t straps s
  | twDormantAddressMatch t address straps => exact execTwDormantAddressMatch_onward t address straps s
  | scrubPassComplete t bank accesses words contexts => exact execScrubPassComplete_onward t bank accesses words contexts s
  | dieTempUpdate t tj => exact execDieTempUpdate_onward t tj s
  | chipRestart t rq => exact execChipRestart_onward t rq s
  | imageStageOpen t rq => exact execImageStageOpen_onward t rq s
  | imageStageWrite t rq => exact execImageStageWrite_onward t rq s
  | imageStageVerify t rq => exact execImageStageVerify_onward t rq s
  | imageStageCommit t rq => exact execImageStageCommit_onward t rq s
  | imageStageAbort t rq => exact execImageStageAbort_onward t rq s
  | stageEraseComplete t => exact execStageEraseComplete_onward t s
  | stageVerifyComplete t readOk => exact execStageVerifyComplete_onward t readOk s
  | stageSessionTimeout t => exact execStageSessionTimeout_onward t s
  | imageRollbackAdvance t rq vpp => exact execImageRollbackAdvance_onward t rq vpp s
  | fuseBitComplete t verified vpp => exact execFuseBitComplete_onward t verified vpp s
  | trainLockComplete t port eq => exact execTrainLockComplete_onward t port eq s
  | ts2Received t port echo kind maker count => exact execTs2Received_onward t port echo kind maker count s
  | latencyMeasured t port rttSum16 taTile => exact execLatencyMeasured_onward t port rttSum16 taTile s
  | alignCheckComplete t port residualSum16 frames => exact execAlignCheckComplete_onward t port residualSum16 frames s
  | trainAttemptTimeout t port => exact execTrainAttemptTimeout_onward t port s
  | trainAttemptStart t port => exact execTrainAttemptStart_onward t port s
  | upstreamFrame t port frame => exact execUpstreamFrame_onward t port frame s
  | receiverLockLoss t port => exact execReceiverLockLoss_onward t port s
  | frameCutoff t frameNo => exact execFrameCutoff_onward t frameNo s
  | serviceOpTimeout t port => exact execServiceOpTimeout_onward t port s
  | residualTrim t port mean16 => exact execResidualTrim_onward t port mean16 s
  | eyeMarginMeasure t port mv ui64 eq => exact execEyeMarginMeasure_onward t port mv ui64 eq s
  | allClearRetry t port => exact execAllClearRetry_onward t port s
  | slotClear t port => exact execSlotClear_onward t port s
  | cellResend t string => exact execCellResend_onward t string s
  | tileFrameProcess t tile lane arrival => exact execTileFrameProcess_onward t tile lane arrival s
  | tileAllOff t tile => exact execTileAllOff_onward t tile s
  | tileSilence t tile => exact execTileSilence_onward t tile s
  | tileEdgeExecute t tile slot => exact execTileEdgeExecute_onward t tile slot s
  | tileTrain t tile run => exact execTileTrain_onward t tile run s
  | tileProtectionTrip t tile slot overcurrent active => exact execTileProtectionTrip_onward t tile slot overcurrent active s
  | tileCellSample t tile volts temps => exact execTileCellSample_onward t tile volts temps s
  | tileBleedExpiry t tile => exact execTileBleedExpiry_onward t tile s
  | tileAutoSample t tile volts temps => exact execTileAutoSample_onward t tile volts temps s
  | windowSamplePublish t phase => exact execWindowSamplePublish_onward t phase s
  | senseZero t rq => exact execSenseZero_onward t rq s
  | senseZeroComplete t => exact execSenseZeroComplete_onward t s
  | cellSetPublish t string tile => exact execCellSetPublish_onward t string tile s
  | ainSample t channel code => exact execAinSample_onward t channel code s
  | sppRisingEdge t channel period high => exact execSppRisingEdge_onward t channel period high s
  | sppEdgeTimeout x channel => exact execSppEdgeTimeout_onward x channel s
  | evaluationIssue t => exact execEvaluationIssue_onward t s
  | evaluationComplete t context => exact execEvaluationComplete_onward t context s
  | equaliseLimit t phase => exact execEqualiseLimit_onward t phase s
  | proofEvaluation t engine passed => exact execProofEvaluation_onward t engine passed s
  | proofIntervalEnd t engine => exact execProofIntervalEnd_onward t engine s
  | loopOpen t rq => exact execLoopOpen_onward t rq s
  | loopSet t rq => exact execLoopSet_onward t rq s
  | ctxCoefWrite t rq => exact execCtxCoefWrite_onward t rq s
  | loopClose t rq => exact execLoopClose_onward t rq s
  | injectStart t rq => exact execInjectStart_onward t rq s
  | injectStop t rq => exact execInjectStop_onward t rq s
  | captureArm t rq => exact execCaptureArm_onward t rq s
  | captureAbort t rq => exact execCaptureAbort_onward t rq s
  | brakeMaxTimeExpiry t stage => exact execBrakeMaxTimeExpiry_onward t stage s
  | crowbarFire t phase => exact execCrowbarFire_onward t phase s
  | wearSave t => exact execWearSave_onward t s
  | quietPoint t stage => exact execQuietPoint_onward t stage s
  | phaseRetire t rq => exact execPhaseRetire_onward t rq s
  | wearReset t rq => exact execWearReset_onward t rq s
  | ledgerBoundary t spa => exact execLedgerBoundary_onward t spa s
  | ledgerCompute t => exact execLedgerCompute_onward t s
  | capoPeriodStart t capo => exact execCapoPeriodStart_onward t capo s
  | holdupStageNamed t stage => exact execHoldupStageNamed_onward t stage s
  | supplyShort t consumer => exact execSupplyShort_onward t consumer s
  | restGrant t => exact execRestGrant_onward t s
  | restRampDownEnd t => exact execRestRampDownEnd_onward t s
  | restWindowEnd t => exact execRestWindowEnd_onward t s
  | restRampUpEnd t => exact execRestRampUpEnd_onward t s
  | restAbort t => exact execRestAbort_onward t s
  | restWaitExpiry t string => exact execRestWaitExpiry_onward t string s
  | modelStep t => exact execModelStep_onward t s
  | balancingSelect t => exact execBalancingSelect_onward t s
  | staleMark t string => exact execStaleMark_onward t string s
  | learnSave t => exact execLearnSave_onward t s
  | storeWriteStart t => exact execStoreWriteStart_onward t s
  | storeWriteComplete t failedAt => exact execStoreWriteComplete_onward t failedAt s
  | storeSlotErase t => exact execStoreSlotErase_onward t s
  | rackOnChange t level => exact execRackOnChange_onward t level s
  | sequenceStepIssue t => exact execSequenceStepIssue_onward t s
  | stepWaitEnd t => exact execStepWaitEnd_onward t s
  | readWaitEnd t => exact execReadWaitEnd_onward t s
  | upTimeout t => exact execUpTimeout_onward t s
  | stepReverse t => exact execStepReverse_onward t s
  | dischTimeout t rail => exact execDischTimeout_onward t rail s
  | undischargedWaitEnd t => exact execUndischargedWaitEnd_onward t s
  | guardWaitExpiry t => exact execGuardWaitExpiry_onward t s
  | railOutOfWindow t rail => exact execRailOutOfWindow_onward t rail s
  | keepaliveHoldExpiry t ka => exact execKeepaliveHoldExpiry_onward t ka s
  | contactorMismatch t ka => exact execContactorMismatch_onward t ka s
  | railMargin t rq => exact execRailMargin_onward t rq s
  | proxMate t => exact execProxMate_onward t s
  | patinaCheckComplete t p => exact execPatinaCheckComplete_onward t p s
  | patinaRetest t => exact execPatinaRetest_onward t s
  | messageDiscarded t m => exact execMessageDiscarded_onward t m s
  | accept t m => exact execAccept_onward t m s
  | reject t m => exact execReject_onward t m s
  | wait t m => exact execWait_onward t m s
  | settled t m => exact execSettled_onward t m s
  | capsQuery t m => exact execCapsQuery_onward t m s
  | roleSwap t m => exact execRoleSwap_onward t m s
  | resync t m => exact execResync_onward t m s
  | endCoupling t m => exact execEndCoupling_onward t m s
  | notSupported t m => exact execNotSupported_onward t m s
  | unknownType t m => exact execUnknownType_onward t m s
  | capabilities t m => exact execCapabilities_onward t m s
  | request t m => exact execRequest_onward t m s
  | status t m => exact execStatus_onward t m s
  | alert t m => exact execAlert_onward t m s
  | discoverIdentity t m => exact execDiscoverIdentity_onward t m s
  | identityChunk t m => exact execIdentityChunk_onward t m s
  | discoverModes t m => exact execDiscoverModes_onward t m s
  | enterMode t m => exact execEnterMode_onward t m s
  | exitMode t m => exact execExitMode_onward t m s
  | attention t m => exact execAttention_onward t m s
  | bridgeFrame t m => exact execBridgeFrame_onward t m s
  | customerVdm t m => exact execCustomerVdm_onward t m s
  | receipt t byte cellsOk => exact execReceipt_onward t byte cellsOk s
  | ackTimeout t => exact execAckTimeout_onward t s
  | collision t => exact execCollision_onward t s
  | lineBreak t => exact execLineBreak_onward t s
  | capsWaitTimeout t => exact execCapsWaitTimeout_onward t s
  | statusTimer t => exact execStatusTimer_onward t s
  | closingStart t => exact execClosingStart_onward t s
  | closingTimeout t => exact execClosingTimeout_onward t s
  | transitionSettle t => exact execTransitionSettle_onward t s
  | transitionAbandon t => exact execTransitionAbandon_onward t s
  | swapStepTimeout t => exact execSwapStepTimeout_onward t s
  | linkVoltage t => exact execLinkVoltage_onward t s
  | linkImbalance t => exact execLinkImbalance_onward t s
  | couplingEndComplete t => exact execCouplingEndComplete_onward t s
  | split t => exact execSplit_onward t s
  | cablePulled t => exact execCablePulled_onward t s
  | lockoutExpiry t => exact execLockoutExpiry_onward t s
  | hallmarkVerifyComplete t => exact execHallmarkVerifyComplete_onward t s
  | hallmarkRetry t => exact execHallmarkRetry_onward t s
  | sinkRequestResend t => exact execSinkRequestResend_onward t s
  | bridgeCanRx t id fdf brs data => exact execBridgeCanRx_onward t id fdf brs data s
  | couplingEnd t rq => exact execCouplingEnd_onward t rq s
  | couplingRoleSwap t rq => exact execCouplingRoleSwap_onward t rq s
  | couplingMode t rq => exact execCouplingMode_onward t rq s
  | couplingVdmSend t rq => exact execCouplingVdmSend_onward t rq s
  | faultInputAssert x code scope payload => exact execFaultInputAssert_onward x code scope payload s
  | faultInputDeassert x code scope => exact execFaultInputDeassert_onward x code scope s
  | pairMismatch x code scope => exact execPairMismatch_onward x code scope s
  | inputStuck t code scope test => exact execInputStuck_onward t code scope test s
  | reactionParity t entry => exact execReactionParity_onward t entry s
  | s1Escalated t => exact execS1Escalated_onward t s
  | clearHoldOffExpiry t code scope => exact execClearHoldOffExpiry_onward t code scope s
  | faultClear t rq => exact execFaultClear_onward t rq s
  | safeIn x => exact execSafeIn_onward x s
  | recorderMount t device => exact execRecorderMount_onward t device s
  | recordStage t code scope payload => exact execRecordStage_onward t code scope payload s
  | tokenRefill t code => exact execTokenRefill_onward t code s
  | recordFlush t ended => exact execRecordFlush_onward t ended s
  | odometerWrite t => exact execOdometerWrite_onward t s
  | powerFail t => exact execPowerFail_onward t s
  | lastBreath t trigger => exact execLastBreath_onward t trigger s
  | recorderSeal t rq => exact execRecorderSeal_onward t rq s
  | recorderClear t rq => exact execRecorderClear_onward t rq s
  | recorderClearComplete t programOk => exact execRecorderClearComplete_onward t programOk s
  | authLockoutExpiry t channel => exact execAuthLockoutExpiry_onward t channel s
  | serviceOpen t rq => exact execServiceOpen_onward t rq s
  | serviceClose t rq => exact execServiceClose_onward t rq s
  | serviceTimeout t => exact execServiceTimeout_onward t s
  | ownerEnrol t rq vpp => exact execOwnerEnrol_onward t rq vpp s
  | ownerTransfer t rq vpp => exact execOwnerTransfer_onward t rq vpp s
  | patchRollbackAdvance t rq vpp => exact execPatchRollbackAdvance_onward t rq vpp s
  | debugUnlock t rq => exact execDebugUnlock_onward t rq s
  | attest t rq => exact execAttest_onward t rq s
  | trngHealth x => exact execTrngHealth_onward x s
  | trngRetest t raw => exact execTrngRetest_onward t raw s
  | drbgReseed x => exact execDrbgReseed_onward x s
  | canSegment t port segment => exact execCanSegment_onward t port segment s
  | requestDiscarded t port bytes => exact execRequestDiscarded_onward t port bytes s
  | twReadTransfer t x => exact execTwReadTransfer_onward t x s
  | twResponsePending t rq => exact execTwResponsePending_onward t rq s
  | deferredResponse t port => exact execDeferredResponse_onward t port s
  | sclTimeout x => exact execSclTimeout_onward x s
  | sdaTimeout x => exact execSdaTimeout_onward x s
  | attentionPulse x => exact execAttentionPulse_onward x s
  | attentionPulseAbort t => exact execAttentionPulseAbort_onward t s
  | attentionEscalation t => exact execAttentionEscalation_onward t s
  | attentionStatusRead t rq => exact execAttentionStatusRead_onward t rq s
  | canBusOff t port => exact execCanBusOff_onward t port s
  | canRecovered t port => exact execCanRecovered_onward t port s
  | canSegmentGap t port => exact execCanSegmentGap_onward t port s
  | canRemoteFrame t port => exact execCanRemoteFrame_onward t port s
  | telemetryCopy t entry => exact execTelemetryCopy_onward t entry s
  | statusFrame t port => exact execStatusFrame_onward t port s
  | hostSettingsSwitch t port => exact execHostSettingsSwitch_onward t port s
  | recorderCursorWrite t rq => exact execRecorderCursorWrite_onward t rq s
  | recorderRecordRead t rq => exact execRecorderRecordRead_onward t rq s
  | vdmMailboxRelease t rq => exact execVdmMailboxRelease_onward t rq s
  | injectionTableWrite t rq => exact execInjectionTableWrite_onward t rq s
  | objectWrite t rq => exact execObjectWrite_onward t rq s
  | tapReset t => exact execTapReset_onward t s
  | instructionLoad t opcode scan => exact execInstructionLoad_onward t opcode scan s
  | testEnLow x => exact execTestEnLow_onward x s
  | pwrFailDeassert t => exact execPwrFailDeassert_onward t s
  | tilePowerUp t tile => exact execTilePowerUp_onward t tile s
  | tileActiveDnLost t tile => exact execTileActiveDnLost_onward t tile s
  | s1GuardWaitExpiry t => exact execS1GuardWaitExpiry_onward t s
  | vdmReply t m => exact execVdmReply_onward t m s
  | kreiloVdmUnknown t m => exact execKreiloVdmUnknown_onward t m s
  | pilotTransmitStart t => exact execPilotTransmitStart_onward t s

end Sys2Proof.Machine
end

