-- ==== Sys2Proof/Laws/PerInstr.lean ====
section
/-! SUPPORT. One family of statements over all commands as syntax: moving a command to another time changes its time,
leaves it as well-formed as it was, and forgets the time it had. -/

/-- Moving a command in time touches nothing but its time. -/
def Sys2Proof.Laws.Retime.Statement (i : Sys2Proof.Instr) : Prop :=
  ∀ t u : Nat, (i.retime t).time = t ∧ (i.retime t).wellFormed = i.wellFormed ∧ (i.retime t).retime u = i.retime u

open Sys2Proof

theorem Sys2Proof.Laws.Retime.vaoPor (u : Nat) : Sys2Proof.Laws.Retime.Statement (.vaoPor u) := fun _ _ => ⟨rfl, rfl, rfl⟩
theorem Sys2Proof.Laws.Retime.powerGood (u : Nat) (straps : Nat) : Sys2Proof.Laws.Retime.Statement (.powerGood u straps) := fun _ _ => ⟨rfl, rfl, rfl⟩
theorem Sys2Proof.Laws.Retime.supplyLoss (u : Nat) : Sys2Proof.Laws.Retime.Statement (.supplyLoss u) := fun _ _ => ⟨rfl, rfl, rfl⟩
theorem Sys2Proof.Laws.Retime.rstN (u : Nat) : Sys2Proof.Laws.Retime.Statement (.rstN u) := fun _ _ => ⟨rfl, rfl, rfl⟩
theorem Sys2Proof.Laws.Retime.pllLoss (u : Nat) : Sys2Proof.Laws.Retime.Statement (.pllLoss u) := fun _ _ => ⟨rfl, rfl, rfl⟩
theorem Sys2Proof.Laws.Retime.watchdogExpiry (x : At Bool) : Sys2Proof.Laws.Retime.Statement (.watchdogExpiry x) := fun _ _ => ⟨rfl, rfl, rfl⟩
theorem Sys2Proof.Laws.Retime.pllLocked (u : Nat) : Sys2Proof.Laws.Retime.Statement (.pllLocked u) := fun _ _ => ⟨rfl, rfl, rfl⟩
theorem Sys2Proof.Laws.Retime.mbistComplete (u : Nat) (failing : List (Nat × Nat)) : Sys2Proof.Laws.Retime.Statement (.mbistComplete u failing) := fun _ _ => ⟨rfl, rfl, rfl⟩
theorem Sys2Proof.Laws.Retime.selfTestComplete (u : Nat) (kat : List Bool) (trng : List Bytes) (fuseReads : List Nat) : Sys2Proof.Laws.Retime.Statement (.selfTestComplete u kat trng fuseReads) := fun _ _ => ⟨rfl, rfl, rfl⟩
theorem Sys2Proof.Laws.Retime.sfdpRead (u : Nat) (modes : List XspiMode) : Sys2Proof.Laws.Retime.Statement (.sfdpRead u modes) := fun _ _ => ⟨rfl, rfl, rfl⟩
theorem Sys2Proof.Laws.Retime.slotVerifyComplete (u : Nat) (readOk : Bool) : Sys2Proof.Laws.Retime.Statement (.slotVerifyComplete u readOk) := fun _ _ => ⟨rfl, rfl, rfl⟩
theorem Sys2Proof.Laws.Retime.activation (u : Nat) (proofs : List Nat) : Sys2Proof.Laws.Retime.Statement (.activation u proofs) := fun _ _ => ⟨rfl, rfl, rfl⟩
theorem Sys2Proof.Laws.Retime.standbyEntry (u : Nat) (vpp : Nat) : Sys2Proof.Laws.Retime.Statement (.standbyEntry u vpp) := fun _ _ => ⟨rfl, rfl, rfl⟩
theorem Sys2Proof.Laws.Retime.dormantEntry (u : Nat) : Sys2Proof.Laws.Retime.Statement (.dormantEntry u) := fun _ _ => ⟨rfl, rfl, rfl⟩
theorem Sys2Proof.Laws.Retime.dormantWake (u : Nat) (source : WakeSource) (straps : Nat) : Sys2Proof.Laws.Retime.Statement (.dormantWake u source straps) := fun _ _ => ⟨rfl, rfl, rfl⟩
theorem Sys2Proof.Laws.Retime.wakeIntervalExpiry (u : Nat) (straps : Nat) : Sys2Proof.Laws.Retime.Statement (.wakeIntervalExpiry u straps) := fun _ _ => ⟨rfl, rfl, rfl⟩
theorem Sys2Proof.Laws.Retime.twDormantAddressMatch (u : Nat) (address : Nat) (straps : Nat) : Sys2Proof.Laws.Retime.Statement (.twDormantAddressMatch u address straps) := fun _ _ => ⟨rfl, rfl, rfl⟩
theorem Sys2Proof.Laws.Retime.scrubPassComplete (u : Nat) (bank : Nat) (accesses : List BankAccess) (words : ScrubWords) (contexts : List (Nat × Bytes)) : Sys2Proof.Laws.Retime.Statement (.scrubPassComplete u bank accesses words contexts) := fun _ _ => ⟨rfl, rfl, rfl⟩
theorem Sys2Proof.Laws.Retime.dieTempUpdate (u : Nat) (tj : Int) : Sys2Proof.Laws.Retime.Statement (.dieTempUpdate u tj) := fun _ _ => ⟨rfl, rfl, rfl⟩
theorem Sys2Proof.Laws.Retime.chipRestart (u : Nat) (rq : CmdReq) : Sys2Proof.Laws.Retime.Statement (.chipRestart u rq) := fun _ _ => ⟨rfl, rfl, rfl⟩
theorem Sys2Proof.Laws.Retime.imageStageOpen (u : Nat) (rq : CmdReq) : Sys2Proof.Laws.Retime.Statement (.imageStageOpen u rq) := fun _ _ => ⟨rfl, rfl, rfl⟩
theorem Sys2Proof.Laws.Retime.imageStageWrite (u : Nat) (rq : CmdReq) : Sys2Proof.Laws.Retime.Statement (.imageStageWrite u rq) := fun _ _ => ⟨rfl, rfl, rfl⟩
theorem Sys2Proof.Laws.Retime.imageStageVerify (u : Nat) (rq : CmdReq) : Sys2Proof.Laws.Retime.Statement (.imageStageVerify u rq) := fun _ _ => ⟨rfl, rfl, rfl⟩
theorem Sys2Proof.Laws.Retime.imageStageCommit (u : Nat) (rq : CmdReq) : Sys2Proof.Laws.Retime.Statement (.imageStageCommit u rq) := fun _ _ => ⟨rfl, rfl, rfl⟩
theorem Sys2Proof.Laws.Retime.imageStageAbort (u : Nat) (rq : CmdReq) : Sys2Proof.Laws.Retime.Statement (.imageStageAbort u rq) := fun _ _ => ⟨rfl, rfl, rfl⟩
theorem Sys2Proof.Laws.Retime.stageEraseComplete (u : Nat) : Sys2Proof.Laws.Retime.Statement (.stageEraseComplete u) := fun _ _ => ⟨rfl, rfl, rfl⟩
theorem Sys2Proof.Laws.Retime.stageVerifyComplete (u : Nat) (readOk : Bool) : Sys2Proof.Laws.Retime.Statement (.stageVerifyComplete u readOk) := fun _ _ => ⟨rfl, rfl, rfl⟩
theorem Sys2Proof.Laws.Retime.stageSessionTimeout (u : Nat) : Sys2Proof.Laws.Retime.Statement (.stageSessionTimeout u) := fun _ _ => ⟨rfl, rfl, rfl⟩
theorem Sys2Proof.Laws.Retime.imageRollbackAdvance (u : Nat) (rq : CmdReq) (vpp : Nat) : Sys2Proof.Laws.Retime.Statement (.imageRollbackAdvance u rq vpp) := fun _ _ => ⟨rfl, rfl, rfl⟩
theorem Sys2Proof.Laws.Retime.fuseBitComplete (u : Nat) (verified : Bool) (vpp : Nat) : Sys2Proof.Laws.Retime.Statement (.fuseBitComplete u verified vpp) := fun _ _ => ⟨rfl, rfl, rfl⟩
theorem Sys2Proof.Laws.Retime.trainLockComplete (u : Nat) (port : Nat) (eq : Equaliser) : Sys2Proof.Laws.Retime.Statement (.trainLockComplete u port eq) := fun _ _ => ⟨rfl, rfl, rfl⟩
theorem Sys2Proof.Laws.Retime.ts2Received (u : Nat) (port : Nat) (echo : Nat) (kind : Nat) (maker : Nat) (count : Nat) : Sys2Proof.Laws.Retime.Statement (.ts2Received u port echo kind maker count) := fun _ _ => ⟨rfl, rfl, rfl⟩
theorem Sys2Proof.Laws.Retime.latencyMeasured (u : Nat) (port : Nat) (rttSum16 : Nat) (taTile : Nat) : Sys2Proof.Laws.Retime.Statement (.latencyMeasured u port rttSum16 taTile) := fun _ _ => ⟨rfl, rfl, rfl⟩
theorem Sys2Proof.Laws.Retime.alignCheckComplete (u : Nat) (port : Nat) (residualSum16 : Int) (frames : Nat) : Sys2Proof.Laws.Retime.Statement (.alignCheckComplete u port residualSum16 frames) := fun _ _ => ⟨rfl, rfl, rfl⟩
theorem Sys2Proof.Laws.Retime.trainAttemptTimeout (u : Nat) (port : Nat) : Sys2Proof.Laws.Retime.Statement (.trainAttemptTimeout u port) := fun _ _ => ⟨rfl, rfl, rfl⟩
theorem Sys2Proof.Laws.Retime.trainAttemptStart (u : Nat) (port : Nat) : Sys2Proof.Laws.Retime.Statement (.trainAttemptStart u port) := fun _ _ => ⟨rfl, rfl, rfl⟩
theorem Sys2Proof.Laws.Retime.upstreamFrame (u : Nat) (port : Nat) (frame : WireFrame) : Sys2Proof.Laws.Retime.Statement (.upstreamFrame u port frame) := fun _ _ => ⟨rfl, rfl, rfl⟩
theorem Sys2Proof.Laws.Retime.receiverLockLoss (u : Nat) (port : Nat) : Sys2Proof.Laws.Retime.Statement (.receiverLockLoss u port) := fun _ _ => ⟨rfl, rfl, rfl⟩
theorem Sys2Proof.Laws.Retime.frameCutoff (u : Nat) (frameNo : Nat) : Sys2Proof.Laws.Retime.Statement (.frameCutoff u frameNo) := fun _ _ => ⟨rfl, rfl, rfl⟩
theorem Sys2Proof.Laws.Retime.serviceOpTimeout (u : Nat) (port : Nat) : Sys2Proof.Laws.Retime.Statement (.serviceOpTimeout u port) := fun _ _ => ⟨rfl, rfl, rfl⟩
theorem Sys2Proof.Laws.Retime.residualTrim (u : Nat) (port : Nat) (mean16 : Int) : Sys2Proof.Laws.Retime.Statement (.residualTrim u port mean16) := fun _ _ => ⟨rfl, rfl, rfl⟩
theorem Sys2Proof.Laws.Retime.eyeMarginMeasure (u : Nat) (port : Nat) (mv : Nat) (ui64 : Nat) (eq : Equaliser) : Sys2Proof.Laws.Retime.Statement (.eyeMarginMeasure u port mv ui64 eq) := fun _ _ => ⟨rfl, rfl, rfl⟩
theorem Sys2Proof.Laws.Retime.allClearRetry (u : Nat) (port : Nat) : Sys2Proof.Laws.Retime.Statement (.allClearRetry u port) := fun _ _ => ⟨rfl, rfl, rfl⟩
theorem Sys2Proof.Laws.Retime.slotClear (u : Nat) (port : Nat) : Sys2Proof.Laws.Retime.Statement (.slotClear u port) := fun _ _ => ⟨rfl, rfl, rfl⟩
theorem Sys2Proof.Laws.Retime.cellResend (u : Nat) (string : Nat) : Sys2Proof.Laws.Retime.Statement (.cellResend u string) := fun _ _ => ⟨rfl, rfl, rfl⟩
theorem Sys2Proof.Laws.Retime.tileFrameProcess (u : Nat) (tile : Nat) (lane : Nat) (arrival : TileArrival) : Sys2Proof.Laws.Retime.Statement (.tileFrameProcess u tile lane arrival) := fun _ _ => ⟨rfl, rfl, rfl⟩
theorem Sys2Proof.Laws.Retime.tileAllOff (u : Nat) (tile : Nat) : Sys2Proof.Laws.Retime.Statement (.tileAllOff u tile) := fun _ _ => ⟨rfl, rfl, rfl⟩
theorem Sys2Proof.Laws.Retime.tileSilence (u : Nat) (tile : Nat) : Sys2Proof.Laws.Retime.Statement (.tileSilence u tile) := fun _ _ => ⟨rfl, rfl, rfl⟩
theorem Sys2Proof.Laws.Retime.tileEdgeExecute (u : Nat) (tile : Nat) (slot : Nat) : Sys2Proof.Laws.Retime.Statement (.tileEdgeExecute u tile slot) := fun _ _ => ⟨rfl, rfl, rfl⟩
theorem Sys2Proof.Laws.Retime.tileTrain (u : Nat) (tile : Nat) (run : LaneSets) : Sys2Proof.Laws.Retime.Statement (.tileTrain u tile run) := fun _ _ => ⟨rfl, rfl, rfl⟩
theorem Sys2Proof.Laws.Retime.tileProtectionTrip (u : Nat) (tile : Nat) (slot : Nat) (overcurrent : Bool) (active : Bool) : Sys2Proof.Laws.Retime.Statement (.tileProtectionTrip u tile slot overcurrent active) := fun _ _ => ⟨rfl, rfl, rfl⟩
theorem Sys2Proof.Laws.Retime.tileCellSample (u : Nat) (tile : Nat) (volts : List Nat) (temps : List Int) : Sys2Proof.Laws.Retime.Statement (.tileCellSample u tile volts temps) := fun _ _ => ⟨rfl, rfl, rfl⟩
theorem Sys2Proof.Laws.Retime.tileBleedExpiry (u : Nat) (tile : Nat) : Sys2Proof.Laws.Retime.Statement (.tileBleedExpiry u tile) := fun _ _ => ⟨rfl, rfl, rfl⟩
theorem Sys2Proof.Laws.Retime.tileAutoSample (u : Nat) (tile : Nat) (volts : List Nat) (temps : List Int) : Sys2Proof.Laws.Retime.Statement (.tileAutoSample u tile volts temps) := fun _ _ => ⟨rfl, rfl, rfl⟩
theorem Sys2Proof.Laws.Retime.windowSamplePublish (u : Nat) (phase : Nat) : Sys2Proof.Laws.Retime.Statement (.windowSamplePublish u phase) := fun _ _ => ⟨rfl, rfl, rfl⟩
theorem Sys2Proof.Laws.Retime.senseZero (u : Nat) (rq : CmdReq) : Sys2Proof.Laws.Retime.Statement (.senseZero u rq) := fun _ _ => ⟨rfl, rfl, rfl⟩
theorem Sys2Proof.Laws.Retime.senseZeroComplete (u : Nat) : Sys2Proof.Laws.Retime.Statement (.senseZeroComplete u) := fun _ _ => ⟨rfl, rfl, rfl⟩
theorem Sys2Proof.Laws.Retime.cellSetPublish (u : Nat) (string : Nat) (tile : Option Nat) : Sys2Proof.Laws.Retime.Statement (.cellSetPublish u string tile) := fun _ _ => ⟨rfl, rfl, rfl⟩
theorem Sys2Proof.Laws.Retime.ainSample (u : Nat) (channel : Nat) (code : Nat) : Sys2Proof.Laws.Retime.Statement (.ainSample u channel code) := fun _ _ => ⟨rfl, rfl, rfl⟩
theorem Sys2Proof.Laws.Retime.sppRisingEdge (u : Nat) (channel : Nat) (period : Nat) (high : Nat) : Sys2Proof.Laws.Retime.Statement (.sppRisingEdge u channel period high) := fun _ _ => ⟨rfl, rfl, rfl⟩
theorem Sys2Proof.Laws.Retime.sppEdgeTimeout (x : At (Option Nat)) (channel : Nat) : Sys2Proof.Laws.Retime.Statement (.sppEdgeTimeout x channel) := fun _ _ => ⟨rfl, rfl, rfl⟩
theorem Sys2Proof.Laws.Retime.evaluationIssue (u : Nat) : Sys2Proof.Laws.Retime.Statement (.evaluationIssue u) := fun _ _ => ⟨rfl, rfl, rfl⟩
theorem Sys2Proof.Laws.Retime.evaluationComplete (u : Nat) (context : Nat) : Sys2Proof.Laws.Retime.Statement (.evaluationComplete u context) := fun _ _ => ⟨rfl, rfl, rfl⟩
theorem Sys2Proof.Laws.Retime.equaliseLimit (u : Nat) (phase : Nat) : Sys2Proof.Laws.Retime.Statement (.equaliseLimit u phase) := fun _ _ => ⟨rfl, rfl, rfl⟩
theorem Sys2Proof.Laws.Retime.proofEvaluation (u : Nat) (engine : Nat) (passed : Bool) : Sys2Proof.Laws.Retime.Statement (.proofEvaluation u engine passed) := fun _ _ => ⟨rfl, rfl, rfl⟩
theorem Sys2Proof.Laws.Retime.proofIntervalEnd (u : Nat) (engine : Nat) : Sys2Proof.Laws.Retime.Statement (.proofIntervalEnd u engine) := fun _ _ => ⟨rfl, rfl, rfl⟩
theorem Sys2Proof.Laws.Retime.loopOpen (u : Nat) (rq : CmdReq) : Sys2Proof.Laws.Retime.Statement (.loopOpen u rq) := fun _ _ => ⟨rfl, rfl, rfl⟩
theorem Sys2Proof.Laws.Retime.loopSet (u : Nat) (rq : CmdReq) : Sys2Proof.Laws.Retime.Statement (.loopSet u rq) := fun _ _ => ⟨rfl, rfl, rfl⟩
theorem Sys2Proof.Laws.Retime.ctxCoefWrite (u : Nat) (rq : CmdReq) : Sys2Proof.Laws.Retime.Statement (.ctxCoefWrite u rq) := fun _ _ => ⟨rfl, rfl, rfl⟩
theorem Sys2Proof.Laws.Retime.loopClose (u : Nat) (rq : CmdReq) : Sys2Proof.Laws.Retime.Statement (.loopClose u rq) := fun _ _ => ⟨rfl, rfl, rfl⟩
theorem Sys2Proof.Laws.Retime.injectStart (u : Nat) (rq : CmdReq) : Sys2Proof.Laws.Retime.Statement (.injectStart u rq) := fun _ _ => ⟨rfl, rfl, rfl⟩
theorem Sys2Proof.Laws.Retime.injectStop (u : Nat) (rq : CmdReq) : Sys2Proof.Laws.Retime.Statement (.injectStop u rq) := fun _ _ => ⟨rfl, rfl, rfl⟩
theorem Sys2Proof.Laws.Retime.captureArm (u : Nat) (rq : CmdReq) : Sys2Proof.Laws.Retime.Statement (.captureArm u rq) := fun _ _ => ⟨rfl, rfl, rfl⟩
theorem Sys2Proof.Laws.Retime.captureAbort (u : Nat) (rq : CmdReq) : Sys2Proof.Laws.Retime.Statement (.captureAbort u rq) := fun _ _ => ⟨rfl, rfl, rfl⟩
theorem Sys2Proof.Laws.Retime.brakeMaxTimeExpiry (u : Nat) (stage : Nat) : Sys2Proof.Laws.Retime.Statement (.brakeMaxTimeExpiry u stage) := fun _ _ => ⟨rfl, rfl, rfl⟩
theorem Sys2Proof.Laws.Retime.crowbarFire (u : Nat) (phase : Nat) : Sys2Proof.Laws.Retime.Statement (.crowbarFire u phase) := fun _ _ => ⟨rfl, rfl, rfl⟩
theorem Sys2Proof.Laws.Retime.wearSave (u : Nat) : Sys2Proof.Laws.Retime.Statement (.wearSave u) := fun _ _ => ⟨rfl, rfl, rfl⟩
theorem Sys2Proof.Laws.Retime.quietPoint (u : Nat) (stage : Nat) : Sys2Proof.Laws.Retime.Statement (.quietPoint u stage) := fun _ _ => ⟨rfl, rfl, rfl⟩
theorem Sys2Proof.Laws.Retime.phaseRetire (u : Nat) (rq : CmdReq) : Sys2Proof.Laws.Retime.Statement (.phaseRetire u rq) := fun _ _ => ⟨rfl, rfl, rfl⟩
theorem Sys2Proof.Laws.Retime.wearReset (u : Nat) (rq : CmdReq) : Sys2Proof.Laws.Retime.Statement (.wearReset u rq) := fun _ _ => ⟨rfl, rfl, rfl⟩
theorem Sys2Proof.Laws.Retime.ledgerBoundary (u : Nat) (spa : List (Nat × Nat)) : Sys2Proof.Laws.Retime.Statement (.ledgerBoundary u spa) := fun _ _ => ⟨rfl, rfl, rfl⟩
theorem Sys2Proof.Laws.Retime.ledgerCompute (u : Nat) : Sys2Proof.Laws.Retime.Statement (.ledgerCompute u) := fun _ _ => ⟨rfl, rfl, rfl⟩
theorem Sys2Proof.Laws.Retime.capoPeriodStart (u : Nat) (capo : Nat) : Sys2Proof.Laws.Retime.Statement (.capoPeriodStart u capo) := fun _ _ => ⟨rfl, rfl, rfl⟩
theorem Sys2Proof.Laws.Retime.holdupStageNamed (u : Nat) (stage : Nat) : Sys2Proof.Laws.Retime.Statement (.holdupStageNamed u stage) := fun _ _ => ⟨rfl, rfl, rfl⟩
theorem Sys2Proof.Laws.Retime.supplyShort (u : Nat) (consumer : Nat) : Sys2Proof.Laws.Retime.Statement (.supplyShort u consumer) := fun _ _ => ⟨rfl, rfl, rfl⟩
theorem Sys2Proof.Laws.Retime.restGrant (u : Nat) : Sys2Proof.Laws.Retime.Statement (.restGrant u) := fun _ _ => ⟨rfl, rfl, rfl⟩
theorem Sys2Proof.Laws.Retime.restRampDownEnd (u : Nat) : Sys2Proof.Laws.Retime.Statement (.restRampDownEnd u) := fun _ _ => ⟨rfl, rfl, rfl⟩
theorem Sys2Proof.Laws.Retime.restWindowEnd (u : Nat) : Sys2Proof.Laws.Retime.Statement (.restWindowEnd u) := fun _ _ => ⟨rfl, rfl, rfl⟩
theorem Sys2Proof.Laws.Retime.restRampUpEnd (u : Nat) : Sys2Proof.Laws.Retime.Statement (.restRampUpEnd u) := fun _ _ => ⟨rfl, rfl, rfl⟩
theorem Sys2Proof.Laws.Retime.restAbort (u : Nat) : Sys2Proof.Laws.Retime.Statement (.restAbort u) := fun _ _ => ⟨rfl, rfl, rfl⟩
theorem Sys2Proof.Laws.Retime.restWaitExpiry (u : Nat) (string : Nat) : Sys2Proof.Laws.Retime.Statement (.restWaitExpiry u string) := fun _ _ => ⟨rfl, rfl, rfl⟩
theorem Sys2Proof.Laws.Retime.modelStep (u : Nat) : Sys2Proof.Laws.Retime.Statement (.modelStep u) := fun _ _ => ⟨rfl, rfl, rfl⟩
theorem Sys2Proof.Laws.Retime.balancingSelect (u : Nat) : Sys2Proof.Laws.Retime.Statement (.balancingSelect u) := fun _ _ => ⟨rfl, rfl, rfl⟩
theorem Sys2Proof.Laws.Retime.staleMark (u : Nat) (string : Nat) : Sys2Proof.Laws.Retime.Statement (.staleMark u string) := fun _ _ => ⟨rfl, rfl, rfl⟩
theorem Sys2Proof.Laws.Retime.learnSave (u : Nat) : Sys2Proof.Laws.Retime.Statement (.learnSave u) := fun _ _ => ⟨rfl, rfl, rfl⟩
theorem Sys2Proof.Laws.Retime.storeWriteStart (u : Nat) : Sys2Proof.Laws.Retime.Statement (.storeWriteStart u) := fun _ _ => ⟨rfl, rfl, rfl⟩
theorem Sys2Proof.Laws.Retime.storeWriteComplete (u : Nat) (failedAt : Option Nat) : Sys2Proof.Laws.Retime.Statement (.storeWriteComplete u failedAt) := fun _ _ => ⟨rfl, rfl, rfl⟩
theorem Sys2Proof.Laws.Retime.storeSlotErase (u : Nat) : Sys2Proof.Laws.Retime.Statement (.storeSlotErase u) := fun _ _ => ⟨rfl, rfl, rfl⟩
theorem Sys2Proof.Laws.Retime.rackOnChange (u : Nat) (level : Bool) : Sys2Proof.Laws.Retime.Statement (.rackOnChange u level) := fun _ _ => ⟨rfl, rfl, rfl⟩
theorem Sys2Proof.Laws.Retime.sequenceStepIssue (u : Nat) : Sys2Proof.Laws.Retime.Statement (.sequenceStepIssue u) := fun _ _ => ⟨rfl, rfl, rfl⟩
theorem Sys2Proof.Laws.Retime.stepWaitEnd (u : Nat) : Sys2Proof.Laws.Retime.Statement (.stepWaitEnd u) := fun _ _ => ⟨rfl, rfl, rfl⟩
theorem Sys2Proof.Laws.Retime.readWaitEnd (u : Nat) : Sys2Proof.Laws.Retime.Statement (.readWaitEnd u) := fun _ _ => ⟨rfl, rfl, rfl⟩
theorem Sys2Proof.Laws.Retime.upTimeout (u : Nat) : Sys2Proof.Laws.Retime.Statement (.upTimeout u) := fun _ _ => ⟨rfl, rfl, rfl⟩
theorem Sys2Proof.Laws.Retime.stepReverse (u : Nat) : Sys2Proof.Laws.Retime.Statement (.stepReverse u) := fun _ _ => ⟨rfl, rfl, rfl⟩
theorem Sys2Proof.Laws.Retime.dischTimeout (u : Nat) (rail : Nat) : Sys2Proof.Laws.Retime.Statement (.dischTimeout u rail) := fun _ _ => ⟨rfl, rfl, rfl⟩
theorem Sys2Proof.Laws.Retime.undischargedWaitEnd (u : Nat) : Sys2Proof.Laws.Retime.Statement (.undischargedWaitEnd u) := fun _ _ => ⟨rfl, rfl, rfl⟩
theorem Sys2Proof.Laws.Retime.guardWaitExpiry (u : Nat) : Sys2Proof.Laws.Retime.Statement (.guardWaitExpiry u) := fun _ _ => ⟨rfl, rfl, rfl⟩
theorem Sys2Proof.Laws.Retime.railOutOfWindow (u : Nat) (rail : Nat) : Sys2Proof.Laws.Retime.Statement (.railOutOfWindow u rail) := fun _ _ => ⟨rfl, rfl, rfl⟩
theorem Sys2Proof.Laws.Retime.keepaliveHoldExpiry (u : Nat) (ka : Nat) : Sys2Proof.Laws.Retime.Statement (.keepaliveHoldExpiry u ka) := fun _ _ => ⟨rfl, rfl, rfl⟩
theorem Sys2Proof.Laws.Retime.contactorMismatch (u : Nat) (ka : Nat) : Sys2Proof.Laws.Retime.Statement (.contactorMismatch u ka) := fun _ _ => ⟨rfl, rfl, rfl⟩
theorem Sys2Proof.Laws.Retime.railMargin (u : Nat) (rq : CmdReq) : Sys2Proof.Laws.Retime.Statement (.railMargin u rq) := fun _ _ => ⟨rfl, rfl, rfl⟩
theorem Sys2Proof.Laws.Retime.proxMate (u : Nat) : Sys2Proof.Laws.Retime.Statement (.proxMate u) := fun _ _ => ⟨rfl, rfl, rfl⟩
theorem Sys2Proof.Laws.Retime.patinaCheckComplete (u : Nat) (p : PatinaMeasure) : Sys2Proof.Laws.Retime.Statement (.patinaCheckComplete u p) := fun _ _ => ⟨rfl, rfl, rfl⟩
theorem Sys2Proof.Laws.Retime.patinaRetest (u : Nat) : Sys2Proof.Laws.Retime.Statement (.patinaRetest u) := fun _ _ => ⟨rfl, rfl, rfl⟩
theorem Sys2Proof.Laws.Retime.messageDiscarded (u : Nat) (m : PilotMsg) : Sys2Proof.Laws.Retime.Statement (.messageDiscarded u m) := fun _ _ => ⟨rfl, rfl, rfl⟩
theorem Sys2Proof.Laws.Retime.accept (u : Nat) (m : PilotMsg) : Sys2Proof.Laws.Retime.Statement (.accept u m) := fun _ _ => ⟨rfl, rfl, rfl⟩
theorem Sys2Proof.Laws.Retime.reject (u : Nat) (m : PilotMsg) : Sys2Proof.Laws.Retime.Statement (.reject u m) := fun _ _ => ⟨rfl, rfl, rfl⟩
theorem Sys2Proof.Laws.Retime.wait (u : Nat) (m : PilotMsg) : Sys2Proof.Laws.Retime.Statement (.wait u m) := fun _ _ => ⟨rfl, rfl, rfl⟩
theorem Sys2Proof.Laws.Retime.settled (u : Nat) (m : PilotMsg) : Sys2Proof.Laws.Retime.Statement (.settled u m) := fun _ _ => ⟨rfl, rfl, rfl⟩
theorem Sys2Proof.Laws.Retime.capsQuery (u : Nat) (m : PilotMsg) : Sys2Proof.Laws.Retime.Statement (.capsQuery u m) := fun _ _ => ⟨rfl, rfl, rfl⟩
theorem Sys2Proof.Laws.Retime.roleSwap (u : Nat) (m : PilotMsg) : Sys2Proof.Laws.Retime.Statement (.roleSwap u m) := fun _ _ => ⟨rfl, rfl, rfl⟩
theorem Sys2Proof.Laws.Retime.resync (u : Nat) (m : PilotMsg) : Sys2Proof.Laws.Retime.Statement (.resync u m) := fun _ _ => ⟨rfl, rfl, rfl⟩
theorem Sys2Proof.Laws.Retime.endCoupling (u : Nat) (m : PilotMsg) : Sys2Proof.Laws.Retime.Statement (.endCoupling u m) := fun _ _ => ⟨rfl, rfl, rfl⟩
theorem Sys2Proof.Laws.Retime.notSupported (u : Nat) (m : PilotMsg) : Sys2Proof.Laws.Retime.Statement (.notSupported u m) := fun _ _ => ⟨rfl, rfl, rfl⟩
theorem Sys2Proof.Laws.Retime.unknownType (u : Nat) (m : PilotMsg) : Sys2Proof.Laws.Retime.Statement (.unknownType u m) := fun _ _ => ⟨rfl, rfl, rfl⟩
theorem Sys2Proof.Laws.Retime.capabilities (u : Nat) (m : PilotMsg) : Sys2Proof.Laws.Retime.Statement (.capabilities u m) := fun _ _ => ⟨rfl, rfl, rfl⟩
theorem Sys2Proof.Laws.Retime.request (u : Nat) (m : PilotMsg) : Sys2Proof.Laws.Retime.Statement (.request u m) := fun _ _ => ⟨rfl, rfl, rfl⟩
theorem Sys2Proof.Laws.Retime.status (u : Nat) (m : PilotMsg) : Sys2Proof.Laws.Retime.Statement (.status u m) := fun _ _ => ⟨rfl, rfl, rfl⟩
theorem Sys2Proof.Laws.Retime.alert (u : Nat) (m : PilotMsg) : Sys2Proof.Laws.Retime.Statement (.alert u m) := fun _ _ => ⟨rfl, rfl, rfl⟩
theorem Sys2Proof.Laws.Retime.discoverIdentity (u : Nat) (m : PilotMsg) : Sys2Proof.Laws.Retime.Statement (.discoverIdentity u m) := fun _ _ => ⟨rfl, rfl, rfl⟩
theorem Sys2Proof.Laws.Retime.identityChunk (u : Nat) (m : PilotMsg) : Sys2Proof.Laws.Retime.Statement (.identityChunk u m) := fun _ _ => ⟨rfl, rfl, rfl⟩
theorem Sys2Proof.Laws.Retime.discoverModes (u : Nat) (m : PilotMsg) : Sys2Proof.Laws.Retime.Statement (.discoverModes u m) := fun _ _ => ⟨rfl, rfl, rfl⟩
theorem Sys2Proof.Laws.Retime.enterMode (u : Nat) (m : PilotMsg) : Sys2Proof.Laws.Retime.Statement (.enterMode u m) := fun _ _ => ⟨rfl, rfl, rfl⟩
theorem Sys2Proof.Laws.Retime.exitMode (u : Nat) (m : PilotMsg) : Sys2Proof.Laws.Retime.Statement (.exitMode u m) := fun _ _ => ⟨rfl, rfl, rfl⟩
theorem Sys2Proof.Laws.Retime.attention (u : Nat) (m : PilotMsg) : Sys2Proof.Laws.Retime.Statement (.attention u m) := fun _ _ => ⟨rfl, rfl, rfl⟩
theorem Sys2Proof.Laws.Retime.bridgeFrame (u : Nat) (m : PilotMsg) : Sys2Proof.Laws.Retime.Statement (.bridgeFrame u m) := fun _ _ => ⟨rfl, rfl, rfl⟩
theorem Sys2Proof.Laws.Retime.customerVdm (u : Nat) (m : PilotMsg) : Sys2Proof.Laws.Retime.Statement (.customerVdm u m) := fun _ _ => ⟨rfl, rfl, rfl⟩
theorem Sys2Proof.Laws.Retime.receipt (u : Nat) (byte : Nat) (cellsOk : Bool) : Sys2Proof.Laws.Retime.Statement (.receipt u byte cellsOk) := fun _ _ => ⟨rfl, rfl, rfl⟩
theorem Sys2Proof.Laws.Retime.ackTimeout (u : Nat) : Sys2Proof.Laws.Retime.Statement (.ackTimeout u) := fun _ _ => ⟨rfl, rfl, rfl⟩
theorem Sys2Proof.Laws.Retime.collision (u : Nat) : Sys2Proof.Laws.Retime.Statement (.collision u) := fun _ _ => ⟨rfl, rfl, rfl⟩
theorem Sys2Proof.Laws.Retime.lineBreak (u : Nat) : Sys2Proof.Laws.Retime.Statement (.lineBreak u) := fun _ _ => ⟨rfl, rfl, rfl⟩
theorem Sys2Proof.Laws.Retime.capsWaitTimeout (u : Nat) : Sys2Proof.Laws.Retime.Statement (.capsWaitTimeout u) := fun _ _ => ⟨rfl, rfl, rfl⟩
theorem Sys2Proof.Laws.Retime.statusTimer (u : Nat) : Sys2Proof.Laws.Retime.Statement (.statusTimer u) := fun _ _ => ⟨rfl, rfl, rfl⟩
theorem Sys2Proof.Laws.Retime.closingStart (u : Nat) : Sys2Proof.Laws.Retime.Statement (.closingStart u) := fun _ _ => ⟨rfl, rfl, rfl⟩
theorem Sys2Proof.Laws.Retime.closingTimeout (u : Nat) : Sys2Proof.Laws.Retime.Statement (.closingTimeout u) := fun _ _ => ⟨rfl, rfl, rfl⟩
theorem Sys2Proof.Laws.Retime.transitionSettle (u : Nat) : Sys2Proof.Laws.Retime.Statement (.transitionSettle u) := fun _ _ => ⟨rfl, rfl, rfl⟩
theorem Sys2Proof.Laws.Retime.transitionAbandon (u : Nat) : Sys2Proof.Laws.Retime.Statement (.transitionAbandon u) := fun _ _ => ⟨rfl, rfl, rfl⟩
theorem Sys2Proof.Laws.Retime.swapStepTimeout (u : Nat) : Sys2Proof.Laws.Retime.Statement (.swapStepTimeout u) := fun _ _ => ⟨rfl, rfl, rfl⟩
theorem Sys2Proof.Laws.Retime.linkVoltage (u : Nat) : Sys2Proof.Laws.Retime.Statement (.linkVoltage u) := fun _ _ => ⟨rfl, rfl, rfl⟩
theorem Sys2Proof.Laws.Retime.linkImbalance (u : Nat) : Sys2Proof.Laws.Retime.Statement (.linkImbalance u) := fun _ _ => ⟨rfl, rfl, rfl⟩
theorem Sys2Proof.Laws.Retime.couplingEndComplete (u : Nat) : Sys2Proof.Laws.Retime.Statement (.couplingEndComplete u) := fun _ _ => ⟨rfl, rfl, rfl⟩
theorem Sys2Proof.Laws.Retime.split (u : Nat) : Sys2Proof.Laws.Retime.Statement (.split u) := fun _ _ => ⟨rfl, rfl, rfl⟩
theorem Sys2Proof.Laws.Retime.cablePulled (u : Nat) : Sys2Proof.Laws.Retime.Statement (.cablePulled u) := fun _ _ => ⟨rfl, rfl, rfl⟩
theorem Sys2Proof.Laws.Retime.lockoutExpiry (u : Nat) : Sys2Proof.Laws.Retime.Statement (.lockoutExpiry u) := fun _ _ => ⟨rfl, rfl, rfl⟩
theorem Sys2Proof.Laws.Retime.hallmarkVerifyComplete (u : Nat) : Sys2Proof.Laws.Retime.Statement (.hallmarkVerifyComplete u) := fun _ _ => ⟨rfl, rfl, rfl⟩
theorem Sys2Proof.Laws.Retime.hallmarkRetry (u : Nat) : Sys2Proof.Laws.Retime.Statement (.hallmarkRetry u) := fun _ _ => ⟨rfl, rfl, rfl⟩
theorem Sys2Proof.Laws.Retime.sinkRequestResend (u : Nat) : Sys2Proof.Laws.Retime.Statement (.sinkRequestResend u) := fun _ _ => ⟨rfl, rfl, rfl⟩
theorem Sys2Proof.Laws.Retime.bridgeCanRx (u : Nat) (id : Nat) (fdf : Bool) (brs : Bool) (data : Bytes) : Sys2Proof.Laws.Retime.Statement (.bridgeCanRx u id fdf brs data) := fun _ _ => ⟨rfl, rfl, rfl⟩
theorem Sys2Proof.Laws.Retime.couplingEnd (u : Nat) (rq : CmdReq) : Sys2Proof.Laws.Retime.Statement (.couplingEnd u rq) := fun _ _ => ⟨rfl, rfl, rfl⟩
theorem Sys2Proof.Laws.Retime.couplingRoleSwap (u : Nat) (rq : CmdReq) : Sys2Proof.Laws.Retime.Statement (.couplingRoleSwap u rq) := fun _ _ => ⟨rfl, rfl, rfl⟩
theorem Sys2Proof.Laws.Retime.couplingMode (u : Nat) (rq : CmdReq) : Sys2Proof.Laws.Retime.Statement (.couplingMode u rq) := fun _ _ => ⟨rfl, rfl, rfl⟩
theorem Sys2Proof.Laws.Retime.couplingVdmSend (u : Nat) (rq : CmdReq) : Sys2Proof.Laws.Retime.Statement (.couplingVdmSend u rq) := fun _ _ => ⟨rfl, rfl, rfl⟩
theorem Sys2Proof.Laws.Retime.faultInputAssert (x : At (List (Bool × Bool))) (code : Nat) (scope : Nat) (payload : List Nat) : Sys2Proof.Laws.Retime.Statement (.faultInputAssert x code scope payload) := fun _ _ => ⟨rfl, rfl, rfl⟩
theorem Sys2Proof.Laws.Retime.faultInputDeassert (x : At (List (Bool × Bool))) (code : Nat) (scope : Nat) : Sys2Proof.Laws.Retime.Statement (.faultInputDeassert x code scope) := fun _ _ => ⟨rfl, rfl, rfl⟩
theorem Sys2Proof.Laws.Retime.pairMismatch (x : At (List (Bool × Bool))) (code : Nat) (scope : Nat) : Sys2Proof.Laws.Retime.Statement (.pairMismatch x code scope) := fun _ _ => ⟨rfl, rfl, rfl⟩
theorem Sys2Proof.Laws.Retime.inputStuck (u : Nat) (code : Nat) (scope : Nat) (test : TestPulses) : Sys2Proof.Laws.Retime.Statement (.inputStuck u code scope test) := fun _ _ => ⟨rfl, rfl, rfl⟩
theorem Sys2Proof.Laws.Retime.reactionParity (u : Nat) (entry : HeldEntry) : Sys2Proof.Laws.Retime.Statement (.reactionParity u entry) := fun _ _ => ⟨rfl, rfl, rfl⟩
theorem Sys2Proof.Laws.Retime.s1Escalated (u : Nat) : Sys2Proof.Laws.Retime.Statement (.s1Escalated u) := fun _ _ => ⟨rfl, rfl, rfl⟩
theorem Sys2Proof.Laws.Retime.clearHoldOffExpiry (u : Nat) (code : Nat) (scope : Nat) : Sys2Proof.Laws.Retime.Statement (.clearHoldOffExpiry u code scope) := fun _ _ => ⟨rfl, rfl, rfl⟩
theorem Sys2Proof.Laws.Retime.faultClear (u : Nat) (rq : CmdReq) : Sys2Proof.Laws.Retime.Statement (.faultClear u rq) := fun _ _ => ⟨rfl, rfl, rfl⟩
theorem Sys2Proof.Laws.Retime.safeIn (x : At HeldLevel) : Sys2Proof.Laws.Retime.Statement (.safeIn x) := fun _ _ => ⟨rfl, rfl, rfl⟩
theorem Sys2Proof.Laws.Retime.recorderMount (u : Nat) (device : Option CsDevice) : Sys2Proof.Laws.Retime.Statement (.recorderMount u device) := fun _ _ => ⟨rfl, rfl, rfl⟩
theorem Sys2Proof.Laws.Retime.recordStage (u : Nat) (code : Nat) (scope : Nat) (payload : Bytes) : Sys2Proof.Laws.Retime.Statement (.recordStage u code scope payload) := fun _ _ => ⟨rfl, rfl, rfl⟩
theorem Sys2Proof.Laws.Retime.tokenRefill (u : Nat) (code : Nat) : Sys2Proof.Laws.Retime.Statement (.tokenRefill u code) := fun _ _ => ⟨rfl, rfl, rfl⟩
theorem Sys2Proof.Laws.Retime.recordFlush (u : Nat) (ended : FlashEnd) : Sys2Proof.Laws.Retime.Statement (.recordFlush u ended) := fun _ _ => ⟨rfl, rfl, rfl⟩
theorem Sys2Proof.Laws.Retime.odometerWrite (u : Nat) : Sys2Proof.Laws.Retime.Statement (.odometerWrite u) := fun _ _ => ⟨rfl, rfl, rfl⟩
theorem Sys2Proof.Laws.Retime.powerFail (u : Nat) : Sys2Proof.Laws.Retime.Statement (.powerFail u) := fun _ _ => ⟨rfl, rfl, rfl⟩
theorem Sys2Proof.Laws.Retime.lastBreath (u : Nat) (trigger : Nat) : Sys2Proof.Laws.Retime.Statement (.lastBreath u trigger) := fun _ _ => ⟨rfl, rfl, rfl⟩
theorem Sys2Proof.Laws.Retime.recorderSeal (u : Nat) (rq : CmdReq) : Sys2Proof.Laws.Retime.Statement (.recorderSeal u rq) := fun _ _ => ⟨rfl, rfl, rfl⟩
theorem Sys2Proof.Laws.Retime.recorderClear (u : Nat) (rq : CmdReq) : Sys2Proof.Laws.Retime.Statement (.recorderClear u rq) := fun _ _ => ⟨rfl, rfl, rfl⟩
theorem Sys2Proof.Laws.Retime.recorderClearComplete (u : Nat) (programOk : Bool) : Sys2Proof.Laws.Retime.Statement (.recorderClearComplete u programOk) := fun _ _ => ⟨rfl, rfl, rfl⟩
theorem Sys2Proof.Laws.Retime.authLockoutExpiry (u : Nat) (channel : Nat) : Sys2Proof.Laws.Retime.Statement (.authLockoutExpiry u channel) := fun _ _ => ⟨rfl, rfl, rfl⟩
theorem Sys2Proof.Laws.Retime.serviceOpen (u : Nat) (rq : CmdReq) : Sys2Proof.Laws.Retime.Statement (.serviceOpen u rq) := fun _ _ => ⟨rfl, rfl, rfl⟩
theorem Sys2Proof.Laws.Retime.serviceClose (u : Nat) (rq : CmdReq) : Sys2Proof.Laws.Retime.Statement (.serviceClose u rq) := fun _ _ => ⟨rfl, rfl, rfl⟩
theorem Sys2Proof.Laws.Retime.serviceTimeout (u : Nat) : Sys2Proof.Laws.Retime.Statement (.serviceTimeout u) := fun _ _ => ⟨rfl, rfl, rfl⟩
theorem Sys2Proof.Laws.Retime.ownerEnrol (u : Nat) (rq : CmdReq) (vpp : Nat) : Sys2Proof.Laws.Retime.Statement (.ownerEnrol u rq vpp) := fun _ _ => ⟨rfl, rfl, rfl⟩
theorem Sys2Proof.Laws.Retime.ownerTransfer (u : Nat) (rq : CmdReq) (vpp : Nat) : Sys2Proof.Laws.Retime.Statement (.ownerTransfer u rq vpp) := fun _ _ => ⟨rfl, rfl, rfl⟩
theorem Sys2Proof.Laws.Retime.patchRollbackAdvance (u : Nat) (rq : CmdReq) (vpp : Nat) : Sys2Proof.Laws.Retime.Statement (.patchRollbackAdvance u rq vpp) := fun _ _ => ⟨rfl, rfl, rfl⟩
theorem Sys2Proof.Laws.Retime.debugUnlock (u : Nat) (rq : CmdReq) : Sys2Proof.Laws.Retime.Statement (.debugUnlock u rq) := fun _ _ => ⟨rfl, rfl, rfl⟩
theorem Sys2Proof.Laws.Retime.attest (u : Nat) (rq : CmdReq) : Sys2Proof.Laws.Retime.Statement (.attest u rq) := fun _ _ => ⟨rfl, rfl, rfl⟩
theorem Sys2Proof.Laws.Retime.trngHealth (x : At Bytes) : Sys2Proof.Laws.Retime.Statement (.trngHealth x) := fun _ _ => ⟨rfl, rfl, rfl⟩
theorem Sys2Proof.Laws.Retime.trngRetest (u : Nat) (raw : Bytes) : Sys2Proof.Laws.Retime.Statement (.trngRetest u raw) := fun _ _ => ⟨rfl, rfl, rfl⟩
theorem Sys2Proof.Laws.Retime.drbgReseed (x : At Bytes) : Sys2Proof.Laws.Retime.Statement (.drbgReseed x) := fun _ _ => ⟨rfl, rfl, rfl⟩
theorem Sys2Proof.Laws.Retime.canSegment (u : Nat) (port : HostPort) (segment : CanSegment) : Sys2Proof.Laws.Retime.Statement (.canSegment u port segment) := fun _ _ => ⟨rfl, rfl, rfl⟩
theorem Sys2Proof.Laws.Retime.requestDiscarded (u : Nat) (port : HostPort) (bytes : Bytes) : Sys2Proof.Laws.Retime.Statement (.requestDiscarded u port bytes) := fun _ _ => ⟨rfl, rfl, rfl⟩
theorem Sys2Proof.Laws.Retime.twReadTransfer (u : Nat) (x : TwRead) : Sys2Proof.Laws.Retime.Statement (.twReadTransfer u x) := fun _ _ => ⟨rfl, rfl, rfl⟩
theorem Sys2Proof.Laws.Retime.twResponsePending (u : Nat) (rq : Request) : Sys2Proof.Laws.Retime.Statement (.twResponsePending u rq) := fun _ _ => ⟨rfl, rfl, rfl⟩
theorem Sys2Proof.Laws.Retime.deferredResponse (u : Nat) (port : HostPort) : Sys2Proof.Laws.Retime.Statement (.deferredResponse u port) := fun _ _ => ⟨rfl, rfl, rfl⟩
theorem Sys2Proof.Laws.Retime.sclTimeout (x : At Nat) : Sys2Proof.Laws.Retime.Statement (.sclTimeout x) := fun _ _ => ⟨rfl, rfl, rfl⟩
theorem Sys2Proof.Laws.Retime.sdaTimeout (x : At Nat) : Sys2Proof.Laws.Retime.Statement (.sdaTimeout x) := fun _ _ => ⟨rfl, rfl, rfl⟩
theorem Sys2Proof.Laws.Retime.attentionPulse (x : At Nat) : Sys2Proof.Laws.Retime.Statement (.attentionPulse x) := fun _ _ => ⟨rfl, rfl, rfl⟩
theorem Sys2Proof.Laws.Retime.attentionPulseAbort (u : Nat) : Sys2Proof.Laws.Retime.Statement (.attentionPulseAbort u) := fun _ _ => ⟨rfl, rfl, rfl⟩
theorem Sys2Proof.Laws.Retime.attentionEscalation (u : Nat) : Sys2Proof.Laws.Retime.Statement (.attentionEscalation u) := fun _ _ => ⟨rfl, rfl, rfl⟩
theorem Sys2Proof.Laws.Retime.attentionStatusRead (u : Nat) (rq : Request) : Sys2Proof.Laws.Retime.Statement (.attentionStatusRead u rq) := fun _ _ => ⟨rfl, rfl, rfl⟩
theorem Sys2Proof.Laws.Retime.canBusOff (u : Nat) (port : HostPort) : Sys2Proof.Laws.Retime.Statement (.canBusOff u port) := fun _ _ => ⟨rfl, rfl, rfl⟩
theorem Sys2Proof.Laws.Retime.canRecovered (u : Nat) (port : HostPort) : Sys2Proof.Laws.Retime.Statement (.canRecovered u port) := fun _ _ => ⟨rfl, rfl, rfl⟩
theorem Sys2Proof.Laws.Retime.canSegmentGap (u : Nat) (port : HostPort) : Sys2Proof.Laws.Retime.Statement (.canSegmentGap u port) := fun _ _ => ⟨rfl, rfl, rfl⟩
theorem Sys2Proof.Laws.Retime.canRemoteFrame (u : Nat) (port : HostPort) : Sys2Proof.Laws.Retime.Statement (.canRemoteFrame u port) := fun _ _ => ⟨rfl, rfl, rfl⟩
theorem Sys2Proof.Laws.Retime.telemetryCopy (u : Nat) (entry : Nat) : Sys2Proof.Laws.Retime.Statement (.telemetryCopy u entry) := fun _ _ => ⟨rfl, rfl, rfl⟩
theorem Sys2Proof.Laws.Retime.statusFrame (u : Nat) (port : HostPort) : Sys2Proof.Laws.Retime.Statement (.statusFrame u port) := fun _ _ => ⟨rfl, rfl, rfl⟩
theorem Sys2Proof.Laws.Retime.hostSettingsSwitch (u : Nat) (port : HostPort) : Sys2Proof.Laws.Retime.Statement (.hostSettingsSwitch u port) := fun _ _ => ⟨rfl, rfl, rfl⟩
theorem Sys2Proof.Laws.Retime.recorderCursorWrite (u : Nat) (rq : Request) : Sys2Proof.Laws.Retime.Statement (.recorderCursorWrite u rq) := fun _ _ => ⟨rfl, rfl, rfl⟩
theorem Sys2Proof.Laws.Retime.recorderRecordRead (u : Nat) (rq : Request) : Sys2Proof.Laws.Retime.Statement (.recorderRecordRead u rq) := fun _ _ => ⟨rfl, rfl, rfl⟩
theorem Sys2Proof.Laws.Retime.vdmMailboxRelease (u : Nat) (rq : Request) : Sys2Proof.Laws.Retime.Statement (.vdmMailboxRelease u rq) := fun _ _ => ⟨rfl, rfl, rfl⟩
theorem Sys2Proof.Laws.Retime.injectionTableWrite (u : Nat) (rq : Request) : Sys2Proof.Laws.Retime.Statement (.injectionTableWrite u rq) := fun _ _ => ⟨rfl, rfl, rfl⟩
theorem Sys2Proof.Laws.Retime.objectWrite (u : Nat) (rq : Request) : Sys2Proof.Laws.Retime.Statement (.objectWrite u rq) := fun _ _ => ⟨rfl, rfl, rfl⟩
theorem Sys2Proof.Laws.Retime.tapReset (u : Nat) : Sys2Proof.Laws.Retime.Statement (.tapReset u) := fun _ _ => ⟨rfl, rfl, rfl⟩
theorem Sys2Proof.Laws.Retime.instructionLoad (u : Nat) (opcode : Nat) (scan : TapScan) : Sys2Proof.Laws.Retime.Statement (.instructionLoad u opcode scan) := fun _ _ => ⟨rfl, rfl, rfl⟩
theorem Sys2Proof.Laws.Retime.testEnLow (x : At Nat) : Sys2Proof.Laws.Retime.Statement (.testEnLow x) := fun _ _ => ⟨rfl, rfl, rfl⟩
theorem Sys2Proof.Laws.Retime.pwrFailDeassert (u : Nat) : Sys2Proof.Laws.Retime.Statement (.pwrFailDeassert u) := fun _ _ => ⟨rfl, rfl, rfl⟩
theorem Sys2Proof.Laws.Retime.tilePowerUp (u : Nat) (tile : Nat) : Sys2Proof.Laws.Retime.Statement (.tilePowerUp u tile) := fun _ _ => ⟨rfl, rfl, rfl⟩
theorem Sys2Proof.Laws.Retime.tileActiveDnLost (u : Nat) (tile : Nat) : Sys2Proof.Laws.Retime.Statement (.tileActiveDnLost u tile) := fun _ _ => ⟨rfl, rfl, rfl⟩
theorem Sys2Proof.Laws.Retime.s1GuardWaitExpiry (u : Nat) : Sys2Proof.Laws.Retime.Statement (.s1GuardWaitExpiry u) := fun _ _ => ⟨rfl, rfl, rfl⟩
theorem Sys2Proof.Laws.Retime.vdmReply (u : Nat) (m : PilotMsg) : Sys2Proof.Laws.Retime.Statement (.vdmReply u m) := fun _ _ => ⟨rfl, rfl, rfl⟩
theorem Sys2Proof.Laws.Retime.kreiloVdmUnknown (u : Nat) (m : PilotMsg) : Sys2Proof.Laws.Retime.Statement (.kreiloVdmUnknown u m) := fun _ _ => ⟨rfl, rfl, rfl⟩
theorem Sys2Proof.Laws.Retime.pilotTransmitStart (u : Nat) : Sys2Proof.Laws.Retime.Statement (.pilotTransmitStart u) := fun _ _ => ⟨rfl, rfl, rfl⟩
end

