-- ==== Sys2Proof/Tests/Slice0.lean ====
section
/-! SUPPORT. The model's own tests: ill-formed commands are refused, a few single steps against the spec's worked
values, and, for every statement with hypotheses, concrete states that meet them. -/

namespace Sys2Proof.Tests

set_option Elab.async false

open Sys2Proof Sys2Proof.Machine

/-! ## Ill-formed commands -/

def goodTrailer : Trailer := { counter := 1, channel := 0, mac := [1, 2, 3, 4, 5, 6, 7, 8] }

def goodReq : Request := { port := .tw, op := 1, tag := 2, object := 0x0001, inst := 0, offset := 0, length := 4 }

def goodCmd : CmdReq := { port := .tw, tag := 1, data := [0x7E], trailer := some goodTrailer }

def goodFrame : WireFrame := { symbols := List.replicate 100 0 }

theorem test_trailers_in_their_widths : goodTrailer.wellFormed = true ∧
    [{ goodTrailer with counter := 2 ^ 32 }, { goodTrailer with channel := 256 }, { goodTrailer with resv := 2 ^ 24 },
      { goodTrailer with mac := [1] }].all (fun x => !x.wellFormed) = true := by decide +kernel

theorem test_requests_in_their_widths : goodReq.wellFormed = true ∧
    [{ goodReq with op := 256 }, { goodReq with tag := 256 }, { goodReq with object := 65536 },
      { goodReq with inst := 65536 }, { goodReq with offset := 2 ^ 32 }, { goodReq with length := 65536 },
      { goodReq with trailer := some { goodTrailer with mac := [] } }].all (fun x => !x.wellFormed) = true := by decide +kernel

theorem test_command_requests_in_their_widths : goodCmd.wellFormed = true ∧
    [{ goodCmd with tag := 256 }, { goodCmd with offset := 2 ^ 32 }, { goodCmd with data := [] },
      { goodCmd with data := List.replicate 289 0 },
      { goodCmd with trailer := some { goodTrailer with channel := 256 } }].all (fun x => !x.wellFormed) = true := by decide +kernel

theorem test_frames_and_messages_in_their_widths : goodFrame.wellFormed = true ∧
    (PilotMsg.wellFormed { leadIn := 8, cellsOk := true, bytes := [1, 2] }) = true ∧
    [{ goodFrame with symbols := List.replicate 101 0 }, { goodFrame with symbols := [1024] }].all (fun x => !x.wellFormed) = true ∧
    (PilotMsg.wellFormed { leadIn := 8, cellsOk := true, bytes := List.replicate 249 0 }) = false := by decide +kernel

def badReq : Request := { goodReq with op := 256 }

def badCmd : CmdReq := { goodCmd with data := [] }

def badFrame : WireFrame := { goodFrame with symbols := [1024] }

def goodMsg : PilotMsg := { leadIn := 8, cellsOk := true, bytes := [1, 2, 3, 4] }

def badMsg : PilotMsg := { goodMsg with bytes := List.replicate 249 0 }

theorem test_ill_formed_requests_a : ([
    .chipRestart 0 badCmd, .imageStageOpen 0 badCmd, .imageStageWrite 0 badCmd, .imageStageVerify 0 badCmd,
    .imageStageCommit 0 badCmd, .imageStageAbort 0 badCmd, .imageRollbackAdvance 0 badCmd 0,
    .upstreamFrame 0 0 badFrame, .tileFrameProcess 0 0 0 ⟨0, badFrame, {}⟩, .senseZero 0 badCmd, .loopOpen 0 badCmd,
    .loopSet 0 badCmd, .ctxCoefWrite 0 badCmd, .loopClose 0 badCmd, .injectStart 0 badCmd, .injectStop 0 badCmd,
    .captureArm 0 badCmd, .captureAbort 0 badCmd, .phaseRetire 0 badCmd, .wearReset 0 badCmd,
    .railMargin 0 badCmd, .couplingEnd 0 badCmd, .couplingRoleSwap 0 badCmd, .couplingMode 0 badCmd,
    .couplingVdmSend 0 badCmd, .faultClear 0 badCmd, .recorderSeal 0 badCmd, .recorderClear 0 badCmd,
    .serviceOpen 0 badCmd, .serviceClose 0 badCmd, .ownerEnrol 0 badCmd 0, .ownerTransfer 0 badCmd 0,
    .patchRollbackAdvance 0 badCmd 0, .debugUnlock 0 badCmd, .attest 0 badCmd, .twResponsePending 0 badReq,
    .attentionStatusRead 0 badReq, .recorderCursorWrite 0 badReq, .recorderRecordRead 0 badReq,
    .vdmMailboxRelease 0 badReq
    ] : List Instr).all (fun i => !i.wellFormed) = true := by decide +kernel

theorem test_ill_formed_requests_b : ([
    .injectionTableWrite 0 badReq, .objectWrite 0 badReq
    ] : List Instr).all (fun i => !i.wellFormed) = true := by decide +kernel

theorem test_ill_formed_messages : ([
    .messageDiscarded 0 badMsg, .accept 0 badMsg, .reject 0 badMsg, .wait 0 badMsg, .settled 0 badMsg,
    .capsQuery 0 badMsg, .roleSwap 0 badMsg, .resync 0 badMsg, .endCoupling 0 badMsg, .notSupported 0 badMsg,
    .unknownType 0 badMsg, .capabilities 0 badMsg, .request 0 badMsg, .status 0 badMsg, .alert 0 badMsg,
    .discoverIdentity 0 badMsg, .identityChunk 0 badMsg, .discoverModes 0 badMsg, .enterMode 0 badMsg,
    .exitMode 0 badMsg, .attention 0 badMsg, .bridgeFrame 0 badMsg, .customerVdm 0 badMsg, .vdmReply 0 badMsg,
    .kreiloVdmUnknown 0 badMsg
    ] : List Instr).all (fun i => !i.wellFormed) = true := by decide +kernel

theorem test_ill_formed_numbers_a : ([
    .powerGood 0 8, .dormantWake 0 .rackOn 8, .wakeIntervalExpiry 0 8, .twDormantAddressMatch 0 128 0,
    .twDormantAddressMatch 0 0 8, .scrubPassComplete 0 8 [] {} [], .trainLockComplete 0 52 ⟨0, []⟩, .ts2Received 0 52 0 0 0 0,
    .ts2Received 0 0 65536 0 0 0, .ts2Received 0 0 0 65536 0 0, .ts2Received 0 0 0 0 65536 0,
    .ts2Received 0 0 0 0 0 65536, .latencyMeasured 0 52 0 0, .alignCheckComplete 0 52 0 256,
    .trainAttemptTimeout 0 52, .trainAttemptStart 0 52, .upstreamFrame 0 52 goodFrame, .receiverLockLoss 0 52,
    .serviceOpTimeout 0 52, .residualTrim 0 52 0, .eyeMarginMeasure 0 52 0 0 ⟨0, []⟩, .allClearRetry 0 52,
    .slotClear 0 52, .cellResend 0 256, .tileFrameProcess 0 0 2 ⟨0, goodFrame, {}⟩, .tileEdgeExecute 0 0 8,
    .tileTrain 0 0 ⟨2, .ts1⟩, .tileProtectionTrip 0 0 8 true true, .windowSamplePublish 0 192, .cellSetPublish 0 256 none,
    .ainSample 0 0 65536, .equaliseLimit 0 192, .proofEvaluation 0 9 true, .proofIntervalEnd 0 9,
    .brakeMaxTimeExpiry 0 64, .crowbarFire 0 192, .quietPoint 0 64, .holdupStageNamed 0 64, .restWaitExpiry 0 256,
    .staleMark 0 256
    ] : List Instr).all (fun i => !i.wellFormed) = true := by decide +kernel

theorem test_ill_formed_numbers_b : ([
    .receipt 0 256 true, .bridgeCanRx 0 0 true true (List.replicate 65 0), .faultInputAssert ⟨0, []⟩ 65536 0 [],
    .faultInputAssert ⟨0, []⟩ 0 8 [], .faultInputDeassert ⟨0, []⟩ 65536 0, .faultInputDeassert ⟨0, []⟩ 0 8, .pairMismatch ⟨0, []⟩ 65536 0,
    .pairMismatch ⟨0, []⟩ 0 8, .inputStuck 0 65536 0 ⟨true, []⟩, .inputStuck 0 0 8 ⟨true, []⟩,
    .clearHoldOffExpiry 0 65536 0, .clearHoldOffExpiry 0 0 8, .recordStage 0 65536 0 [], .recordStage 0 0 8 [],
    .tokenRefill 0 65536, .lastBreath 0 3, .canSegment 0 .tw ⟨0, []⟩, .canSegment 0 .can0 ⟨0, List.replicate 65 0⟩, .twReadTransfer 0 ⟨128, 0⟩,
    .canBusOff 0 .tw, .canRecovered 0 .tw, .canSegmentGap 0 .tw, .canRemoteFrame 0 .tw, .statusFrame 0 .tw,
    .instructionLoad 0 256 ⟨true, 0⟩
    ] : List Instr).all (fun i => !i.wellFormed) = true := by decide +kernel

/-! ## Concrete states that meet the hypotheses of the statements -/

/-- Zero bytes with little-endian numbers written into them (offset, width, value, in rising order), from `p` to `n`. -/
def putFrom (n : Nat) : Nat → List (Nat × Nat × Nat) → Bytes
  | p, [] => zeros (n - p)
  | p, (o, w, v) :: rest => zeros (o - p) ++ (leBytes w v ++ putFrom n (o + w) rest)

def put (n : Nat) (l : List (Nat × Nat × Nat)) : Bytes := putFrom n 0 l

/-- A TRUST section whose one channel is on, on every port, with every role. -/
def openTrust : Bytes := put 272 [(0, 1, 1), (1, 1, 3), (2, 2, 10), (4, 2, 60), (8, 1, 1), (257, 1, 1), (258, 1, 7), (260, 4, 0x1FF)]

/-- A live chip in a mode, with the named sections as its running image and the command key of channel 0. -/
def live (m : Mode) (q : Secs) : State :=
  { phase := .live, mode := m, loader := { live := some { sections := q ++ [(tyTrust, openTrust)] } }
    benra := { cmdKeys := [(0, zeros 32)] } }

/-- A trailer of channel 0 with the MAC its key gives the request (Table 14.6). -/
def signWith (s : State) (object inst : Nat) (payload : Bytes) : Trailer :=
  { counter := 1, channel := 0,
    mac := commandMac (Tab.get [] s.benra.cmdKeys 0) s.benra.bootNonce object inst payload { counter := 1, channel := 0, mac := [] } }

/-- A command request, authenticated. -/
def signed (c : CmdSpec) (rq : CmdReq) (s : State) : CmdReq :=
  { rq with trailer := some (signWith s c.object c.inst (leBytes 4 rq.offset ++ rq.data)) }

/-- The state an authenticated request acts on. -/
def takenBy (serviceOnly : Bool) (r : Request) (t : Trailer) (s : State) : State :=
  (sessionCheck serviceOnly 0 (takeCounter t (takeRequest r s))).2

/-- The checks of authentication but the MAC. -/
def mayAct (role : Option Nat) (serviceOnly : Bool) (r : Request) (t : Trailer) (s : State) : Bool :=
  channelServes s r.port 0 && !s.benra.debugUnlocked && decide (Tab.get 0 s.benra.last 0 < 1)
    && !roleLacks role 0 (takeCounter t s) && decide ((sessionCheck serviceOnly 0 (takeCounter t s)).1 = .passed)

theorem authenticate_signed (role : Option Nat) (serviceOnly : Bool) (r : Request) (s : State)
    (h : mayAct role serviceOnly r (signWith s r.object r.inst (macPayload r)) s = true) :
    authenticate role serviceOnly r (signWith s r.object r.inst (macPayload r)) s
      = (.passed, (sessionCheck serviceOnly 0 (takeCounter (signWith s r.object r.inst (macPayload r)) s)).2) := by
  simp only [mayAct, Bool.and_eq_true, Bool.not_eq_true', decide_eq_true_eq] at h
  obtain ⟨⟨⟨⟨h1, h2⟩, h3⟩, h4⟩, h5⟩ := h
  have hm : commandMac (Tab.get [] s.benra.cmdKeys (signWith s r.object r.inst (macPayload r)).channel) s.benra.bootNonce r.object r.inst
      (macPayload r) (signWith s r.object r.inst (macPayload r)) = (signWith s r.object r.inst (macPayload r)).mac := by
    dsimp only [signWith, commandMac, macMessage]
  have hc : (signWith s r.object r.inst (macPayload r)).channel = 0 := rfl
  have hn : (signWith s r.object r.inst (macPayload r)).counter = 1 := rfl
  unfold authenticate
  dsimp only
  rw [hm]
  generalize signWith s r.object r.inst (macPayload r) = t at *
  rw [hc, hn, h1, h2, h4]
  rw [if_neg (by simp), if_neg (by simp), if_neg (by omega), if_neg (by simp)]
  exact Prod.ext h5 rfl

/-- Every check of R443 and R444 on an authenticated command passes. -/
def mayPass (c : CmdSpec) (rq : CmdReq) (s : State) : Bool :=
  let r := requestOf c (signed c rq s)
  let t := signWith s c.object c.inst (leBytes 4 rq.offset ++ rq.data)
  (gate r s).isNone && !modeRefuses c (takeRequest r s) && mayAct c.role c.serviceOnly r t (takeRequest r s)
    && decide (argStatus c r (takenBy c.serviceOnly r t s) = stDone)

/-- The state an admitted command acts on. -/
def taken (c : CmdSpec) (rq : CmdReq) (s : State) : State :=
  takenBy c.serviceOnly (requestOf c (signed c rq s)) (signWith s c.object c.inst (leBytes 4 rq.offset ++ rq.data)) s

theorem admits (c : CmdSpec) (rq : CmdReq) (s : State) (h : mayPass c rq s = true) :
    admitCmd c (signed c rq s) s = some (taken c rq s) := by
  simp only [mayPass, Bool.and_eq_true, Bool.not_eq_true', decide_eq_true_eq, Option.isNone_iff_eq_none] at h
  obtain ⟨⟨⟨h1, h2⟩, h3⟩, h4⟩ := h
  unfold admitCmd
  dsimp only
  rw [h1, h2]
  have ha := authenticate_signed c.role c.serviceOnly (requestOf c (signed c rq s)) (takeRequest (requestOf c (signed c rq s)) s) h3
  simp only [Option.isSome_none, Bool.false_eq_true, if_false]
  show (match authenticate c.role c.serviceOnly (requestOf c (signed c rq s))
      (signWith (takeRequest (requestOf c (signed c rq s)) s) (requestOf c (signed c rq s)).object
        (requestOf c (signed c rq s)).inst (macPayload (requestOf c (signed c rq s))))
      (takeRequest (requestOf c (signed c rq s)) s) with
    | (.refused _ _, _) => none
    | (.passed, u) => if argStatus c (requestOf c (signed c rq s)) u = stDone then some u else none) = _
  rw [ha]
  dsimp only
  exact if_pos h4

/-- A plain command, admitted. -/
theorem admits_plain (c : CmdSpec) (rq : CmdReq) (s : State)
    (h : (rq.trailer.isNone && c.plain && (gate (requestOf c rq) s).isNone && !modeRefuses c (takeRequest (requestOf c rq) s)
      && decide (argStatus c (requestOf c rq) (takeRequest (requestOf c rq) s) = stDone)) = true) :
    admitCmd c rq s = some (takeRequest (requestOf c rq) s) := by
  simp only [Bool.and_eq_true, Bool.not_eq_true', decide_eq_true_eq, Option.isNone_iff_eq_none] at h
  obtain ⟨⟨⟨⟨h1, h2⟩, h3⟩, h4⟩, h5⟩ := h
  unfold admitCmd
  dsimp only
  rw [h3, h4]
  have ht : (requestOf c rq).trailer = none := h1
  rw [ht]
  simp [h2, h5]

/-- Stage 7 of a kind (1 feeds string 3), its FLAGS as given, with phase 0 working. -/
def stringStages (kind flags : Nat) : Nat × Bytes :=
  (tyStages, put 1616 [(0, 1, 1), (16, 1, 7), (17, 1, 1), (1552, 1, 7), (1553, 1, kind), (1554, 1, flags), (1583, 1, 3)])


/-- A request for data without a trailer, admitted. -/
theorem admitsData (r : Request) (s : State)
    (h : (r.trailer.isNone && (gate r s).isNone && !bootRefuses (takeRequest r s) r
      && !((takeRequest r s).mode == .test && (r.op == 2 || r.op == 3))) = true) :
    admitData r s = some (takeRequest r s) := by
  simp only [Bool.and_eq_true, Bool.not_eq_true', Option.isNone_iff_eq_none] at h
  obtain ⟨⟨⟨h1, h2⟩, h3⟩, h4⟩ := h
  unfold admitData
  dsimp only
  rw [h2, h3, h4, h1]
  rfl

/-- A WRITE_AUTH of channel 0 to a data object. -/
def signedData (o : Nat) (rq : Request) (s : State) : Request :=
  { rq with trailer := some (signWith s o rq.inst (leBytes 4 rq.offset ++ rq.data)) }

theorem admitsSigned (o : Nat) (rq : Request) (s : State)
    (h : ((gate (writeOf o (signedData o rq s)) s).isNone
      && !bootRefuses (takeRequest (writeOf o (signedData o rq s)) s) (writeOf o (signedData o rq s))
      && !((takeRequest (writeOf o (signedData o rq s)) s).mode == .test)
      && mayAct (dataRole o) (o == 0x0605) (writeOf o (signedData o rq s)) (signWith s o rq.inst (leBytes 4 rq.offset ++ rq.data))
        (takeRequest (writeOf o (signedData o rq s)) s)) = true) :
    admitData (writeOf o (signedData o rq s)) s
      = some (takenBy (o == 0x0605) (writeOf o (signedData o rq s)) (signWith s o rq.inst (leBytes 4 rq.offset ++ rq.data)) s) := by
  simp only [Bool.and_eq_true, Bool.not_eq_true', Option.isNone_iff_eq_none] at h
  obtain ⟨⟨⟨h1, h2⟩, h3⟩, h4⟩ := h
  unfold admitData
  dsimp only
  rw [h1, h2, h3]
  have ha := authenticate_signed (dataRole o) (o == 0x0605) (writeOf o (signedData o rq s)) (takeRequest (writeOf o (signedData o rq s)) s) h4
  have hs : ((o == 0x0605) && ((writeOf o (signedData o rq s)).op == 3)) = (o == 0x0605) := by
    show ((o == 0x0605) && true) = _
    exact Bool.and_true _
  simp only [Option.isSome_none, Bool.false_eq_true, if_false, Bool.false_and, Bool.or_self]
  show (match authenticate (dataRole o) (o == 0x0605 && (writeOf o (signedData o rq s)).op == 3) (writeOf o (signedData o rq s))
      (signWith (takeRequest (writeOf o (signedData o rq s)) s) (writeOf o (signedData o rq s)).object
        (writeOf o (signedData o rq s)).inst (macPayload (writeOf o (signedData o rq s))))
      (takeRequest (writeOf o (signedData o rq s)) s) with
    | (.refused _ _, _) => none
    | (.passed, u) => some u) = _
  rw [hs, ha]
  rfl

/-! ## Values the manual works out -/

/-- The check values of R29, R86 and R307. -/
theorem test_crc_check_values : crc32c (ascii "123456789") = 0xE3069283 ∧ crc16 (ascii "123456789") = 0x29B1 ∧
    crcErdun (ascii "123456789") = 0xFC891918 := by decide +kernel

/-- The sense entry of the examples of R124 and R129. -/
def senseExample : Bytes :=
  put 64 [(0, 1, 16), (4, 2, 65386), (6, 2, 250), (8, 4, 16777), (12, 4, 80000), (28, 4, 60000), (32, 4, 40000), (36, 2, 1000), (38, 2, 500)]

/-- R124's example: 23.467 A at 125.00 °C. -/
theorem test_current_is_scaled : scaleI senseExample (spIOff senseExample) 2514944 12500 = 23467 := by decide +kernel

/-- R129's example: 47,500 mA at 125.00 °C. -/
theorem test_oc_limit_falls : ocLimitOf senseExample 12500 = 47500 := by decide +kernel

/-- R154's example: KP of 6,012,954 under CE −11 on 1,500 mA gives 4,404,019. -/
theorem test_product_and_result : (((({} : Acc).add (prod 6012954 1500 (-11) 23 0)).result).1) = 4404019 := by decide +kernel

/-- R233's example: 1,015,000 W of 1,200,000 W is 81 µs. -/
theorem test_capo_high_time :
    capoHigh [(tyBalance, put 96 [(64, 1, 1), (68, 4, 1200000)])] 0 1015000 = 81 ∧
    capoHigh [(tyBalance, put 96 [(64, 1, 1), (68, 4, 1200000)])] 0 0 = 5 := by decide +kernel

/-- Chapter 04's example of an edge entry. -/
theorem test_edge_entry_bytes :
    edgeBytes { slot := 0, kind := 1, rise := 1000000006000, fall := 1000000025200, dtLead := 16, dtTrail := 20, seq := 5, lsEn := true }
      = [0x08, 0x70, 0x27, 0xA5, 0x70, 0x72, 0xA5, 0x10, 0x14, 0x45] := by decide +kernel

/-- The curve of R256's example at 25.0 °C: 3.2900 V at 50 %, 3.2980 V at 70 %, OCV_SIGMA 1.0 mV. -/
def curveExample : Bytes := put 1176 [(16, 2, 10), (20, 1, 2), (21, 1, 1), (24, 2, 5000), (26, 2, 7000), (88, 2, 250), (152, 2, 32900), (154, 2, 32980)]

/-- R256's example: SOC_o 62.50 %, U_o 2.50 %; fused 62.80 % and 2.24 %. -/
theorem test_open_circuit_read :
    socOut (socOf curveExample false 250 (32950 * 2 ^ 32)).1 = 6250 ∧ socOut (socOf curveExample false 250 (32950 * 2 ^ 32)).2 = 250 ∧
    socOut (fuseCell (6250 * socOne) (250 * socOne) { soc := 6400 * socOne, u := 500 * socOne }).soc = 6280 ∧
    socOut (fuseCell (6250 * socOne) (250 * socOne) { soc := 6400 * socOne, u := 500 * socOne }).u = 224 := by decide +kernel

/-- R265's example: 240 cells at E 3.2800 V with Reff 0.867662 mΩ, bounded to 180 A and 54 A. -/
theorem test_power_limits :
    powerLimits (put 64 [(12, 2, 25000), (14, 2, 36500)]) 975 (180000 * 65536) (54000 * 65536)
      (List.replicate 240 (32800 * 2 ^ 32, 867662 * 65536 / 1000)) = (131575, 44221) := by decide +kernel

/-- R286's example: −25 steps of 48,000 mV are 45,000 mV. -/
theorem test_margin_target : targetOf 48000 (-25) = 100 * 45000 := by decide +kernel

/-- The record of chapter 13's example, with 37 repeats. -/
theorem test_record_header :
    (recordBody {
      code := 0x0405, severity := 5, rep := 37, payload := [1, 3, 0, 0, 0, 0, 0, 0], opSeconds := 30000000, powerCycles := 4772
      seq := some (seqOf 3 500), stagedAt := 0 }).take 16
      = [0x05, 0x04, 0x02, 0xA4, 0x12, 0x00, 0x25, 0xA0, 0xF4, 0x01, 0x00, 0x03, 0x80, 0xC3, 0xC9, 0x01] := by decide +kernel

/-- Chapter 16's example: a READ of cell 131 of string 5. -/
theorem test_request_bytes_are_read :
    requestAt .can0 [0x01, 0x22, 0x02, 0x0A, 0x83, 0x05, 0, 0, 0, 0, 0x14, 0]
      = { port := .can0, op := 1, tag := 0x22, object := 0x0A02, inst := 256 * 5 + 131, offset := 0, length := 20 } := by decide +kernel

/-- Chapter 16's example: what that read answers. -/
theorem test_cell_state_bytes :
    cellState { live .run [(tyMaquette, put 64 [(27, 1, 3)])] with
        now := 40 * msTicks
        maq := { strings := [(5, { lastSet := some (0, 0), cells := [(131, {
          v := some 32950, temp := 185, soc := 6250 * socOne, u := 224 * socOne, q := 17850 * 65536, r := 312 * 65536, r0 := 300, bleeding := true })] })] } } 5 131
      = [0xB6, 0x80, 0xB9, 0x00, 0x6A, 0x18, 0xE0, 0x00, 0xBA, 0x45, 0x38, 0x01, 0x2C, 0x01, 0x01, 0x00, 0x28, 0, 0, 0] := by decide +kernel

/-- Chapter 15's example after Table 15.5: CAUSES read after 62 ms, and FLAGS already 0. -/
theorem test_attention_read_answers :
    (match exec (.attentionStatusRead (62 * msTicks) { port := .tw, op := 1, tag := 0x11, object := 0x0F01, inst := 0, offset := 0, length := 32 })
        { live .run [(tyHost, put 160 [(0, 1, 1)])] with host := {
          causes := 1, newestFault := 0x0906, pulses := 7, escalations := 1, ports := [(0, { hostSettings := true })] } } with
      | .next v => twBytes v 18
      | _ => []) = [0x00, 0x11, 0, 0, 0x20, 0, 0x01, 0, 0, 0, 0x06, 0x09, 0, 0, 0x3E, 0, 0, 0] := by decide +kernel

/-! ## The queue and the word decoder -/

/-- The front command runs on the rest of the queue; an empty queue idles. -/
theorem test_step_runs_the_front :
    step { State.reset with pending := [.rackOnChange 5 false, .rackOnChange 6 true] } = exec (.rackOnChange 5 false) { State.reset with pending := [.rackOnChange 6 true] } ∧
    step State.reset = .next State.reset := ⟨rfl, rfl⟩

/-- The table gives no row bits, so no word spells a command. -/
theorem test_no_word_spells_a_command : decodeTableWord 8 0 = none ∧ State.reset.withFetchWord 8 0 = State.reset := ⟨rfl, rfl⟩

theorem witness_StepRunsFrontCommand :
    (∃ (c : Instr) (rest : List Instr) (s : State),
      s.pending = c :: rest) ∧
    (∃ (s : State),
      s.pending = []) :=
  ⟨⟨.safeIn ⟨5, true, 0⟩, [.tapReset 6], { pending := [.safeIn ⟨5, true, 0⟩, .tapReset 6] }, by decide +kernel⟩,
   ⟨State.reset, by decide +kernel⟩⟩

theorem witness_EveryStepKeepsFlashCanonical :
    (∃ (s : State) (t : State),
      s.flashesWf = true ∧
      step s = .next t) :=
  ⟨{ pending := [.rstN 7], cs0 := [(5, 1)] }, _, by decide +kernel, rfl⟩

theorem witness_FusesAreNeverCleared :
    (∃ (s : State) (t : State) (i : Nat),
      step s = .next t ∧
      s.benra.fuses.testBit i = true) :=
  ⟨{ pending := [.vaoPor 7] }, _, 320, rfl, by decide +kernel⟩

theorem witness_ResetSources :
    (∃ (t : Nat) (s : State) (a : State),
      a = advance t s ∧
      a.mode ≠ .dormant) ∧
    (∃ (t : Nat) (s : State) (a : State),
      a = advance t s ∧
      a.mode = .dormant) ∧
    (∃ (t : Nat) (s : State) (a : State),
      a = advance t s ∧
      a.phase ≠ .inReset ∧
      a.phase ≠ .started) ∧
    (∃ (t : Nat) (s : State) (a : State),
      a = advance t s ∧
      (a.phase = .inReset ∨ a.phase = .started)) :=
  ⟨⟨0, State.reset, _, rfl, by decide +kernel⟩,
   ⟨0, { mode := .dormant }, _, rfl, by decide +kernel⟩,
   ⟨0, live .run [], _, rfl, by decide +kernel⟩,
   ⟨0, State.reset, _, rfl, by decide +kernel⟩⟩

def guarded : State := { live .run [(tyClockPower, put 48 [(6, 2, 20), (8, 2, 5)])] with now := 5 * msTicks }

theorem witness_WatchdogResets :
    (∃ (t : Nat) (service : Bool) (s : State) (a : State),
      a = advance t s ∧
      a.mode ≠ .dormant ∧
      a.mode ≠ .test ∧
      a.phase ≠ .inReset ∧
      (wdtTimeout a ≤ a.now - a.plinth.wdtServed ∨ service = true ∧ a.now - a.plinth.wdtServed < wdtWindow a)) ∧
    (∃ (t : Nat) (s : State) (a : State),
      a = advance t s ∧
      a.mode ≠ .dormant ∧
      a.mode ≠ .test ∧
      a.phase ≠ .inReset ∧
      a.now - a.plinth.wdtServed < wdtTimeout a ∧
      wdtWindow a ≤ a.now - a.plinth.wdtServed) ∧
    (∃ (t : Nat) (s : State) (a : State),
      a = advance t s ∧
      a.mode ≠ .dormant ∧
      a.mode ≠ .test ∧
      a.phase ≠ .inReset ∧
      a.now - a.plinth.wdtServed < wdtTimeout a) ∧
    (∃ (t : Nat) (s : State) (a : State),
      a = advance t s ∧
      (a.mode = .dormant ∨ a.mode = .test)) :=
  ⟨⟨0, false, { live .run [] with now := 5 }, _, rfl, by decide +kernel⟩,
   ⟨0, guarded, _, rfl, by decide +kernel⟩,
   ⟨0, guarded, _, rfl, by decide +kernel⟩,
   ⟨0, { mode := .test }, _, rfl, by decide +kernel⟩⟩

def sleeper (wakes : Nat) : State :=
  { mode := .dormant, now := 10 * secTicks, plinth := { wakeSources := wakes, wakeInterval := 7 }, pins := { powerGood := true } }

theorem witness_BootIsEntered :
    (∃ (t : Nat) (s : State) (a : State),
      a = advance t s ∧
      a.phase = .inReset ∧
      (a.mode ≠ .dormant ∨ a.plinth.wakeHeld = true)) ∧
    (∃ (t : Nat) (s : State) (a : State),
      a = advance t s ∧
      a.phase ≠ .inReset) ∧
    (∃ (t : Nat) (s : State) (a : State),
      a = advance t s ∧
      a.mode = .dormant ∧
      a.phase = .inReset ∧
      a.pins.powerGood = true) ∧
    (∃ (t : Nat) (s : State) (a : State),
      a = advance t s ∧
      a.mode = .dormant ∧
      a.phase = .inReset ∧
      a.pins.powerGood = true ∧
      bit a.plinth.wakeSources 3 = true) ∧
    (∃ (t : Nat) (s : State) (a : State),
      a = advance t s ∧
      a.mode = .dormant ∧
      a.phase = .inReset ∧
      a.pins.powerGood = true ∧
      bit a.plinth.wakeSources 3 = false) ∧
    (∃ (t : Nat) (s : State) (a : State),
      a = advance t s ∧
      a.mode = .dormant ∧
      a.phase = .inReset ∧
      a.pins.powerGood = true ∧
      bit a.plinth.wakeSources 2 = true ∧
      a.plinth.wakeInterval ≠ 0 ∧
      a.plinth.dormantSince + a.plinth.wakeInterval * secTicks ≤ a.now) ∧
    (∃ (t : Nat) (s : State) (a : State),
      a = advance t s ∧
      a.mode = .dormant ∧
      a.phase = .inReset ∧
      a.pins.powerGood = true ∧
      bit a.plinth.wakeSources 1 = true ∧
      a.plinth.wakeHeld = false) ∧
    (∃ (t : Nat) (s : State) (a : State),
      a = advance t s ∧
      a.mode = .dormant ∧
      a.phase = .inReset ∧
      a.pins.powerGood = true ∧
      bit a.plinth.wakeSources 1 = false) ∧
    (∃ (t : Nat) (s : State) (a : State),
      a = advance t s ∧
      a.mode = .dormant ∧
      a.pins.powerGood = false) :=
  ⟨⟨0, State.reset, _, rfl, by decide +kernel⟩,
   ⟨0, live .run [], _, rfl, by decide +kernel⟩,
   ⟨0, sleeper 1, _, rfl, by decide +kernel⟩,
   ⟨0, sleeper 9, _, rfl, by decide +kernel⟩,
   ⟨0, sleeper 1, _, rfl, by decide +kernel⟩,
   ⟨0, sleeper 4, _, rfl, by decide +kernel⟩,
   ⟨0, sleeper 2, _, rfl, by decide +kernel⟩,
   ⟨0, sleeper 1, _, rfl, by decide +kernel⟩,
   ⟨0, { mode := .dormant }, _, rfl, by decide +kernel⟩⟩

theorem witness_MemoryIsTestedAndRepaired :
    (∃ (t : Nat) (s : State) (a : State),
      a = advance t s ∧
      a.phase = .started) ∧
    (∃ (t : Nat) (failing : List (Nat × Nat)) (s : State) (a : State),
      a = advance t s ∧
      a.phase = .clocked ∧
      (∀ b, b < 8 → bankFails a failing b = false)) ∧
    (∃ (t : Nat) (failing : List (Nat × Nat)) (s : State) (a : State), ∃ k,
      a = advance t s ∧
      a.phase = .clocked ∧
      k < 8 ∧
      bankFails a failing k = true) :=
  ⟨⟨0, { phase := .started }, _, rfl, by decide +kernel⟩,
   ⟨0, [(7, 3), (7, 3)], { phase := .clocked }, _, rfl, by decide +kernel⟩,
   ⟨0, [(7, 1), (7, 2), (7, 3), (7, 4), (7, 5), (7, 6), (7, 7), (7, 8), (7, 9)], { phase := .clocked }, _, 7, rfl, by decide +kernel⟩⟩

theorem witness_BenraIsTested :
    (∃ (t : Nat) (s : State) (a : State) (kat : List Bool) (trng : List Bytes) (reads : List Nat) (raw : Bytes),
      a = advance t s ∧
      a.phase = .repaired ∧
      (kat.take 2).any id = true ∧
      (trng.take 2).find? startupPasses = some raw ∧
      readsAgree reads = true ∧
      fuseShipped a = true) ∧
    (∃ (t : Nat) (s : State) (a : State) (kat : List Bool),
      a = advance t s ∧
      a.phase = .repaired ∧
      (kat.take 2).any id = false) ∧
    (∃ (t : Nat) (s : State) (a : State) (kat : List Bool) (trng : List Bytes),
      a = advance t s ∧
      a.phase = .repaired ∧
      (kat.take 2).any id = true ∧
      (trng.take 2).any startupPasses = false) ∧
    (∃ (t : Nat) (s : State) (a : State) (kat : List Bool) (trng : List Bytes) (reads : List Nat),
      a = advance t s ∧
      a.phase = .repaired ∧
      (kat.take 2).any id = true ∧
      (trng.take 2).any startupPasses = true ∧
      (readsAgree reads = false ∨ fuseShipped a = false)) :=
  ⟨⟨0, { phase := .repaired, benra := { fuses := 5 * 2 ^ 320 } }, _, [false, true], [[], List.replicate 512 0x55], [5, 6, 5, 5], List.replicate 512 0x55, rfl, by decide +kernel⟩,
   ⟨0, { phase := .repaired, benra := { fuses := 5 * 2 ^ 320 } }, _, [false, false, true], rfl, by decide +kernel⟩,
   ⟨0, { phase := .repaired, benra := { fuses := 5 * 2 ^ 320 } }, _, [true], [List.replicate 512 0, [], List.replicate 512 0x55], rfl, by decide +kernel⟩,
   ⟨0, { phase := .repaired, benra := { fuses := 5 * 2 ^ 320 } }, _, [true], [List.replicate 512 0x55], [5, 6, 5, 7], rfl, by decide +kernel⟩⟩

theorem witness_FlashIsReadAndSlotsAreTried :
    (∃ (t : Nat) (s : State) (a : State),
      a = advance t s ∧
      a.phase = .tested) ∧
    (∃ (t : Nat) (s : State) (a : State), ∃ slot rest,
      a = advance t s ∧
      a.phase = .flashRead ∧
      a.loader.toTry = slot :: rest) :=
  ⟨⟨0, { phase := .tested }, _, rfl, by decide +kernel⟩,
   ⟨0, { phase := .flashRead, loader := { toTry := [1, 0] } }, _, _, _, rfl, by decide +kernel, rfl⟩⟩

theorem witness_ImageBecomesLive :
    (∃ (t : Nat) (s : State) (a : State) (proofs : List Nat), ∃ i,
      a = advance t s ∧
      a.loader.shadow = some i ∧
      a.phase = .verified ∧
      latchedInputs a = [] ∧
      (8 ≤ ((List.range 9).filter (fun k => proofs.contains k)).length)) ∧
    (∃ (t : Nat) (s : State) (a : State),
      a = advance t s ∧
      isLive a = true ∧
      a.mode = .boot ∧
      a.collector.heldLevel = 0) ∧
    (∃ (t : Nat) (s : State) (a : State),
      a = advance t s ∧
      isLive a = true ∧
      a.mode = .boot ∧
      a.collector.heldLevel ≠ 0) :=
  ⟨⟨0, { phase := .verified, loader := { shadow := some {} } }, _, [0, 1, 2, 3, 4, 5, 6, 7], _, rfl, rfl, by decide +kernel⟩,
   ⟨0, live .boot [], _, rfl, by decide +kernel⟩,
   ⟨0, { live .boot [] with collector := { heldLevel := 2 } }, _, rfl, by decide +kernel⟩⟩

theorem witness_DormancyIsEntered :
    (∃ (t : Nat) (s : State) (a : State),
      a = advance t s ∧
      dormantAllowed a = true) ∧
    (∃ (t : Nat) (s : State) (a : State),
      a = advance t s ∧
      dormantAllowed a = false) :=
  ⟨⟨0, { live .standby [(tyClockPower, put 48 [(11, 1, 1), (12, 2, 9)])] with now := 9 * secTicks }, _, rfl, by decide +kernel⟩,
   ⟨0, { live .standby [(tyClockPower, put 48 [(11, 1, 1), (12, 2, 9)])] with now := 9 * secTicks - 1 }, _, rfl, by decide +kernel⟩⟩

def warm : State := live .run [(tyClockPower, put 48 [(22, 2, 3), (40, 2, 1000), (42, 2, 1250)])]

theorem witness_ScrubbingTemperatureAndPowerFail :
    (∃ (t : Nat) (s : State) (a : State), ∃ bank, ∃ (columns : List (Nat × Nat)) (contexts : List (Nat × Bytes)),
      a = advance t s ∧
      running a = true ∧
      bank < 8 ∧
      (∀ x ∈ columns, x.2 ≤ cpColumnSuspect (secs a)) ∧
      (∀ x ∈ contexts, bank ≠ 2 ∨ crcDiffers a x = false)) ∧
    (∃ (t : Nat) (s : State) (a : State), ∃ bank n,
      a = advance t s ∧
      running a = true ∧
      bank < 8 ∧
      cpColumnSuspect (secs a) < n) ∧
    (∃ (t : Nat) (s : State) (a : State), ∃ bank n, ∃ (x : Nat × Bytes),
      a = advance t s ∧
      running a = true ∧
      bank < 8 ∧
      cpColumnSuspect (secs a) < n ∧
      bank = 2 ∧
      crcDiffers a x = true) ∧
    (∃ (t : Nat) (s : State) (a : State), ∃ bank, ∃ (x : BankAccess) (v : State), ∃ e, ∃ (u : State),
      a = advance t s ∧
      running a = true ∧
      bank < 8 ∧
      v = (if x.waited then noteConflict x.master a else a) ∧
      (e = (fun (b : Bool) (u : State) => answerMaster x.master b u)) ∧
      x.parityBad = true ∧
      u = chipPulse 0x0207 [x.master, bank] (e true v) ∧
      running u = true) ∧
    (∃ (t : Nat) (s : State) (a : State), ∃ bank, ∃ (x : BankAccess) (v : State), ∃ e, ∃ (u : State),
      a = advance t s ∧
      running a = true ∧
      bank < 8 ∧
      v = (if x.waited then noteConflict x.master a else a) ∧
      (e = (fun (b : Bool) (u : State) => answerMaster x.master b u)) ∧
      x.parityBad = false ∧
      bankAllows a.mode bank (bankMaster x.master) x.write = false ∧
      u = chipPulse 0x0206 [x.master, bank] (e true v) ∧
      running u = true) ∧
    (∃ (t : Nat) (s : State) (a : State), ∃ bank, ∃ (x : BankAccess),
      a = advance t s ∧
      running a = true ∧
      bank < 8 ∧
      x.parityBad = false ∧
      bankAllows a.mode bank (bankMaster x.master) x.write = true ∧
      (x.write = true ∨ x.wrongBits = 0)) ∧
    (∃ (t : Nat) (s : State) (a : State), ∃ bank, ∃ (x : BankAccess),
      a = advance t s ∧
      running a = true ∧
      bank < 8 ∧
      x.parityBad = false ∧
      bankAllows a.mode bank (bankMaster x.master) x.write = true ∧
      x.write = false ∧
      x.wrongBits = 1) ∧
    (∃ (t : Nat) (s : State) (a : State), ∃ bank, ∃ (x : BankAccess) (v : State), ∃ r e, ∃ (u : State),
      a = advance t s ∧
      running a = true ∧
      bank < 8 ∧
      v = (if x.waited then noteConflict x.master a else a) ∧
      r = v.bank bank ∧
      (e = (fun (b : Bool) (u : State) => answerMaster x.master b u)) ∧
      x.parityBad = false ∧
      bankAllows a.mode bank (bankMaster x.master) x.write = true ∧
      x.write = false ∧
      2 ≤ x.wrongBits ∧
      u = chipPulse 0x0201 [bank, x.word]
            (e true (v.setBank bank { r with doubleErrors := sat32 r.doubleErrors 1 })) ∧
      running u = true) ∧
    (∃ (t : Nat) (s : State) (a : State), ∃ tj,
      a = advance t s ∧
      running a = true ∧
      cpTjWarn (secs a) < cpTjLimit (secs a) ∧
      tj < cpTjWarn (secs a)) ∧
    (∃ (t : Nat) (s : State) (a : State), ∃ tj,
      a = advance t s ∧
      running a = true ∧
      cpTjWarn (secs a) < cpTjLimit (secs a) ∧
      cpTjWarn (secs a) ≤ tj ∧
      tj < cpTjLimit (secs a) ∧
      mildReaction (reactionOf a 0x0104 0) = true ∧
      (a.input 0x0104 0).asserted = false) ∧
    (∃ (t : Nat) (s : State) (a : State), ∃ tj,
      a = advance t s ∧
      running a = true ∧
      cpTjWarn (secs a) < cpTjLimit (secs a) ∧
      cpTjLimit (secs a) ≤ tj ∧
      mildReaction (reactionOf a 0x0104 0) = true ∧
      (a.input 0x0104 0).asserted = false ∧
      (a.input 0x0103 0).asserted = false) :=
  ⟨⟨0, warm, _, 7, [(5, 3), (6, 0)], [(0x1000, [1])], rfl, by decide +kernel⟩,
   ⟨0, warm, _, 0, 4, rfl, by decide +kernel⟩,
   ⟨0, { warm with collector := { contextCrc := [(0x1003, 0)] } }, _, 2, 4, (0x1003, [1, 2]), rfl, by decide +kernel⟩,
   ⟨0, warm, _, 6, { master := 0, parityBad := true, waited := true }, _, _, _, rfl, by decide +kernel, by decide +kernel, rfl, rfl, by decide +kernel, rfl, by decide +kernel⟩,
   ⟨0, warm, _, 2, { master := 0, write := true }, _, _, _, rfl, by decide +kernel, by decide +kernel, rfl, rfl, by decide +kernel, by decide +kernel, rfl, by decide +kernel⟩,
   ⟨0, warm, _, 2, { master := 2, write := true, wrongBits := 2 }, rfl, by decide +kernel⟩,
   ⟨0, warm, _, 0, { master := 3, wrongBits := 1 }, rfl, by decide +kernel⟩,
   ⟨0, warm, _, 0, { master := 3, word := 9, wrongBits := 2 }, _, _, _, _, rfl, by decide +kernel, by decide +kernel, rfl, rfl, rfl, by decide +kernel, by decide +kernel, by decide +kernel, by decide +kernel, rfl, by decide +kernel⟩,
   ⟨0, warm, _, 999, rfl, by decide +kernel⟩,
   ⟨0, warm, _, 1249, rfl, by decide +kernel⟩,
   ⟨0, warm, _, 1250, rfl, by decide +kernel⟩⟩

def simple (n : Nat) : CmdReq := { port := .tw, tag := 9, data := leBytes 4 n }

def staging (x : StageSession) (l : Loader) : State :=
  { live .standby [] with now := 100 * secTicks, loader := { l with live := (live .standby []).loader.live, session := some x } }

theorem witness_StagingOpens :
    (∃ (t : Nat) (s : State) (a : State), ∃ rq u n,
      a = advance t s ∧
      admitCmd (stageSpec 0x0D10 4 4) rq a = some u ∧
      n = u32 rq.data 0 ∧
      n % 16 = 0 ∧
      16 ≤ n ∧
      n ≤ maxImage ∧
      u.loader.erasing = false ∧
      u.loader.session = none ∧
      u.loader.verifying = false) ∧
    (∃ (t : Nat) (s : State) (a : State),
      a = advance t s ∧
      a.loader.erasing = true) ∧
    (∃ (t : Nat) (s : State) (a : State), ∃ x,
      a = advance t s ∧
      a.loader.session = some x ∧
      x.lastCmd + 60 * secTicks ≤ a.now) ∧
    (∃ (t : Nat) (s : State) (a : State), ∃ x,
      a = advance t s ∧
      a.loader.session = some x ∧
      a.now < x.lastCmd + 60 * secTicks) :=
  ⟨⟨0, live .standby [], _, signed (stageSpec 0x0D10 4 4) (simple 0x7C00) (advance 0 (live .standby [])), taken (stageSpec 0x0D10 4 4) (simple 0x7C00) (advance 0 (live .standby [])), 0x7C00, rfl, admits _ _ _ (by decide +kernel), by decide +kernel⟩,
   ⟨0, staging { declared := 4096 } { erasing := true }, _, rfl, by decide +kernel⟩,
   ⟨0, staging { declared := 4096, lastCmd := 40 * secTicks } {}, _, _, rfl, rfl, by decide +kernel⟩,
   ⟨0, staging { declared := 4096, lastCmd := 40 * secTicks + 1 } {}, _, _, rfl, rfl, by decide +kernel⟩⟩

def stageWriteReq : CmdReq := { port := .can0, tag := 3, data := leBytes 4 4064 ++ zeros 32 }

theorem witness_StagingWritesAndVerifies :
    (∃ (t : Nat) (s : State) (a : State), ∃ rq u x off b units,
      a = advance t s ∧
      admitCmd (stageSpec 0x0D11 20 260) rq a = some u ∧
      u.loader.session = some x ∧
      u.loader.erasing = false ∧
      off = u32 rq.data 0 ∧
      b = rq.data.drop 4 ∧
      off % 16 = 0 ∧
      b.length % 16 = 0 ∧
      off + b.length ≤ x.declared ∧
      units = (List.range (b.length / 16)).map (off / 16 + ·) ∧
      units.any x.written.contains = false) ∧
    (∃ (t : Nat) (s : State) (a : State), ∃ rq u x off b units,
      a = advance t s ∧
      admitCmd (stageSpec 0x0D11 20 260) rq a = some u ∧
      u.loader.session = some x ∧
      u.loader.erasing = false ∧
      off = u32 rq.data 0 ∧
      b = rq.data.drop 4 ∧
      off % 16 = 0 ∧
      b.length % 16 = 0 ∧
      off + b.length ≤ x.declared ∧
      units = (List.range (b.length / 16)).map (off / 16 + ·) ∧
      units.any x.written.contains = true) ∧
    (∃ (t : Nat) (s : State) (a : State), ∃ rq u,
      a = advance t s ∧
      admitCmd { stageSpec 0x0D12 4 4 with resv := noArgs } rq a = some u ∧
      u.loader.erasing = false) ∧
    (∃ (t : Nat) (s : State) (a : State),
      a = advance t s ∧
      a.loader.verifying = true) :=
  ⟨⟨0, staging { declared := 4096, written := [253, 0] } {}, _, signed (stageSpec 0x0D11 20 260) stageWriteReq (advance 0 (staging { declared := 4096, written := [253, 0] } {})), taken (stageSpec 0x0D11 20 260) stageWriteReq (advance 0 (staging { declared := 4096, written := [253, 0] } {})), _, _, _, _, rfl, admits _ _ _ (by decide +kernel), rfl, by decide +kernel, rfl, rfl, by decide +kernel, by decide +kernel, by decide +kernel, rfl, by decide +kernel⟩,
   ⟨0, staging { declared := 4096, written := [255] } {}, _, signed (stageSpec 0x0D11 20 260) stageWriteReq (advance 0 (staging { declared := 4096, written := [255] } {})), taken (stageSpec 0x0D11 20 260) stageWriteReq (advance 0 (staging { declared := 4096, written := [255] } {})), _, _, _, _, rfl, admits _ _ _ (by decide +kernel), rfl, by decide +kernel, rfl, rfl, by decide +kernel, by decide +kernel, by decide +kernel, rfl, by decide +kernel⟩,
   ⟨0, staging { declared := 4096 } {}, _, signed { stageSpec 0x0D12 4 4 with resv := noArgs } (simple 0) (advance 0 (staging { declared := 4096 } {})), taken { stageSpec 0x0D12 4 4 with resv := noArgs } (simple 0) (advance 0 (staging { declared := 4096 } {})), rfl, admits _ _ _ (by decide +kernel), by decide +kernel⟩,
   ⟨0, staging { declared := 4096 } { verifying := true }, _, rfl, by decide +kernel⟩⟩

theorem witness_StagingCommits :
    (∃ (t : Nat) (rq : CmdReq) (s : State) (u : State), ∃ slot seq base,
      admitCmd { stageSpec 0x0D13 4 4 with resv := noArgs } rq (advance t s) = some u ∧
      u.loader.erasing = false ∧
      slot = inactiveSlot u ∧
      base = commitBase slot ∧
      seq = max (commitSeq u.cs0 0) (commitSeq u.cs0 1) + 1 ∧
      u.loader.verified = true ∧
      seq ≤ 0xFFFFFFFE ∧
      u.pins.pwrFail = false ∧
      flashBlank u.cs0 base 4096 = true) ∧
    (∃ (t : Nat) (rq : CmdReq) (s : State) (u : State),
      admitCmd { stageSpec 0x0D13 4 4 with resv := noArgs } rq (advance t s) = some u ∧
      u.loader.erasing = false ∧
      u.loader.verified = false) ∧
    (∃ (t : Nat) (rq : CmdReq) (s : State) (u : State),
      admitCmd { stageSpec 0x0D14 4 4 with resv := noArgs } rq (advance t s) = some u ∧
      u.loader.erasing = false) :=
  ⟨⟨0, signed { stageSpec 0x0D13 4 4 with resv := noArgs } (simple 0) (advance 0 (staging { declared := 4096 } { verified := true })), staging { declared := 4096 } { verified := true }, taken { stageSpec 0x0D13 4 4 with resv := noArgs } (simple 0) (advance 0 (staging { declared := 4096 } { verified := true })), _, _, _, admits _ _ _ (by decide +kernel), by decide +kernel, rfl, rfl, rfl, by decide +kernel⟩,
   ⟨0, signed { stageSpec 0x0D13 4 4 with resv := noArgs } (simple 0) (advance 0 (staging { declared := 4096 } {})), staging { declared := 4096 } {}, taken { stageSpec 0x0D13 4 4 with resv := noArgs } (simple 0) (advance 0 (staging { declared := 4096 } {})), admits _ _ _ (by decide +kernel), by decide +kernel⟩,
   ⟨0, signed { stageSpec 0x0D14 4 4 with resv := noArgs } (simple 0) (advance 0 (staging { declared := 4096 } { tainted := true })), staging { declared := 4096 } { tainted := true }, taken { stageSpec 0x0D14 4 4 with resv := noArgs } (simple 0) (advance 0 (staging { declared := 4096 } { tainted := true })), admits _ _ _ (by decide +kernel), by decide +kernel⟩⟩

def awaiting : State :=
  { live .run [(tyHost, put 160 [(8, 4, 4)])] with host := { accepted := [(0x0D10, { port := 1, inst := 0, tag := 7 })] } }

theorem witness_AcceptedCommandFinishes :
    (∃ (object : Nat) (s : State), ∃ a,
      Tab.find s.host.accepted object = some a) ∧
    (∃ (object : Nat) (s : State), ∃ a q,
      Tab.find s.host.accepted object = some a ∧
      q ≠ a.port) ∧
    (∃ (object : Nat) (s : State), ∃ a,
      Tab.find s.host.accepted object = some a ∧
      isLive s = true ∧
      bit (hoAttnMask (secs s)) 2 = true) ∧
    (∃ (object : Nat) (s : State),
      Tab.find s.host.accepted object = none) :=
  ⟨⟨0x0D10, awaiting, _, rfl⟩,
   ⟨0x0D10, awaiting, _, 0, rfl, by decide +kernel⟩,
   ⟨0x0D10, awaiting, _, rfl, by decide +kernel⟩,
   ⟨0x0D12, awaiting, by decide +kernel⟩⟩

def rollbackDue : State :=
  { live .standby [] with loader := { live := some { rollbackIndex := 2, sections := [(tyTrust, openTrust)] } } }

def burning (bits : List Nat) (retried : Bool) : State :=
  { live .service [] with benra := { fuseOp := some { purpose := .rollback, bits := bits, retried := retried } } }

/-- A fuse operation of two bits while PWR_FAIL_N is asserted. -/
def fuseHeld (held : Bool) : State :=
  { live .service [] with
    pins := { pwrFail := true }
    benra := { fuseOp := some { purpose := .rollback, bits := [2304, 2305], held := held } } }
def patchDue : State :=
  { live .service [] with benra := { (live .service []).benra with patch := some (7, 1) } }

theorem witness_FusesAreProgrammed :
    (∃ (t : Nat) (vpp : Nat) (s : State) (a : State) (p : State), ∃ rq u,
      a = advance t s ∧
      p = { a with pins := { a.pins with vppFuse := vpp } } ∧
      admitCmd { object := 0x0D15, role := some 1, lo := 4, hi := 4, resv := noArgs } rq p = some u ∧
      u.mode ≠ .standby ∧
      u.mode ≠ .service) ∧
    (∃ (t : Nat) (vpp : Nat) (s : State) (a : State) (p : State), ∃ rq u,
      a = advance t s ∧
      p = { a with pins := { a.pins with vppFuse := vpp } } ∧
      admitCmd { object := 0x0D15, role := some 1, lo := 4, hi := 4, resv := noArgs } rq p = some u ∧
      (u.mode = .standby ∨ u.mode = .service) ∧
      vppIn u.pins.vppFuse = false) ∧
    (∃ (t : Nat) (vpp : Nat) (s : State) (a : State) (p : State), ∃ rq u i,
      a = advance t s ∧
      p = { a with pins := { a.pins with vppFuse := vpp } } ∧
      admitCmd { object := 0x0D15, role := some 1, lo := 4, hi := 4, resv := noArgs } rq p = some u ∧
      (u.mode = .standby ∨ u.mode = .service) ∧
      vppIn u.pins.vppFuse = true ∧
      u.loader.live = some i ∧
      i.rollbackIndex ≤ rollbackCount u) ∧
    (∃ (t : Nat) (vpp : Nat) (s : State) (a : State) (p : State), ∃ rq u i,
      a = advance t s ∧
      p = { a with pins := { a.pins with vppFuse := vpp } } ∧
      admitCmd { object := 0x0D15, role := some 1, lo := 4, hi := 4, resv := noArgs } rq p = some u ∧
      (u.mode = .standby ∨ u.mode = .service) ∧
      vppIn u.pins.vppFuse = true ∧
      u.loader.live = some i ∧
      rollbackCount u < i.rollbackIndex ∧
      u.benra.fuseOp.isSome = true) ∧
    (∃ (t : Nat) (vpp : Nat) (s : State) (a : State) (p : State), ∃ rq u i b, ∃ (bits : List Nat),
      a = advance t s ∧
      p = { a with pins := { a.pins with vppFuse := vpp } } ∧
      admitCmd { object := 0x0D15, role := some 1, lo := 4, hi := 4, resv := noArgs } rq p = some u ∧
      (u.mode = .standby ∨ u.mode = .service) ∧
      vppIn u.pins.vppFuse = true ∧
      u.loader.live = some i ∧
      rollbackCount u < i.rollbackIndex ∧
      u.benra.fuseOp = none ∧
      (owedBits u ++ (stepBits 2304 (rollbackCount u) i.rollbackIndex).filter (fun b => !fuse u b) = b :: bits)) ∧
    (∃ (t : Nat) (vpp : Nat) (s : State) (a : State) (p : State), ∃ rq u,
      a = advance t s ∧
      p = { a with pins := { a.pins with vppFuse := vpp } } ∧
      admitCmd { object := 0x0D16, role := some 1, lo := 4, hi := 4, resv := noArgs } rq p = some u ∧
      u.mode ≠ .standby ∧
      u.mode ≠ .service) ∧
    (∃ (t : Nat) (vpp : Nat) (s : State) (a : State) (p : State), ∃ rq u,
      a = advance t s ∧
      p = { a with pins := { a.pins with vppFuse := vpp } } ∧
      admitCmd { object := 0x0D16, role := some 1, lo := 4, hi := 4, resv := noArgs } rq p = some u ∧
      (u.mode = .standby ∨ u.mode = .service) ∧
      vppIn u.pins.vppFuse = false) ∧
    (∃ (t : Nat) (vpp : Nat) (s : State) (a : State) (p : State), ∃ rq u,
      a = advance t s ∧
      p = { a with pins := { a.pins with vppFuse := vpp } } ∧
      admitCmd { object := 0x0D16, role := some 1, lo := 4, hi := 4, resv := noArgs } rq p = some u ∧
      (u.mode = .standby ∨ u.mode = .service) ∧
      vppIn u.pins.vppFuse = true ∧
      u.benra.patch = none) ∧
    (∃ (t : Nat) (vpp : Nat) (s : State) (a : State) (p : State), ∃ rq u k,
      a = advance t s ∧
      p = { a with pins := { a.pins with vppFuse := vpp } } ∧
      admitCmd { object := 0x0D16, role := some 1, lo := 4, hi := 4, resv := noArgs } rq p = some u ∧
      (u.mode = .standby ∨ u.mode = .service) ∧
      vppIn u.pins.vppFuse = true ∧
      u.benra.patch = some k ∧
      k.2 ≤ patchRollbackCount u) ∧
    (∃ (t : Nat) (vpp : Nat) (s : State) (a : State) (p : State), ∃ rq u k,
      a = advance t s ∧
      p = { a with pins := { a.pins with vppFuse := vpp } } ∧
      admitCmd { object := 0x0D16, role := some 1, lo := 4, hi := 4, resv := noArgs } rq p = some u ∧
      (u.mode = .standby ∨ u.mode = .service) ∧
      vppIn u.pins.vppFuse = true ∧
      u.benra.patch = some k ∧
      patchRollbackCount u < k.2 ∧
      u.benra.fuseOp.isSome = true) ∧
    (∃ (t : Nat) (vpp : Nat) (s : State) (a : State) (p : State), ∃ rq u k b, ∃ (bits : List Nat),
      a = advance t s ∧
      p = { a with pins := { a.pins with vppFuse := vpp } } ∧
      admitCmd { object := 0x0D16, role := some 1, lo := 4, hi := 4, resv := noArgs } rq p = some u ∧
      (u.mode = .standby ∨ u.mode = .service) ∧
      vppIn u.pins.vppFuse = true ∧
      u.benra.patch = some k ∧
      patchRollbackCount u < k.2 ∧
      u.benra.fuseOp = none ∧
      (owedBits u ++ (stepBits 2432 (patchRollbackCount u) k.2).filter (fun b => !fuse u b) = b :: bits)) ∧
    (∃ (t : Nat) (s : State) (a : State),
      a = advance t s ∧
      a.benra.fuseOp = none) ∧
    (∃ (t : Nat) (s : State) (a : State), ∃ o b rest,
      a = advance t s ∧
      a.benra.fuseOp = some o ∧
      o.bits = b :: rest ∧
      o.held = true ∧
      fuseMayStart a = false) ∧
    (∃ (t : Nat) (s : State) (a : State), ∃ o b rest,
      a = advance t s ∧
      a.benra.fuseOp = some o ∧
      o.bits = b :: rest ∧
      (o.held = false ∨ fuseMayStart a = true) ∧
      rest = []) ∧
    (∃ (t : Nat) (vpp : Nat) (s : State) (a : State), ∃ o b rest n more,
      a = advance t s ∧
      a.benra.fuseOp = some o ∧
      o.bits = b :: rest ∧
      (o.held = false ∨ fuseMayStart a = true) ∧
      rest = n :: more ∧
      vppIn vpp = true) ∧
    (∃ (t : Nat) (vpp : Nat) (s : State) (a : State), ∃ o b rest n more,
      a = advance t s ∧
      a.benra.fuseOp = some o ∧
      o.bits = b :: rest ∧
      (o.held = false ∨ fuseMayStart a = true) ∧
      rest = n :: more ∧
      vppIn vpp = false) ∧
    (∃ (t : Nat) (s : State) (a : State), ∃ o b rest,
      a = advance t s ∧
      a.benra.fuseOp = some o ∧
      o.bits = b :: rest ∧
      (o.held = false ∨ fuseMayStart a = true) ∧
      o.retried = false) ∧
    (∃ (t : Nat) (s : State) (a : State), ∃ o b rest,
      a = advance t s ∧
      a.benra.fuseOp = some o ∧
      o.bits = b :: rest ∧
      (o.held = false ∨ fuseMayStart a = true) ∧
      o.retried = true) :=
  ⟨⟨0, 1800, { rollbackDue with mode := .run }, _, _, signed { object := 0x0D15, role := some 1, lo := 4, hi := 4, resv := noArgs } (simple 0) ({ (advance 0 { rollbackDue with mode := .run }) with pins := { (advance 0 { rollbackDue with mode := .run }).pins with vppFuse := 1800 } } : State), taken { object := 0x0D15, role := some 1, lo := 4, hi := 4, resv := noArgs } (simple 0) ({ (advance 0 { rollbackDue with mode := .run }) with pins := { (advance 0 { rollbackDue with mode := .run }).pins with vppFuse := 1800 } } : State), rfl, rfl, admits _ _ _ (by decide +kernel), by decide +kernel⟩,
   ⟨0, 0, rollbackDue, _, _, signed { object := 0x0D15, role := some 1, lo := 4, hi := 4, resv := noArgs } (simple 0) ({ (advance 0 rollbackDue) with pins := { (advance 0 rollbackDue).pins with vppFuse := 0 } } : State), taken { object := 0x0D15, role := some 1, lo := 4, hi := 4, resv := noArgs } (simple 0) ({ (advance 0 rollbackDue) with pins := { (advance 0 rollbackDue).pins with vppFuse := 0 } } : State), rfl, rfl, admits _ _ _ (by decide +kernel), by decide +kernel⟩,
   ⟨0, 1800, live .standby [], _, _, signed { object := 0x0D15, role := some 1, lo := 4, hi := 4, resv := noArgs } (simple 0) ({ (advance 0 (live .standby [])) with pins := { (advance 0 (live .standby [])).pins with vppFuse := 1800 } } : State), taken { object := 0x0D15, role := some 1, lo := 4, hi := 4, resv := noArgs } (simple 0) ({ (advance 0 (live .standby [])) with pins := { (advance 0 (live .standby [])).pins with vppFuse := 1800 } } : State), _, rfl, rfl, admits _ _ _ (by decide +kernel), by decide +kernel, by decide +kernel, rfl, by decide +kernel⟩,
   ⟨0, 1800, { rollbackDue with benra := { rollbackDue.benra with fuseOp := some { purpose := .rollback, bits := [2400] } } }, _, _, signed { object := 0x0D15, role := some 1, lo := 4, hi := 4, resv := noArgs } (simple 0) ({ (advance 0 { rollbackDue with benra := { rollbackDue.benra with fuseOp := some { purpose := .rollback, bits := [2400] } } }) with pins := { (advance 0 { rollbackDue with benra := { rollbackDue.benra with fuseOp := some { purpose := .rollback, bits := [2400] } } }).pins with vppFuse := 1800 } } : State), taken { object := 0x0D15, role := some 1, lo := 4, hi := 4, resv := noArgs } (simple 0) ({ (advance 0 { rollbackDue with benra := { rollbackDue.benra with fuseOp := some { purpose := .rollback, bits := [2400] } } }) with pins := { (advance 0 { rollbackDue with benra := { rollbackDue.benra with fuseOp := some { purpose := .rollback, bits := [2400] } } }).pins with vppFuse := 1800 } } : State), _, rfl, rfl, admits _ _ _ (by decide +kernel), by decide +kernel, by decide +kernel, rfl, by decide +kernel⟩,
   ⟨0, 1800, rollbackDue, _, _, signed { object := 0x0D15, role := some 1, lo := 4, hi := 4, resv := noArgs } (simple 0) ({ (advance 0 rollbackDue) with pins := { (advance 0 rollbackDue).pins with vppFuse := 1800 } } : State), taken { object := 0x0D15, role := some 1, lo := 4, hi := 4, resv := noArgs } (simple 0) ({ (advance 0 rollbackDue) with pins := { (advance 0 rollbackDue).pins with vppFuse := 1800 } } : State), _, 2304, [2305, 2306, 2307], rfl, rfl, admits _ _ _ (by decide +kernel), by decide +kernel, by decide +kernel, rfl, by decide +kernel⟩,
   ⟨0, 1800, { patchDue with mode := .safe }, _, _, signed { object := 0x0D16, role := some 1, lo := 4, hi := 4, resv := noArgs } (simple 0) ({ (advance 0 { patchDue with mode := .safe }) with pins := { (advance 0 { patchDue with mode := .safe }).pins with vppFuse := 1800 } } : State), taken { object := 0x0D16, role := some 1, lo := 4, hi := 4, resv := noArgs } (simple 0) ({ (advance 0 { patchDue with mode := .safe }) with pins := { (advance 0 { patchDue with mode := .safe }).pins with vppFuse := 1800 } } : State), rfl, rfl, admits _ _ _ (by decide +kernel), by decide +kernel⟩,
   ⟨0, 0, patchDue, _, _, signed { object := 0x0D16, role := some 1, lo := 4, hi := 4, resv := noArgs } (simple 0) ({ (advance 0 patchDue) with pins := { (advance 0 patchDue).pins with vppFuse := 0 } } : State), taken { object := 0x0D16, role := some 1, lo := 4, hi := 4, resv := noArgs } (simple 0) ({ (advance 0 patchDue) with pins := { (advance 0 patchDue).pins with vppFuse := 0 } } : State), rfl, rfl, admits _ _ _ (by decide +kernel), by decide +kernel⟩,
   ⟨0, 1800, rollbackDue, _, _, signed { object := 0x0D16, role := some 1, lo := 4, hi := 4, resv := noArgs } (simple 0) ({ (advance 0 rollbackDue) with pins := { (advance 0 rollbackDue).pins with vppFuse := 1800 } } : State), taken { object := 0x0D16, role := some 1, lo := 4, hi := 4, resv := noArgs } (simple 0) ({ (advance 0 rollbackDue) with pins := { (advance 0 rollbackDue).pins with vppFuse := 1800 } } : State), rfl, rfl, admits _ _ _ (by decide +kernel), by decide +kernel⟩,
   ⟨0, 1800, { patchDue with benra := { patchDue.benra with fuses := 3 * 2 ^ 2432 } }, _, _, signed { object := 0x0D16, role := some 1, lo := 4, hi := 4, resv := noArgs } (simple 0) ({ (advance 0 { patchDue with benra := { patchDue.benra with fuses := 3 * 2 ^ 2432 } }) with pins := { (advance 0 { patchDue with benra := { patchDue.benra with fuses := 3 * 2 ^ 2432 } }).pins with vppFuse := 1800 } } : State), taken { object := 0x0D16, role := some 1, lo := 4, hi := 4, resv := noArgs } (simple 0) ({ (advance 0 { patchDue with benra := { patchDue.benra with fuses := 3 * 2 ^ 2432 } }) with pins := { (advance 0 { patchDue with benra := { patchDue.benra with fuses := 3 * 2 ^ 2432 } }).pins with vppFuse := 1800 } } : State), _, rfl, rfl, admits _ _ _ (by decide +kernel), by decide +kernel, by decide +kernel, rfl, by decide +kernel⟩,
   ⟨0, 1800, { patchDue with benra := { patchDue.benra with fuseOp := some { purpose := .rollback, bits := [2400] } } }, _, _, signed { object := 0x0D16, role := some 1, lo := 4, hi := 4, resv := noArgs } (simple 0) ({ (advance 0 { patchDue with benra := { patchDue.benra with fuseOp := some { purpose := .rollback, bits := [2400] } } }) with pins := { (advance 0 { patchDue with benra := { patchDue.benra with fuseOp := some { purpose := .rollback, bits := [2400] } } }).pins with vppFuse := 1800 } } : State), taken { object := 0x0D16, role := some 1, lo := 4, hi := 4, resv := noArgs } (simple 0) ({ (advance 0 { patchDue with benra := { patchDue.benra with fuseOp := some { purpose := .rollback, bits := [2400] } } }) with pins := { (advance 0 { patchDue with benra := { patchDue.benra with fuseOp := some { purpose := .rollback, bits := [2400] } } }).pins with vppFuse := 1800 } } : State), _, rfl, rfl, admits _ _ _ (by decide +kernel), by decide +kernel, by decide +kernel, rfl, by decide +kernel⟩,
   ⟨0, 1800, patchDue, _, _, signed { object := 0x0D16, role := some 1, lo := 4, hi := 4, resv := noArgs } (simple 0) ({ (advance 0 patchDue) with pins := { (advance 0 patchDue).pins with vppFuse := 1800 } } : State), taken { object := 0x0D16, role := some 1, lo := 4, hi := 4, resv := noArgs } (simple 0) ({ (advance 0 patchDue) with pins := { (advance 0 patchDue).pins with vppFuse := 1800 } } : State), _, 2432, [2433], rfl, rfl, admits _ _ _ (by decide +kernel), by decide +kernel, by decide +kernel, rfl, by decide +kernel⟩,
   ⟨0, live .service [], _, rfl, by decide +kernel⟩,
   ⟨0, fuseHeld true, _, _, _, _, rfl, rfl, rfl, by decide +kernel⟩,
   ⟨0, burning [2304] false, _, _, _, _, rfl, rfl, rfl, by decide +kernel, rfl⟩,
   ⟨0, 1800, fuseHeld false, _, _, _, _, _, _, rfl, rfl, rfl, by decide +kernel, rfl, by decide +kernel⟩,
   ⟨0, 0, fuseHeld false, _, _, _, _, _, _, rfl, rfl, rfl, by decide +kernel, rfl, by decide +kernel⟩,
   ⟨0, burning [2304, 2305] false, _, _, _, _, rfl, rfl, rfl, by decide +kernel⟩,
   ⟨0, burning [2304] true, _, _, _, _, rfl, rfl, rfl, by decide +kernel⟩⟩

/-- The public key of private key 1. -/
def keyOne : Bytes := [0x04] ++ beBytes 48 p384G.1 ++ beBytes 48 p384G.2

/-- The fuses of a chip enrolled by the hash `h` in owner slot 0. -/
def enrolled (h : Bytes) : Nat := 3 * 2 ^ 320 + leNat h * 2 ^ 512 + crc32c h * 2 ^ 896 + 2 ^ 928

def owned (m : Mode) (q : Secs) : State :=
  { live m q with
    loader := { live := (live m q).loader.live.map (fun i => { i with ownerKey := keyOne }) }
    benra := { (live m q).benra with fuses := enrolled (sha384 keyOne) } }

def transferReq : CmdReq :=
  let h := zeros 48
  let sig := ecdsaSign 1 1 (sha384 (ascii "KST192 OWNER TRANSFER v1" ++ leBytes 8 0 ++ [1] ++ h))
  { port := .tw, tag := 4, data := [1, 0, 0, 0] ++ h ++ sig.1 ++ sig.2 }

theorem witness_OwnersAreEnrolled :
    (∃ (t : Nat) (rq : CmdReq) (vpp : Nat) (s : State) (a : State) (u : State), ∃ i n,
      a = advance t s ∧
      admitCmd { object := 0x0D19, role := some 8, lo := 4, hi := 4, resv := noArgs } rq
        { a with pins := { a.pins with vppFuse := vpp } } = some u ∧
      u.loader.live = some i ∧
      u.mode = .standby ∧
      u.benra.session = none ∧
      trEnrolAllowed (trustOf u) = true ∧
      vppIn u.pins.vppFuse = true ∧
      activeOwner u = none ∧
      nextOwnerSlot u = some n ∧
      u.benra.fuseOp = none) ∧
    (∃ (t : Nat) (rq : CmdReq) (vpp : Nat) (s : State) (a : State) (u : State), ∃ n,
      a = advance t s ∧
      admitCmd { object := 0x0D1A, role := some 8, lo := 148, hi := 148, resv := [1, 2, 3] } rq
        { a with pins := { a.pins with vppFuse := vpp } } = some u ∧
      u.mode = .standby ∧
      u.benra.session = none ∧
      vppIn u.pins.vppFuse = true ∧
      transferSigned rq.data u = true ∧
      activeOwner u ≠ none ∧
      nextOwnerSlot u = some n ∧
      n = u8 rq.data 0 ∧
      u.benra.fuseOp = none) :=
  ⟨⟨0, signed { object := 0x0D19, role := some 8, lo := 4, hi := 4, resv := noArgs } (simple 0) { (advance 0 (live .standby [])) with pins := { (advance 0 (live .standby [])).pins with vppFuse := 1800 } }, 1800, live .standby [], _, taken { object := 0x0D19, role := some 8, lo := 4, hi := 4, resv := noArgs } (simple 0) { (advance 0 (live .standby [])) with pins := { (advance 0 (live .standby [])).pins with vppFuse := 1800 } }, _, 0, rfl, admits _ _ _ (by decide +kernel), rfl, by decide +kernel⟩,
   ⟨0, signed { object := 0x0D1A, role := some 8, lo := 148, hi := 148, resv := [1, 2, 3] } transferReq { (advance 0 (owned .standby [])) with pins := { (advance 0 (owned .standby [])).pins with vppFuse := 1800 } }, 1800, owned .standby [], _, taken { object := 0x0D1A, role := some 8, lo := 148, hi := 148, resv := [1, 2, 3] } transferReq { (advance 0 (owned .standby [])) with pins := { (advance 0 (owned .standby [])).pins with vppFuse := 1800 } }, 1, rfl, admits _ _ _ (by decide +kernel), by decide +kernel⟩⟩

def inSession (last : Nat) : State :=
  { owned .service [] with
    now := 100 * secTicks, under := .run
    benra := { (owned .service []).benra with session := some { channel := 0, lastCmd := last } } }

theorem witness_ServiceSessions :
    (∃ (t : Nat) (rq : CmdReq) (s : State) (a : State) (u : State),
      a = advance t s ∧
      admitCmd { object := 0x0D17, role := some 2, lo := 4, hi := 4, resv := noArgs } rq a = some u ∧
      u.benra.session = none ∧
      (u.mode = .standby ∨ u.mode = .run) ∧
      activeOwner u ≠ none) ∧
    (∃ (t : Nat) (rq : CmdReq) (s : State) (a : State) (u : State), ∃ x,
      a = advance t s ∧
      admitCmd { object := 0x0D18, role := some 2, serviceOnly := true, lo := 4, hi := 4, resv := noArgs } rq a = some u ∧
      u.benra.session = some x ∧
      u.mode = .service) ∧
    (∃ (t : Nat) (s : State) (a : State), ∃ x,
      a = advance t s ∧
      a.benra.session = some x ∧
      a.mode = .service ∧
      x.lastCmd + trServiceTimeout (trustOf a) * secTicks ≤ a.now) ∧
    (∃ (t : Nat) (s : State) (a : State), ∃ x,
      a = advance t s ∧
      a.benra.session = some x ∧
      a.now < x.lastCmd + trServiceTimeout (trustOf a) * secTicks) ∧
    (∃ (t : Nat) (rq : CmdReq) (s : State) (a : State) (u : State),
      a = advance t s ∧
      admitCmd { object := 0x0101, inst := 1, role := some 4, lo := 4, hi := 4, resv := noArgs, held := 2 } rq a = some u ∧
      u.mode ≠ .run) ∧
    (∃ (t : Nat) (rq : CmdReq) (s : State) (a : State) (u : State),
      a = advance t s ∧
      admitCmd { object := 0x0101, inst := 1, role := some 4, lo := 4, hi := 4, resv := noArgs, held := 2 } rq a = some u ∧
      u.mode = .run) :=
  ⟨⟨0, signed { object := 0x0D17, role := some 2, lo := 4, hi := 4, resv := noArgs } (simple 0) (advance 0 (owned .run [])), owned .run [], _, taken { object := 0x0D17, role := some 2, lo := 4, hi := 4, resv := noArgs } (simple 0) (advance 0 (owned .run [])), rfl, admits _ _ _ (by decide +kernel), by decide +kernel⟩,
   ⟨0, signed { object := 0x0D18, role := some 2, serviceOnly := true, lo := 4, hi := 4, resv := noArgs } (simple 0) (advance 0 (inSession (90 * secTicks))), inSession (90 * secTicks), _, taken { object := 0x0D18, role := some 2, serviceOnly := true, lo := 4, hi := 4, resv := noArgs } (simple 0) (advance 0 (inSession (90 * secTicks))), _, rfl, admits _ _ _ (by decide +kernel), rfl, by decide +kernel⟩,
   ⟨0, inSession (40 * secTicks), _, _, rfl, rfl, by decide +kernel⟩,
   ⟨0, inSession (40 * secTicks + 1), _, _, rfl, rfl, by decide +kernel⟩,
   ⟨0, signed { object := 0x0101, inst := 1, role := some 4, lo := 4, hi := 4, resv := noArgs, held := 2 } (simple 0) (advance 0 (live .safe [])), live .safe [], _, taken { object := 0x0101, inst := 1, role := some 4, lo := 4, hi := 4, resv := noArgs, held := 2 } (simple 0) (advance 0 (live .safe [])), rfl, admits _ _ _ (by decide +kernel), by decide +kernel⟩,
   ⟨0, signed { object := 0x0101, inst := 1, role := some 4, lo := 4, hi := 4, resv := noArgs, held := 2 } (simple 0) (advance 0 (live .run [])), live .run [], _, taken { object := 0x0101, inst := 1, role := some 4, lo := 4, hi := 4, resv := noArgs, held := 2 } (simple 0) (advance 0 (live .run [])), rfl, admits _ _ _ (by decide +kernel), by decide +kernel⟩⟩

def tokenAuthority : Secs := [(tyTrust, put 272 [(0, 1, 1), (1, 1, 3), (6, 2, 1), (144, 97, leNat keyOne), (257, 1, 1), (258, 1, 7), (260, 4, 0x1FF)])]

/-- A service token of id 5 for one act, signed by private key 1. -/
def tokenFor (act : Nat) : Bytes :=
  let b := ascii "KSTK" ++ leBytes 1 1 ++ leBytes 1 (2 ^ act) ++ [1, 0] ++ leBytes 8 0 ++ leBytes 4 5 ++ leBytes 4 0 ++ leBytes 4 3600 ++ zeros 20
  let sig := ecdsaSign 1 1 (sha384 b)
  b ++ sig.1 ++ sig.2

def tokenState : State :=
  { live .standby [] with loader := { live := some { sections := tokenAuthority } } }

def attestReq : CmdReq := { port := .can0, tag := 8, data := zeros 32 }

def lockedOut (l : Tab Nat) : State := { live .run [] with now := 9, benra := { lockedUntil := l } }

theorem witness_DebugAttestAndRandomness :
    (∃ (t : Nat) (rq : CmdReq) (s : State) (a : State) (u : State),
      a = advance t s ∧
      admitCmd { object := 0x0D1B, role := some 8, lo := 144, hi := 144 } rq a = some u ∧
      u.mode = .standby ∧
      u.benra.session = none ∧
      tokenOk 1 rq.data u = true) ∧
    (∃ (t : Nat) (rq : CmdReq) (s : State) (a : State) (u : State),
      a = advance t s ∧
      admitCmd { object := 0x0D01, inst := 1, role := none, lo := 32, hi := 32, plain := true } rq a = some u ∧
      u.benra.drbgHalted = false ∧
      u.benra.debugUnlocked = false ∧
      u.benra.certInvalid = false ∧
      u.benra.deviceKey ≠ none) ∧
    (∃ (t : Nat) (rq : CmdReq) (s : State) (a : State) (u : State),
      a = advance t s ∧
      admitCmd { object := 0x0D01, inst := 1, role := none, lo := 32, hi := 32, plain := true } rq a = some u ∧
      u.benra.drbgHalted = false ∧
      u.benra.debugUnlocked = false ∧
      u.benra.certInvalid = true) ∧
    (∃ (t : Nat) (s : State) (a : State) (raw : Bytes),
      a = advance t s ∧
      a.mode ≠ .dormant ∧
      (a.mode = .boot → bootHeld a = true) ∧
      rawHealthy raw = false) ∧
    (∃ (t : Nat) (s : State) (a : State) (raw : Bytes),
      a = advance t s ∧
      a.mode ≠ .dormant ∧
      (a.mode = .boot → bootHeld a = true) ∧
      rawHealthy raw = true) ∧
    (∃ (t : Nat) (s : State) (a : State) (raw : Bytes),
      a = advance t s ∧
      a.benra.drbgHalted = true ∧
      a.benra.retestAt ≤ a.now ∧
      startupPasses raw = true) ∧
    (∃ (t : Nat) (s : State) (a : State) (raw : Bytes),
      a = advance t s ∧
      a.benra.drbgHalted = true ∧
      a.benra.retestAt ≤ a.now ∧
      startupPasses raw = false) ∧
    (∃ (t : Nat) (s : State) (a : State),
      a = advance t s ∧
      a.benra.drbgHalted = true ∧
      a.now < a.benra.retestAt) ∧
    (∃ (t : Nat) (s : State) (a : State) (raw : Bytes),
      a = advance t s ∧
      65536 ≤ a.benra.drbgRequests ∧
      128 ≤ raw.length ∧
      rawHealthy raw = true) ∧
    (∃ (t : Nat) (s : State) (a : State),
      a = advance t s ∧
      a.benra.drbgRequests < 65536) ∧
    (∃ (t : Nat) (s : State) (a : State), ∃ c e,
      a = advance t s ∧
      Tab.find a.benra.lockedUntil c = some e ∧
      e ≤ a.now ∧
      Tab.del a.benra.lockedUntil c = []) ∧
    (∃ (t : Nat) (s : State) (a : State), ∃ c e,
      a = advance t s ∧
      Tab.find a.benra.lockedUntil c = some e ∧
      e ≤ a.now ∧
      Tab.del a.benra.lockedUntil c ≠ []) :=
  ⟨⟨0, signed { object := 0x0D1B, role := some 8, lo := 144, hi := 144 } { port := .tw, tag := 2, data := tokenFor 1 } (advance 0 tokenState), tokenState, _, taken { object := 0x0D1B, role := some 8, lo := 144, hi := 144 } { port := .tw, tag := 2, data := tokenFor 1 } (advance 0 tokenState), rfl, admits _ _ _ (by decide +kernel), by decide +kernel⟩,
   ⟨0, attestReq, { live .run [] with benra := { deviceKey := some 1 } }, _, takeRequest (requestOf { object := 0x0D01, inst := 1, role := none, lo := 32, hi := 32, plain := true } attestReq) (advance 0 { live .run [] with benra := { deviceKey := some 1 } }), rfl, admits_plain _ _ _ (by decide +kernel), by decide +kernel⟩,
   ⟨0, attestReq, { live .run [] with benra := { certInvalid := true } }, _, takeRequest (requestOf { object := 0x0D01, inst := 1, role := none, lo := 32, hi := 32, plain := true } attestReq) (advance 0 { live .run [] with benra := { certInvalid := true } }), rfl, admits_plain _ _ _ (by decide +kernel), by decide +kernel⟩,
   ⟨0, live .run [], _, List.replicate 6 0, rfl, by decide +kernel⟩,
   ⟨0, live .run [], _, [0x55], rfl, by decide +kernel⟩,
   ⟨0, { live .run [] with benra := { drbgHalted := true } }, _, List.replicate 512 0x55, rfl, by decide +kernel⟩,
   ⟨0, { live .run [] with benra := { drbgHalted := true } }, _, [], rfl, by decide +kernel⟩,
   ⟨0, { live .run [] with benra := { drbgHalted := true, retestAt := 1 } }, _, rfl, by decide +kernel⟩,
   ⟨0, { live .run [] with benra := { drbgRequests := 65536 } }, _, List.replicate 128 0x55, rfl, by decide +kernel⟩,
   ⟨0, live .run [], _, rfl, by decide +kernel⟩,
   ⟨0, lockedOut [(3, 9)], _, 3, 9, rfl, by decide +kernel⟩,
   ⟨0, lockedOut [(3, 9), (4, 2)], _, 3, 9, rfl, by decide +kernel⟩⟩

/-- One phase tile on port 5, two slots, any maker, three training attempts, REALIGN_LIMIT 4. -/
def phaseTile : Nat × Bytes :=
  (tyTileMap, put 144 [(0, 1, 1), (1, 1, 3), (2, 1, 4), (109, 1, 1), (110, 1, 5), (111, 1, 0xFF), (112, 2, 0xFFFF), (114, 1, 2)])

def linked (x : TPort) : State := { live .run [phaseTile] with pins := { transmitters := true }, ports := [(5, x)] }

theorem witness_TrainingAdvances :
    (∃ (t : Nat) (port : Nat) (s : State) (a : State) (x : TPort),
      a = advance t s ∧
      linkUp a = true ∧
      x = a.port port ∧
      x.phase = .trainLock ∧
      x.waiting = false) ∧
    (∃ (t : Nat) (port : Nat) (s : State) (a : State) (x : TPort), ∃ e maker,
      a = advance t s ∧
      linkUp a = true ∧
      x = a.port port ∧
      tileOfPort (secs a) port = some e ∧
      x.phase = .trainId ∧
      (teMaker e = 0xFFFF ∨ maker = teMaker e)) ∧
    (∃ (t : Nat) (port : Nat) (s : State) (a : State) (x : TPort), ∃ e maker kind,
      a = advance t s ∧
      linkUp a = true ∧
      x = a.port port ∧
      tileOfPort (secs a) port = some e ∧
      x.phase = .trainId ∧
      (teMaker e = 0xFFFF ∨ maker = teMaker e) ∧
      kind ≠ u8 e 1) ∧
    (∃ (t : Nat) (port : Nat) (s : State) (a : State) (x : TPort), ∃ e maker echo,
      a = advance t s ∧
      linkUp a = true ∧
      x = a.port port ∧
      tileOfPort (secs a) port = some e ∧
      x.phase = .trainId ∧
      (teMaker e = 0xFFFF ∨ maker = teMaker e) ∧
      echo ≠ port) ∧
    (∃ (t : Nat) (port : Nat) (s : State) (a : State) (x : TPort), ∃ e, ∃ (rtt : Nat) (ta : Nat), ∃ lat,
      a = advance t s ∧
      linkUp a = true ∧
      x = a.port port ∧
      tileOfPort (secs a) port = some e ∧
      x.phase = .trainTime ∧
      lat = divRound ((rtt : Int) - 64 * ta + 128 * tmAsym (secs a) port) 128 ∧
      lat ≤ 10240) ∧
    (∃ (t : Nat) (port : Nat) (s : State) (a : State) (x : TPort), ∃ e, ∃ (rtt : Nat) (ta : Nat), ∃ lat,
      a = advance t s ∧
      linkUp a = true ∧
      x = a.port port ∧
      tileOfPort (secs a) port = some e ∧
      x.phase = .trainTime ∧
      lat = divRound ((rtt : Int) - 64 * ta + 128 * tmAsym (secs a) port) 128 ∧
      10240 < lat) ∧
    (∃ (t : Nat) (port : Nat) (s : State) (a : State) (x : TPort), ∃ e, ∃ (r : Int),
      a = advance t s ∧
      linkUp a = true ∧
      x = a.port port ∧
      tileOfPort (secs a) port = some e ∧
      x.phase = .trainTime ∧
      x.measured = true ∧
      r.natAbs ≤ 256 * 96 ∧
      x.readBack = [] ∧
      otherLane (secs a) port = none) ∧
    (∃ (t : Nat) (port : Nat) (s : State) (a : State) (x : TPort), ∃ e, ∃ (r : Int),
      a = advance t s ∧
      linkUp a = true ∧
      x = a.port port ∧
      tileOfPort (secs a) port = some e ∧
      x.phase = .trainTime ∧
      x.measured = true ∧
      256 * 96 < r.natAbs) ∧
    (∃ (t : Nat) (port : Nat) (s : State) (a : State) (x : TPort), ∃ e, ∃ (r : Int),
      a = advance t s ∧
      linkUp a = true ∧
      x = a.port port ∧
      tileOfPort (secs a) port = some e ∧
      x.phase = .trainTime ∧
      x.measured = true ∧
      r.natAbs ≤ 256 * 96 ∧
      x.readBack ≠ []) ∧
    (∃ (t : Nat) (port : Nat) (s : State) (a : State) (x : TPort), ∃ e, ∃ (n : Nat),
      a = advance t s ∧
      linkUp a = true ∧
      x = a.port port ∧
      tileOfPort (secs a) port = some e ∧
      x.phase = .trainTime ∧
      x.measured = true ∧
      n ≠ 256) :=
  ⟨⟨0, 5, linked { phase := .trainLock }, _, _, rfl, by decide +kernel, rfl, by decide +kernel⟩,
   ⟨0, 5, linked { phase := .trainId }, _, _, _, 7, rfl, by decide +kernel, rfl, rfl, by decide +kernel⟩,
   ⟨0, 5, linked { phase := .trainId }, _, _, _, 7, 2, rfl, by decide +kernel, rfl, rfl, by decide +kernel⟩,
   ⟨0, 5, linked { phase := .trainId }, _, _, _, 7, 4, rfl, by decide +kernel, rfl, rfl, by decide +kernel⟩,
   ⟨0, 5, linked { phase := .trainTime }, _, _, _, 1310783, 0, 10240, rfl, by decide +kernel, rfl, rfl, by decide +kernel⟩,
   ⟨0, 5, linked { phase := .trainTime }, _, _, _, 1310784, 0, 10241, rfl, by decide +kernel, rfl, rfl, by decide +kernel⟩,
   ⟨0, 5, linked { phase := .trainTime, measured := true }, _, _, _, (-24576), rfl, by decide +kernel, rfl, rfl, by decide +kernel⟩,
   ⟨0, 5, linked { phase := .trainTime, measured := true }, _, _, _, (-24577), rfl, by decide +kernel, rfl, rfl, by decide +kernel⟩,
   ⟨0, 5, linked { phase := .trainTime, measured := true, readBack := [(0x18, 0)] }, _, _, _, 24576, rfl, by decide +kernel, rfl, rfl, by decide +kernel⟩,
   ⟨0, 5, linked { phase := .trainTime, measured := true }, _, _, _, 255, rfl, by decide +kernel, rfl, rfl, by decide +kernel⟩⟩

def linkedAt (now : Nat) (x : TPort) : State := { linked x with now := now }

theorem witness_TrainingAttemptsFail :
    (∃ (t : Nat) (port : Nat) (s : State) (a : State) (x : TPort),
      a = advance t s ∧
      linkUp a = true ∧
      x = a.port port ∧
      (x.phase = .trainLock ∨ x.phase = .trainId ∨ x.phase = .trainTime) ∧
      x.waiting = false ∧
      x.attemptAt + 3 * msTicks ≤ rackTime a ∧
      x.failedBefore = true) ∧
    (∃ (t : Nat) (port : Nat) (s : State) (a : State) (x : TPort),
      a = advance t s ∧
      linkUp a = true ∧
      x = a.port port ∧
      (x.phase = .trainLock ∨ x.phase = .trainId ∨ x.phase = .trainTime) ∧
      x.waiting = false ∧
      x.attemptAt + 3 * msTicks ≤ rackTime a ∧
      x.failedBefore = false ∧
      x.attempts + 1 < tmTrainAttempts (secs a)) ∧
    (∃ (t : Nat) (port : Nat) (s : State) (a : State) (x : TPort),
      a = advance t s ∧
      linkUp a = true ∧
      x = a.port port ∧
      (x.phase = .trainLock ∨ x.phase = .trainId ∨ x.phase = .trainTime) ∧
      x.waiting = false ∧
      x.attemptAt + 3 * msTicks ≤ rackTime a ∧
      x.failedBefore = false ∧
      tmTrainAttempts (secs a) ≤ x.attempts + 1) ∧
    (∃ (t : Nat) (port : Nat) (s : State) (a : State) (x : TPort),
      a = advance t s ∧
      linkUp a = true ∧
      x = a.port port ∧
      rackTime a < x.attemptAt + 3 * msTicks) ∧
    (∃ (t : Nat) (port : Nat) (s : State) (a : State) (x : TPort), ∃ due,
      a = advance t s ∧
      linkUp a = true ∧
      x = a.port port ∧
      due = (if x.phase = .failed then x.failedAt + secTicks else x.attemptAt + 10 * msTicks) ∧
      (x.phase = .failed ∨ x.waiting = true) ∧
      due ≤ rackTime a) ∧
    (∃ (t : Nat) (port : Nat) (s : State) (a : State) (x : TPort), ∃ due,
      a = advance t s ∧
      linkUp a = true ∧
      x = a.port port ∧
      due = (if x.phase = .failed then x.failedAt + secTicks else x.attemptAt + 10 * msTicks) ∧
      rackTime a < due) :=
  ⟨⟨0, 5, linkedAt (3 * msTicks) { phase := .trainId, failedBefore := true }, _, _, rfl, by decide +kernel, rfl, by decide +kernel⟩,
   ⟨0, 5, linkedAt (3 * msTicks) { phase := .trainTime, attempts := 0 }, _, _, rfl, by decide +kernel, rfl, by decide +kernel⟩,
   ⟨0, 5, linkedAt (3 * msTicks) { phase := .trainLock, attempts := 40 }, _, _, rfl, by decide +kernel, rfl, by decide +kernel⟩,
   ⟨0, 5, linkedAt (3 * msTicks) { phase := .trainLock, attemptAt := 1 }, _, _, rfl, by decide +kernel, rfl, by decide +kernel⟩,
   ⟨0, 5, linkedAt secTicks { phase := .failed }, _, _, _, rfl, by decide +kernel, rfl, rfl, by decide +kernel⟩,
   ⟨0, 5, linkedAt (10 * msTicks - 1) { phase := .trainLock, waiting := true }, _, _, _, rfl, by decide +kernel, rfl, rfl, by decide +kernel⟩⟩

def cleanFrame : WireFrame := { symbols := sendFrame false (zeros 96) }

/-- The same frame with its third character spoiled. -/
def badCode : WireFrame := { symbols := cleanFrame.symbols.set 2 0 }

theorem witness_FramesArriveAtPorts :
    (∃ (t : Nat) (port : Nat) (f : WireFrame) (s : State) (a : State) (x : TPort) (e : Bytes), ∃ body,
      a = advance t s ∧
      linkUp a = true ∧
      x = a.port port ∧
      tileOfPort (secs a) port = some e ∧
      acceptFrame x.rxPlus f = some body ∧
      (x.phase = .active ∨ x.phase = .standbyLane ∨ x.phase = .trainTime)) ∧
    (∃ (t : Nat) (port : Nat) (f : WireFrame) (s : State) (a : State) (x : TPort) (e : Bytes), ∃ body,
      a = advance t s ∧
      linkUp a = true ∧
      x = a.port port ∧
      tileOfPort (secs a) port = some e ∧
      acceptFrame x.rxPlus f = some body ∧
      x.phase = .trainTime ∧
      x.svc = none ∧
      x.readBack ≠ []) ∧
    (∃ (t : Nat) (port : Nat) (f : WireFrame) (s : State) (a : State) (x : TPort) (e : Bytes),
      a = advance t s ∧
      linkUp a = true ∧
      x = a.port port ∧
      tileOfPort (secs a) port = some e ∧
      acceptFrame x.rxPlus f = none ∧
      x.phase = .trainTime) ∧
    (∃ (t : Nat) (port : Nat) (f : WireFrame) (s : State) (a : State) (x : TPort) (e : Bytes),
      a = advance t s ∧
      linkUp a = true ∧
      x = a.port port ∧
      tileOfPort (secs a) port = some e ∧
      acceptFrame x.rxPlus f = none ∧
      x.phase = .standbyLane ∧
      x.invalidRun < 2) ∧
    (∃ (t : Nat) (port : Nat) (f : WireFrame) (s : State) (a : State) (x : TPort) (e : Bytes),
      a = advance t s ∧
      linkUp a = true ∧
      x = a.port port ∧
      tileOfPort (secs a) port = some e ∧
      acceptFrame x.rxPlus f = none ∧
      x.phase = .standbyLane ∧
      2 ≤ x.invalidRun) ∧
    (∃ (t : Nat) (port : Nat) (f : WireFrame) (s : State) (a : State) (x : TPort) (e : Bytes),
      a = advance t s ∧
      linkUp a = true ∧
      x = a.port port ∧
      tileOfPort (secs a) port = some e ∧
      acceptFrame x.rxPlus f = none ∧
      x.phase = .active) ∧
    (∃ (t : Nat) (port : Nat) (s : State) (a : State) (x : TPort) (e : Bytes),
      a = advance t s ∧
      linkUp a = true ∧
      x = a.port port ∧
      tileOfPort (secs a) port = some e ∧
      (x.phase = .trainLock ∨ x.phase = .trainId ∨ x.phase = .disabled ∨ x.phase = .failed)) ∧
    (∃ (t : Nat) (port : Nat) (s : State) (a : State) (x : TPort) (e : Bytes),
      a = advance t s ∧
      linkUp a = true ∧
      x = a.port port ∧
      tileOfPort (secs a) port = some e ∧
      (x.phase = .active ∨ x.phase = .standbyLane)) :=
  ⟨⟨0, 5, cleanFrame, linked { phase := .active }, _, _, _, zeros 96, rfl, by decide +kernel, rfl, rfl, by decide +kernel⟩,
   ⟨0, 5, cleanFrame, linked { phase := .trainTime, readBack := [(0x10, 0)] }, _, _, _, zeros 96, rfl, by decide +kernel, rfl, rfl, by decide +kernel⟩,
   ⟨0, 5, badCode, linked { phase := .trainTime }, _, _, _, rfl, by decide +kernel, rfl, rfl, by decide +kernel⟩,
   ⟨0, 5, badCode, linked { phase := .standbyLane, invalidRun := 1 }, _, _, _, rfl, by decide +kernel, rfl, rfl, by decide +kernel⟩,
   ⟨0, 5, badCode, linked { phase := .standbyLane, invalidRun := 2 }, _, _, _, rfl, by decide +kernel, rfl, rfl, by decide +kernel⟩,
   ⟨0, 5, badCode, linked { phase := .active }, _, _, _, rfl, by decide +kernel, rfl, rfl, by decide +kernel⟩,
   ⟨0, 5, linked { phase := .failed }, _, _, _, rfl, by decide +kernel, rfl, rfl, by decide +kernel⟩,
   ⟨0, 5, linked { phase := .standbyLane }, _, _, _, rfl, by decide +kernel, rfl, rfl, by decide +kernel⟩⟩

def oneOp : SvcOp := ⟨0x01, 3, 0x07, 0⟩

theorem witness_LinkIsMeasured :
    (∃ (t : Nat) (port : Nat) (s : State) (a : State) (x : TPort) (m : Int),
      a = advance t s ∧
      x = a.port port ∧
      linkUp a = true ∧
      x.phase = .active ∧
      m.natAbs < 16) ∧
    (∃ (t : Nat) (port : Nat) (s : State) (a : State) (x : TPort) (m : Int), ∃ trim,
      a = advance t s ∧
      x = a.port port ∧
      linkUp a = true ∧
      x.phase = .active ∧
      trim = clampI (-32) 32 (divRound m 2) ∧
      16 ≤ m.natAbs ∧
      ((x.trimSum + trim).natAbs ≤ tmRealignLimit (secs a) * 16 ∨ tmRealignLimit (secs a) * 16 < x.trimSum.natAbs)) ∧
    (∃ (t : Nat) (port : Nat) (s : State) (a : State) (x : TPort) (m : Int), ∃ trim,
      a = advance t s ∧
      x = a.port port ∧
      linkUp a = true ∧
      x.phase = .active ∧
      trim = clampI (-32) 32 (divRound m 2) ∧
      16 ≤ m.natAbs ∧
      x.trimSum.natAbs ≤ tmRealignLimit (secs a) * 16 ∧
      tmRealignLimit (secs a) * 16 < (x.trimSum + trim).natAbs) ∧
    (∃ (t : Nat) (port : Nat) (s : State) (a : State) (x : TPort),
      a = advance t s ∧
      x = a.port port ∧
      linkUp a = true ∧
      (x.phase = .trainId ∨ x.phase = .trainTime ∨ x.phase = .active ∨ x.phase = .standbyLane) ∧
      x.lockLost = false) ∧
    (∃ (t : Nat) (port : Nat) (s : State) (a : State) (x : TPort) (m : Int),
      a = advance t s ∧
      x = a.port port ∧
      linkUp a = true ∧
      x.phase = .standbyLane ∧
      m.natAbs < 16) ∧
    (∃ (t : Nat) (port : Nat) (s : State) (a : State) (x : TPort), ∃ w l,
      a = advance t s ∧
      x = a.port port ∧
      x.svc = some w ∧
      w.sentAt = some l ∧
      rackTime a < l + 16 * frameTicks) ∧
    (∃ (t : Nat) (port : Nat) (s : State) (a : State) (x : TPort), ∃ w l,
      a = advance t s ∧
      x = a.port port ∧
      x.svc = some w ∧
      w.sentAt = some l ∧
      l + 16 * frameTicks ≤ rackTime a ∧
      w.repeated = false) ∧
    (∃ (t : Nat) (port : Nat) (s : State) (a : State) (x : TPort), ∃ w l,
      a = advance t s ∧
      x = a.port port ∧
      x.svc = some w ∧
      w.sentAt = some l ∧
      l + 16 * frameTicks ≤ rackTime a ∧
      w.repeated = true ∧
      w.op.addr ≠ 0x07) ∧
    (∃ (t : Nat) (port : Nat) (s : State) (a : State) (x : TPort), ∃ w l,
      a = advance t s ∧
      x = a.port port ∧
      x.svc = some w ∧
      w.sentAt = some l ∧
      l + 16 * frameTicks ≤ rackTime a ∧
      w.repeated = true ∧
      w.op.op = 0x01 ∧
      w.op.addr = 0x07) ∧
    (∃ (t : Nat) (port : Nat) (s : State) (a : State) (x : TPort),
      a = advance t s ∧
      x = a.port port ∧
      x.svc = none) :=
  ⟨⟨0, 5, linked { phase := .active }, _, _, (-15), rfl, rfl, by decide +kernel⟩,
   ⟨0, 5, linked { phase := .active, trimSum := 32 }, _, _, 64, _, rfl, rfl, by decide +kernel, by decide +kernel, rfl, by decide +kernel⟩,
   ⟨0, 5, linked { phase := .active, trimSum := 33 }, _, _, 64, _, rfl, rfl, by decide +kernel, by decide +kernel, rfl, by decide +kernel⟩,
   ⟨0, 5, linked { phase := .standbyLane }, _, _, rfl, rfl, by decide +kernel⟩,
   ⟨0, 5, linked { phase := .standbyLane }, _, _, 15, rfl, rfl, by decide +kernel⟩,
   ⟨0, 5, linked { svc := some { op := oneOp, sentAt := some 1 } }, _, _, _, 1, rfl, rfl, rfl, by decide +kernel⟩,
   ⟨0, 5, linkedAt (16 * frameTicks) { svc := some { op := oneOp, sentAt := some 0 } }, _, _, _, 0, rfl, rfl, rfl, by decide +kernel⟩,
   ⟨0, 5, linkedAt (16 * frameTicks) { svc := some { op := ⟨0x01, 3, 0x06, 0⟩, repeated := true, sentAt := some 0 } }, _, _, _, 0, rfl, rfl, rfl, by decide +kernel⟩,
   ⟨0, 5, linkedAt (16 * frameTicks) { svc := some { op := oneOp, repeated := true, sentAt := some 0 } }, _, _, _, 0, rfl, rfl, rfl, by decide +kernel⟩,
   ⟨0, 5, linked {}, _, _, rfl, rfl, by decide +kernel⟩⟩

def clearing (c : AllClear) : State :=
  { linked { phase := .active, clear := some c } with now := 40960 }

theorem witness_TilesAreReleasedAgain :
    (∃ (t : Nat) (port : Nat) (s : State) (a : State) (x : TPort), ∃ c,
      a = advance t s ∧
      x = a.port port ∧
      x.clear = some c ∧
      c.waiting = false ∧
      c.left = 0 ∧
      c.first + 16 * frameTicks ≤ rackTime a ∧
      c.repeated = true) ∧
    (∃ (t : Nat) (port : Nat) (s : State) (a : State) (x : TPort), ∃ c,
      a = advance t s ∧
      x = a.port port ∧
      x.clear = some c ∧
      c.waiting = false ∧
      c.left = 0 ∧
      c.first + 16 * frameTicks ≤ rackTime a ∧
      c.repeated = false ∧
      mayClear port a = false) ∧
    (∃ (t : Nat) (port : Nat) (s : State) (a : State) (x : TPort), ∃ c,
      a = advance t s ∧
      x = a.port port ∧
      x.clear = some c ∧
      c.waiting = false ∧
      c.left = 0 ∧
      c.first + 16 * frameTicks ≤ rackTime a ∧
      c.repeated = false ∧
      mayClear port a = true) ∧
    (∃ (t : Nat) (port : Nat) (s : State) (a : State) (x : TPort),
      a = advance t s ∧
      x = a.port port ∧
      x.slotClear ≠ 0 ∧
      x.offLatch = false ∧
      x.phase = .active) ∧
    (∃ (t : Nat) (port : Nat) (s : State) (a : State) (x : TPort),
      a = advance t s ∧
      x = a.port port ∧
      x.slotClear = 0) :=
  ⟨⟨0, 5, clearing { left := 0, tag := 2, repeated := true, waiting := false }, _, _, _, rfl, rfl, rfl, by decide +kernel⟩,
   ⟨0, 5, { clearing { left := 0, tag := 2, waiting := false } with mode := .safe }, _, _, _, rfl, rfl, rfl, by decide +kernel⟩,
   ⟨0, 5, clearing { left := 0, tag := 2, waiting := false }, _, _, _, rfl, rfl, rfl, by decide +kernel⟩,
   ⟨0, 5, linked { phase := .active, offLatch := false, slotClear := 3 }, _, _, rfl, rfl, by decide +kernel⟩,
   ⟨0, 5, linked { phase := .active, offLatch := false }, _, _, rfl, rfl, by decide +kernel⟩⟩

def tiled (x : Tile) : State := { live .run [phaseTile] with now := 50000, tiles := [(0, x)] }

theorem witness_TilesLatchOff :
    (∃ (t : Nat) (s : State) (a : State),
      a = advance t s) ∧
    (∃ (t : Nat) (i : Nat) (s : State) (a : State) (x : Tile),
      a = advance t s ∧
      x = a.tile i ∧
      x.lastActivity + 6 * usTicks ≤ a.now) ∧
    (∃ (t : Nat) (i : Nat) (s : State) (a : State) (x : Tile),
      a = advance t s ∧
      x = a.tile i ∧
      a.now < x.lastActivity + 6 * usTicks) ∧
    (∃ (t : Nat) (i : Nat) (s : State) (a : State) (x : Tile), ∃ lane,
      a = advance t s ∧
      x = a.tile i ∧
      lane = x.entryLane ∧
      lane < 2 ∧
      (x.offLatch = false ∨ x.offCause ≠ 1)) ∧
    (∃ (t : Nat) (i : Nat) (s : State) (a : State) (x : Tile), ∃ lane,
      a = advance t s ∧
      x = a.tile i ∧
      lane < 2 ∧
      (x.lane lane).answering ≠ .nothing) ∧
    (∃ (t : Nat) (i : Nat) (s : State) (a : State) (x : Tile), ∃ lane,
      a = advance t s ∧
      x = a.tile i ∧
      lane < 2 ∧
      (x.lane lane).answering = .nothing) :=
  ⟨⟨0, tiled {}, _, rfl⟩,
   ⟨0, 0, tiled { lastActivity := 11600 }, _, _, rfl, rfl, by decide +kernel⟩,
   ⟨0, 0, tiled { lastActivity := 11601 }, _, _, rfl, rfl, by decide +kernel⟩,
   ⟨0, 0, tiled { offLatch := false, entryLane := 1 }, _, _, _, rfl, rfl, rfl, by decide +kernel⟩,
   ⟨0, 0, tiled { lane1 := { answering := .ts1 } }, _, _, 1, rfl, rfl, by decide +kernel⟩,
   ⟨0, 0, tiled {}, _, _, 0, rfl, rfl, by decide +kernel⟩⟩

def offFrame : WireFrame := { symbols := sendFrame true (5 :: zeros 95) }

theorem witness_TilesTakeFrames :
    (∃ (t : Nat) (i : Nat) (s : State) (a : State) (x : Tile), ∃ lane, ∃ (f : WireFrame),
      a = advance t s ∧
      x = a.tile i ∧
      lane < 2 ∧
      acceptFrame (x.lane lane).rxPlus f = none) ∧
    (∃ (t : Nat) (i : Nat) (s : State) (a : State) (x : Tile), ∃ lane, ∃ (f : WireFrame), ∃ b,
      a = advance t s ∧
      x = a.tile i ∧
      lane < 2 ∧
      acceptFrame (x.lane lane).rxPlus f = some b ∧
      u8 b 0 % 4 ≠ 3) ∧
    (∃ (t : Nat) (i : Nat) (s : State) (a : State) (x : Tile), ∃ lane, ∃ (f : WireFrame), ∃ b,
      a = advance t s ∧
      x = a.tile i ∧
      lane < 2 ∧
      acceptFrame (x.lane lane).rxPlus f = some b ∧
      u8 b 0 % 4 ≠ 3 ∧
      bit (u8 b 0) 2 = true) ∧
    (∃ (t : Nat) (i : Nat) (s : State) (a : State) (x : Tile), ∃ n,
      a = advance t s ∧
      x = a.tile i ∧
      n < 8 ∧
      x.offLatch = false) ∧
    (∃ (t : Nat) (i : Nat) (s : State) (a : State) (x : Tile), ∃ n,
      a = advance t s ∧
      x = a.tile i ∧
      n < 8 ∧
      x.offLatch = true) ∧
    (∃ (t : Nat) (s : State) (a : State), ∃ n,
      a = advance t s ∧
      n < 8) ∧
    (∃ (t : Nat) (i : Nat) (s : State) (a : State) (x : Tile),
      a = advance t s ∧
      x = a.tile i ∧
      (x.lane x.entryLane).lastValid + 2 * frameTicks ≤ a.now) :=
  ⟨⟨0, 0, tiled {}, _, _, 1, badCode, rfl, rfl, by decide +kernel⟩,
   ⟨0, 0, tiled {}, _, _, 0, cleanFrame, zeros 96, rfl, rfl, by decide +kernel⟩,
   ⟨0, 0, tiled { lane1 := { rxPlus := some true } }, _, _, 1, offFrame, 5 :: zeros 95, rfl, rfl, by decide +kernel⟩,
   ⟨0, 0, tiled { offLatch := false }, _, _, 7, rfl, rfl, by decide +kernel⟩,
   ⟨0, 0, tiled {}, _, _, 0, rfl, rfl, by decide +kernel⟩,
   ⟨0, tiled {}, _, 7, rfl, by decide +kernel⟩,
   ⟨0, 0, tiled { lane0 := { lastValid := 44880 } }, _, _, rfl, rfl, by decide +kernel⟩⟩

theorem witness_CellTilesSample :
    (∃ (t : Nat) (i : Nat) (s : State) (a : State) (x : Tile), ∃ d,
      a = advance t s ∧
      x = a.tile i ∧
      x.sampleAt = some d ∧
      d ≤ tileTime a x) ∧
    (∃ (t : Nat) (i : Nat) (s : State) (a : State) (x : Tile), ∃ d,
      a = advance t s ∧
      x = a.tile i ∧
      x.sampleAt = some d ∧
      tileTime a x < d) ∧
    (∃ (t : Nat) (i : Nat) (s : State) (a : State) (x : Tile),
      a = advance t s ∧
      x = a.tile i ∧
      x.bleedUntil ≤ a.now) ∧
    (∃ (t : Nat) (i : Nat) (s : State) (a : State) (x : Tile),
      a = advance t s ∧
      x = a.tile i ∧
      a.now < x.bleedUntil) ∧
    (∃ (t : Nat) (i : Nat) (s : State) (a : State) (x : Tile),
      a = advance t s ∧
      x = a.tile i ∧
      x.offLatch = true ∧
      x.lastAuto + x.autoPeriod * msTicks ≤ a.now) :=
  ⟨⟨0, 0, tiled { sampleAt := some 50000 }, _, _, _, rfl, rfl, rfl, by decide +kernel⟩,
   ⟨0, 0, tiled { sampleAt := some 50001 }, _, _, _, rfl, rfl, rfl, by decide +kernel⟩,
   ⟨0, 0, tiled { bleedUntil := 50000 }, _, _, rfl, rfl, by decide +kernel⟩,
   ⟨0, 0, tiled { bleedUntil := 50001 }, _, _, rfl, rfl, by decide +kernel⟩,
   ⟨0, 0, tiled { autoPeriod := 0 }, _, _, rfl, rfl, by decide +kernel⟩⟩

def sensing (x : PhaseSense) : State :=
  { live .run [(tySense, put 64 [(16, 1, 2), (17, 1, 1)]), phaseTile] with ports := [(5, { phase := .active })], pave := { phases := [(0, x)] } }

theorem witness_WindowsArePublished :
    (∃ (t : Nat) (p : Nat) (s : State) (a : State) (v : State) (x : PhaseSense) (e : Bytes),
      a = advance t s ∧
      running a = true ∧
      p < 192 ∧
      v = fillSilent p a ∧
      running v = true ∧
      x = v.sense p ∧
      e = sePhase (secs v) p ∧
      spOsr e ≠ 0 ∧
      x.frame % spOsr e = spWin e ∧
      x.window ≠ x.frame) ∧
    (∃ (t : Nat) (p : Nat) (s : State) (a : State) (v : State) (x : PhaseSense) (e : Bytes),
      a = advance t s ∧
      running a = true ∧
      p < 192 ∧
      v = fillSilent p a ∧
      running v = true ∧
      x = v.sense p ∧
      e = sePhase (secs v) p ∧
      spOsr e ≠ 0 ∧
      x.frame % spOsr e = spWin e ∧
      x.window ≠ x.frame ∧
      supportWhole (8 * spOsr e) x.gap = false) ∧
    (∃ (t : Nat) (p : Nat) (s : State) (a : State) (v : State) (x : PhaseSense) (e : Bytes),
      a = advance t s ∧
      running a = true ∧
      p < 192 ∧
      v = fillSilent p a ∧
      running v = true ∧
      x = v.sense p ∧
      e = sePhase (secs v) p ∧
      (spOsr e = 0 ∨ x.frame % spOsr e ≠ spWin e ∨ x.window = x.frame)) ∧
    (∃ (t : Nat) (p : Nat) (s : State) (a : State) (v : State), ∃ y,
      a = advance t s ∧
      running a = true ∧
      p < 192 ∧
      v = fillSilent p a ∧
      running v = true ∧
      phaseSeat (secs a) p = some y ∧
      (activePort a y.1).isSome = true) :=
  ⟨⟨0, 0, sensing { frame := 3, window := 1 }, _, _, _, _, rfl, by decide +kernel, by decide +kernel, rfl, by decide +kernel, rfl, rfl, by decide +kernel⟩,
   ⟨0, 0, sensing { frame := 3, window := 1, gap := 1 }, _, _, _, _, rfl, by decide +kernel, by decide +kernel, rfl, by decide +kernel, rfl, rfl, by decide +kernel⟩,
   ⟨0, 0, sensing { frame := 2, window := 1 }, _, _, _, _, rfl, by decide +kernel, by decide +kernel, rfl, by decide +kernel, rfl, rfl, by decide +kernel⟩,
   ⟨0, 0, sensing { frame := 3, window := 3 }, _, _, ((phaseSeat [phaseTile] 0).getD ([], 0)), rfl, by decide +kernel, by decide +kernel, rfl, by decide +kernel⟩⟩

/-- Stage 7, a chopper of phases 0 and 1. -/
def chopper : Nat × Bytes :=
  (tyStages, put 1616 [(0, 1, 1), (16, 1, 7), (17, 1, 1), (24, 1, 7), (25, 1, 1), (1552, 1, 7), (1553, 1, 2)])

def zeroing (z : ZeroRun) : State := { live .service [chopper] with pave := { zeroRun := some z } }

theorem witness_OffsetsAreZeroed :
    (∃ (t : Nat) (s : State) (a : State), ∃ rq u g,
      a = advance t s ∧
      admitCmd (serviceSpec 0x0510 4 4 [1, 2, 3]) rq a = some u ∧
      g = u8 rq.data 0 ∧
      stageDeclared (secs u) g = true ∧
      stKind (secs u) g ≠ 0 ∧
      u.mode = .service) ∧
    (∃ (t : Nat) (s : State) (a : State), ∃ z,
      a = advance t s ∧
      a.pave.zeroRun = some z ∧
      running a = true ∧
      z.gated = true) ∧
    (∃ (t : Nat) (s : State) (a : State), ∃ z,
      a = advance t s ∧
      a.pave.zeroRun = some z ∧
      running a = true ∧
      z.gated = false ∧
      (∃ p ∈ stagePhases (secs a) z.stage, (Tab.get (0, 0) z.sums p).2 ≠ 256)) ∧
    (∃ (t : Nat) (s : State) (a : State), ∃ z,
      a = advance t s ∧
      a.pave.zeroRun = some z ∧
      running a = true ∧
      z.gated = false ∧
      (∀ p ∈ stagePhases (secs a) z.stage, (Tab.get (0, 0) z.sums p).2 = 256 ∧
          withinI (-2097152) 2097152 (zeroOffset z p) = true)) :=
  ⟨⟨0, live .service [chopper], _, signed (serviceSpec 0x0510 4 4 [1, 2, 3]) (simple 7) (advance 0 (live .service [chopper])), taken (serviceSpec 0x0510 4 4 [1, 2, 3]) (simple 7) (advance 0 (live .service [chopper])), 7, rfl, admits _ _ _ (by decide +kernel), by decide +kernel⟩,
   ⟨0, zeroing { stage := 7, gated := true }, _, _, rfl, rfl, by decide +kernel⟩,
   ⟨0, zeroing { stage := 7, sums := [(0, (256, 256)), (1, (255, 255))] }, _, _, rfl, rfl, by decide +kernel⟩,
   ⟨0, zeroing { stage := 7, sums := [(0, (256, 256)), (1, (-128, 256))] }, _, _, rfl, rfl, by decide +kernel⟩⟩

/-- A cell tile of string 3, cells 0 and 1, on port 5. -/
def cellTile : Nat × Bytes :=
  (tyTileMap, put 144 [(0, 1, 1), (108, 1, 9), (109, 1, 2), (110, 1, 5), (111, 1, 0xFF), (112, 2, 0xFFFF), (114, 1, 2), (116, 1, 3)])

def openSet (x : CellData) : State :=
  { live .run [cellTile] with now := 6 * msTicks, pave := { openSets := [(3, x)], autoSets := [(9, x)] } }

theorem witness_CellSetsArePublished :
    (∃ (t : Nat) (b : Nat) (s : State) (a : State), ∃ x,
      a = advance t s ∧
      running a = true ∧
      Tab.find a.pave.openSets b = some x ∧
      (setComplete (secs a) x = true ∨ x.at_ + 6 * msTicks ≤ rackTime a)) ∧
    (∃ (t : Nat) (b : Nat) (s : State) (a : State), ∃ x,
      a = advance t s ∧
      running a = true ∧
      Tab.find a.pave.openSets b = some x ∧
      setComplete (secs a) x = false ∧
      rackTime a < x.at_ + 6 * msTicks) ∧
    (∃ (t : Nat) (b : Nat) (s : State) (a : State), ∃ x,
      a = advance t s ∧
      running a = true ∧
      Tab.find a.pave.openSets b = some x ∧
      setComplete (secs a) x = false ∧
      x.resent = false ∧
      x.at_ + 4 * msTicks ≤ rackTime a) ∧
    (∃ (t : Nat) (b : Nat) (s : State) (a : State), ∃ x,
      a = advance t s ∧
      running a = true ∧
      Tab.find a.pave.openSets b = some x ∧
      x.resent = true) ∧
    (∃ (t : Nat) (b : Nat) (s : State) (a : State), ∃ i x e,
      a = advance t s ∧
      running a = true ∧
      Tab.find a.pave.autoSets i = some x ∧
      tileEntry (secs a) i = some e ∧
      teIsCell e = true ∧
      teString e = b ∧
      setComplete (secs a) x = true) :=
  ⟨⟨0, 3, openSet { tiles := [9] }, _, _, rfl, by decide +kernel, rfl, by decide +kernel⟩,
   ⟨0, 3, openSet { tiles := [9], at_ := 1 }, _, _, rfl, by decide +kernel, rfl, by decide +kernel⟩,
   ⟨0, 3, openSet { tiles := [9], at_ := 2 * msTicks, volts := [(0, 3700)] }, _, _, rfl, by decide +kernel, rfl, by decide +kernel⟩,
   ⟨0, 3, openSet { tiles := [9], resent := true }, _, _, rfl, by decide +kernel, rfl, by decide +kernel⟩,
   ⟨0, 3, openSet { tiles := [9], volts := [(0, 3700), (1, 3701)] }, _, 9, _, _, rfl, by decide +kernel, rfl, rfl, by decide +kernel⟩⟩

/-- AIN channel 0 averages two codes; SPP channel 0 has a nominal period of 10,000 with 5 %. -/
def inputs (x : Ain) (y : SetIn) : State :=
  { live .run [(tySense, put 10192 [(9520, 1, 1), (9521, 1, 1), (10160, 1, 1), (10164, 4, 10000), (10168, 1, 5), (10170, 2, 1000), (10172, 2, 9000)])] with
    now := 3 * 10000 * 64, pave := { ains := [(0, x)], setIns := [(4, y)] } }

theorem witness_LocalInputsAreTaken :
    (∃ (t : Nat) (c : Nat) (s : State) (a : State), ∃ e x z,
      a = advance t s ∧
      running a = true ∧
      c < 32 ∧
      e = seAin (secs a) c ∧
      ainOn e = true ∧
      x = Tab.get ({} : Ain) a.pave.ains c ∧
      ainSlot a c = some z ∧
      x.slot ≠ some z ∧
      x.codes.length + 1 < 2 ^ u8 e 1) ∧
    (∃ (t : Nat) (c : Nat) (s : State) (a : State), ∃ e x z,
      a = advance t s ∧
      running a = true ∧
      c < 32 ∧
      e = seAin (secs a) c ∧
      ainOn e = true ∧
      x = Tab.get ({} : Ain) a.pave.ains c ∧
      ainSlot a c = some z ∧
      x.slot ≠ some z ∧
      2 ^ u8 e 1 ≤ x.codes.length + 1) ∧
    (∃ (t : Nat) (c : Nat) (s : State) (a : State), ∃ e x,
      a = advance t s ∧
      running a = true ∧
      c < 32 ∧
      e = seAin (secs a) c ∧
      ainOn e = true ∧
      x = Tab.get ({} : Ain) a.pave.ains c ∧
      (ainSlot a c = none ∨ ainSlot a c = x.slot)) ∧
    (∃ (t : Nat) (c : Nat) (s : State) (a : State) (period : Nat) (high : Nat) (e : Bytes) (x : SetIn),
      a = advance t s ∧
      running a = true ∧
      c < 4 ∧
      e = seSetIn (secs a) (c + 4) ∧
      setInOn e = true ∧
      x = a.setIn (c + 4) ∧
      x.fallback = false ∧
      period ≤ high + 3) ∧
    (∃ (t : Nat) (c : Nat) (s : State) (a : State) (period : Nat) (high : Nat) (e : Bytes) (x : SetIn),
      a = advance t s ∧
      running a = true ∧
      c < 4 ∧
      e = seSetIn (secs a) (c + 4) ∧
      setInOn e = true ∧
      x = a.setIn (c + 4) ∧
      x.fallback = false ∧
      high + 3 < period ∧
      100 * ((period : Int) - u32 e 4).natAbs ≤ u8 e 8 * u32 e 4 ∧
      u16 e 10 * period ≤ 10000 * high ∧
      10000 * high ≤ u16 e 12 * period) ∧
    (∃ (t : Nat) (c : Nat) (s : State) (a : State) (period : Nat) (high : Nat) (e : Bytes) (x : SetIn),
      a = advance t s ∧
      running a = true ∧
      c < 4 ∧
      e = seSetIn (secs a) (c + 4) ∧
      setInOn e = true ∧
      x = a.setIn (c + 4) ∧
      x.fallback = false ∧
      high + 3 < period ∧
      u8 e 8 * u32 e 4 < 100 * ((period : Int) - u32 e 4).natAbs ∧
      x.bad < 2) ∧
    (∃ (t : Nat) (c : Nat) (s : State) (a : State) (period : Nat) (high : Nat) (e : Bytes) (x : SetIn),
      a = advance t s ∧
      running a = true ∧
      c < 4 ∧
      e = seSetIn (secs a) (c + 4) ∧
      setInOn e = true ∧
      x = a.setIn (c + 4) ∧
      x.fallback = false ∧
      high + 3 < period ∧
      u8 e 8 * u32 e 4 < 100 * ((period : Int) - u32 e 4).natAbs ∧
      2 ≤ x.bad) ∧
    (∃ (t : Nat) (c : Nat) (s : State) (a : State), ∃ e fell d,
      a = advance t s ∧
      running a = true ∧
      c < 4 ∧
      e = seSetIn (secs a) (c + 4) ∧
      setInOn e = true ∧
      d = lastSppEdge (a.setIn (c + 4)) fell + 3 * u32 e 4 * 64 ∧
      d ≤ rackTime a) ∧
    (∃ (t : Nat) (c : Nat) (s : State) (a : State), ∃ e fell d,
      a = advance t s ∧
      running a = true ∧
      c < 4 ∧
      e = seSetIn (secs a) (c + 4) ∧
      setInOn e = true ∧
      d = lastSppEdge (a.setIn (c + 4)) fell + 3 * u32 e 4 * 64 ∧
      rackTime a < d) :=
  ⟨⟨0, 0, inputs {} {}, _, _, _, 1920000, rfl, by decide +kernel, by decide +kernel, rfl, by decide +kernel, rfl, by decide +kernel⟩,
   ⟨0, 0, inputs { codes := [5] } {}, _, _, _, 1920000, rfl, by decide +kernel, by decide +kernel, rfl, by decide +kernel, rfl, by decide +kernel⟩,
   ⟨0, 0, inputs { slot := some 1920000 } {}, _, _, _, rfl, by decide +kernel, by decide +kernel, rfl, by decide +kernel, rfl, by decide +kernel⟩,
   ⟨0, 0, inputs {} {}, _, 5, 3, _, _, rfl, by decide +kernel, by decide +kernel, rfl, by decide +kernel, rfl, by decide +kernel⟩,
   ⟨0, 0, inputs {} {}, _, 10500, 1050, _, _, rfl, by decide +kernel, by decide +kernel, rfl, by decide +kernel, rfl, by decide +kernel⟩,
   ⟨0, 0, inputs {} { bad := 1 }, _, 10501, 0, _, _, rfl, by decide +kernel, by decide +kernel, rfl, by decide +kernel, rfl, by decide +kernel⟩,
   ⟨0, 0, inputs {} { bad := 2 }, _, 9499, 0, _, _, rfl, by decide +kernel, by decide +kernel, rfl, by decide +kernel, rfl, by decide +kernel⟩,
   ⟨0, 0, inputs {} {}, _, _, none, _, rfl, by decide +kernel, by decide +kernel, rfl, by decide +kernel, rfl, by decide +kernel⟩,
   ⟨0, 0, inputs {} { lastEdge := 64 }, _, _, none, _, rfl, by decide +kernel, by decide +kernel, rfl, by decide +kernel, rfl, by decide +kernel⟩⟩

def loopCtx : Nat × Bytes :=
  (tyLoopContexts, put 64 [(0, 2, 1), (2, 1, 10), (16, 2, 0x107), (18, 2, 48), (20, 1, 1), (21, 1, 6), (28, 4, 1000)])

def inFlight (f : Flight) : State := { live .run [loopCtx] with now := 640, loops := { flights := [f] } }

def aFlight : Flight := { due := { ctx := 0x107 }, engine := 2, issued := 320, update := 900, result := { y := 5 } }

theorem witness_EvaluationsAreIssuedAndFinish :
    (∃ (t : Nat) (s : State) (a : State),
      a = settleEngines (advance t s) ∧
      running a = true ∧
      rackTime a % 320 = 0) ∧
    (∃ (t : Nat) (s : State) (a : State),
      a = settleEngines (advance t s) ∧
      running a = true ∧
      rackTime a % 320 ≠ 0) ∧
    (∃ (t : Nat) (s : State) (a : State), ∃ c,
      a = settleEngines (advance t s) ∧
      running a = true ∧
      (a.loops.flights.find? (fun f => f.due.ctx == c) = none)) ∧
    (∃ (t : Nat) (s : State) (a : State), ∃ c f,
      a = settleEngines (advance t s) ∧
      running a = true ∧
      (a.loops.flights.find? (fun f => f.due.ctx == c) = some f) ∧
      isPhaseCtx c = false ∧
      f.stale = none ∧
      f.checks = 0 ∧
      (a.ctx c).waiting = false ∧
      a.loops.capture.state = 0 ∧
      (writeBack f (f.issued / ledgerTicks) (rackTime a) (a.ctx c)).waiting = false) :=
  ⟨⟨0, inFlight aFlight, _, rfl, by decide +kernel⟩,
   ⟨0, { inFlight aFlight with now := 641 }, _, rfl, by decide +kernel⟩,
   ⟨0, inFlight aFlight, _, 0x108, rfl, by decide +kernel⟩,
   ⟨0, inFlight aFlight, _, 0x107, _, rfl, by decide +kernel, rfl, by decide +kernel⟩⟩

def proving (e : Engine) : State := { live .run [] with now := 32640000, loops := { engines := [(1, e)] } }

def trimmed (told : Bool) : State :=
  { live .run [] with now := 100 * msTicks, modul := { phases := [(3, { trimSince := some 0, trimTold := told })] } }

theorem witness_EnginesAreProved :
    (∃ (t : Nat) (k : Nat) (s : State) (now : State) (a : State) (e : Engine), ∃ m,
      now = advance t s ∧
      a = settleEngines now ∧
      running a = true ∧
      e = a.engine k ∧
      proofInterval a k = some m ∧
      k < 9 ∧
      rackTime a % 320 = 0 ∧
      e.provedIn ≠ m + 1 ∧
      freeSlots a k ≠ 0) ∧
    (∃ (t : Nat) (k : Nat) (s : State) (now : State) (a : State) (e : Engine), ∃ m,
      now = advance t s ∧
      a = settleEngines now ∧
      running a = true ∧
      e = a.engine k ∧
      proofInterval a k = some m ∧
      k < 9 ∧
      e.provedIn = m + 1) ∧
    (∃ (t : Nat) (k : Nat) (s : State) (now : State) (a : State) (e : Engine), ∃ m,
      now = advance t s ∧
      a = settleEngines now ∧
      running a = true ∧
      e = a.engine k ∧
      proofInterval a k = some m ∧
      k < 9 ∧
      e.provedIn < m) ∧
    (∃ (t : Nat) (k : Nat) (s : State) (now : State) (a : State) (e : Engine), ∃ m,
      now = advance t s ∧
      a = settleEngines now ∧
      running a = true ∧
      e = a.engine k ∧
      proofInterval a k = some m ∧
      k < 9 ∧
      m ≤ e.provedIn) ∧
    (∃ (t : Nat) (k : Nat) (s : State) (now : State) (a : State) (e : Engine),
      now = advance t s ∧
      a = settleEngines now ∧
      running a = true ∧
      e = a.engine k ∧
      e.state = 1) ∧
    (∃ (t : Nat) (k : Nat) (s : State) (now : State) (a : State) (e : Engine),
      now = advance t s ∧
      a = settleEngines now ∧
      running a = true ∧
      e = a.engine k ∧
      e.state = 0) ∧
    (∃ (t : Nat) (s : State) (now : State) (a : State), ∃ p since,
      now = advance t s ∧
      a = settleEngines now ∧
      running a = true ∧
      running now = true ∧
      (now.ph p).trimSince = some since ∧
      (now.ph p).trimTold = false ∧
      since + 100 * msTicks ≤ rackTime now) ∧
    (∃ (t : Nat) (s : State) (now : State) (a : State), ∃ p since,
      now = advance t s ∧
      a = settleEngines now ∧
      running a = true ∧
      running now = true ∧
      (now.ph p).trimSince = some since ∧
      (now.ph p).trimTold = true) :=
  ⟨⟨0, 1, proving { provedIn := 5 }, _, _, _, 5, rfl, rfl, by decide +kernel, rfl, by decide +kernel⟩,
   ⟨0, 1, proving { provedIn := 6 }, _, _, _, 5, rfl, rfl, by decide +kernel, rfl, by decide +kernel⟩,
   ⟨0, 1, proving { provedIn := 4 }, _, _, _, 5, rfl, rfl, by decide +kernel, rfl, by decide +kernel⟩,
   ⟨0, 1, proving { provedIn := 5 }, _, _, _, 5, rfl, rfl, by decide +kernel, rfl, by decide +kernel⟩,
   ⟨0, 1, proving { state := 1 }, _, _, _, rfl, rfl, by decide +kernel, rfl, by decide +kernel⟩,
   ⟨0, 1, proving { state := 0 }, _, _, _, rfl, rfl, by decide +kernel, rfl, by decide +kernel⟩,
   ⟨0, trimmed false, _, _, 3, 0, rfl, rfl, by decide +kernel, by decide +kernel, rfl, by decide +kernel⟩,
   ⟨0, trimmed true, _, _, 3, 0, rfl, rfl, by decide +kernel, by decide +kernel, rfl, by decide +kernel⟩⟩

def req (d : Bytes) : CmdReq := { port := .tw, tag := 1, data := d }

/-- Context 0x107 of stage 7, which runs; bit 0 of `flags` guards the stage. -/
def opened (x : Ctx) (flags : Nat) : State :=
  { live .service [loopCtx, (tyStages, put 1616 [(0, 1, 1), (1552, 1, 7), (1553, 1, 2), (1554, 1, flags)])] with
    loops := { ctxs := [(0x107, x)] }, modul := { stages := [(7, { mode := .running })] } }

theorem witness_LoopsAreOpenedAndClosed :
    (∃ (t : Nat) (rq : CmdReq) (s : State) (a : State) (u : State) (c : Nat) (g : Nat),
      a = advance t s ∧
      c = u16 rq.data 0 ∧
      g = ctxStage (secs u) c ∧
      ctxArgOk u c = true ∧
      u.mode = .service ∧
      admitCmd (serviceSpec 0x0610 8 8 [3]) rq a = some u ∧
      stageRunning u g = true ∧
      ctxOpenable (lcRec (secs u) c) = true ∧
      stGuarded (secs u) g = false ∧
      u8 rq.data 2 = 0) ∧
    (∃ (t : Nat) (rq : CmdReq) (s : State) (a : State) (u : State) (c : Nat) (g : Nat),
      a = advance t s ∧
      c = u16 rq.data 0 ∧
      g = ctxStage (secs u) c ∧
      ctxArgOk u c = true ∧
      u.mode = .service ∧
      admitCmd (serviceSpec 0x0610 8 8 [3]) rq a = some u ∧
      stageRunning u g = true ∧
      ctxOpenable (lcRec (secs u) c) = true ∧
      stGuarded (secs u) g = false ∧
      u8 rq.data 2 = 1 ∧
      manualOk u c (i32 rq.data 4) = true) ∧
    (∃ (t : Nat) (rq : CmdReq) (s : State) (a : State) (u : State) (c : Nat) (g : Nat),
      a = advance t s ∧
      c = u16 rq.data 0 ∧
      g = ctxStage (secs u) c ∧
      ctxArgOk u c = true ∧
      u.mode = .service ∧
      admitCmd (serviceSpec 0x0610 8 8 [3]) rq a = some u ∧
      stageRunning u g = true ∧
      u8 rq.data 2 ≤ 1 ∧
      stGuarded (secs u) g = true) ∧
    (∃ (t : Nat) (rq : CmdReq) (s : State) (a : State) (u : State) (c : Nat),
      a = advance t s ∧
      c = u16 rq.data 0 ∧
      ctxArgOk u c = true ∧
      u.mode = .service ∧
      admitCmd (serviceSpec 0x0611 8 8 [2, 3]) rq a = some u ∧
      (u.ctx c).mode = .manual ∧
      manualOk u c (i32 rq.data 4) = true) ∧
    (∃ (t : Nat) (rq : CmdReq) (s : State) (a : State) (u : State) (c : Nat),
      a = advance t s ∧
      c = u16 rq.data 0 ∧
      ctxArgOk u c = true ∧
      u.mode = .service ∧
      admitCmd (serviceSpec 0x0611 8 8 [2, 3]) rq a = some u ∧
      (u.ctx c).mode = .closed) ∧
    (∃ (t : Nat) (rq : CmdReq) (s : State) (a : State) (u : State) (c : Nat), ∃ b w r,
      a = advance t s ∧
      c = u16 rq.data 0 ∧
      ctxArgOk u c = true ∧
      u.mode = .service ∧
      admitCmd (serviceSpec 0x0612 11 71 [6, 7]) rq a = some u ∧
      u8 rq.data 2 = 0xFF ∧
      u8 rq.data 3 = 0xFF ∧
      b = (u.ctx c).pending.getD (bodyOf u c) ∧
      w = rq.data.drop 8 ∧
      r = lcRec (secs u) c ∧
      reservedZero (ctxForm r) (ctxBody r) (u16 rq.data 4) w = true ∧
      (u.ctx c).mode ≠ .closed ∧
      u16 rq.data 4 + w.length ≤ b.length ∧
      bodyWriteOk r (u16 rq.data 4) w b = true) ∧
    (∃ (t : Nat) (rq : CmdReq) (s : State) (a : State) (u : State) (c : Nat),
      a = advance t s ∧
      c = u16 rq.data 0 ∧
      ctxArgOk u c = true ∧
      u.mode = .service ∧
      admitCmd (serviceSpec 0x0612 11 71 [6, 7]) rq a = some u ∧
      u8 rq.data 2 = 0xFF ∧
      u8 rq.data 3 = 0xFF ∧
      reservedZero (ctxForm (lcRec (secs u) c)) (ctxBody (lcRec (secs u) c)) (u16 rq.data 4) (rq.data.drop 8) = false) ∧
    (∃ (t : Nat) (rq : CmdReq) (s : State) (a : State) (u : State) (c : Nat),
      a = advance t s ∧
      c = u16 rq.data 0 ∧
      ctxArgOk u c = true ∧
      u.mode = .service ∧
      admitCmd (serviceSpec 0x0613 4 4 [2, 3]) rq a = some u ∧
      (u.ctx c).mode ≠ .closed) ∧
    (∃ (t : Nat) (rq : CmdReq) (s : State) (a : State) (u : State) (c : Nat),
      a = advance t s ∧
      c = u16 rq.data 0 ∧
      ctxArgOk u c = true ∧
      u.mode = .service ∧
      admitCmd (serviceSpec 0x0613 4 4 [2, 3]) rq a = some u ∧
      (u.ctx c).mode = .closed) :=
  ⟨⟨0, signed (serviceSpec 0x0610 8 8 [3]) (req (leBytes 2 0x107 ++ zeros 6)) (advance 0 (opened {} 0)), opened {} 0, _, taken (serviceSpec 0x0610 8 8 [3]) (req (leBytes 2 0x107 ++ zeros 6)) (advance 0 (opened {} 0)), _, _, rfl, rfl, rfl, by decide +kernel, by decide +kernel, admits _ _ _ (by decide +kernel), by decide +kernel⟩,
   ⟨0, signed (serviceSpec 0x0610 8 8 [3]) (req (leBytes 2 0x107 ++ [1, 0] ++ leBytes 4 1000)) (advance 0 (opened {} 0)), opened {} 0, _, taken (serviceSpec 0x0610 8 8 [3]) (req (leBytes 2 0x107 ++ [1, 0] ++ leBytes 4 1000)) (advance 0 (opened {} 0)), _, _, rfl, rfl, rfl, by decide +kernel, by decide +kernel, admits _ _ _ (by decide +kernel), by decide +kernel⟩,
   ⟨0, signed (serviceSpec 0x0610 8 8 [3]) (req (leBytes 2 0x107 ++ zeros 6)) (advance 0 (opened {} 1)), opened {} 1, _, taken (serviceSpec 0x0610 8 8 [3]) (req (leBytes 2 0x107 ++ zeros 6)) (advance 0 (opened {} 1)), _, _, rfl, rfl, rfl, by decide +kernel, by decide +kernel, admits _ _ _ (by decide +kernel), by decide +kernel⟩,
   ⟨0, signed (serviceSpec 0x0611 8 8 [2, 3]) (req (leBytes 2 0x107 ++ zeros 6)) (advance 0 (opened { mode := .manual } 0)), opened { mode := .manual } 0, _, taken (serviceSpec 0x0611 8 8 [2, 3]) (req (leBytes 2 0x107 ++ zeros 6)) (advance 0 (opened { mode := .manual } 0)), _, rfl, rfl, by decide +kernel, by decide +kernel, admits _ _ _ (by decide +kernel), by decide +kernel⟩,
   ⟨0, signed (serviceSpec 0x0611 8 8 [2, 3]) (req (leBytes 2 0x107 ++ zeros 6)) (advance 0 (opened {} 0)), opened {} 0, _, taken (serviceSpec 0x0611 8 8 [2, 3]) (req (leBytes 2 0x107 ++ zeros 6)) (advance 0 (opened {} 0)), _, rfl, rfl, by decide +kernel, by decide +kernel, admits _ _ _ (by decide +kernel), by decide +kernel⟩,
   ⟨0, signed (serviceSpec 0x0612 11 71 [6, 7]) (req (leBytes 2 0x107 ++ [255, 255, 2, 0, 0, 0, 9, 8, 7])) (advance 0 (opened { mode := .hold } 0)), opened { mode := .hold } 0, _, taken (serviceSpec 0x0612 11 71 [6, 7]) (req (leBytes 2 0x107 ++ [255, 255, 2, 0, 0, 0, 9, 8, 7])) (advance 0 (opened { mode := .hold } 0)), _, _, _, _, rfl, rfl, by decide +kernel, by decide +kernel, admits _ _ _ (by decide +kernel), by decide +kernel, by decide +kernel, rfl, rfl, rfl, by decide +kernel⟩,
   ⟨0, signed (serviceSpec 0x0612 11 71 [6, 7]) (req (leBytes 2 0x107 ++ [255, 255, 0, 0, 0, 0, 0, 1, 0])) (advance 0 (opened { mode := .hold } 0)), opened { mode := .hold } 0, _, taken (serviceSpec 0x0612 11 71 [6, 7]) (req (leBytes 2 0x107 ++ [255, 255, 0, 0, 0, 0, 0, 1, 0])) (advance 0 (opened { mode := .hold } 0)), _, rfl, rfl, by decide +kernel, by decide +kernel, admits _ _ _ (by decide +kernel), by decide +kernel⟩,
   ⟨0, signed (serviceSpec 0x0613 4 4 [2, 3]) (req (leBytes 2 0x107 ++ zeros 2)) (advance 0 (opened { mode := .hold } 0)), opened { mode := .hold } 0, _, taken (serviceSpec 0x0613 4 4 [2, 3]) (req (leBytes 2 0x107 ++ zeros 2)) (advance 0 (opened { mode := .hold } 0)), _, rfl, rfl, by decide +kernel, by decide +kernel, admits _ _ _ (by decide +kernel), by decide +kernel⟩,
   ⟨0, signed (serviceSpec 0x0613 4 4 [2, 3]) (req (leBytes 2 0x107 ++ zeros 2)) (advance 0 (opened {} 0)), opened {} 0, _, taken (serviceSpec 0x0613 4 4 [2, 3]) (req (leBytes 2 0x107 ++ zeros 2)) (advance 0 (opened {} 0)), _, rfl, rfl, by decide +kernel, by decide +kernel, admits _ _ _ (by decide +kernel), by decide +kernel⟩⟩

def injecting : State :=
  { opened {} 0 with loops := { inject := some { ctx := 0x107, point := 0, wave := 0, amplitude := 5, freq := 100, length := 0 } } }

theorem witness_InjectionAndCapture :
    (∃ (t : Nat) (rq : CmdReq) (s : State) (a : State) (u : State) (c : Nat),
      a = advance t s ∧
      c = u16 rq.data 0 ∧
      admitCmd (serviceSpec 0x0614 16 16 []) rq a = some u ∧
      u.mode = .service ∧
      ctxArgOk u c = true ∧
      u8 rq.data 2 ≤ 2 ∧
      (u8 rq.data 3 = 0 ∧ within 100 5000000 (u32 rq.data 8) = true ∨ u8 rq.data 3 = 1 ∨
        (u8 rq.data 3 = 2 ∨ u8 rq.data 3 = 3) ∧ within 1 65536 (u32 rq.data 12) = true) ∧
      u.loops.inject = none ∧
      stGuarded (secs u) (ctxStage (secs u) c) = false ∧
      amplitudeOk u c (u8 rq.data 2) (i32 rq.data 4) = true ∧
      u.loops.capture.trigger ≠ 1) ∧
    (∃ (t : Nat) (rq : CmdReq) (s : State) (a : State) (u : State), ∃ j,
      a = advance t s ∧
      admitCmd (serviceSpec 0x0615 4 4 noArgs) rq a = some u ∧
      u.mode = .service ∧
      u.loops.inject = some j) ∧
    (∃ (t : Nat) (rq : CmdReq) (s : State) (a : State) (u : State) (c : Nat), ∃ sigs,
      a = advance t s ∧
      c = u16 rq.data 0 ∧
      admitCmd { object := 0x0616, role := some 5, lo := 32, hi := 32, resv := [10, 11, 17, 21, 25, 29] } rq a = some u ∧
      (u.mode = .standby ∨ u.mode = .run ∨ u.mode = .service) ∧
      ctxArgOk u c = true ∧
      within 1 256 (u16 rq.data 2) = true ∧
      u8 rq.data 6 ≤ 3 ∧
      u8 rq.data 7 ≤ 1 ∧
      (sigs = (List.range 4).map (fun k => (u8 rq.data (16 + 4 * k), u16 rq.data (18 + 4 * k)))) ∧
      (∀ x ∈ sigs, x.1 ≤ 6 ∧ (x.1 = 6 → selectorOk (secs u) x.2 = true)) ∧
      u.loops.capture.state ≠ 1 ∧
      u.loops.capture.state ≠ 2) ∧
    (∃ (t : Nat) (rq : CmdReq) (s : State) (a : State) (u : State),
      a = advance t s ∧
      admitCmd { object := 0x0617, role := some 5, lo := 4, hi := 4, resv := noArgs } rq a = some u ∧
      (u.loops.capture.state = 1 ∨ u.loops.capture.state = 2)) :=
  ⟨⟨0, signed (serviceSpec 0x0614 16 16 []) (req (leBytes 2 0x107 ++ [0, 0] ++ leBytes 4 100 ++ leBytes 4 100 ++ zeros 4)) (advance 0 (opened {} 0)), opened {} 0, _, taken (serviceSpec 0x0614 16 16 []) (req (leBytes 2 0x107 ++ [0, 0] ++ leBytes 4 100 ++ leBytes 4 100 ++ zeros 4)) (advance 0 (opened {} 0)), _, rfl, rfl, admits _ _ _ (by decide +kernel), by decide +kernel⟩,
   ⟨0, signed (serviceSpec 0x0615 4 4 noArgs) (req (zeros 4)) (advance 0 injecting), injecting, _, taken (serviceSpec 0x0615 4 4 noArgs) (req (zeros 4)) (advance 0 injecting), _, rfl, admits _ _ _ (by decide +kernel), by decide +kernel, rfl⟩,
   ⟨0, signed { object := 0x0616, role := some 5, lo := 32, hi := 32, resv := [10, 11, 17, 21, 25, 29] } (req (leBytes 2 0x107 ++ leBytes 2 256 ++ zeros 28)) (advance 0 (opened {} 0)), opened {} 0, _, taken { object := 0x0616, role := some 5, lo := 32, hi := 32, resv := [10, 11, 17, 21, 25, 29] } (req (leBytes 2 0x107 ++ leBytes 2 256 ++ zeros 28)) (advance 0 (opened {} 0)), _, _, rfl, rfl, admits _ _ _ (by decide +kernel), by decide +kernel, by decide +kernel, by decide +kernel, by decide +kernel, by decide +kernel, rfl, by decide +kernel⟩,
   ⟨0, signed { object := 0x0617, role := some 5, lo := 4, hi := 4, resv := noArgs } (req (zeros 4)) (advance 0 { opened {} 0 with loops := { capture := { state := 2 } } }), { opened {} 0 with loops := { capture := { state := 2 } } }, _, taken { object := 0x0617, role := some 5, lo := 4, hi := 4, resv := noArgs } (req (zeros 4)) (advance 0 { opened {} 0 with loops := { capture := { state := 2 } } }), rfl, admits _ _ _ (by decide +kernel), by decide +kernel⟩⟩

def staged (x : Stage) : State :=
  { live .run [(tyStages, put 1616 [(0, 1, 1), (4, 2, 1), (6, 2, 3), (8, 2, 40), (16, 1, 7), (17, 1, 1), (1552, 1, 7), (1553, 1, 2), (1554, 1, 16)])] with
    now := 6400000, modul := { stages := [(7, x)] } }

def crowbarred (b : Bool) : State :=
  { staged { mode := .running } with collector := { inputs := [(0x0502 * 8, { asserted := b })] } }

theorem witness_PulsesBrakesAndCrowbars :
    (∃ (t : Nat) (s : State) (a : State), ∃ f,
      a = advance t s ∧
      linkUp a = true ∧
      f * frameTicks ≤ rackTime a + 320 ∧
      rackTime a ≤ f * frameTicks ∧
      a.modul.cutFrame ≤ f) ∧
    (∃ (t : Nat) (s : State) (a : State), ∃ f,
      a = advance t s ∧
      (linkUp a = false ∨ rackTime a + 320 < f * frameTicks ∨ f * frameTicks < rackTime a ∨ f < a.modul.cutFrame)) ∧
    (∃ (t : Nat) (s : State) (a : State), ∃ g,
      a = advance t s ∧
      running a = true ∧
      (a.stage g).mode = .braking ∧
      (a.stage g).brakeSince + sgBrakeMax (secs a) * usTicks ≤ rackTime a) ∧
    (∃ (t : Nat) (s : State) (a : State), ∃ g,
      a = advance t s ∧
      running a = true ∧
      (a.stage g).mode = .braking ∧
      rackTime a < (a.stage g).brakeSince + sgBrakeMax (secs a) * usTicks) ∧
    (∃ (t : Nat) (s : State) (a : State), ∃ p g,
      a = advance t s ∧
      running a = true ∧
      phRole (secs a) p ≠ 0 ∧
      g = phStage (secs a) p ∧
      stCrowbarEn (secs a) g = true ∧
      stageOn a g = true ∧
      (a.input 0x0502 (phaseScope a p)).asserted = true) ∧
    (∃ (t : Nat) (s : State) (a : State), ∃ p g,
      a = advance t s ∧
      running a = true ∧
      phRole (secs a) p ≠ 0 ∧
      g = phStage (secs a) p ∧
      stCrowbarEn (secs a) g = true ∧
      stageOn a g = true ∧
      (a.input 0x0502 (phaseScope a p)).asserted = false) ∧
    (∃ (t : Nat) (s : State) (a : State), ∃ g q,
      a = advance t s ∧
      running a = true ∧
      (a.stage g).mode = .running ∧
      (a.stage g).quietSince = some q ∧
      q + sgQuietTime (secs a) * msTicks ≤ rackTime a) ∧
    (∃ (t : Nat) (s : State) (a : State), ∃ g q,
      a = advance t s ∧
      running a = true ∧
      (a.stage g).mode = .running ∧
      (a.stage g).quietSince = some q ∧
      rackTime a < q + sgQuietTime (secs a) * msTicks) ∧
    (∃ (t : Nat) (s : State) (a : State),
      a = advance t s ∧
      a.mode = .run ∧
      a.maq.wearAt + 60 * sgWearSave (secs a) ≤ a.plinth.opSeconds) ∧
    (∃ (t : Nat) (s : State) (a : State),
      a = advance t s ∧
      a.mode = .run ∧
      a.plinth.opSeconds < a.maq.wearAt + 60 * sgWearSave (secs a)) :=
  ⟨⟨0, { staged {} with pins := { transmitters := true } }, _, 2500, rfl, by decide +kernel⟩,
   ⟨0, { staged {} with pins := { transmitters := true } }, _, 2499, rfl, by decide +kernel⟩,
   ⟨0, staged { mode := .braking, brakeSince := 6144000 }, _, 7, rfl, by decide +kernel⟩,
   ⟨0, staged { mode := .braking, brakeSince := 6144001 }, _, 7, rfl, by decide +kernel⟩,
   ⟨0, crowbarred true, _, 0, 7, rfl, by decide +kernel⟩,
   ⟨0, crowbarred false, _, 0, 7, rfl, by decide +kernel⟩,
   ⟨0, { staged { mode := .running, quietSince := some 1 } with now := 19200001 }, _, 7, _, rfl, by decide +kernel, by decide +kernel, rfl, by decide +kernel⟩,
   ⟨0, { staged { mode := .running, quietSince := some 1 } with now := 19200000 }, _, 7, _, rfl, by decide +kernel, by decide +kernel, rfl, by decide +kernel⟩,
   ⟨0, { staged {} with plinth := { opSeconds := 60 } }, _, rfl, by decide +kernel⟩,
   ⟨0, { staged {} with plinth := { opSeconds := 59 } }, _, rfl, by decide +kernel⟩⟩

theorem witness_StagesStop :
    (∃ (g : Nat) (s : State),
      (s.stage g).mode = .stopped) ∧
    (∃ (g : Nat) (s : State),
      (s.stage g).mode = .running ∨ (s.stage g).mode = .starting ∨ (s.stage g).mode = .braking) ∧
    (∃ (g : Nat) (s : State),
      (s.stage g).mode = .crowbar) :=
  ⟨⟨7, staged {}, by decide +kernel⟩,
   ⟨7, staged { mode := .starting }, by decide +kernel⟩,
   ⟨7, staged { mode := .crowbar }, by decide +kernel⟩⟩

def retiring (flags : Nat) (x : Stage) : State :=
  { linked { phase := .active } with
    mode := .service, loader := (live .run [(tyStages, put 1616 [(0, 1, 1), (16, 1, 7), (17, 1, 1), (1552, 1, 7), (1553, 1, 2), (1554, 1, flags)])]).loader
    modul := { stages := [(7, x)] } }

def lastPhase : State :=
  { retiring 1 { mode := .running } with
    loader := (live .run [phaseTile, (tyStages, put 1616 [(0, 1, 1), (16, 1, 7), (17, 1, 1), (1552, 1, 7), (1553, 1, 2), (1554, 1, 1)])]).loader }

theorem witness_PhasesAreRetired :
    (∃ (t : Nat) (rq : CmdReq) (s : State) (a : State) (u : State) (p : Nat) (g : Nat), ∃ b,
      a = advance t s ∧
      p = u8 rq.data 0 ∧
      p < 192 ∧
      g = phStage (secs u) p ∧
      u.mode = .service ∧
      admitCmd (serviceSpec 0x0710 4 4 [1, 2, 3]) rq a = some u ∧
      stGuarded (secs u) g = false ∧
      works u p = true ∧
      b = (if (u.ph p).wear.state == .retirePending then u else wearTo p .retirePending u) ∧
      (b.stage g).mode = .stopped) ∧
    (∃ (t : Nat) (rq : CmdReq) (s : State) (a : State) (u : State) (p : Nat) (g : Nat), ∃ b,
      a = advance t s ∧
      p = u8 rq.data 0 ∧
      p < 192 ∧
      g = phStage (secs u) p ∧
      u.mode = .service ∧
      admitCmd (serviceSpec 0x0710 4 4 [1, 2, 3]) rq a = some u ∧
      stGuarded (secs u) g = false ∧
      works u p = true ∧
      b = (if (u.ph p).wear.state == .retirePending then u else wearTo p .retirePending u) ∧
      (b.stage g).mode ≠ .stopped) ∧
    (∃ (t : Nat) (rq : CmdReq) (s : State) (a : State) (u : State) (p : Nat) (g : Nat),
      a = advance t s ∧
      p = u8 rq.data 0 ∧
      p < 192 ∧
      g = phStage (secs u) p ∧
      u.mode = .service ∧
      admitCmd (serviceSpec 0x0710 4 4 [1, 2, 3]) rq a = some u ∧
      stGuarded (secs u) g = true ∧
      activePhases u g = [p]) ∧
    (∃ (t : Nat) (rq : CmdReq) (s : State) (a : State) (u : State) (p : Nat),
      a = advance t s ∧
      p = u8 rq.data 0 ∧
      p < 192 ∧
      u.mode = .service ∧
      admitCmd (serviceSpec 0x0711 4 4 [1, 2, 3]) rq a = some u ∧
      phRole (secs u) p ≠ 0) :=
  ⟨⟨0, signed (serviceSpec 0x0710 4 4 [1, 2, 3]) (req (zeros 4)) (advance 0 (retiring 0 {})), retiring 0 {}, _, taken (serviceSpec 0x0710 4 4 [1, 2, 3]) (req (zeros 4)) (advance 0 (retiring 0 {})), 0, 7, _, rfl, by decide +kernel, by decide +kernel, by decide +kernel, by decide +kernel, admits _ _ _ (by decide +kernel), by decide +kernel, by decide +kernel, rfl, by decide +kernel⟩,
   ⟨0, signed (serviceSpec 0x0710 4 4 [1, 2, 3]) (req (zeros 4)) (advance 0 (retiring 0 { mode := .running })), retiring 0 { mode := .running }, _, taken (serviceSpec 0x0710 4 4 [1, 2, 3]) (req (zeros 4)) (advance 0 (retiring 0 { mode := .running })), 0, 7, _, rfl, by decide +kernel, by decide +kernel, by decide +kernel, by decide +kernel, admits _ _ _ (by decide +kernel), by decide +kernel, by decide +kernel, rfl, by decide +kernel⟩,
   ⟨0, signed (serviceSpec 0x0710 4 4 [1, 2, 3]) (req (zeros 4)) (advance 0 lastPhase), lastPhase, _, taken (serviceSpec 0x0710 4 4 [1, 2, 3]) (req (zeros 4)) (advance 0 lastPhase), 0, 7, rfl, by decide +kernel, by decide +kernel, by decide +kernel, by decide +kernel, admits _ _ _ (by decide +kernel), by decide +kernel⟩,
   ⟨0, signed (serviceSpec 0x0711 4 4 [1, 2, 3]) (req (zeros 4)) (advance 0 (retiring 0 {})), retiring 0 {}, _, taken (serviceSpec 0x0711 4 4 [1, 2, 3]) (req (zeros 4)) (advance 0 (retiring 0 {})), 0, rfl, by decide +kernel, by decide +kernel, by decide +kernel, admits _ _ _ (by decide +kernel), by decide +kernel⟩⟩

/-- CAPO 3 on, SHORT_TIME 5 ms, HOLDUP_HOLD of stage 7 20 ms, rests of string 3 enabled. -/
def balanceSec : Nat × Bytes :=
  (tyBalance, put 352 [(44, 2, 8), (46, 2, 3), (50, 2, 6), (52, 2, 7), (60, 2, 5), (88, 1, 1), (326, 2, 20)])

def ledgerAt (now : Nat) (b : Balance) : State :=
  { live .run [stringStages 1 0, balanceSec] with
    now := now, balance := b, modul := { stages := [(7, { mode := .running, pub := { mode := .running } })] }, maq := { strings := [(3, { restReq := true })] } }

theorem witness_LedgerBoundariesAreComputed :
    (∃ (t : Nat) (s : State) (a : State),
      a = advance t s ∧
      running a = true ∧
      a.ledger ≤ period a) ∧
    (∃ (t : Nat) (s : State) (a : State),
      a = advance t s ∧
      running a = true ∧
      period a < a.ledger) ∧
    (∃ (t : Nat) (s : State) (a : State),
      a = advance t s ∧
      running a = true ∧
      a.balance.computed ≤ period a ∧
      51200 ≤ rackTime a % ledgerTicks ∧
      rackTime a % ledgerTicks ≤ 63680) ∧
    (∃ (t : Nat) (s : State) (a : State),
      a = advance t s ∧
      running a = true ∧
      a.balance.computed ≤ period a ∧
      51200 ≤ rackTime a % ledgerTicks ∧
      63680 < rackTime a % ledgerTicks) ∧
    (∃ (t : Nat) (s : State) (a : State),
      a = advance t s ∧
      running a = true ∧
      period a < a.balance.computed) ∧
    (∃ (t : Nat) (s : State) (a : State), ∃ c,
      a = advance t s ∧
      running a = true ∧
      c < 4 ∧
      capoOn (secs a) c = true ∧
      period a % 10 = 0) ∧
    (∃ (t : Nat) (s : State) (a : State), ∃ c,
      a = advance t s ∧
      running a = true ∧
      c < 4 ∧
      capoOn (secs a) c = true ∧
      period a % 10 ≠ 0) ∧
    (∃ (t : Nat) (s : State) (a : State), ∃ g,
      a = advance t s ∧
      running a = true ∧
      a.balance.holdup = true ∧
      stageDeclared (secs a) g = true ∧
      stGuarded (secs a) g = false ∧
      (a.stage g).holdupNamed = false ∧
      a.balance.holdupAt + bsHold (secs a) g * msTicks ≤ rackTime a) ∧
    (∃ (t : Nat) (s : State) (a : State), ∃ c since,
      a = advance t s ∧
      running a = true ∧
      Tab.find a.balance.shortSince c = some since ∧
      since + baShortTime (secs a) * msTicks ≤ rackTime a ∧
      a.balance.shortTold.contains c = false) ∧
    (∃ (t : Nat) (s : State) (a : State), ∃ c since,
      a = advance t s ∧
      running a = true ∧
      Tab.find a.balance.shortSince c = some since ∧
      since + baShortTime (secs a) * msTicks ≤ rackTime a ∧
      a.balance.shortTold.contains c = true) :=
  ⟨⟨0, ledgerAt 0 {}, _, rfl, by decide +kernel⟩,
   ⟨0, { ledgerAt 63999 {} with ledger := 1 }, _, rfl, by decide +kernel⟩,
   ⟨0, ledgerAt 63680 {}, _, rfl, by decide +kernel⟩,
   ⟨0, ledgerAt 63681 {}, _, rfl, by decide +kernel⟩,
   ⟨0, ledgerAt 63999 { computed := 1 }, _, rfl, by decide +kernel⟩,
   ⟨0, ledgerAt 640000 {}, _, 3, rfl, by decide +kernel⟩,
   ⟨0, ledgerAt 64000 {}, _, 3, rfl, by decide +kernel⟩,
   ⟨0, ledgerAt (20 * msTicks) { holdup := true }, _, 7, rfl, by decide +kernel⟩,
   ⟨0, ledgerAt (5 * msTicks) { shortSince := [(255, 0)] }, _, 255, 0, rfl, by decide +kernel⟩,
   ⟨0, ledgerAt (5 * msTicks) { shortSince := [(255, 0)], shortTold := [255] }, _, 255, 0, rfl, by decide +kernel⟩⟩

theorem witness_StringsRest :
    (∃ (t : Nat) (s : State) (a : State), ∃ r k,
      a = advance t s ∧
      running a = true ∧
      k = rackTime a / secTicks ∧
      a.balance.grantAt < k ∧
      a.balance.rest = none ∧
      a.balance.holdup = false ∧
      a.collector.heldLevel = 0 ∧
      restPick { a with balance := { a.balance with grantAt := k } } ((declaredStrings (secs a)).filter
        (restOk { a with balance := { a.balance with grantAt := k } })) = some r) ∧
    (∃ (t : Nat) (s : State) (a : State),
      a = advance t s ∧
      running a = true ∧
      rackTime a / secTicks ≤ a.balance.grantAt) ∧
    (∃ (t : Nat) (s : State) (a : State), ∃ r,
      a = advance t s ∧
      running a = true ∧
      a.balance.rest = some r ∧
      r.phase = .rampDown ∧
      envelopeAt (secs a) r (rackTime a) = 0) ∧
    (∃ (t : Nat) (s : State) (a : State), ∃ r,
      a = advance t s ∧
      running a = true ∧
      a.balance.rest = some r ∧
      r.phase = .resting ∧
      r.startAt + baRestWindow (secs a) * secTicks ≤ rackTime a) ∧
    (∃ (t : Nat) (s : State) (a : State), ∃ r x,
      a = advance t s ∧
      running a = true ∧
      a.balance.rest = some r ∧
      r.phase = .rampUp ∧
      x = Tab.get {} a.balance.cur.strings r.string ∧
      max x.disFree x.chgFree ≤ envelopeAt (secs a) r (rackTime a)) ∧
    (∃ (t : Nat) (s : State) (a : State), ∃ r q,
      a = advance t s ∧
      running a = true ∧
      a.balance.rest = some r ∧
      (r.phase = .rampDown ∨ r.phase = .resting) ∧
      r.shortSince = some q ∧
      q + baRestAbort (secs a) * msTicks ≤ rackTime a) ∧
    (∃ (t : Nat) (s : State) (a : State), ∃ b x q,
      a = advance t s ∧
      running a = true ∧
      x = Tab.get ({} : BalString) a.balance.strings b ∧
      x.restReqSince = some q ∧
      q + baRestWait (secs a) * secTicks ≤ rackTime a ∧
      x.noRest = false) ∧
    (∃ (t : Nat) (s : State) (a : State), ∃ b x q,
      a = advance t s ∧
      running a = true ∧
      x = Tab.get ({} : BalString) a.balance.strings b ∧
      x.restReqSince = some q ∧
      q + baRestWait (secs a) * secTicks ≤ rackTime a ∧
      x.noRest = true) :=
  ⟨⟨0, ledgerAt (5 * secTicks) { grantAt := 4 }, _, 3, 5, rfl, by decide +kernel⟩,
   ⟨0, ledgerAt (5 * secTicks) { grantAt := 5 }, _, rfl, by decide +kernel⟩,
   ⟨0, ledgerAt 9 { rest := some { string := 3 } }, _, _, rfl, by decide +kernel, rfl, by decide +kernel⟩,
   ⟨0, ledgerAt (3 * secTicks) { rest := some { string := 3, phase := .resting } }, _, _, rfl, by decide +kernel, rfl, by decide +kernel⟩,
   ⟨0, ledgerAt 9 { rest := some { string := 3, phase := .rampUp } }, _, _, _, rfl, by decide +kernel, rfl, by decide +kernel, rfl, by decide +kernel⟩,
   ⟨0, ledgerAt (7 * msTicks) { rest := some { string := 3, shortSince := some 0 } }, _, _, _, rfl, by decide +kernel, rfl, by decide +kernel, rfl, by decide +kernel⟩,
   ⟨0, ledgerAt (6 * secTicks) { strings := [(3, { restReqSince := some 0 })] }, _, 3, _, _, rfl, by decide +kernel, rfl, rfl, by decide +kernel⟩,
   ⟨0, ledgerAt (6 * secTicks) { strings := [(3, { restReqSince := some 0, noRest := true })] }, _, 3, _, _, rfl, by decide +kernel, rfl, rfl, by decide +kernel⟩⟩

/-- String 3 watched, MAX_COUNT_H 2, LEARN_SAVE 4. -/
def maqSec : Nat × Bytes := (tyMaquette, put 192 [(0, 2, 8), (30, 2, 4), (164, 2, 2)])

def maqAt (now ops : Nat) (x : Maq) : State := { live .run [maqSec] with now := now, plinth := { opSeconds := ops }, maq := x }

theorem witness_MaquetteSteps :
    (∃ (t : Nat) (s : State) (a : State), ∃ k,
      a = advance t s ∧
      running a = true ∧
      k = rackTime a / (10 * msTicks) ∧
      a.maq.step < k) ∧
    (∃ (t : Nat) (s : State) (a : State), ∃ k,
      a = advance t s ∧
      running a = true ∧
      k = rackTime a / (10 * msTicks) ∧
      k ≤ a.maq.step) ∧
    (∃ (t : Nat) (s : State) (a : State), ∃ k,
      a = advance t s ∧
      running a = true ∧
      k = rackTime a / secTicks ∧
      a.maq.second < k) ∧
    (∃ (t : Nat) (s : State) (a : State), ∃ k,
      a = advance t s ∧
      running a = true ∧
      k = rackTime a / secTicks ∧
      k ≤ a.maq.second) ∧
    (∃ (t : Nat) (s : State) (a : State), ∃ b,
      a = advance t s ∧
      running a = true ∧
      (maqStrings (secs a)).contains b = true ∧
      (a.str b).lastRest + 3600 * msMaxCount (mqString (secs a) b) ≤ a.plinth.opSeconds) ∧
    (∃ (t : Nat) (s : State) (a : State), ∃ b,
      a = advance t s ∧
      running a = true ∧
      (maqStrings (secs a)).contains b = true ∧
      a.plinth.opSeconds < (a.str b).lastRest + 3600 * msMaxCount (mqString (secs a) b)) ∧
    (∃ (t : Nat) (s : State) (a : State),
      a = advance t s ∧
      a.mode = .run ∧
      hasSec (secs a) tyMaquette = true ∧
      a.maq.savedAt + 60 * mqLearnSave (secs a) ≤ a.plinth.opSeconds) ∧
    (∃ (t : Nat) (s : State) (a : State),
      a = advance t s ∧
      a.mode = .run ∧
      hasSec (secs a) tyMaquette = true ∧
      a.plinth.opSeconds < a.maq.savedAt + 60 * mqLearnSave (secs a)) :=
  ⟨⟨0, maqAt (10 * msTicks) 0 {}, _, 1, rfl, by decide +kernel⟩,
   ⟨0, maqAt (10 * msTicks) 0 { step := 1 }, _, 1, rfl, by decide +kernel⟩,
   ⟨0, maqAt secTicks 0 {}, _, 1, rfl, by decide +kernel⟩,
   ⟨0, maqAt secTicks 0 { second := 1 }, _, 1, rfl, by decide +kernel⟩,
   ⟨0, maqAt 0 7200 {}, _, 3, rfl, by decide +kernel⟩,
   ⟨0, maqAt 0 7199 {}, _, 3, rfl, by decide +kernel⟩,
   ⟨0, maqAt 0 240 {}, _, rfl, by decide +kernel⟩,
   ⟨0, maqAt 0 239 {}, _, rfl, by decide +kernel⟩⟩

/-- A recorder flash whose learned-value slot 0 holds the greatest SEQUENCE. -/
def lastStore : Flash :=
  let c := ascii "LVCM" ++ leBytes 4 0xFFFFFFFE ++ leBytes 4 payloadLen
  flashProgram [] (storeCommitBase 0) (c ++ leBytes 4 (crc32c c))

theorem witness_LearnedValuesAreStored :
    (∃ (t : Nat) (s : State) (a : State), ∃ seq,
      a = advance t s ∧
      running a = true ∧
      a.maq.mounted = true ∧
      a.maq.barred = false ∧
      a.maq.write = none ∧
      a.maq.requested = true ∧
      a.maq.eraseDue = none ∧
      a.maq.restoreBy = none ∧
      a.pins.pwrFail = false ∧
      seq = max ((storeSeq a.cs1 0).getD 0) ((storeSeq a.cs1 1).getD 0) + 1 ∧
      seq ≤ 0xFFFFFFFE) ∧
    (∃ (t : Nat) (s : State) (a : State), ∃ seq,
      a = advance t s ∧
      running a = true ∧
      a.maq.mounted = true ∧
      a.maq.barred = false ∧
      a.maq.write = none ∧
      a.maq.requested = true ∧
      a.maq.eraseDue = none ∧
      a.maq.restoreBy = none ∧
      a.pins.pwrFail = false ∧
      seq = max ((storeSeq a.cs1 0).getD 0) ((storeSeq a.cs1 1).getD 0) + 1 ∧
      0xFFFFFFFE < seq) ∧
    (∃ (t : Nat) (s : State) (a : State), ∃ k,
      a = advance t s ∧
      a.maq.eraseDue = some k ∧
      running a = true ∧
      a.pins.pwrFail = false) ∧
    (∃ (t : Nat) (s : State) (a : State),
      a = advance t s ∧
      a.maq.restoreBy ≠ none) ∧
    (∃ (t : Nat) (s : State) (a : State), ∃ w,
      a = advance t s ∧
      a.maq.write = some w) ∧
    (∃ (t : Nat) (s : State) (a : State), ∃ w,
      a = advance t s ∧
      a.maq.write = some w ∧
      a.maq.failed = false) ∧
    (∃ (t : Nat) (s : State) (a : State), ∃ w,
      a = advance t s ∧
      a.maq.write = some w ∧
      a.maq.failed = true) ∧
    (∃ (t : Nat) (s : State) (a : State),
      a = advance t s ∧
      a.maq.write = none) :=
  ⟨⟨0, maqAt 0 0 { mounted := true, requested := true }, _, 1, rfl, by decide +kernel⟩,
   ⟨0, { maqAt 0 0 { mounted := true, requested := true } with cs1 := lastStore }, _, 0xFFFFFFFF, rfl, by decide +kernel⟩,
   ⟨0, maqAt 0 0 { eraseDue := some 1 }, _, _, rfl, rfl, by decide +kernel⟩,
   ⟨0, maqAt 0 0 { restoreBy := some 6400000 }, _, rfl, by decide +kernel⟩,
   ⟨0, maqAt 0 0 { write := some { slot := 1, seq := 2, payload := [] } }, _, _, rfl, rfl⟩,
   ⟨0, maqAt 0 0 { write := some { slot := 1, seq := 2, payload := [] } }, _, _, rfl, rfl, by decide +kernel⟩,
   ⟨0, maqAt 0 0 { failed := true, write := some { slot := 1, seq := 2, payload := [] } }, _, _, rfl, rfl, by decide +kernel⟩,
   ⟨0, maqAt 0 0 {}, _, rfl, by decide +kernel⟩⟩

/-- Two steps: the first starts stage 7 with rail 0 (AIN 0, 1 V ± 5 %) and keep-alive 0, the second nothing. -/
def sequenceSec : Nat × Bytes :=
  (tySequence, put 960 [(0, 1, 2), (1, 1, 1), (6, 2, 100), (8, 2, 5), (32, 1, 1), (38, 2, 10), (160, 2, 0x5000), (162, 2, 0xFFFF),
    (164, 4, 1000), (168, 2, 65486), (170, 2, 50), (172, 4, 60), (178, 2, 4), (180, 2, 20), (928, 1, 7), (929, 1, 7), (932, 2, 1),
    (936, 4, 1), (940, 2, 30), (944, 2, 0xFFFF)])

def seqAt (now : Nat) (m : Mode) (x : Seq) : State :=
  { live m [stringStages 1 0, sequenceSec] with
    now := now, seq := x, pins := { transmitters := true }, loops := { engines := [(0, {})] } }

/-- Undischarged rails before a power-up. -/
def undischarged (u : Nat) (s : State) : State := { s with plinth := { s.plinth with undischarged := u } }

theorem witness_RackIsSwitchedOnAndOff :
    (∃ (t : Nat) (s : State) (a : State),
      a = advance t s ∧
      a.pins.rackOn = false ∧
      running a = true) ∧
    (∃ (t : Nat) (s : State) (a : State),
      a = advance t s ∧
      a.pins.rackOn = false ∧
      running a = false) ∧
    (∃ (t : Nat) (s : State) (a : State),
      a = advance t s ∧
      a.pins.rackOn = true ∧
      running a = true) ∧
    (∃ (t : Nat) (s : State) (a : State),
      a = advance t s ∧
      a.pins.rackOn = true ∧
      running a = false) ∧
    (∃ (t : Nat) (s : State) (a : State) (b : State),
      a = advance t s ∧
      b.benra.debugUnlocked = false ∧
      b.seq.phase = .idle ∧
      b.mode = .standby ∧
      b.collector.heldLevel = 0 ∧
      b.pins.transmitters = true ∧
      poolCovers b = true) ∧
    (∃ (t : Nat) (s : State) (a : State) (b : State),
      a = advance t s ∧
      b.benra.debugUnlocked = false ∧
      b.seq.phase = .idle ∧
      b.mode = .standby ∧
      b.collector.heldLevel = 0 ∧
      b.pins.transmitters = true ∧
      poolCovers b = true ∧
      b.plinth.undischarged ≠ 0) ∧
    (∃ (t : Nat) (s : State) (a : State) (b : State),
      a = advance t s ∧
      b.benra.debugUnlocked = false ∧
      b.seq.phase = .idle ∧
      b.mode = .standby ∧
      b.collector.heldLevel = 0 ∧
      b.pins.transmitters = true ∧
      poolCovers b = true ∧
      b.plinth.undischarged = 0 ∧
      unreadStrings b 0 = []) ∧
    (∃ (t : Nat) (s : State) (a : State) (b : State),
      a = advance t s ∧
      b.benra.debugUnlocked = false ∧
      b.seq.phase = .idle ∧
      b.mode = .standby ∧
      b.collector.heldLevel = 0 ∧
      b.pins.transmitters = true ∧
      poolCovers b = true ∧
      b.plinth.undischarged = 0 ∧
      unreadStrings b 0 ≠ []) ∧
    (∃ (t : Nat) (s : State) (a : State) (b : State),
      a = advance t s ∧
      (b.benra.debugUnlocked = true ∨ b.seq.phase = .idle ∧ b.mode = .standby ∧ b.collector.heldLevel ≠ 0)) ∧
    (∃ (t : Nat) (s : State) (a : State) (b : State),
      a = advance t s ∧
      b.seq.phase = .up ∧
      claspActive b = false) :=
  ⟨⟨0, live .standby [], _, rfl, by decide +kernel⟩,
   ⟨0, live .boot [], _, rfl, by decide +kernel⟩,
   ⟨0, { live .run [] with pins := { rackOn := true } }, _, rfl, by decide +kernel⟩,
   ⟨0, { live .boot [] with pins := { rackOn := true } }, _, rfl, by decide +kernel⟩,
   ⟨0, live .standby [], _, seqAt 9 .standby {}, rfl, by decide +kernel⟩,
   ⟨0, live .standby [], _, undischarged 1 (seqAt 9 .standby {}), rfl, by decide +kernel⟩,
   ⟨0, live .standby [], _, { seqAt 9 .standby {} with maq := { strings := [(3, { readDone := true })] } }, rfl, by decide +kernel⟩,
   ⟨0, live .standby [], _, seqAt 9 .standby {}, rfl, by decide +kernel⟩,
   ⟨0, live .standby [], _, { seqAt 9 .standby {} with collector := { heldLevel := 1 } }, rfl, by decide +kernel⟩,
   ⟨0, live .standby [], _, seqAt 9 .run { phase := .up }, rfl, by decide +kernel⟩⟩

theorem witness_StepsGoUp :
    (∃ (t : Nat) (s : State) (a : State),
      a = advance t s ∧
      running a = true ∧
      a.seq.phase = .issueDue ∧
      a.seq.since / ledgerTicks < period a) ∧
    (∃ (t : Nat) (s : State) (a : State),
      a = advance t s ∧
      running a = true ∧
      a.seq.phase = .issueDue ∧
      period a ≤ a.seq.since / ledgerTicks) ∧
    (∃ (t : Nat) (s : State) (a : State),
      a = advance t s ∧
      running a = true ∧
      a.seq.phase = .stepWait ∧
      stepUp a = true) ∧
    (∃ (t : Nat) (s : State) (a : State),
      a = advance t s ∧
      running a = true ∧
      a.seq.phase = .stepWait ∧
      stepUp a = false) ∧
    (∃ (t : Nat) (s : State) (a : State),
      a = advance t s ∧
      running a = true ∧
      a.seq.phase = .stepWait ∧
      spUpTimeout (secs a) a.seq.step ≠ 0 ∧
      seqElapsed a (spUpTimeout (secs a) a.seq.step) = true ∧
      (stepRails (secs a) a.seq.step).all (railUp a) = false) ∧
    (∃ (t : Nat) (s : State) (a : State),
      a = advance t s ∧
      running a = true ∧
      a.seq.phase = .stepWait ∧
      (stepRails (secs a) a.seq.step).all (railUp a) = true) ∧
    (∃ (t : Nat) (s : State) (a : State),
      a = advance t s ∧
      running a = true ∧
      a.seq.phase = .readWait ∧
      (unreadStrings a a.seq.step = [] ∨ seqElapsed a (sqReadWait (secs a)) = true)) ∧
    (∃ (t : Nat) (s : State) (a : State),
      a = advance t s ∧
      running a = true ∧
      a.seq.phase = .readWait ∧
      unreadStrings a a.seq.step ≠ [] ∧
      seqElapsed a (sqReadWait (secs a)) = false) ∧
    (∃ (t : Nat) (s : State) (a : State),
      a = advance t s ∧
      running a = true ∧
      a.seq.phase = .undischarged ∧
      (waitRails a).all (waitRailOver a) = true) ∧
    (∃ (t : Nat) (s : State) (a : State),
      a = advance t s ∧
      running a = true ∧
      a.seq.phase = .undischarged ∧
      (waitRails a).all (waitRailOver a) = false) ∧
    (∃ (t : Nat) (s : State) (a : State),
      a = advance t s ∧
      running a = true ∧
      a.seq.phase = .stepWait ∧
      a.seq.step + 1 < sqStepCount (secs a)) ∧
    (∃ (t : Nat) (s : State) (a : State),
      a = advance t s ∧
      running a = true ∧
      a.seq.phase = .stepWait ∧
      sqStepCount (secs a) ≤ a.seq.step + 1) ∧
    (∃ (t : Nat) (s : State) (a : State),
      a = advance t s ∧
      running a = true ∧
      a.seq.phase = .upDue ∧
      a.mode = .standby) :=
  ⟨⟨0, seqAt 64000 .standby { phase := .issueDue, since := 63999 }, _, rfl, by decide +kernel⟩,
   ⟨0, seqAt 63999 .standby { phase := .issueDue }, _, rfl, by decide +kernel⟩,
   ⟨0, seqAt 64000 .standby { phase := .stepWait, step := 1 }, _, rfl, by decide +kernel⟩,
   ⟨0, seqAt 64000 .standby { phase := .stepWait }, _, rfl, by decide +kernel⟩,
   ⟨0, seqAt (30 * msTicks) .standby { phase := .stepWait }, _, rfl, by decide +kernel⟩,
   ⟨0, seqAt 64000 .standby { phase := .stepWait, step := 1 }, _, rfl, by decide +kernel⟩,
   ⟨0, seqAt (100 * msTicks) .standby { phase := .readWait }, _, rfl, by decide +kernel⟩,
   ⟨0, seqAt (100 * msTicks) .standby { phase := .readWait, since := 1 }, _, rfl, by decide +kernel⟩,
   ⟨0, seqAt 64000 .standby { phase := .undischarged }, _, rfl, by decide +kernel⟩,
   ⟨0, undischarged 1 (seqAt 64000 .standby { phase := .undischarged }), _, rfl, by decide +kernel⟩,
   ⟨0, seqAt 64000 .standby { phase := .stepWait }, _, rfl, by decide +kernel⟩,
   ⟨0, seqAt 64000 .standby { phase := .stepWait, step := 1 }, _, rfl, by decide +kernel⟩,
   ⟨0, seqAt 64000 .standby { phase := .upDue, step := 1 }, _, rfl, by decide +kernel⟩⟩

theorem witness_StepsGoDown :
    (∃ (t : Nat) (s : State) (a : State),
      a = advance t s ∧
      running a = true ∧
      a.seq.phase = .reverseDue ∧
      a.seq.since / ledgerTicks < period a) ∧
    (∃ (t : Nat) (s : State) (a : State),
      a = advance t s ∧
      running a = true ∧
      a.seq.phase = .reverseDue ∧
      period a ≤ a.seq.since / ledgerTicks) ∧
    (∃ (t : Nat) (s : State) (a : State),
      a = advance t s ∧
      running a = true ∧
      a.seq.phase = .downWait ∧
      stepDown a = true) ∧
    (∃ (t : Nat) (s : State) (a : State),
      a = advance t s ∧
      running a = true ∧
      a.seq.phase = .downWait ∧
      stepDown a = false) ∧
    (∃ (t : Nat) (s : State) (a : State), ∃ r,
      a = advance t s ∧
      running a = true ∧
      a.seq.phase = .downWait ∧
      (stepRails (secs a) a.seq.step).contains r = true ∧
      railDischarged a r = false ∧
      bit a.seq.timedOut r = false ∧
      seqElapsed a (rlDischTime (secs a) r) = true) ∧
    (∃ (t : Nat) (s : State) (a : State), ∃ r,
      a = advance t s ∧
      running a = true ∧
      a.seq.phase = .downWait ∧
      (stepRails (secs a) a.seq.step).contains r = true ∧
      railDischarged a r = false ∧
      bit a.seq.timedOut r = false ∧
      seqElapsed a (rlDischTime (secs a) r) = false) ∧
    (∃ (t : Nat) (s : State) (a : State), ∃ q,
      a = advance t s ∧
      running a = true ∧
      a.seq.phase = .downWait ∧
      a.seq.guardSince = some q ∧
      a.balance.holdup = false ∧
      q + sqGuardWait (secs a) * secTicks ≤ rackTime a) ∧
    (∃ (t : Nat) (s : State) (a : State), ∃ q,
      a = advance t s ∧
      running a = true ∧
      a.seq.phase = .downWait ∧
      a.seq.guardSince = some q ∧
      a.balance.holdup = false ∧
      rackTime a < q + sqGuardWait (secs a) * secTicks) ∧
    (∃ (t : Nat) (s : State) (a : State),
      a = advance t s ∧
      running a = true ∧
      a.seq.latched = false ∧
      0 < a.seq.step) ∧
    (∃ (t : Nat) (s : State) (a : State),
      a = advance t s ∧
      running a = true ∧
      a.seq.latched = false ∧
      a.seq.step = 0 ∧
      a.mode = .run) :=
  ⟨⟨0, seqAt 64000 .run { phase := .reverseDue, since := 63999 }, _, rfl, by decide +kernel⟩,
   ⟨0, seqAt 63999 .run { phase := .reverseDue }, _, rfl, by decide +kernel⟩,
   ⟨0, seqAt 64000 .run { phase := .downWait, step := 1 }, _, rfl, by decide +kernel⟩,
   ⟨0, seqAt 64000 .run { phase := .downWait }, _, rfl, by decide +kernel⟩,
   ⟨0, seqAt (20 * msTicks) .run { phase := .downWait }, _, 0, rfl, by decide +kernel⟩,
   ⟨0, seqAt (20 * msTicks) .run { phase := .downWait, since := 1 }, _, 0, rfl, by decide +kernel⟩,
   ⟨0, seqAt (5 * secTicks) .run { phase := .downWait, guardSince := some 0 }, _, _, rfl, by decide +kernel, by decide +kernel, rfl, by decide +kernel⟩,
   ⟨0, seqAt (5 * secTicks) .run { phase := .downWait, guardSince := some 1 }, _, _, rfl, by decide +kernel, by decide +kernel, rfl, by decide +kernel⟩,
   ⟨0, seqAt 9 .run { phase := .downWait, step := 1 }, _, rfl, by decide +kernel⟩,
   ⟨0, seqAt 9 .run { phase := .downWait }, _, rfl, by decide +kernel⟩⟩

def railed (x : Rail) : State :=
  { seqAt (4 * msTicks) .run { phase := .up, rails := [(0, x)] } with
    pave := { ains := [(0, { word := { value := 2000, valid := true, close := 4 * msTicks } })] } }

def alive (x : KeepAlive) : State := seqAt (10 * msTicks) .run { phase := .up, keepAlives := [(0, x)] }

def margined (flags : Nat) : State :=
  { live .service [stringStages 5 flags] with modul := { stages := [(7, { mode := .running })] } }

theorem witness_RailsAndContactorsAreWatched :
    (∃ (t : Nat) (s : State) (a : State), ∃ r b x q,
      a = advance t s ∧
      running a = true ∧
      b = watchRail r a ∧
      x = b.rail r ∧
      x.outSince = some q ∧
      rackUp b = true ∧
      poweringDown b = false ∧
      r < sqRailCount (secs a) ∧
      x.supervised = true ∧
      x.marginBusy = false ∧
      rlFilter (secs a) r ≠ 0 ∧
      max q x.resumeAt + rlFilter (secs a) r * msTicks ≤ rackTime b ∧
      x.out = false) ∧
    (∃ (t : Nat) (s : State) (a : State), ∃ r b x q,
      a = advance t s ∧
      running a = true ∧
      b = watchRail r a ∧
      x = b.rail r ∧
      x.outSince = some q ∧
      rackUp b = true ∧
      poweringDown b = false ∧
      r < sqRailCount (secs a) ∧
      x.supervised = true ∧
      x.marginBusy = false ∧
      rlFilter (secs a) r ≠ 0 ∧
      max q x.resumeAt + rlFilter (secs a) r * msTicks ≤ rackTime b ∧
      x.out = true) ∧
    (∃ (t : Nat) (s : State) (a : State), ∃ k,
      a = advance t s ∧
      running a = true ∧
      (a.ka k).running = true ∧
      (a.ka k).refreshed + msTicks ≤ a.now) ∧
    (∃ (t : Nat) (s : State) (a : State), ∃ k,
      a = advance t s ∧
      running a = true ∧
      (a.ka k).running = true ∧
      a.now < (a.ka k).refreshed + msTicks) ∧
    (∃ (t : Nat) (s : State) (a : State), ∃ k x,
      a = advance t s ∧
      running a = true ∧
      kaOwner (secs a) k ≠ 0 ∧
      kaFbRail (secs a) k ≠ 0xFF ∧
      x = a.ka k ∧
      x.told = false ∧
      x.since + kaFbDelay (secs a) k * msTicks ≤ a.now ∧
      contactClosed a k = !x.running) ∧
    (∃ (t : Nat) (s : State) (a : State), ∃ k x,
      a = advance t s ∧
      running a = true ∧
      kaOwner (secs a) k ≠ 0 ∧
      kaFbRail (secs a) k ≠ 0xFF ∧
      x = a.ka k ∧
      x.told = false ∧
      x.since + kaFbDelay (secs a) k * msTicks ≤ a.now ∧
      contactClosed a k = x.running) ∧
    (∃ (t : Nat) (s : State) (a : State), ∃ rq u g m,
      a = advance t s ∧
      admitCmd (serviceSpec 0x0910 4 4 [2, 3]) rq a = some u ∧
      g = u8 rq.data 0 ∧
      m = i8 rq.data 1 ∧
      withinI (-40) 40 m = true ∧
      u.mode = .service ∧
      stageDeclared (secs u) g = true ∧
      (u.stage g).mode = .running ∧
      (stKind (secs u) g = 5 ∨ g = baBus (secs u)) ∧
      stGuarded (secs u) g = false) ∧
    (∃ (t : Nat) (s : State) (a : State), ∃ rq u g m,
      a = advance t s ∧
      admitCmd (serviceSpec 0x0910 4 4 [2, 3]) rq a = some u ∧
      g = u8 rq.data 0 ∧
      m = i8 rq.data 1 ∧
      withinI (-40) 40 m = true ∧
      u.mode = .service ∧
      stageDeclared (secs u) g = true ∧
      (u.stage g).mode = .running ∧
      (stKind (secs u) g = 5 ∨ g = baBus (secs u)) ∧
      stGuarded (secs u) g = true) :=
  ⟨⟨0, railed { supervised := true, outSince := some 0 }, _, 0, _, _, 0, rfl, by decide +kernel, rfl, rfl, by decide +kernel⟩,
   ⟨0, railed { supervised := true, outSince := some 0, out := true }, _, 0, _, _, 0, rfl, by decide +kernel, rfl, rfl, by decide +kernel⟩,
   ⟨0, alive { running := true, refreshed := 9 * msTicks }, _, 0, rfl, by decide +kernel⟩,
   ⟨0, alive { running := true, refreshed := 9 * msTicks + 1 }, _, 0, rfl, by decide +kernel⟩,
   ⟨0, alive { running := true }, _, 0, _, rfl, by decide +kernel, by decide +kernel, by decide +kernel, rfl, by decide +kernel⟩,
   ⟨0, alive {}, _, 0, _, rfl, by decide +kernel, by decide +kernel, by decide +kernel, rfl, by decide +kernel⟩,
   ⟨0, margined 0, _, signed (serviceSpec 0x0910 4 4 [2, 3]) (req [7, 0xD8, 0, 0]) (advance 0 (margined 0)), taken (serviceSpec 0x0910 4 4 [2, 3]) (req [7, 0xD8, 0, 0]) (advance 0 (margined 0)), _, _, rfl, admits _ _ _ (by decide +kernel), rfl, rfl, by decide +kernel⟩,
   ⟨0, margined 1, _, signed (serviceSpec 0x0910 4 4 [2, 3]) (req [7, 40, 0, 0]) (advance 0 (margined 1)), taken (serviceSpec 0x0910 4 4 [2, 3]) (req [7, 40, 0, 0]) (advance 0 (margined 1)), _, _, rfl, admits _ _ _ (by decide +kernel), rfl, rfl, by decide +kernel⟩⟩

/-- A COUPLING of stage 7: AIN 0 is the link voltage, one power object, Tandem, Bridge and relayed VDMs on. -/
def couplingSec : Nat × Bytes :=
  (tyCoupling, put 240 [(0, 1, 1), (1, 1, 7), (4, 2, 0x5000), (6, 1, 179), (7, 1, 1), (8, 4, 10000), (12, 2, 100), (14, 2, 1000),
    (16, 4, 10000), (28, 4, 5000), (32, 4, 1000), (36, 1, 5), (37, 1, 10), (38, 2, 10), (40, 2, 10), (44, 4, 100), (56, 4, 1500000),
    (60, 4, 1500000), (64, 4, 1500000), (68, 2, 100), (96, 2, 100), (98, 2, 1000), (100, 2, 1000), (102, 2, 100), (104, 2, 10)])

def coupling (now : Nat) (c : Clasp) : State :=
  { live .run [stringStages 1 0, couplingSec] with now := now, clasp := c }

/-- A check whose excitation lies in the window, with a leakage. -/
def measured (leak : Nat) : PatinaMeasure := { exc100 := 5000, exc10k := 5000, excHigh := 5000, leak100 := leak, leak10k := leak, kelvin := 1 }

theorem witness_PlugIsCheckedAndPulled :
    (∃ (t : Nat) (s : State) (a : State),
      a = advance t s ∧
      claspActive a = true ∧
      a.clasp.phase = .detached) ∧
    (∃ (t : Nat) (s : State) (a : State) (p : PatinaMeasure),
      a = advance t s ∧
      claspActive a = true ∧
      a.clasp.patinaRunning = true ∧
      (excOk (secs a) p.exc100 && excOk (secs a) p.exc10k && excOk (secs a) p.excHigh) = true) ∧
    (∃ (t : Nat) (s : State) (a : State) (p : PatinaMeasure), ∃ k,
      a = advance t s ∧
      claspActive a = true ∧
      a.clasp.patinaRunning = true ∧
      (excOk (secs a) p.exc100 && excOk (secs a) p.exc10k && excOk (secs a) p.excHigh) = true ∧
      a.clasp.phase = .check ∧
      patinaClass (secs a) p = k ∧
      a.clasp.patina ≠ 1 ∧
      k < 2) ∧
    (∃ (t : Nat) (s : State) (a : State) (p : PatinaMeasure), ∃ k,
      a = advance t s ∧
      claspActive a = true ∧
      a.clasp.patinaRunning = true ∧
      (excOk (secs a) p.exc100 && excOk (secs a) p.exc10k && excOk (secs a) p.excHigh) = true ∧
      a.clasp.phase = .check ∧
      patinaClass (secs a) p = k ∧
      a.clasp.patina ≠ 1 ∧
      2 ≤ k) ∧
    (∃ (t : Nat) (s : State) (a : State) (p : PatinaMeasure) (u : State),
      a = advance t s ∧
      claspActive a = true ∧
      a.clasp.patinaRunning = true ∧
      u = { a with clasp := { a.clasp with
        rIns := min (rIns (secs a) p.exc100 p.leak100) (rIns (secs a) p.exc10k p.leak10k)
        rC := min 0xFFFFFFFF (rCon (secs a) p.kelvin) } } ∧
      (excOk (secs a) p.exc100 && excOk (secs a) p.exc10k && excOk (secs a) p.excHigh) = false ∧
      isLive (chipPulse 0x0E08 [] u) = true) ∧
    (∃ (t : Nat) (s : State) (a : State),
      a = advance t s ∧
      claspActive a = true ∧
      a.clasp.patinaRunning = false ∧
      (pilotUsed a.clasp.phase = true ∨ a.clasp.phase = .blocked) ∧
      a.clasp.patinaAt + (if a.clasp.patina = 0 then coDryRetest (secs a) else 60) * secTicks ≤ a.now) ∧
    (∃ (t : Nat) (s : State) (a : State),
      a = advance t s ∧
      claspActive a = true ∧
      a.clasp.patinaRunning = false ∧
      (pilotUsed a.clasp.phase = true ∨ a.clasp.phase = .blocked) ∧
      a.now < a.clasp.patinaAt + (if a.clasp.patina = 0 then coDryRetest (secs a) else 60) * secTicks) ∧
    (∃ (t : Nat) (s : State) (a : State),
      a = advance t s ∧
      claspActive a = true ∧
      a.clasp.mated = true) ∧
    (∃ (t : Nat) (s : State) (a : State),
      a = advance t s ∧
      claspActive a = true ∧
      a.clasp.phase = .lockout ∧
      a.clasp.phaseSince + (if a.clasp.lockouts < 3 then 1 else 60) * secTicks ≤ a.now) ∧
    (∃ (t : Nat) (s : State) (a : State),
      a = advance t s ∧
      claspActive a = true ∧
      a.clasp.phase = .lockout ∧
      a.now < a.clasp.phaseSince + (if a.clasp.lockouts < 3 then 1 else 60) * secTicks) :=
  ⟨⟨0, coupling 0 { phase := .detached }, _, rfl, by decide +kernel⟩,
   ⟨0, coupling 0 { patinaRunning := true }, _, measured 1, rfl, by decide +kernel⟩,
   ⟨0, coupling 0 { patinaRunning := true, phase := .check }, _, measured 1, 0, rfl, by decide +kernel⟩,
   ⟨0, coupling 0 { patinaRunning := true, phase := .check }, _, measured 6000, 2, rfl, by decide +kernel⟩,
   ⟨0, coupling 0 { patinaRunning := true }, _, { measured 1 with excHigh := 0 }, _, rfl, by decide +kernel, by decide +kernel, rfl, by decide +kernel⟩,
   ⟨0, coupling (10 * secTicks) { phase := .ready }, _, rfl, by decide +kernel⟩,
   ⟨0, coupling (10 * secTicks - 1) { phase := .blocked }, _, rfl, by decide +kernel⟩,
   ⟨0, coupling 0 { mated := true }, _, rfl, by decide +kernel⟩,
   ⟨0, coupling secTicks { phase := .lockout, lockouts := 2 }, _, rfl, by decide +kernel⟩,
   ⟨0, coupling secTicks { phase := .lockout, lockouts := 3 }, _, rfl, by decide +kernel⟩⟩

/-- A pilot message of revision 1 with its CRC (Table 11.2). -/
def pilot (type count : Nat) (p : Bytes) : PilotMsg :=
  let b := [byte (type * 4 + count / 2), byte (count % 2 * 128 + 16 + p.length / 16), byte (p.length % 16 * 16), 0] ++ p
  { leadIn := 12, cellsOk := true, bytes := b ++ beBytes 4 (crcErdun b) }

/-- A coupling that last accepted a message of a type with MSG_COUNT 1. -/
def heard (type : Nat) (c : Clasp) : State := coupling 9 { c with lastAccepted := some (type, 1) }

def powerObj : PowerObj := { vMin := 100, vMax := 1000, iMax := 1000, pMax := 100, ramp := 10, tandem := false }
def contractOne : Contract := { vc := 50000, pc := 5000, ic := 1000, droop := 0, po := powerObj }
def capsOne : Caps :=
  { vendor := 0x4B52, flags := 3, seq := 0, tie := 1, sinkVMin := 100, sinkVMax := 1000, sinkPMax := 100, patina := 0, pos := [powerObj] }

theorem witness_ControlMessagesAreTaken :
    (∃ (t : Nat) (m : PilotMsg) (s : State) (a : State),
      a = advance t s ∧
      claspActive a = true ∧
      pilotUsed a.clasp.phase = true ∧
      rxVerdict a m = .crcError) ∧
    (∃ (t : Nat) (m : PilotMsg) (s : State) (a : State),
      a = advance t s ∧
      claspActive a = true ∧
      pilotUsed a.clasp.phase = true ∧
      rxVerdict a m = .discard) ∧
    (∃ (t : Nat) (m : PilotMsg) (s : State) (a : State),
      a = advance t s ∧
      ¬ Fresh m a ∧
      Hears .accept m a) ∧
    (∃ (t : Nat) (m : PilotMsg) (s : State) (a : State),
      a = advance t s ∧
      ¬ Fresh m a ∧
      Hears .reject m a) ∧
    (∃ (t : Nat) (m : PilotMsg) (s : State) (a : State),
      a = advance t s ∧
      ¬ Fresh m a ∧
      Hears .wait m a) ∧
    (∃ (t : Nat) (m : PilotMsg) (s : State) (a : State),
      a = advance t s ∧
      ¬ Fresh m a ∧
      Hears .settled m a) ∧
    (∃ (t : Nat) (m : PilotMsg) (s : State) (a : State),
      a = advance t s ∧
      ¬ Fresh m a ∧
      Hears .capsQuery m a) ∧
    (∃ (t : Nat) (m : PilotMsg) (s : State) (a : State),
      a = advance t s ∧
      ¬ Fresh m a ∧
      Hears .roleSwap m a) ∧
    (∃ (t : Nat) (m : PilotMsg) (s : State) (a : State),
      a = advance t s ∧
      ¬ Fresh m a ∧
      Hears .endCoupling m a) ∧
    (∃ (t : Nat) (m : PilotMsg) (s : State) (a : State),
      a = advance t s ∧
      ¬ Fresh m a ∧
      Hears .notSupported m a) ∧
    (∃ (t : Nat) (m : PilotMsg) (s : State) (a : State),
      a = advance t s ∧
      ¬ Fresh m a ∧
      Hears .unknown m a) ∧
    (∃ (t : Nat) (m : PilotMsg) (s : State) (a : State),
      a = advance t s ∧
      Hears .resync m a) ∧
    (∃ (t : Nat) (m : PilotMsg) (s : State) (a : State) (p : Bytes), ∃ k,
      a = advance t s ∧
      p = msgPayload m.bytes ∧
      Fresh m a ∧
      Hears .accept m a ∧
      p ≠ [] ∧
      a.clasp.asked = some k) ∧
    (∃ (t : Nat) (m : PilotMsg) (s : State) (a : State) (p : Bytes),
      a = advance t s ∧
      p = msgPayload m.bytes ∧
      Fresh m a ∧
      Hears .accept m a ∧
      p = [] ∧
      a.clasp.swapAsked = true ∧
      swapping a = false) ∧
    (∃ (t : Nat) (m : PilotMsg) (s : State) (a : State),
      a = advance t s ∧
      Fresh m a ∧
      Hears .reject m a ∧
      a.clasp.swapAsked = false) ∧
    (∃ (t : Nat) (m : PilotMsg) (s : State) (a : State) (p : Bytes),
      a = advance t s ∧
      p = msgPayload m.bytes ∧
      Fresh m a ∧
      Hears .reject m a ∧
      a.clasp.swapAsked = true ∧
      7 ≤ u8 p 0) ∧
    (∃ (t : Nat) (m : PilotMsg) (s : State) (a : State),
      a = advance t s ∧
      Fresh m a ∧
      Hears .wait m a ∧
      a.clasp.swapAsked = true) ∧
    (∃ (t : Nat) (m : PilotMsg) (s : State) (a : State),
      a = advance t s ∧
      Fresh m a ∧
      Hears .wait m a ∧
      a.clasp.swapAsked = false ∧
      a.clasp.asked ≠ none) ∧
    (∃ (t : Nat) (m : PilotMsg) (s : State) (a : State), ∃ x k,
      a = advance t s ∧
      Fresh m a ∧
      Hears .settled m a ∧
      a.clasp.swap = none ∧
      a.clasp.role = some 0 ∧
      a.clasp.transition = some x ∧
      a.clasp.contract = some k) ∧
    (∃ (t : Nat) (m : PilotMsg) (s : State) (a : State), ∃ c,
      a = advance t s ∧
      Fresh m a ∧
      Hears .capsQuery m a ∧
      a.clasp.own = some c) ∧
    (∃ (t : Nat) (m : PilotMsg) (s : State) (a : State),
      a = advance t s ∧
      Fresh m a ∧
      Hears .roleSwap m a ∧
      claspBusy a = true) ∧
    (∃ (t : Nat) (m : PilotMsg) (s : State) (a : State),
      a = advance t s ∧
      Fresh m a ∧
      Hears .roleSwap m a ∧
      claspBusy a = false ∧
      a.clasp.phase ≠ .contract) ∧
    (∃ (t : Nat) (m : PilotMsg) (s : State) (a : State),
      a = advance t s ∧
      Fresh m a ∧
      Hears .roleSwap m a ∧
      claspBusy a = false ∧
      a.clasp.phase = .contract ∧
      a.clasp.role = some 1 ∧
      (a.clasp.swapAsked = true ∨ swapQueued a = true)) ∧
    (∃ (t : Nat) (m : PilotMsg) (s : State) (a : State),
      a = advance t s ∧
      Fresh m a ∧
      Hears .roleSwap m a ∧
      claspBusy a = false ∧
      a.clasp.phase = .contract ∧
      a.clasp.swapAsked = false ∧
      swapQueued a = false ∧
      a.clasp.tandem = true) ∧
    (∃ (t : Nat) (m : PilotMsg) (s : State) (a : State),
      a = advance t s ∧
      Fresh m a ∧
      Hears .roleSwap m a ∧
      claspBusy a = false ∧
      a.clasp.phase = .contract ∧
      a.clasp.swapAsked = false ∧
      swapQueued a = false ∧
      a.clasp.tandem = false ∧
      canSwap a = true) ∧
    (∃ (t : Nat) (m : PilotMsg) (s : State) (a : State),
      a = advance t s ∧
      Fresh m a ∧
      Hears .roleSwap m a ∧
      claspBusy a = false ∧
      a.clasp.phase = .contract ∧
      a.clasp.swapAsked = false ∧
      swapQueued a = false ∧
      a.clasp.tandem = false ∧
      canSwap a = false) ∧
    (∃ (t : Nat) (m : PilotMsg) (s : State) (a : State),
      a = advance t s ∧
      Fresh m a ∧
      Hears .endCoupling m a ∧
      (a.clasp.phase = .closing ∨ a.clasp.phase = .contract)) ∧
    (∃ (t : Nat) (m : PilotMsg) (s : State) (a : State),
      a = advance t s ∧
      Fresh m a ∧
      Hears .notSupported m a) ∧
    (∃ (t : Nat) (m : PilotMsg) (s : State) (a : State),
      a = advance t s ∧
      Fresh m a ∧
      Hears .unknown m a) :=
  ⟨⟨0, { pilot 2 1 [] with bytes := [8, 144, 0, 0, 0, 0, 0, 0] }, coupling 9 { phase := .ready }, _, rfl, by decide +kernel⟩,
   ⟨0, { pilot 2 1 [] with leadIn := 11 }, coupling 9 { phase := .ready }, _, rfl, by decide +kernel⟩,
   ⟨0, pilot 2 1 [], heard 2 { phase := .ready }, _, rfl, by unfold Fresh; decide +kernel, by unfold Hears; decide +kernel⟩,
   ⟨0, pilot 3 1 [1, 0], heard 3 { phase := .ready }, _, rfl, by unfold Fresh; decide +kernel, by unfold Hears; decide +kernel⟩,
   ⟨0, pilot 4 1 [], heard 4 { phase := .ready }, _, rfl, by unfold Fresh; decide +kernel, by unfold Hears; decide +kernel⟩,
   ⟨0, pilot 5 1 [], heard 5 { phase := .ready }, _, rfl, by unfold Fresh; decide +kernel, by unfold Hears; decide +kernel⟩,
   ⟨0, pilot 6 1 [], heard 6 { phase := .ready }, _, rfl, by unfold Fresh; decide +kernel, by unfold Hears; decide +kernel⟩,
   ⟨0, pilot 7 1 [], heard 7 { phase := .ready }, _, rfl, by unfold Fresh; decide +kernel, by unfold Hears; decide +kernel⟩,
   ⟨0, pilot 9 1 [0], heard 9 { phase := .ready }, _, rfl, by unfold Fresh; decide +kernel, by unfold Hears; decide +kernel⟩,
   ⟨0, pilot 10 1 [], heard 10 { phase := .ready }, _, rfl, by unfold Fresh; decide +kernel, by unfold Hears; decide +kernel⟩,
   ⟨0, pilot 63 1 [], heard 63 { phase := .ready }, _, rfl, by unfold Fresh; decide +kernel, by unfold Hears; decide +kernel⟩,
   ⟨0, pilot 8 0 [], heard 8 { phase := .ready }, _, rfl, by unfold Hears; decide +kernel⟩,
   ⟨0, pilot 2 1 (zeros 6), heard 3 { phase := .ready, asked := some contractOne }, _, _, _, rfl, rfl, by unfold Fresh; decide +kernel, by unfold Hears; decide +kernel, by decide +kernel, rfl⟩,
   ⟨0, pilot 2 2 [], heard 2 { phase := .contract, swapAsked := true }, _, _, rfl, rfl, by unfold Fresh; decide +kernel, by unfold Hears; decide +kernel, rfl, by decide +kernel⟩,
   ⟨0, pilot 3 2 [1, 0], heard 3 { phase := .ready }, _, rfl, by unfold Fresh; decide +kernel, by unfold Hears; decide +kernel, by decide +kernel⟩,
   ⟨0, pilot 3 2 [7, 0], heard 3 { phase := .ready, swapAsked := true }, _, _, rfl, rfl, by unfold Fresh; decide +kernel, by unfold Hears; decide +kernel, by decide +kernel⟩,
   ⟨0, pilot 4 2 [], heard 4 { phase := .ready, swapAsked := true }, _, rfl, by unfold Fresh; decide +kernel, by unfold Hears; decide +kernel, by decide +kernel⟩,
   ⟨0, pilot 4 2 [], heard 4 { phase := .ready, asked := some contractOne }, _, rfl, by unfold Fresh; decide +kernel, by unfold Hears; decide +kernel, by decide +kernel⟩,
   ⟨0, pilot 5 2 [], heard 5 { phase := .contract, role := some 0, contract := some contractOne, transition := some { old := none, closing := true, startAt := 0, limit := 9 } }, _, _, _, rfl, by unfold Fresh; decide +kernel, by unfold Hears; decide +kernel, by decide +kernel, by decide +kernel, rfl, rfl⟩,
   ⟨0, pilot 6 2 [], heard 6 { phase := .ready, own := some capsOne }, _, _, rfl, by unfold Fresh; decide +kernel, by unfold Hears; decide +kernel, rfl⟩,
   ⟨0, pilot 7 2 [], heard 7 { phase := .closing }, _, rfl, by unfold Fresh; decide +kernel, by unfold Hears; decide +kernel, by decide +kernel⟩,
   ⟨0, pilot 7 2 [], heard 7 { phase := .ready }, _, rfl, by unfold Fresh; decide +kernel, by unfold Hears; decide +kernel, by decide +kernel⟩,
   ⟨0, pilot 7 2 [], heard 7 { phase := .contract, role := some 1, swapAsked := true }, _, rfl, by unfold Fresh; decide +kernel, by unfold Hears; decide +kernel, by decide +kernel⟩,
   ⟨0, pilot 7 2 [], heard 7 { phase := .contract, role := some 1, tandem := true }, _, rfl, by unfold Fresh; decide +kernel, by unfold Hears; decide +kernel, by decide +kernel⟩,
   ⟨0, pilot 7 2 [], heard 7 { phase := .contract, role := some 1 }, _, rfl, by unfold Fresh; decide +kernel, by unfold Hears; decide +kernel, by decide +kernel⟩,
   ⟨0, pilot 7 2 [], { heard 7 { phase := .contract, role := some 1 } with loader := { live := some { sections := [(tyCoupling, put 240 [(0, 1, 1), (6, 1, 1)])] } } }, _, rfl, by unfold Fresh; decide +kernel, by unfold Hears; decide +kernel, by decide +kernel⟩,
   ⟨0, pilot 9 2 [0], heard 9 { phase := .closing }, _, rfl, by unfold Fresh; decide +kernel, by unfold Hears; decide +kernel, by decide +kernel⟩,
   ⟨0, pilot 10 2 [], heard 10 { phase := .ready }, _, rfl, by unfold Fresh; decide +kernel, by unfold Hears; decide +kernel⟩,
   ⟨0, pilot 63 2 [], heard 63 { phase := .ready }, _, rfl, by unfold Fresh; decide +kernel, by unfold Hears; decide +kernel⟩⟩

/-- A message of a type that came once with MSG_COUNT 1, into READY. -/
def readyFor (type : Nat) : State := heard type { phase := .ready }

set_option maxRecDepth 100000 in
theorem witness_DataMessagesAreTaken :
    (∃ (t : Nat) (m : PilotMsg) (s : State) (a : State),
      a = advance t s ∧
      ¬ Fresh m a ∧
      Hears .caps m a) ∧
    (∃ (t : Nat) (m : PilotMsg) (s : State) (a : State),
      a = advance t s ∧
      ¬ Fresh m a ∧
      Hears .request m a) ∧
    (∃ (t : Nat) (m : PilotMsg) (s : State) (a : State),
      a = advance t s ∧
      ¬ Fresh m a ∧
      Hears .status m a) ∧
    (∃ (t : Nat) (m : PilotMsg) (s : State) (a : State),
      a = advance t s ∧
      ¬ Fresh m a ∧
      Hears .alert m a) ∧
    (∃ (t : Nat) (m : PilotMsg) (s : State) (a : State),
      a = advance t s ∧
      ¬ Fresh m a ∧
      Hears .identity m a) ∧
    (∃ (t : Nat) (m : PilotMsg) (s : State) (a : State),
      a = advance t s ∧
      ¬ Fresh m a ∧
      Hears .chunk m a) ∧
    (∃ (t : Nat) (m : PilotMsg) (s : State) (a : State),
      a = advance t s ∧
      ¬ Fresh m a ∧
      Hears .modes m a) ∧
    (∃ (t : Nat) (m : PilotMsg) (s : State) (a : State),
      a = advance t s ∧
      ¬ Fresh m a ∧
      Hears .enter m a) ∧
    (∃ (t : Nat) (m : PilotMsg) (s : State) (a : State),
      a = advance t s ∧
      ¬ Fresh m a ∧
      Hears .exit m a) ∧
    (∃ (t : Nat) (m : PilotMsg) (s : State) (a : State),
      a = advance t s ∧
      ¬ Fresh m a ∧
      Hears .attention m a) ∧
    (∃ (t : Nat) (m : PilotMsg) (s : State) (a : State),
      a = advance t s ∧
      ¬ Fresh m a ∧
      Hears .bridge m a) ∧
    (∃ (t : Nat) (m : PilotMsg) (s : State) (a : State),
      a = advance t s ∧
      ¬ Fresh m a ∧
      Hears .customer m a) ∧
    (∃ (t : Nat) (m : PilotMsg) (s : State) (a : State),
      a = advance t s ∧
      ¬ Fresh m a ∧
      Hears .reply m a) ∧
    (∃ (t : Nat) (m : PilotMsg) (s : State) (a : State),
      a = advance t s ∧
      ¬ Fresh m a ∧
      Hears .kreiloUnknown m a) ∧
    (∃ (t : Nat) (m : PilotMsg) (s : State) (a : State),
      a = advance t s ∧
      Fresh m a ∧
      Hears .caps m a) ∧
    (∃ (t : Nat) (m : PilotMsg) (s : State) (a : State) (u : State) (p : Bytes), ∃ k,
      a = advance t s ∧
      p = msgPayload m.bytes ∧
      u = noteRx m.bytes false a ∧
      Fresh m a ∧
      Hears .request m a ∧
      requestAnswer p u = .inl k) ∧
    (∃ (t : Nat) (m : PilotMsg) (s : State) (a : State) (u : State) (p : Bytes), ∃ r,
      a = advance t s ∧
      p = msgPayload m.bytes ∧
      u = noteRx m.bytes false a ∧
      Fresh m a ∧
      Hears .request m a ∧
      requestAnswer p u = .inr r) ∧
    (∃ (t : Nat) (m : PilotMsg) (s : State) (a : State),
      a = advance t s ∧
      Fresh m a ∧
      Hears .status m a) ∧
    (∃ (t : Nat) (m : PilotMsg) (s : State) (a : State),
      a = advance t s ∧
      Fresh m a ∧
      Hears .alert m a) ∧
    (∃ (t : Nat) (m : PilotMsg) (s : State) (a : State),
      a = advance t s ∧
      Fresh m a ∧
      Hears .identity m a ∧
      a.benra.drbgHalted = false ∧
      (a.benra.certInvalid = true ∨ a.benra.deviceKey = none)) ∧
    (∃ (t : Nat) (m : PilotMsg) (s : State) (a : State),
      a = advance t s ∧
      Fresh m a ∧
      Hears .identity m a ∧
      a.benra.drbgHalted = false ∧
      a.benra.certInvalid = false ∧
      a.benra.deviceKey ≠ none) ∧
    (∃ (t : Nat) (m : PilotMsg) (s : State) (a : State) (p : Bytes), ∃ x n,
      a = advance t s ∧
      p = msgPayload m.bytes ∧
      Fresh m a ∧
      Hears .chunk m a ∧
      a.clasp.identity = some x ∧
      x.whole = false ∧
      x.next = 0 ∧
      x.blob = [] ∧
      u8 p 4 = 0 ∧
      n = u8 p 5 ∧
      2 ≤ n ∧
      be16 p 6 ≤ 2178 ∧
      (p.drop 8).length = 232 ∧
      232 ≤ be16 p 6 ∧
      be16 (p.drop 8) 0 ≤ 2048) ∧
    (∃ (t : Nat) (m : PilotMsg) (s : State) (a : State),
      a = advance t s ∧
      Fresh m a ∧
      Hears .modes m a) ∧
    (∃ (t : Nat) (m : PilotMsg) (s : State) (a : State) (u : State) (p : Bytes), ∃ d r,
      a = advance t s ∧
      p = msgPayload m.bytes ∧
      u = noteRx m.bytes false a ∧
      Fresh m a ∧
      Hears .enter m a ∧
      claspBusy a = false ∧
      a.clasp.modeAsked = none ∧
      d = vdmMode p ∧
      r = enterRefused d u ∧
      r ≠ 0) ∧
    (∃ (t : Nat) (m : PilotMsg) (s : State) (a : State) (u : State) (p : Bytes), ∃ d r,
      a = advance t s ∧
      p = msgPayload m.bytes ∧
      u = noteRx m.bytes false a ∧
      Fresh m a ∧
      Hears .enter m a ∧
      claspBusy a = false ∧
      a.clasp.modeAsked = none ∧
      d = vdmMode p ∧
      r = enterRefused d u ∧
      r = 0) ∧
    (∃ (t : Nat) (m : PilotMsg) (s : State) (a : State),
      a = advance t s ∧
      Fresh m a ∧
      Hears .enter m a ∧
      (claspBusy a = true ∨ a.clasp.role = some 1 ∧ a.clasp.modeAsked ≠ none)) ∧
    (∃ (t : Nat) (m : PilotMsg) (s : State) (a : State),
      a = advance t s ∧
      Fresh m a ∧
      Hears .exit m a ∧
      claspBusy a = false) ∧
    (∃ (t : Nat) (m : PilotMsg) (s : State) (a : State),
      a = advance t s ∧
      Fresh m a ∧
      Hears .attention m a) ∧
    (∃ (t : Nat) (m : PilotMsg) (s : State) (a : State), ∃ k,
      a = advance t s ∧
      Fresh m a ∧
      Hears .bridge m a ∧
      a.clasp.bridge = true ∧
      k = coBridgeCan (secs a) ∧
      k ≤ 1) ∧
    (∃ (t : Nat) (m : PilotMsg) (s : State) (a : State),
      a = advance t s ∧
      Fresh m a ∧
      Hears .customer m a ∧
      coVdmRelay (secs a) = false) ∧
    (∃ (t : Nat) (m : PilotMsg) (s : State) (a : State),
      a = advance t s ∧
      Fresh m a ∧
      Hears .customer m a ∧
      coVdmRelay (secs a) = true ∧
      (∀ k, k < 4 → Tab.find a.clasp.mailbox k ≠ none)) ∧
    (∃ (t : Nat) (m : PilotMsg) (s : State) (a : State) (p : Bytes), ∃ d,
      a = advance t s ∧
      p = msgPayload m.bytes ∧
      Fresh m a ∧
      Hears .reply m a ∧
      d = vdmMode p ∧
      vdmCommand p = 3 ∧
      a.clasp.modeAsked = some (2 * d + 1) ∧
      vdmType p = 1 ∧
      a.clasp.verified = true ∧
      a.clasp.modeByHost = false) ∧
    (∃ (t : Nat) (m : PilotMsg) (s : State) (a : State) (p : Bytes), ∃ d,
      a = advance t s ∧
      p = msgPayload m.bytes ∧
      Fresh m a ∧
      Hears .reply m a ∧
      d = vdmMode p ∧
      vdmCommand p = 3 ∧
      a.clasp.modeAsked = some (2 * d + 1) ∧
      (vdmType p = 1 ∧ a.clasp.verified = false ∨ vdmType p = 0 ∨ vdmType p = 2)) ∧
    (∃ (t : Nat) (m : PilotMsg) (s : State) (a : State) (p : Bytes), ∃ d,
      a = advance t s ∧
      p = msgPayload m.bytes ∧
      Fresh m a ∧
      Hears .reply m a ∧
      d = vdmMode p ∧
      vdmCommand p = 3 ∧
      a.clasp.modeAsked = some (2 * d + 1) ∧
      vdmType p = 3) ∧
    (∃ (t : Nat) (m : PilotMsg) (s : State) (a : State),
      a = advance t s ∧
      Fresh m a ∧
      Hears .kreiloUnknown m a) :=
  ⟨⟨0, pilot 0x10 1 (zeros 20), readyFor 0x10, _, rfl, by unfold Fresh; decide +kernel, by unfold Hears; decide +kernel⟩,
   ⟨0, pilot 0x11 1 (zeros 12), readyFor 0x11, _, rfl, by unfold Fresh; decide +kernel, by unfold Hears; decide +kernel⟩,
   ⟨0, pilot 0x12 1 (zeros 8), readyFor 0x12, _, rfl, by unfold Fresh; decide +kernel, by unfold Hears; decide +kernel⟩,
   ⟨0, pilot 0x13 1 (zeros 2), readyFor 0x13, _, rfl, by unfold Fresh; decide +kernel, by unfold Hears; decide +kernel⟩,
   ⟨0, pilot 0x20 1 (vdmHead 0 1 0 ++ zeros 32), readyFor 0x20, _, rfl, by unfold Fresh; decide +kernel, by unfold Hears; decide +kernel⟩,
   ⟨0, pilot 0x20 1 (vdmHead 1 1 0 ++ [0, 2, 0, 0, 1]), readyFor 0x20, _, rfl, by unfold Fresh; decide +kernel, by unfold Hears; decide +kernel⟩,
   ⟨0, pilot 0x20 1 (vdmHead 0 2 0), readyFor 0x20, _, rfl, by unfold Fresh; decide +kernel, by unfold Hears; decide +kernel⟩,
   ⟨0, pilot 0x20 1 (vdmHead 0 3 2), readyFor 0x20, _, rfl, by unfold Fresh; decide +kernel, by unfold Hears; decide +kernel⟩,
   ⟨0, pilot 0x20 1 (vdmHead 0 4 2), readyFor 0x20, _, rfl, by unfold Fresh; decide +kernel, by unfold Hears; decide +kernel⟩,
   ⟨0, pilot 0x20 1 (vdmHead 0 5 0 ++ [0]), readyFor 0x20, _, rfl, by unfold Fresh; decide +kernel, by unfold Hears; decide +kernel⟩,
   ⟨0, pilot 0x20 1 (vdmHead 0 0x10 0 ++ zeros 5), readyFor 0x20, _, rfl, by unfold Fresh; decide +kernel, by unfold Hears; decide +kernel⟩,
   ⟨0, pilot 0x20 1 (zeros 4), readyFor 0x20, _, rfl, by unfold Fresh; decide +kernel, by unfold Hears; decide +kernel⟩,
   ⟨0, pilot 0x20 1 (vdmHead 1 3 2), readyFor 0x20, _, rfl, by unfold Fresh; decide +kernel, by unfold Hears; decide +kernel⟩,
   ⟨0, pilot 0x20 1 (vdmHead 0 7 0), readyFor 0x20, _, rfl, by unfold Fresh; decide +kernel, by unfold Hears; decide +kernel⟩,
   ⟨0, pilot 0x10 2 (zeros 20), readyFor 0x10, _, rfl, by unfold Fresh; decide +kernel, by unfold Hears; decide +kernel⟩,
   ⟨0, pilot 0x11 2 [0, 0, 0, 0, 1, 244, 0, 50, 0, 10, 0, 0], heard 0x11 { phase := .ready, role := some 1, own := some capsOne }, _, _, _, contractOne, rfl, rfl, rfl, by unfold Fresh; decide +kernel, by unfold Hears; decide +kernel, by decide +kernel⟩,
   ⟨0, pilot 0x11 2 (zeros 12), readyFor 0x11, _, _, _, 6, rfl, rfl, rfl, by unfold Fresh; decide +kernel, by unfold Hears; decide +kernel, by decide +kernel⟩,
   ⟨0, pilot 0x12 2 (zeros 8), readyFor 0x12, _, rfl, by unfold Fresh; decide +kernel, by unfold Hears; decide +kernel⟩,
   ⟨0, pilot 0x13 2 (zeros 2), readyFor 0x13, _, rfl, by unfold Fresh; decide +kernel, by unfold Hears; decide +kernel⟩,
   ⟨0, pilot 0x20 2 (vdmHead 0 1 0 ++ zeros 32), readyFor 0x20, _, rfl, by unfold Fresh; decide +kernel, by unfold Hears; decide +kernel, by decide +kernel⟩,
   ⟨0, pilot 0x20 2 (vdmHead 0 1 0 ++ zeros 32), { readyFor 0x20 with benra := { deviceKey := some 5 } }, _, rfl, by unfold Fresh; decide +kernel, by unfold Hears; decide +kernel, by decide +kernel⟩,
   ⟨0, pilot 0x20 2 (vdmHead 1 1 0 ++ [0, 2, 1, 0] ++ zeros 232), heard 0x20 { phase := .ready, identity := some { nonce := zeros 32 } }, _, _, _, 2, rfl, rfl, by unfold Fresh; decide +kernel, by unfold Hears; decide +kernel, rfl, by decide +kernel⟩,
   ⟨0, pilot 0x20 2 (vdmHead 0 2 0), readyFor 0x20, _, rfl, by unfold Fresh; decide +kernel, by unfold Hears; decide +kernel⟩,
   ⟨0, pilot 0x20 2 (vdmHead 0 3 3), readyFor 0x20, _, _, _, _, _, rfl, rfl, rfl, by unfold Fresh; decide +kernel, by unfold Hears; decide +kernel, by decide +kernel, by decide +kernel, rfl, rfl, by decide +kernel⟩,
   ⟨0, pilot 0x20 2 (vdmHead 0 3 2), heard 0x20 { phase := .ready, verified := true, partnerFlags := 16 }, _, _, _, _, _, rfl, rfl, rfl, by unfold Fresh; decide +kernel, by unfold Hears; decide +kernel, by decide +kernel, by decide +kernel, rfl, rfl, rfl⟩,
   ⟨0, pilot 0x20 2 (vdmHead 0 3 2), heard 0x20 { phase := .ready, role := some 1, modeAsked := some 5 }, _, rfl, by unfold Fresh; decide +kernel, by unfold Hears; decide +kernel, by decide +kernel⟩,
   ⟨0, pilot 0x20 2 (vdmHead 0 4 2), readyFor 0x20, _, rfl, by unfold Fresh; decide +kernel, by unfold Hears; decide +kernel, by decide +kernel⟩,
   ⟨0, pilot 0x20 2 (vdmHead 0 5 0 ++ [0]), readyFor 0x20, _, rfl, by unfold Fresh; decide +kernel, by unfold Hears; decide +kernel⟩,
   ⟨0, pilot 0x20 2 (vdmHead 0 0x10 0 ++ zeros 5), heard 0x20 { phase := .ready, bridge := true }, _, _, rfl, by unfold Fresh; decide +kernel, by unfold Hears; decide +kernel, by decide +kernel, rfl, by decide +kernel⟩,
   ⟨0, pilot 0x20 2 (zeros 4), { readyFor 0x20 with loader := { live := some { sections := [(tyCoupling, put 240 [(0, 1, 1)])] } } }, _, rfl, by unfold Fresh; decide +kernel, by unfold Hears; decide +kernel, by decide +kernel⟩,
   ⟨0, pilot 0x20 2 (zeros 4), heard 0x20 { phase := .ready, mailbox := [(0, ⟨0, 0, []⟩), (1, ⟨1, 0, []⟩), (2, ⟨2, 0, []⟩), (3, ⟨3, 0, []⟩)] }, _, rfl, by unfold Fresh; decide +kernel, by unfold Hears; decide +kernel, by decide +kernel⟩,
   ⟨0, pilot 0x20 2 (vdmHead 1 3 2), heard 0x20 { phase := .ready, verified := true, modeAsked := some 5 }, _, _, _, rfl, rfl, by unfold Fresh; decide +kernel, by unfold Hears; decide +kernel, rfl, by decide +kernel⟩,
   ⟨0, pilot 0x20 2 (vdmHead 2 3 2), heard 0x20 { phase := .ready, modeAsked := some 5 }, _, _, _, rfl, rfl, by unfold Fresh; decide +kernel, by unfold Hears; decide +kernel, rfl, by decide +kernel⟩,
   ⟨0, pilot 0x20 2 (vdmHead 3 3 2), heard 0x20 { phase := .ready, modeAsked := some 5 }, _, _, _, rfl, rfl, by unfold Fresh; decide +kernel, by unfold Hears; decide +kernel, rfl, by decide +kernel⟩,
   ⟨0, pilot 0x20 2 (vdmHead 0 7 0), readyFor 0x20, _, rfl, by unfold Fresh; decide +kernel, by unfold Hears; decide +kernel⟩⟩

/-- SETTLED is outstanding since it ended at 0. -/
def settledOut : Outstanding := { msg := { type := 5 }, count := 1, role := 1, endsAt := 0 }

def waiting (now : Nat) (o : Outstanding) : State := coupling now { phase := .ready, role := some 1, out := some o }

theorem witness_PilotLineIsDriven :
    (∃ (t : Nat) (s : State) (a : State), ∃ o b,
      a = advance t s ∧
      claspActive a = true ∧
      pilotUsed a.clasp.phase = true ∧
      a.clasp.out = some o ∧
      o.again = false ∧
      o.msg.purpose = .plain ∧
      b / 16 % 16 = 15 - b % 16 ∧
      b % 8 = o.count ∧
      o.msg.type ≠ tResync) ∧
    (∃ (t : Nat) (s : State) (a : State), ∃ o w,
      a = advance t s ∧
      claspActive a = true ∧
      pilotUsed a.clasp.phase = true ∧
      a.clasp.out = some o ∧
      o.again = false ∧
      w = { claspCount 3 a with clasp := { (claspCount 3 a).clasp with missRun := a.clasp.missRun + 1 } } ∧
      o.endsAt + 900 * usTicks ≤ a.now ∧
      splitDue w = true) ∧
    (∃ (t : Nat) (s : State) (a : State), ∃ o w,
      a = advance t s ∧
      claspActive a = true ∧
      pilotUsed a.clasp.phase = true ∧
      a.clasp.out = some o ∧
      o.again = false ∧
      w = { claspCount 3 a with clasp := { (claspCount 3 a).clasp with missRun := a.clasp.missRun + 1 } } ∧
      o.endsAt + 900 * usTicks ≤ a.now ∧
      splitDue w = false ∧
      (∃ e, a.clasp.ending = some e ∧ e.cause = ceSplit)) ∧
    (∃ (t : Nat) (s : State) (a : State), ∃ o w,
      a = advance t s ∧
      claspActive a = true ∧
      pilotUsed a.clasp.phase = true ∧
      a.clasp.out = some o ∧
      o.again = false ∧
      w = { claspCount 3 a with clasp := { (claspCount 3 a).clasp with missRun := a.clasp.missRun + 1 } } ∧
      o.endsAt + 900 * usTicks ≤ a.now ∧
      splitDue w = false ∧
      (∀ e, a.clasp.ending = some e → e.cause ≠ ceSplit)) ∧
    (∃ (t : Nat) (s : State) (a : State), ∃ o,
      a = advance t s ∧
      claspActive a = true ∧
      pilotUsed a.clasp.phase = true ∧
      a.clasp.out = some o ∧
      o.again = false ∧
      a.now < o.endsAt + 900 * usTicks) ∧
    (∃ (t : Nat) (s : State) (a : State), ∃ o r,
      a = advance t s ∧
      claspActive a = true ∧
      pilotUsed a.clasp.phase = true ∧
      a.clasp.out = some o ∧
      o.again = false ∧
      a.now < o.endsAt ∧
      a.clasp.role = some r) ∧
    (∃ (t : Nat) (s : State) (a : State), ∃ o,
      a = advance t s ∧
      claspActive a = true ∧
      pilotUsed a.clasp.phase = true ∧
      a.clasp.out = some o ∧
      o.again = false ∧
      a.now < o.endsAt ∧
      a.clasp.role = none) ∧
    (∃ (t : Nat) (s : State) (a : State), ∃ m rest,
      a = advance t s ∧
      claspActive a = true ∧
      pilotUsed a.clasp.phase = true ∧
      a.clasp.out = none ∧
      nextMsg a = some (m, rest) ∧
      m.purpose ≠ .resync ∧
      a.clasp.holdUntil ≤ a.now ∧
      a.clasp.lineEnd + 200 * usTicks ≤ a.now ∧
      a.clasp.breakUntil ≤ a.now) ∧
    (∃ (t : Nat) (s : State) (a : State),
      a = advance t s ∧
      claspActive a = true ∧
      pilotUsed a.clasp.phase = true ∧
      (a.now < a.clasp.holdUntil ∨ a.now < a.clasp.lineEnd + 200 * usTicks ∨ a.now < a.clasp.breakUntil)) ∧
    (∃ (t : Nat) (s : State) (a : State),
      a = advance t s ∧
      claspActive a = true ∧
      pilotUsed a.clasp.phase = true) ∧
    (∃ (t : Nat) (s : State) (a : State), ∃ q,
      a = advance t s ∧
      claspActive a = true ∧
      pilotUsed a.clasp.phase = true ∧
      a.clasp.phase = .discover ∧
      a.clasp.partner = none ∧
      a.clasp.capsSentAt = some q ∧
      q + 100 * msTicks ≤ a.now) ∧
    (∃ (t : Nat) (s : State) (a : State), ∃ q,
      a = advance t s ∧
      claspActive a = true ∧
      pilotUsed a.clasp.phase = true ∧
      a.clasp.phase = .discover ∧
      a.clasp.partner = none ∧
      a.clasp.capsSentAt = some q ∧
      a.now < q + 100 * msTicks) ∧
    (∃ (t : Nat) (s : State) (a : State),
      a = advance t s ∧
      claspActive a = true ∧
      pilotUsed a.clasp.phase = true ∧
      (a.clasp.phase = .ready ∨ a.clasp.phase = .closing ∨ a.clasp.phase = .contract) ∧
      a.clasp.tandem = false ∧
      a.clasp.statusAt + 20 * msTicks ≤ a.now) ∧
    (∃ (t : Nat) (s : State) (a : State),
      a = advance t s ∧
      claspActive a = true ∧
      pilotUsed a.clasp.phase = true ∧
      (a.clasp.phase = .ready ∨ a.clasp.phase = .closing ∨ a.clasp.phase = .contract) ∧
      a.clasp.tandem = false ∧
      a.now < a.clasp.statusAt + 20 * msTicks) ∧
    (∃ (t : Nat) (s : State) (a : State), ∃ x,
      a = advance t s ∧
      claspActive a = true ∧
      pilotUsed a.clasp.phase = true ∧
      a.clasp.identity = some x ∧
      x.whole = true) ∧
    (∃ (t : Nat) (s : State) (a : State), ∃ q,
      a = advance t s ∧
      claspActive a = true ∧
      pilotUsed a.clasp.phase = true ∧
      a.clasp.identityRetryAt = some q ∧
      q ≤ a.now) ∧
    (∃ (t : Nat) (s : State) (a : State), ∃ q,
      a = advance t s ∧
      claspActive a = true ∧
      pilotUsed a.clasp.phase = true ∧
      a.clasp.identityRetryAt = some q ∧
      a.now < q) ∧
    (∃ (t : Nat) (s : State) (a : State),
      a = advance t s ∧
      claspActive a = true ∧
      pilotUsed a.clasp.phase = true ∧
      a.clasp.phase ≠ .ending ∧
      a.clasp.asked = none ∧
      a.clasp.askOwed = true) ∧
    (∃ (t : Nat) (s : State) (a : State), ∃ q,
      a = advance t s ∧
      claspActive a = true ∧
      pilotUsed a.clasp.phase = true ∧
      a.clasp.phase = .contract ∧
      a.clasp.asked = none ∧
      a.clasp.deviateSince = some q ∧
      q + secTicks ≤ a.now ∧
      a.clasp.settledAt + secTicks ≤ a.now) ∧
    (∃ (t : Nat) (s : State) (a : State), ∃ id, ∃ (d : Bytes),
      a = advance t s ∧
      claspActive a = true ∧
      pilotUsed a.clasp.phase = true ∧
      a.clasp.bridge = true ∧
      canLength d.length = true ∧
      (Nat.xor id (coBridgeId0 (secs a))) &&& (coBridgeMask0 (secs a)) = 0 ∧
      (a.clasp.outbox.filter (fun m => m.purpose == .bridge)).length < 16) :=
  ⟨⟨0, waiting 9 settledOut, _, settledOut, 0xE1, rfl, by decide +kernel⟩,
   ⟨0, coupling (5 * msTicks) { phase := .contract, role := some 1, tandem := true, missRun := 2, out := some { settledOut with retries := 3 } }, _, { settledOut with retries := 3 }, _, rfl, by decide +kernel, by decide +kernel, by decide +kernel, by decide +kernel, rfl, by decide +kernel⟩,
   ⟨0, coupling (5 * msTicks) { phase := .ending, role := some 1, out := some { settledOut with retries := 3 }, ending := some { cause := ceSplit, startAt := 0 } }, _, { settledOut with retries := 3 }, _, rfl, by decide +kernel, by decide +kernel, by decide +kernel, by decide +kernel, rfl, by decide +kernel, by decide +kernel, ⟨{ cause := ceSplit, startAt := 0 }, by decide +kernel⟩⟩,
   ⟨0, waiting (900 * usTicks) { settledOut with retries := 3 }, _, { settledOut with retries := 3 }, _, rfl, by decide +kernel, by decide +kernel, by decide +kernel, by decide +kernel, rfl, by decide +kernel, by decide +kernel, fun e (h : (none : Option Ending) = some e) => nomatch h⟩,
   ⟨0, waiting (900 * usTicks - 1) settledOut, _, settledOut, rfl, by decide +kernel⟩,
   ⟨0, waiting 9 { settledOut with endsAt := 10 }, _, { settledOut with endsAt := 10 }, 1, rfl, by decide +kernel⟩,
   ⟨0, { waiting 9 { settledOut with endsAt := 10 } with clasp := { phase := .ready, out := some { settledOut with endsAt := 10 } } }, _, { settledOut with endsAt := 10 }, rfl, by decide +kernel⟩,
   ⟨0, coupling (200 * usTicks) { phase := .ready, outbox := [{ type := 5 }] }, _, { type := 5 }, [], rfl, by decide +kernel⟩,
   ⟨0, coupling 9 { phase := .ready, holdUntil := 10 }, _, rfl, by decide +kernel⟩,
   ⟨0, coupling 9 { phase := .ready }, _, rfl, by decide +kernel⟩,
   ⟨0, coupling (100 * msTicks) { phase := .discover, capsSentAt := some 0 }, _, 0, rfl, by decide +kernel⟩,
   ⟨0, coupling (100 * msTicks - 1) { phase := .discover, capsSentAt := some 0 }, _, 0, rfl, by decide +kernel⟩,
   ⟨0, coupling (20 * msTicks) { phase := .contract }, _, rfl, by decide +kernel⟩,
   ⟨0, coupling (20 * msTicks - 1) { phase := .contract }, _, rfl, by decide +kernel⟩,
   ⟨0, coupling 9 { phase := .ready, identity := some { nonce := zeros 32, whole := true } }, _, _, rfl, by decide +kernel, by decide +kernel, rfl, by decide +kernel⟩,
   ⟨0, coupling 9 { phase := .ready, identityRetryAt := some 9 }, _, 9, rfl, by decide +kernel⟩,
   ⟨0, coupling 9 { phase := .ready, identityRetryAt := some 10 }, _, 10, rfl, by decide +kernel⟩,
   ⟨0, coupling 9 { phase := .ready, askOwed := true }, _, rfl, by decide +kernel⟩,
   ⟨0, coupling secTicks { phase := .contract, deviateSince := some 0 }, _, 0, rfl, by decide +kernel⟩,
   ⟨0, coupling 9 { phase := .contract, bridge := true }, _, 5, zeros 8, rfl, by decide +kernel⟩⟩

def linked11 (flags : Nat) : State :=
  { coupling 9 { phase := .ready } with
    loader := { live := some { sections := [stringStages 1 0, (tySequence, put 960 [(32, 1, 1), (33, 1, flags)]), couplingSec] } }
    modul := { stages := [(7, { mode := .running })] }
    pave := { ains := [(0, { word := { value := 5000, valid := true, close := 9 } })] } }

def steady : Transition := { old := none, closing := true, startAt := 0, limit := 9, steadySince := some 0 }

def inContract (now : Nat) (c : Clasp) : State := coupling now { c with phase := .contract }

theorem witness_CouplingsCloseAndEnd :
    (∃ (t : Nat) (s : State) (a : State), ∃ l,
      a = advance t s ∧
      claspActive a = true ∧
      a.clasp.phase = .ready ∧
      a.mode = .run ∧
      stageRunning a (coStage (secs a)) = true ∧
      covered a (coStage (secs a)) = false ∧
      (∃ v, linkVoltage a = some v ∧ v ≤ coCloseMax (secs a)) ∧
      (l = [coKaPos (secs a), coKaNeg (secs a)].filter (fun k => !ilkPasses a k)) ∧
      l = []) ∧
    (∃ (t : Nat) (s : State) (a : State), ∃ l,
      a = advance t s ∧
      claspActive a = true ∧
      a.clasp.phase = .ready ∧
      a.mode = .run ∧
      stageRunning a (coStage (secs a)) = true ∧
      covered a (coStage (secs a)) = false ∧
      (∃ v, linkVoltage a = some v ∧ v ≤ coCloseMax (secs a)) ∧
      (l = [coKaPos (secs a), coKaNeg (secs a)].filter (fun k => !ilkPasses a k)) ∧
      l ≠ []) ∧
    (∃ (t : Nat) (s : State) (a : State),
      a = advance t s ∧
      claspActive a = true ∧
      a.clasp.phase = .closing ∧
      a.clasp.phaseSince + 500 * msTicks ≤ a.now) ∧
    (∃ (t : Nat) (s : State) (a : State),
      a = advance t s ∧
      claspActive a = true ∧
      a.clasp.phase = .closing ∧
      a.now < a.clasp.phaseSince + 500 * msTicks) ∧
    (∃ (t : Nat) (s : State) (a : State), ∃ x q,
      a = advance t s ∧
      claspActive a = true ∧
      a.clasp.transition = some x ∧
      a.clasp.role = some 1 ∧
      x.steadySince = some q ∧
      q + 5 * msTicks ≤ a.now) ∧
    (∃ (t : Nat) (s : State) (a : State), ∃ x q,
      a = advance t s ∧
      claspActive a = true ∧
      a.clasp.transition = some x ∧
      a.clasp.role = some 1 ∧
      x.steadySince = some q ∧
      a.now < q + 5 * msTicks) ∧
    (∃ (t : Nat) (s : State) (a : State), ∃ x,
      a = advance t s ∧
      claspActive a = true ∧
      a.clasp.transition = some x ∧
      a.clasp.phase = .contract ∧
      x.startAt + x.limit ≤ a.now) ∧
    (∃ (t : Nat) (s : State) (a : State), ∃ x,
      a = advance t s ∧
      claspActive a = true ∧
      a.clasp.transition = some x ∧
      a.clasp.phase = .contract ∧
      a.now < x.startAt + x.limit) ∧
    (∃ (t : Nat) (s : State) (a : State), ∃ w,
      a = advance t s ∧
      claspActive a = true ∧
      a.clasp.swap = some w ∧
      w.since + 500 * msTicks ≤ a.now) ∧
    (∃ (t : Nat) (s : State) (a : State), ∃ w,
      a = advance t s ∧
      claspActive a = true ∧
      a.clasp.swap = some w ∧
      a.now < w.since + 500 * msTicks) ∧
    (∃ (t : Nat) (s : State) (a : State), ∃ q,
      a = advance t s ∧
      claspActive a = true ∧
      a.clasp.phase = .contract ∧
      a.clasp.linkOutSince = some q ∧
      q + coLinkFilter (secs a) * msTicks ≤ a.now) ∧
    (∃ (t : Nat) (s : State) (a : State), ∃ q,
      a = advance t s ∧
      claspActive a = true ∧
      a.clasp.phase = .contract ∧
      a.clasp.linkOutSince = some q ∧
      a.now < q + coLinkFilter (secs a) * msTicks) ∧
    (∃ (t : Nat) (s : State) (a : State),
      a = advance t s ∧
      claspActive a = true ∧
      a.clasp.phase = .contract ∧
      a.clasp.imbalance.length = 100 ∧
      10000 * coImbal (secs a) < a.clasp.imbalance.sum) ∧
    (∃ (t : Nat) (s : State) (a : State),
      a = advance t s ∧
      claspActive a = true ∧
      a.clasp.phase = .contract ∧
      a.clasp.imbalance.length = 100 ∧
      a.clasp.imbalance.sum ≤ 10000 * coImbal (secs a)) ∧
    (∃ (t : Nat) (s : State) (a : State), ∃ e,
      a = advance t s ∧
      claspActive a = true ∧
      a.clasp.phase = .ending ∧
      a.clasp.ending = some e ∧
      e.startAt + 10 * msTicks ≤ a.now) ∧
    (∃ (t : Nat) (s : State) (a : State), ∃ e,
      a = advance t s ∧
      claspActive a = true ∧
      a.clasp.phase = .ending ∧
      a.clasp.ending = some e ∧
      ((∃ q, e.lowSince = some q ∧ q + msTicks ≤ a.now) ∨ couplingOpen a = true) ∧
      a.now < e.startAt + 10 * msTicks) ∧
    (∃ (t : Nat) (s : State) (a : State), ∃ e,
      a = advance t s ∧
      claspActive a = true ∧
      a.clasp.phase = .ending ∧
      a.clasp.ending = some e ∧
      e.lowSince = none ∧
      couplingOpen a = false ∧
      a.now < e.startAt + 10 * msTicks) ∧
    (∃ (t : Nat) (s : State) (a : State),
      a = advance t s ∧
      claspActive a = true ∧
      a.clasp.phase = .contract ∧
      a.clasp.tandem = true ∧
      3 ≤ a.clasp.missRun ∧
      a.clasp.lastValidAt + 5 * msTicks ≤ a.now) ∧
    (∃ (t : Nat) (s : State) (a : State) (u : State),
      a = advance t s ∧
      claspActive a = true ∧
      (u.clasp.phase = .closing ∨ u.clasp.phase = .contract)) ∧
    (∃ (t : Nat) (s : State) (a : State), ∃ rq u,
      a = advance t s ∧
      claspActive a = true ∧
      claspServes u = true ∧
      admitCmd (couplingSpec 0x0E10 4 4 noArgs) rq a = some u ∧
      (u.clasp.phase = .closing ∨ u.clasp.phase = .contract)) ∧
    (∃ (t : Nat) (s : State) (a : State), ∃ rq u,
      a = advance t s ∧
      claspActive a = true ∧
      claspServes u = true ∧
      admitCmd (couplingSpec 0x0E11 4 4 noArgs) rq a = some u ∧
      u.clasp.transition = none ∧
      swapping u = false ∧
      u.clasp.phase = .contract ∧
      u.clasp.tandem = false ∧
      u.clasp.bridge = false) ∧
    (∃ (t : Nat) (s : State) (a : State), ∃ rq u d,
      a = advance t s ∧
      claspActive a = true ∧
      claspServes u = true ∧
      admitCmd (couplingSpec 0x0E12 4 4 [2, 3]) rq a = some u ∧
      d = u8 rq.data 0 ∧
      u8 rq.data 1 = 0 ∧
      1 ≤ d ∧
      d ≤ 2 ∧
      modeEnabled (secs u) d = true ∧
      pilotUsed u.clasp.phase = true) ∧
    (∃ (t : Nat) (s : State) (a : State), ∃ rq u d,
      a = advance t s ∧
      claspActive a = true ∧
      claspServes u = true ∧
      admitCmd (couplingSpec 0x0E12 4 4 [2, 3]) rq a = some u ∧
      d = u8 rq.data 0 ∧
      u8 rq.data 1 = 1 ∧
      1 ≤ d ∧
      d ≤ 2 ∧
      modeEnabled (secs u) d = true ∧
      pilotUsed u.clasp.phase = true ∧
      u.clasp.verified = false) ∧
    (∃ (t : Nat) (s : State) (a : State), ∃ rq u d,
      a = advance t s ∧
      claspActive a = true ∧
      claspServes u = true ∧
      admitCmd (couplingSpec 0x0E12 4 4 [2, 3]) rq a = some u ∧
      d = u8 rq.data 0 ∧
      u8 rq.data 1 = 1 ∧
      1 ≤ d ∧
      d ≤ 2 ∧
      modeEnabled (secs u) d = true ∧
      pilotUsed u.clasp.phase = true ∧
      u.clasp.verified = true) ∧
    (∃ (t : Nat) (s : State) (a : State), ∃ rq u d,
      a = advance t s ∧
      claspActive a = true ∧
      claspServes u = true ∧
      admitCmd (couplingSpec 0x0E13 8 244 [5, 6, 7]) rq a = some u ∧
      d = rq.data ∧
      u8 d 2 ≤ 63 ∧
      u8 d 3 ≤ 3 ∧
      u16 d 0 ≠ 0x4B52 ∧
      coVdmRelay (secs u) = true ∧
      pilotUsed u.clasp.phase = true ∧
      u.clasp.vdmWait = none) :=
  ⟨⟨0, linked11 0, _, _, rfl, by decide +kernel, by decide +kernel, by decide +kernel, by decide +kernel, by decide +kernel, ⟨5000, by decide +kernel, by decide +kernel⟩, rfl, rfl⟩,
   ⟨0, linked11 4, _, _, rfl, by decide +kernel, by decide +kernel, by decide +kernel, by decide +kernel, by decide +kernel, ⟨5000, by decide +kernel, by decide +kernel⟩, rfl, by decide +kernel⟩,
   ⟨0, coupling (500 * msTicks) { phase := .closing }, _, rfl, by decide +kernel⟩,
   ⟨0, coupling (500 * msTicks - 1) { phase := .closing }, _, rfl, by decide +kernel⟩,
   ⟨0, coupling (5 * msTicks) { phase := .closing, role := some 1, transition := some steady }, _, steady, 0, rfl, by decide +kernel⟩,
   ⟨0, coupling (5 * msTicks - 1) { phase := .closing, role := some 1, transition := some steady }, _, steady, 0, rfl, by decide +kernel⟩,
   ⟨0, inContract 9 { transition := some steady }, _, steady, rfl, by decide +kernel⟩,
   ⟨0, inContract 8 { transition := some steady }, _, steady, rfl, by decide +kernel⟩,
   ⟨0, inContract (500 * msTicks) { swap := some { wasSource := true, since := 0 } }, _, { wasSource := true, since := 0 }, rfl, by decide +kernel⟩,
   ⟨0, inContract (500 * msTicks - 1) { swap := some { wasSource := true, since := 0 } }, _, { wasSource := true, since := 0 }, rfl, by decide +kernel⟩,
   ⟨0, inContract (10 * msTicks) { linkOutSince := some 0 }, _, 0, rfl, by decide +kernel⟩,
   ⟨0, inContract (10 * msTicks - 1) { linkOutSince := some 0 }, _, 0, rfl, by decide +kernel⟩,
   ⟨0, inContract 9 { imbalance := 1 :: List.replicate 99 10102 }, _, rfl, by decide +kernel⟩,
   ⟨0, inContract 9 { imbalance := List.replicate 100 10000 }, _, rfl, by decide +kernel⟩,
   ⟨0, coupling (10 * msTicks) { phase := .ending, ending := some { cause := 1, startAt := 0 } }, _, { cause := 1, startAt := 0 }, rfl, by decide +kernel⟩,
   ⟨0, coupling msTicks { phase := .ending, ending := some { cause := 1, startAt := 0, lowSince := some 0 } }, _, { cause := 1, startAt := 0, lowSince := some 0 }, rfl, by decide +kernel, by decide +kernel, by decide +kernel, Or.inl ⟨0, by decide +kernel, by decide +kernel⟩, by decide +kernel⟩,
   ⟨0, { coupling (10 * msTicks - 1) { phase := .ending, ending := some { cause := 1, startAt := 0 } } with seq := { keepAlives := [(0, { running := true })] } }, _, { cause := 1, startAt := 0 }, rfl, by decide +kernel⟩,
   ⟨0, inContract (5 * msTicks) { tandem := true, missRun := 3 }, _, rfl, by decide +kernel⟩,
   ⟨0, inContract 9 {}, _, inContract 9 {}, rfl, by decide +kernel, Or.inr (by decide +kernel)⟩,
   ⟨0, inContract 9 {}, _, signed (couplingSpec 0x0E10 4 4 noArgs) (req [0, 0, 0, 0]) (advance 0 (inContract 9 {})), taken (couplingSpec 0x0E10 4 4 noArgs) (req [0, 0, 0, 0]) (advance 0 (inContract 9 {})), rfl, by decide +kernel, by decide +kernel, admits _ _ _ (by decide +kernel), by decide +kernel⟩,
   ⟨0, inContract 9 {}, _, signed (couplingSpec 0x0E11 4 4 noArgs) (req [0, 0, 0, 0]) (advance 0 (inContract 9 {})), taken (couplingSpec 0x0E11 4 4 noArgs) (req [0, 0, 0, 0]) (advance 0 (inContract 9 {})), rfl, by decide +kernel, by decide +kernel, admits _ _ _ (by decide +kernel), by decide +kernel⟩,
   ⟨0, inContract 9 {}, _, signed (couplingSpec 0x0E12 4 4 [2, 3]) (req [2, 0, 0, 0]) (advance 0 (inContract 9 {})), taken (couplingSpec 0x0E12 4 4 [2, 3]) (req [2, 0, 0, 0]) (advance 0 (inContract 9 {})), _, rfl, by decide +kernel, by decide +kernel, admits _ _ _ (by decide +kernel), rfl, by decide +kernel⟩,
   ⟨0, inContract 9 {}, _, signed (couplingSpec 0x0E12 4 4 [2, 3]) (req [2, 1, 0, 0]) (advance 0 (inContract 9 {})), taken (couplingSpec 0x0E12 4 4 [2, 3]) (req [2, 1, 0, 0]) (advance 0 (inContract 9 {})), _, rfl, by decide +kernel, by decide +kernel, admits _ _ _ (by decide +kernel), rfl, by decide +kernel⟩,
   ⟨0, inContract 9 { verified := true }, _, signed (couplingSpec 0x0E12 4 4 [2, 3]) (req [2, 1, 0, 0]) (advance 0 (inContract 9 { verified := true })), taken (couplingSpec 0x0E12 4 4 [2, 3]) (req [2, 1, 0, 0]) (advance 0 (inContract 9 { verified := true })), _, rfl, by decide +kernel, by decide +kernel, admits _ _ _ (by decide +kernel), rfl, by decide +kernel⟩,
   ⟨0, inContract 9 {}, _, signed (couplingSpec 0x0E13 8 244 [5, 6, 7]) (req [1, 0, 0, 0, 0, 0, 0, 0]) (advance 0 (inContract 9 {})), taken (couplingSpec 0x0E13 8 244 [5, 6, 7]) (req [1, 0, 0, 0, 0, 0, 0, 0]) (advance 0 (inContract 9 {})), _, rfl, by decide +kernel, by decide +kernel, admits _ _ _ (by decide +kernel), rfl, by decide +kernel⟩⟩

/-- One FAULTS entry: input 0x0904 of scope 0, with a reaction and CLEAR_MODE, HOLD_OFF 5 ms. -/
def faultSec (react clear : Nat) : Nat × Bytes :=
  (tyFaults, put 128 [(0, 2, 1), (2, 1, 10), (64, 2, 0x0904), (67, 1, react), (68, 1, 3), (69, 1, clear), (70, 2, 5)])

def faulty (now react clear : Nat) (c : Collector) : State := { live .run [faultSec react clear] with now := now, collector := c }

/-- The input 0x0904 in a state. -/
def one904 (x : FaultIn) : Collector := { inputs := [(faultKey 0x0904 0, x)] }

/-- S1 of stage 7 not confirmed by 9. -/
def unconfirmed (now : Nat) (m : StageMode) : State :=
  { faulty now 0x20 1 { heldLevel := 1, s1Stages := 0x80, s1Waits := [(9, 0x80)] } with modul := { stages := [(7, { mode := m })] } }

def guardWait (now : Nat) : State :=
  { live .safe [faultSec 0x20 1, (tySequence, put 960 [(8, 2, 5)])] with now := now, collector := { heldLevel := 1, s1UpSince := some 0 } }

theorem witness_FaultsLatchReactAndClear :
    (∃ (t : Nat) (code : Nat) (scope : Nat) (s : State) (a : State) (pairs : List (Bool × Bool)),
      a = advance t s ∧
      lastCycles 2 pairAsserted pairs = true ∧
      inputExists a code scope = true ∧
      mildReaction (reactionOf a code scope) = true ∧
      (a.input code scope).asserted = false) ∧
    (∃ (t : Nat) (s : State) (a : State) (pairs : List (Bool × Bool)),
      a = advance t s ∧
      lastCycles 2 pairAsserted pairs = false) ∧
    (∃ (t : Nat) (s : State) (a : State) (pairs : List (Bool × Bool)),
      a = advance t s ∧
      lastCycles 2 pairIdle pairs = false) ∧
    (∃ (t : Nat) (code : Nat) (scope : Nat) (s : State) (a : State) (pairs : List (Bool × Bool)),
      a = advance t s ∧
      lastCycles 2 pairIdle pairs = true ∧
      (a.input code scope).asserted = true) ∧
    (∃ (t : Nat) (code : Nat) (scope : Nat) (s : State) (a : State), ∃ u, ∃ (pairs : List (Bool × Bool)),
      a = advance t s ∧
      lastCycles 8 pairEqual pairs = true ∧
      inputExists a code scope = true ∧
      u = chipPulse 0x0C01 [inputNo a code scope]
        (a.setInput code scope { a.input code scope with mismatch := true }) ∧
      u.phase ≠ .inReset) ∧
    (∃ (t : Nat) (s : State) (a : State) (pairs : List (Bool × Bool)),
      a = advance t s ∧
      lastCycles 8 pairEqual pairs = false) ∧
    (∃ (t : Nat) (code : Nat) (scope : Nat) (s : State) (a : State) (high : Bool) (one : List (Bool × Bool)) (two : List (Bool × Bool)),
      a = advance t s ∧
      inputExists a code scope = true ∧
      (a.input code scope).asserted = false ∧
      pulseMissed high one = true ∧
      pulseMissed high two = true) ∧
    (∃ (t : Nat) (s : State) (a : State), ∃ e, ∃ (held : Bytes),
      a = advance t s ∧
      isLive a = true ∧
      e < faEntryCount (secs a) ∧
      parityOf held = parityOf (faEntry (secs a) e)) ∧
    (∃ (t : Nat) (s : State) (a : State), ∃ e, ∃ (held : Bytes),
      a = advance t s ∧
      isLive a = true ∧
      e < faEntryCount (secs a) ∧
      parityOf held ≠ parityOf (faEntry (secs a) e) ∧
      a.collector.parityBad.contains e = false) ∧
    (∃ (t : Nat) (s : State) (a : State),
      a = advance t s ∧
      (∀ w ∈ a.collector.s1Waits, w.1 ≤ a.now → stagesStopped w.2 a = true)) ∧
    (∃ (t : Nat) (s : State) (a : State),
      a = advance t s ∧
      (∃ w ∈ a.collector.s1Waits, w.1 ≤ a.now ∧ stagesStopped w.2 a = false)) ∧
    (∃ (t : Nat) (code : Nat) (scope : Nat) (s : State) (a : State), ∃ e,
      a = advance t s ∧
      entryOf a code scope = some e ∧
      (a.input code scope).latched = true ∧
      (a.input code scope).asserted = false ∧
      u8 e 5 = 0 ∧
      (a.input code scope).deassertedAt + u16 e 6 * msTicks ≤ a.now ∧
      a.collector.s1UpSince = none) ∧
    (∃ (t : Nat) (code : Nat) (scope : Nat) (s : State) (a : State), ∃ e,
      a = advance t s ∧
      entryOf a code scope = some e ∧
      (a.input code scope).latched = true ∧
      (a.input code scope).asserted = false ∧
      u8 e 5 = 0 ∧
      a.now < (a.input code scope).deassertedAt + u16 e 6 * msTicks) ∧
    (∃ (t : Nat) (s : State) (a : State), ∃ rq u,
      a = advance t s ∧
      admitCmd faultClearSpec rq a = some u) ∧
    (∃ (t : Nat) (code : Nat) (scope : Nat) (s : State) (a : State) (d : Bytes),
      a = advance t s ∧
      u16 d 0 = code ∧
      u8 d 2 = scope ∧
      code ≠ 0xFFFF ∧
      entryOf a code scope = none) ∧
    (∃ (t : Nat) (code : Nat) (scope : Nat) (s : State) (a : State) (d : Bytes),
      a = advance t s ∧
      u16 d 0 = code ∧
      u8 d 2 = scope ∧
      code ≠ 0xFFFF ∧
      entryOf a code scope ≠ none ∧
      clearModeOf a code scope = 2) ∧
    (∃ (t : Nat) (code : Nat) (scope : Nat) (s : State) (a : State) (d : Bytes),
      a = advance t s ∧
      u16 d 0 = code ∧
      u8 d 2 = scope ∧
      code ≠ 0xFFFF ∧
      entryOf a code scope ≠ none ∧
      clearModeOf a code scope ≠ 2 ∧
      (a.input code scope).asserted = true) ∧
    (∃ (t : Nat) (code : Nat) (scope : Nat) (s : State) (a : State) (d : Bytes),
      a = advance t s ∧
      u16 d 0 = code ∧
      u8 d 2 = scope ∧
      code ≠ 0xFFFF ∧
      entryOf a code scope ≠ none ∧
      clearModeOf a code scope ≠ 2 ∧
      (a.input code scope).asserted = false ∧
      (a.input code scope).latched = true ∧
      a.collector.s1UpSince = none) ∧
    (∃ (t : Nat) (s : State) (a : State), ∃ held,
      a = advance t s ∧
      held < safeInTicks a) ∧
    (∃ (t : Nat) (s : State) (a : State), ∃ held,
      a = advance t s ∧
      safeInTicks a ≤ held ∧
      a.phase ≠ .inReset) ∧
    (∃ (t : Nat) (s : State) (a : State), ∃ q,
      a = advance t s ∧
      a.collector.s1UpSince = some q ∧
      a.mode = .safe ∧
      q + sqGuardWait (secs a) * secTicks ≤ a.now) ∧
    (∃ (t : Nat) (s : State) (a : State), ∃ q,
      a = advance t s ∧
      a.collector.s1UpSince = some q ∧
      a.mode = .safe ∧
      a.now < q + sqGuardWait (secs a) * secTicks) :=
  ⟨⟨0, 0x0904, 0, faulty 9 0x13 1 {}, _, [(true, false), (true, false)], rfl, by decide +kernel⟩,
   ⟨0, faulty 9 0x13 1 {}, _, [(true, false), (false, false)], rfl, by decide +kernel⟩,
   ⟨0, faulty 9 0x13 1 (one904 { asserted := true, latched := true }), _, [(true, false), (false, true)], rfl, by decide +kernel⟩,
   ⟨0, 0x0904, 0, faulty 9 0x13 1 (one904 { asserted := true, latched := true }), _, [(false, true), (false, true)], rfl, by decide +kernel⟩,
   ⟨0, 0x0904, 0, faulty 9 0x13 1 {}, _, _, List.replicate 8 (true, true), rfl, by decide +kernel, by decide +kernel, rfl, by decide +kernel⟩,
   ⟨0, faulty 9 0x13 1 {}, _, List.replicate 7 (true, true), rfl, by decide +kernel⟩,
   ⟨0, 0x0904, 0, faulty 9 0x13 1 {}, _, true, [(false, true)], [(true, false)], rfl, by decide +kernel⟩,
   ⟨0, faulty 9 0x13 1 {}, _, 0, [4, 9, 0, 0x13, 3, 1, 5, 0], rfl, by decide +kernel⟩,
   ⟨0, faulty 9 0x13 1 {}, _, 0, [5, 9, 0, 0x13, 3, 1, 5, 0], rfl, by decide +kernel⟩,
   ⟨0, unconfirmed 9 .stopped, _, rfl, by decide +kernel⟩,
   ⟨0, unconfirmed 9 .running, _, rfl, by decide +kernel⟩,
   ⟨0, 0x0904, 0, faulty (5 * msTicks) 0x13 0 (one904 { latched := true }), _, _, rfl, rfl, by decide +kernel⟩,
   ⟨0, 0x0904, 0, faulty (5 * msTicks - 1) 0x13 0 (one904 { latched := true }), _, _, rfl, rfl, by decide +kernel⟩,
   ⟨0, faulty 9 0x13 1 {}, _, signed faultClearSpec (req [4, 9, 0, 0]) (advance 0 (faulty 9 0x13 1 {})), taken faultClearSpec (req [4, 9, 0, 0]) (advance 0 (faulty 9 0x13 1 {})), rfl, admits _ _ _ (by decide +kernel)⟩,
   ⟨0, 0x0905, 0, faulty 9 0x13 1 {}, _, [5, 9, 0, 0], rfl, by decide +kernel⟩,
   ⟨0, 0x0904, 0, faulty 9 0x13 2 {}, _, [4, 9, 0, 0], rfl, by decide +kernel⟩,
   ⟨0, 0x0904, 0, faulty 9 0x13 1 (one904 { asserted := true, latched := true }), _, [4, 9, 0, 0], rfl, by decide +kernel⟩,
   ⟨0, 0x0904, 0, faulty 9 0x13 1 (one904 { latched := true }), _, [4, 9, 0, 0], rfl, by decide +kernel⟩,
   ⟨0, faulty 9 0x13 1 {}, _, 6399, rfl, by decide +kernel⟩,
   ⟨0, faulty 9 0x13 1 {}, _, 6400, rfl, by decide +kernel⟩,
   ⟨0, guardWait (5 * secTicks), _, 0, rfl, by decide +kernel⟩,
   ⟨0, guardWait (5 * secTicks - 1), _, 0, rfl, by decide +kernel⟩⟩

/-- Recorded code 0x8901 with severity 5 and a flood mode (0 none, 1 RATE, 2 REPEAT). -/
def vitrineSec (flood : Nat) : Nat × Bytes :=
  (tyVitrine, put 64 [(0, 2, 1), (8, 2, 60), (10, 2, 4), (12, 2, 100), (14, 2, 64), (32, 2, 0x8901), (34, 1, 5), (35, 1, flood), (36, 2, 3)])

def recording (flood : Nat) (v : Vitrine) : State := { live .standby [vitrineSec flood] with vitrine := v }

def oneRecord : Staged := { code := 0x8901, severity := 5, payload := [1, 2], opSeconds := 0, powerCycles := 1, seq := none, stagedAt := 0 }

def logged (l : List Staged) : Vitrine :=
  { mount := .mounted, staged := l, sectors := [{ addr := 0x30000, sectorSeq := 1, firstSeq := 0, lastSeq := 0 },
      { addr := 0x31000, sectorSeq := 2, firstSeq := 1, lastSeq := 1 }] }

def flushing : State := { recording 0 (logged [oneRecord]) with benra := { (live .run []).benra with recorderKey := some (zeros 16) } }

def opening : State := { flushing with vitrine := { logged [oneRecord] with append := 4096, deviceBytes := 0x40000000 } }

def failingNow (s : State) : State := { s with pins := { pwrFail := true } }

/-- A started commit of the learned-value store. -/
def committing : State := { recording 0 (logged []) with pins := { pwrFail := true }, maq := { write := some { slot := 0, seq := 1, payload := [] } } }

def failing (q : Option Nat) : State :=
  { recording 0 (logged []) with pins := { pwrFail := true }, plinth := { lbNext := q } }

def clearingToken : State :=
  { live .standby tokenAuthority with vitrine := logged [] }

def clearingLog (cut : Bool) : State :=
  { recording 0 { logged [] with clear := some { addr := 0x32000, sectorSeq := 3, generation := 1, tokenId := 5, cut := cut } } with
    pins := { pwrFail := cut } }

theorem witness_RecordsAreStagedFlushedAndCleared :
    (∃ (t : Nat) (s : State) (a : State),
      a = advance t s ∧
      running a = true ∧
      a.vitrine.mount = .notYet ∧
      a.pins.pwrFail = false) ∧
    (∃ (t : Nat) (s : State) (a : State) (d : CsDevice),
      a = advance t s ∧
      running a = true ∧
      a.vitrine.mount = .notYet ∧
      a.pins.pwrFail = false ∧
      134217728 ≤ d.bytes ∧
      d.erase4k = true ∧
      d.suspend = true) ∧
    (∃ (t : Nat) (s : State) (a : State), ∃ code scope, ∃ (p : Bytes), ∃ sev flood n,
      a = advance t s ∧
      a.phase ≠ .inReset ∧
      recordClass a code scope = (sev, flood, n) ∧
      p.length ≤ 1020 ∧
      flood = 0 ∧
      vitrineSev.any (·.1 == code) = false ∧
      code ≠ 0x8F03 ∧
      code ≠ 0x8F04 ∧
      a.vitrine.dropUntold = 0 ∧
      stagedBytes a.vitrine.staged + (32 + 4 * ceilDiv p.length 4) ≤ stagingCap a) ∧
    (∃ (t : Nat) (s : State) (a : State), ∃ code scope, ∃ (p : Bytes), ∃ sev flood n l r,
      a = advance t s ∧
      a.phase ≠ .inReset ∧
      recordClass a code scope = (sev, flood, n) ∧
      p.length ≤ 1020 ∧
      flood = 2 ∧
      a.vitrine.dropUntold = 0 ∧
      code ≠ 0x8F03 ∧
      code ≠ 0x8F04 ∧
      a.vitrine.staged = l ++ [r] ∧
      r.code = code ∧
      r.payload = p ∧
      r.rep < 8191) ∧
    (∃ (t : Nat) (s : State) (a : State), ∃ code scope, ∃ (p : Bytes), ∃ sev flood n b,
      a = advance t s ∧
      a.phase ≠ .inReset ∧
      recordClass a code scope = (sev, flood, n) ∧
      p.length ≤ 1020 ∧
      flood = 1 ∧
      a.vitrine.dropUntold = 0 ∧
      code ≠ 0x8F03 ∧
      code ≠ 0x8F04 ∧
      Tab.find a.vitrine.buckets code = some b ∧
      b.tokens = 0) ∧
    (∃ (t : Nat) (s : State) (a : State), ∃ code b,
      a = advance t s ∧
      Tab.find a.vitrine.buckets code = some b ∧
      b.due ≤ a.now) ∧
    (∃ (t : Nat) (s : State) (a : State), ∃ code b,
      a = advance t s ∧
      Tab.find a.vitrine.buckets code = some b ∧
      a.now < b.due) ∧
    (∃ (t : Nat) (s : State) (a : State), ∃ key r rest cur,
      a = advance t s ∧
      a.vitrine.mount = .mounted ∧
      a.vitrine.staged = r :: rest ∧
      a.vitrine.clear = none ∧
      a.pins.pwrFail = false ∧
      a.benra.recorderKey = some key ∧
      a.vitrine.sectors.getLast? = some cur ∧
      logFull (recordBytes r) a = false ∧
      a.vitrine.fullWritten = false ∧
      fitsCurrent (recordBytes r) a = true ∧
      a.vitrine.dropUntold = 0) ∧
    (∃ (t : Nat) (s : State) (a : State), ∃ key r rest cur op,
      a = advance t s ∧
      a.vitrine.mount = .mounted ∧
      a.vitrine.staged = r :: rest ∧
      a.vitrine.clear = none ∧
      a.pins.pwrFail = false ∧
      a.benra.recorderKey = some key ∧
      a.vitrine.sectors.getLast? = some cur ∧
      openedBy r a = none ∧
      op ≠ 1) ∧
    (∃ (t : Nat) (s : State) (a : State), ∃ key r rest cur q,
      a = advance t s ∧
      a.vitrine.mount = .mounted ∧
      a.vitrine.staged = r :: rest ∧
      a.vitrine.clear = none ∧
      a.pins.pwrFail = false ∧
      a.benra.recorderKey = some key ∧
      a.vitrine.sectors.getLast? = some cur ∧
      openedBy r a = some q) ∧
    (∃ (t : Nat) (s : State) (a : State), ∃ r rest,
      a = advance t s ∧
      a.vitrine.mount = .mounted ∧
      a.pins.pwrFail = true ∧
      a.vitrine.clear = none ∧
      a.benra.recorderKey ≠ none ∧
      a.vitrine.staged = r :: rest) ∧
    (∃ (t : Nat) (s : State) (a : State), ∃ r rest,
      a = advance t s ∧
      a.vitrine.mount = .mounted ∧
      a.pins.pwrFail = true ∧
      a.vitrine.clear = none ∧
      a.benra.recorderKey ≠ none ∧
      a.vitrine.staged = r :: rest ∧
      openedBy r a = none) ∧
    (∃ (t : Nat) (s : State) (a : State), ∃ r rest q,
      a = advance t s ∧
      a.vitrine.mount = .mounted ∧
      a.pins.pwrFail = true ∧
      a.vitrine.clear = none ∧
      a.benra.recorderKey ≠ none ∧
      a.vitrine.staged = r :: rest ∧
      openedBy r a = some q) ∧
    (∃ (t : Nat) (s : State) (a : State), ∃ i,
      a = advance t s ∧
      a.vitrine.odoAt + viOdoPeriod (secs a) * 60 ≤ a.plinth.opSeconds ∧
      a.vitrine.mount = .mounted ∧
      a.pins.pwrFail = false ∧
      odoFree a.cs1 a.vitrine.odoSector 64 a.vitrine.odoNext = some i) ∧
    (∃ (t : Nat) (s : State) (a : State),
      a = advance t s ∧
      a.plinth.opSeconds < a.vitrine.odoAt + viOdoPeriod (secs a) * 60) ∧
    (∃ (t : Nat) (s : State) (a : State),
      a = advance t s ∧
      a.pins.pwrFail = true ∧
      commitRuns a = true) ∧
    (∃ (t : Nat) (s : State) (a : State), ∃ q,
      a = advance t s ∧
      a.pins.pwrFail = true ∧
      a.mode ≠ .dormant ∧
      commitRuns a = false ∧
      a.plinth.lbNext = some q) ∧
    (∃ (t : Nat) (s : State) (a : State),
      a = advance t s ∧
      a.pins.pwrFail = true ∧
      a.mode ≠ .dormant ∧
      commitRuns a = false ∧
      a.plinth.lbNext = none) ∧
    (∃ (t : Nat) (s : State) (a : State), ∃ rq u,
      a = advance t s ∧
      admitCmd { object := 0x0B10, role := some 7, lo := 32, hi := 32 } rq a = some u ∧
      u.benra.drbgHalted = false) ∧
    (∃ (t : Nat) (s : State) (a : State), ∃ rq u w x q,
      a = advance t s ∧
      admitCmd { object := 0x0B11, role := some 7, lo := 144, hi := 144 } rq a = some u ∧
      (u.mode = .standby ∨ u.mode = .service) ∧
      tokenOk 0 rq.data u = true ∧
      w = event 0x8D07 [u32 rq.data 16, 0] u ∧
      w.vitrine.clear = none ∧
      w.vitrine.mount = .mounted ∧
      w.pins.pwrFail = false ∧
      x = flushAll w ∧
      clearSector x = some q) ∧
    (∃ (t : Nat) (s : State) (a : State), ∃ rq u,
      a = advance t s ∧
      admitCmd { object := 0x0B11, role := some 7, lo := 144, hi := 144 } rq a = some u ∧
      (u.mode = .standby ∨ u.mode = .service) ∧
      tokenOk 0 rq.data u = false) ∧
    (∃ (t : Nat) (s : State) (a : State), ∃ c,
      a = advance t s ∧
      a.vitrine.clear = some c ∧
      c.cut = true) ∧
    (∃ (t : Nat) (s : State) (a : State), ∃ c,
      a = advance t s ∧
      a.vitrine.clear = some c ∧
      c.cut = false) :=
  ⟨⟨0, recording 0 {}, _, rfl, by decide +kernel⟩,
   ⟨0, recording 0 {}, _, { bytes := 134217728, erase4k := true, suspend := true, programUs := 700 }, rfl, by decide +kernel⟩,
   ⟨0, recording 0 {}, _, 0x8901, 0, [1, 2], 5, 0, 3, rfl, by decide +kernel⟩,
   ⟨0, recording 2 (logged [oneRecord]), _, 0x8901, 0, [1, 2], 5, 2, 3, [], oneRecord, rfl, by decide +kernel⟩,
   ⟨0, recording 1 { buckets := [(0x8901, { tokens := 0 })] }, _, 0x8901, 0, [1, 2], 5, 1, 3, { tokens := 0 }, rfl, by decide +kernel⟩,
   ⟨0, recording 1 { buckets := [(0x8901, { tokens := 0 })] }, _, 0x8901, { tokens := 0 }, rfl, by decide +kernel⟩,
   ⟨0, recording 1 { buckets := [(0x8901, { tokens := 0, due := 1 })] }, _, 0x8901, { tokens := 0, due := 1 }, rfl, by decide +kernel⟩,
   ⟨0, flushing, _, zeros 16, oneRecord, [], _, rfl, by decide +kernel, by decide +kernel, by decide +kernel, by decide +kernel, by decide +kernel, rfl, by decide +kernel⟩,
   ⟨0, flushing, _, zeros 16, oneRecord, [], _, 2, rfl, by decide +kernel, by decide +kernel, by decide +kernel, by decide +kernel, by decide +kernel, rfl, by decide +kernel⟩,
   ⟨0, opening, _, zeros 16, oneRecord, [], _, 0x32000, rfl, by decide +kernel, by decide +kernel, by decide +kernel, by decide +kernel, by decide +kernel, rfl, by decide +kernel⟩,
   ⟨0, failingNow flushing, _, oneRecord, [], rfl, by decide +kernel⟩,
   ⟨0, failingNow flushing, _, oneRecord, [], rfl, by decide +kernel⟩,
   ⟨0, failingNow opening, _, oneRecord, [], 0x32000, rfl, by decide +kernel⟩,
   ⟨0, { recording 0 (logged []) with plinth := { opSeconds := 3600 } }, _, 0, rfl, by decide +kernel⟩,
   ⟨0, { recording 0 (logged []) with plinth := { opSeconds := 3599 } }, _, rfl, by decide +kernel⟩,
   ⟨0, committing, _, rfl, by decide +kernel⟩,
   ⟨0, failing (some 0x10000), _, 0x10000, rfl, by decide +kernel⟩,
   ⟨0, failing none, _, rfl, by decide +kernel⟩,
   ⟨0, recording 0 {}, _, signed { object := 0x0B10, role := some 7, lo := 32, hi := 32 } (req (zeros 32)) (advance 0 (recording 0 {})), taken { object := 0x0B10, role := some 7, lo := 32, hi := 32 } (req (zeros 32)) (advance 0 (recording 0 {})), rfl, admits _ _ _ (by decide +kernel), by decide +kernel⟩,
   ⟨0, clearingToken, _, signed { object := 0x0B11, role := some 7, lo := 144, hi := 144 } (req (tokenFor 0)) (advance 0 clearingToken), taken { object := 0x0B11, role := some 7, lo := 144, hi := 144 } (req (tokenFor 0)) (advance 0 clearingToken), _, _, 0x30000, rfl, admits _ _ _ (by decide +kernel), Or.inl (by decide +kernel), by decide +kernel, rfl, by decide +kernel, by decide +kernel, rfl, rfl, by decide +kernel⟩,
   ⟨0, clearingToken, _, signed { object := 0x0B11, role := some 7, lo := 144, hi := 144 } (req (zeros 144)) (advance 0 clearingToken), taken { object := 0x0B11, role := some 7, lo := 144, hi := 144 } (req (zeros 144)) (advance 0 clearingToken), rfl, admits _ _ _ (by decide +kernel), Or.inl (by decide +kernel), by decide +kernel⟩,
   ⟨0, clearingLog true, _, _, rfl, rfl, by decide +kernel⟩,
   ⟨0, clearingLog false, _, _, rfl, rfl, by decide +kernel⟩⟩

/-- A HOST section: two-wire on with all causes, ATTN_WINDOW 100 ms, one telemetry entry every 5 ms, both controllers on with
status frames every 10 ms. -/
def hostSec : Nat × Bytes :=
  (tyHost, put 160 [(0, 1, 1), (6, 2, 100), (8, 4, 0xFFFFFFFF), (12, 1, 1), (32, 1, 1), (33, 1, 7), (60, 2, 10), (64, 1, 1), (65, 1, 7),
    (92, 2, 10), (104, 2, 5), (106, 2, 2)])

def hosting (now : Nat) (h : HostUnit) : State := { live .run [hostSec] with now := now, host := h }

/-- Causes are unread since 0, and no pulse has been. -/
def unread (now : Nat) : State := hosting now { causes := 1, ports := [(0, { hostSettings := true })] }

def plainRead : Request := { port := .tw, op := 1, tag := 3, object := 0x0101, inst := 0, offset := 0, length := 4 }

def canWith (now : Nat) (p : HPort) : State := hosting now { ports := [(1, p)] }

theorem witness_HostPortsCarryRequests :
    (∃ (t : Nat) (s : State) (a : State), ∃ port, ∃ (b : Bytes),
      a = advance t s ∧
      (rawDiscards port b a).1 = false) ∧
    (∃ (t : Nat) (s : State) (a : State), ∃ port, ∃ (b : Bytes), ∃ bad,
      a = advance t s ∧
      rawDiscards port b a = (true, bad) ∧
      portsMute a = false ∧
      portOn a port = true) ∧
    (∃ (t : Nat) (s : State) (a : State),
      a = advance t s ∧
      twOn a = true) ∧
    (∃ (t : Nat) (s : State) (a : State), ∃ x,
      a = advance t s ∧
      twOn a = true ∧
      x ≠ 0x58 + a.plinth.straps) ∧
    (∃ (t : Nat) (s : State) (a : State), ∃ low,
      a = advance t s ∧
      twOn a = true ∧
      low ≤ 25 * msTicks) ∧
    (∃ (t : Nat) (s : State) (a : State), ∃ low,
      a = advance t s ∧
      twOn a = true ∧
      low ≤ 35 * msTicks) ∧
    (∃ (t : Nat) (s : State) (a : State), ∃ low,
      a = advance t s ∧
      twOn a = true ∧
      25 * msTicks < low) ∧
    (∃ (t : Nat) (s : State) (a : State), ∃ low,
      a = advance t s ∧
      twOn a = true ∧
      35 * msTicks < low) ∧
    (∃ (t : Nat) (s : State) (a : State) (rq : Request),
      a = advance t s ∧
      rq.port = .tw ∧
      gate rq a = none) ∧
    (∃ (t : Nat) (s : State) (a : State), ∃ f,
      a = advance t s ∧
      (a.hport 0).final = some f) ∧
    (∃ (t : Nat) (s : State) (a : State), ∃ idle,
      a = advance t s ∧
      attentionOn a = true ∧
      pulseDue a = true ∧
      busIdleTicks ≤ idle) ∧
    (∃ (t : Nat) (s : State) (a : State), ∃ idle,
      a = advance t s ∧
      attentionOn a = true ∧
      (pulseDue a = false ∨ idle < busIdleTicks)) ∧
    (∃ (t : Nat) (s : State) (a : State),
      a = advance t s ∧
      a.host.pulsing = true ∧
      a.now ≤ a.host.lastPulse + pulseTicks) ∧
    (∃ (t : Nat) (s : State) (a : State),
      a = advance t s ∧
      isLive a = true ∧
      a.host.causes ≠ 0 ∧
      a.host.lastEscalation + hoAttnWindow (secs a) * msTicks ≤ a.now ∧
      a.host.escalated = false) ∧
    (∃ (t : Nat) (s : State) (a : State),
      a = advance t s ∧
      isLive a = true ∧
      a.host.causes ≠ 0 ∧
      a.now < a.host.lastEscalation + hoAttnWindow (secs a) * msTicks) ∧
    (∃ (t : Nat) (s : State) (a : State), ∃ port n, ∃ (b : Bytes), ∃ id,
      a = advance t s ∧
      n = portNo port ∧
      canOn a port = true ∧
      (a.hport n).assembly = none ∧
      requestBad b = false ∧
      id ≠ canId a (n - 1) 0) ∧
    (∃ (t : Nat) (s : State) (a : State), ∃ port n, ∃ (b : Bytes), ∃ k,
      a = advance t s ∧
      n = portNo port ∧
      canOn a port = true ∧
      (a.hport n).assembly = none ∧
      requestBad b = false ∧
      requestNeeds b = some k ∧
      k ≤ b.length) ∧
    (∃ (t : Nat) (s : State) (a : State), ∃ port n, ∃ (b : Bytes),
      a = advance t s ∧
      n = portNo port ∧
      canOn a port = true ∧
      (a.hport n).assembly = none ∧
      requestBad b = false ∧
      requestNeeds b = none) ∧
    (∃ (t : Nat) (s : State) (a : State), ∃ port n x,
      a = advance t s ∧
      n = portNo port ∧
      canOn a port = true ∧
      (a.hport n).assembly = some x ∧
      (a.hport n).asmTime + 50 * msTicks < a.now) ∧
    (∃ (t : Nat) (s : State) (a : State), ∃ port n x,
      a = advance t s ∧
      n = portNo port ∧
      canOn a port = true ∧
      (a.hport n).assembly = some x ∧
      a.now ≤ (a.hport n).asmTime + 50 * msTicks) ∧
    (∃ (t : Nat) (s : State) (a : State), ∃ port,
      a = advance t s ∧
      canOn a port = true) ∧
    (∃ (t : Nat) (s : State) (a : State), ∃ port n,
      a = advance t s ∧
      n = portNo port ∧
      (a.hport n).isBusOff = true) ∧
    (∃ (t : Nat) (s : State) (a : State), ∃ k c,
      a = advance t s ∧
      isLive a = true ∧
      k < hoTlmCount (secs a) ∧
      c = u8 (hoTlm (secs a) k) 0 ∧
      (a.hport (c + 1)).hostSettings = true ∧
      canEnabled a c = true ∧
      (a.hport (c + 1)).isBusOff = false ∧
      rackTime a % msTicks = 0 ∧
      rackTime a / msTicks % max 1 (u16 (hoTlm (secs a) k) 8) = u16 (hoTlm (secs a) k) 10) ∧
    (∃ (t : Nat) (s : State) (a : State), ∃ port n q,
      a = advance t s ∧
      n = portNo port ∧
      n ≠ 0 ∧
      isLive a = true ∧
      statusOn a (n - 1) = true ∧
      q = u16 (hoCan (secs a) (n - 1)) 28 ∧
      q ≠ 0 ∧
      (a.hport n).statusAt + q * msTicks ≤ a.now) ∧
    (∃ (t : Nat) (s : State) (a : State), ∃ port n q,
      a = advance t s ∧
      n = portNo port ∧
      n ≠ 0 ∧
      isLive a = true ∧
      statusOn a (n - 1) = true ∧
      q = u16 (hoCan (secs a) (n - 1)) 28 ∧
      q ≠ 0 ∧
      a.now < (a.hport n).statusAt + q * msTicks) ∧
    (∃ (t : Nat) (s : State) (a : State), ∃ port n,
      a = advance t s ∧
      n = portNo port ∧
      isLive a = true ∧
      (a.hport n).hostSettings = false ∧
      (a.hport n).serving = none) :=
  ⟨⟨0, hosting 9 {}, _, .tw, [1, 3, 1, 1, 0, 0, 0, 0, 0, 0, 4, 0], rfl, by decide +kernel⟩,
   ⟨0, hosting 9 {}, _, .tw, [1, 3, 1], false, rfl, by decide +kernel⟩,
   ⟨0, hosting 9 {}, _, rfl, by decide +kernel⟩,
   ⟨0, hosting 9 {}, _, 0, rfl, by decide +kernel⟩,
   ⟨0, hosting 9 {}, _, 25 * msTicks, rfl, by decide +kernel⟩,
   ⟨0, hosting 9 {}, _, 35 * msTicks, rfl, by decide +kernel⟩,
   ⟨0, hosting 9 {}, _, 25 * msTicks + 1, rfl, by decide +kernel⟩,
   ⟨0, hosting 9 {}, _, 35 * msTicks + 1, rfl, by decide +kernel⟩,
   ⟨0, hosting 9 {}, _, plainRead, rfl, by decide +kernel⟩,
   ⟨0, hosting 9 { ports := [(0, { final := some {} })] }, _, {}, rfl, by decide +kernel⟩,
   ⟨0, unread 30080, _, 30080, rfl, by decide +kernel⟩,
   ⟨0, unread 30079, _, 30080, rfl, by decide +kernel⟩,
   ⟨0, hosting 640000 { pulsing := true }, _, rfl, by decide +kernel⟩,
   ⟨0, unread (100 * msTicks), _, rfl, by decide +kernel⟩,
   ⟨0, unread (100 * msTicks - 1), _, rfl, by decide +kernel⟩,
   ⟨0, canWith 9 {}, _, .can0, _, [1, 0, 1], 5, rfl, rfl, by decide +kernel⟩,
   ⟨0, canWith 9 {}, _, .can0, _, [1, 0, 1, 1, 0, 0, 0, 0, 0, 0, 4, 0], 12, rfl, rfl, by decide +kernel⟩,
   ⟨0, canWith 9 {}, _, .can0, _, [1, 0, 1], rfl, rfl, by decide +kernel⟩,
   ⟨0, canWith (50 * msTicks + 1) { assembly := some [1] }, _, .can0, _, [1], rfl, rfl, by decide +kernel⟩,
   ⟨0, canWith (50 * msTicks) { assembly := some [1] }, _, .can0, _, [1], rfl, rfl, by decide +kernel⟩,
   ⟨0, canWith 9 {}, _, .can0, rfl, by decide +kernel⟩,
   ⟨0, canWith 9 { isBusOff := true }, _, .can0, _, rfl, rfl, by decide +kernel⟩,
   ⟨0, canWith (2 * msTicks) { hostSettings := true }, _, 0, _, rfl, by decide +kernel, by decide +kernel, rfl, by decide +kernel⟩,
   ⟨0, canWith (10 * msTicks) { hostSettings := true }, _, .can0, _, _, rfl, rfl, by decide +kernel, by decide +kernel, by decide +kernel, rfl, by decide +kernel⟩,
   ⟨0, canWith (10 * msTicks - 1) { hostSettings := true }, _, .can0, _, _, rfl, rfl, by decide +kernel, by decide +kernel, by decide +kernel, rfl, by decide +kernel⟩,
   ⟨0, canWith 9 {}, _, .can0, _, rfl, rfl, by decide +kernel⟩⟩

def access (op object offset length : Nat) (d : Bytes) : Request :=
  { port := .tw, op := op, tag := 3, object := object, inst := 0, offset := offset, length := length, data := d }

/-- A staged record of SEQUENCE 0, which the two-wire port's cursor names. -/
def withRecord : State :=
  { live .run [] with vitrine := { mount := .mounted, nextIndex := 1, staged := [
    { code := 0x8901, severity := 5, payload := [1], opSeconds := 0, powerCycles := 1, seq := some 0, stagedAt := 0 }] } }

theorem witness_DataObjectsAreServed :
    (∃ (t : Nat) (rq : Request) (s : State) (a : State), ∃ u r,
      a = advance t s ∧
      r = readOf 0x0F01 rq ∧
      admitData r a = some u ∧
      running u = true ∧
      rq.inst = 0 ∧
      rq.offset = 0 ∧
      4 ≤ rq.length ∧
      (rq.trailer.any (fun x => x.resv != 0) = false)) ∧
    (∃ (t : Nat) (rq : Request) (s : State) (a : State), ∃ u r,
      a = advance t s ∧
      r = writeOf 0x0B02 rq ∧
      admitData r a = some u ∧
      running u = true ∧
      rq.inst = 0 ∧
      (rq.trailer.any (fun x => x.resv != 0) = false) ∧
      rq.offset = 0 ∧
      rq.length = 4) ∧
    (∃ (t : Nat) (rq : Request) (s : State) (a : State), ∃ u r,
      a = advance t s ∧
      r = writeOf 0x0B02 rq ∧
      admitData r a = some u ∧
      running u = true ∧
      rq.inst = 0 ∧
      (rq.trailer.any (fun x => x.resv != 0) = false) ∧
      rq.offset + rq.length ≤ 4 ∧
      rq.length ≠ 4) ∧
    (∃ (t : Nat) (rq : Request) (s : State) (a : State), ∃ u r,
      a = advance t s ∧
      r = writeOf 0x0B02 rq ∧
      admitData r a = some u ∧
      running u = true ∧
      rq.inst = 0 ∧
      (rq.trailer.any (fun x => x.resv != 0) = false) ∧
      4 < rq.offset + rq.length) ∧
    (∃ (t : Nat) (rq : Request) (s : State) (a : State), ∃ u r p b,
      a = advance t s ∧
      r = readOf 0x0B03 rq ∧
      p = portNo rq.port ∧
      admitData r a = some u ∧
      running u = true ∧
      rq.inst = 0 ∧
      rq.offset = 0 ∧
      (rq.trailer.any (fun x => x.resv != 0) = false) ∧
      recordRead u (u.hport p).cursor = (stDone, b) ∧
      b ≠ []) ∧
    (∃ (t : Nat) (rq : Request) (s : State) (a : State), ∃ u,
      a = advance t s ∧
      admitData rq a = some u ∧
      rq.trailer = none ∧
      (rq.op = 1 ∨ rq.op = 4) ∧
      view u (portNo rq.port) rq.object rq.inst = .absent) ∧
    (∃ (t : Nat) (rq : Request) (s : State) (a : State), ∃ u,
      a = advance t s ∧
      admitData rq a = some u ∧
      rq.trailer = none ∧
      (rq.op = 1 ∨ rq.op = 4) ∧
      view u (portNo rq.port) rq.object rq.inst = .command) ∧
    (∃ (t : Nat) (rq : Request) (s : State) (a : State), ∃ u b,
      a = advance t s ∧
      admitData rq a = some u ∧
      rq.trailer = none ∧
      (rq.op = 1 ∨ rq.op = 4) ∧
      view u (portNo rq.port) rq.object rq.inst = .bytes b ∧
      objectServed u rq.object = true ∧
      rq.object ≠ 0x0F01 ∧
      rq.object ≠ 0x0B03 ∧
      rq.offset < b.length) ∧
    (∃ (t : Nat) (rq : Request) (s : State) (a : State), ∃ u b,
      a = advance t s ∧
      admitData rq a = some u ∧
      rq.trailer = none ∧
      (rq.op = 1 ∨ rq.op = 4) ∧
      view u (portNo rq.port) rq.object rq.inst = .bytes b ∧
      objectServed u rq.object = true ∧
      rq.object ≠ 0x0F01 ∧
      rq.object ≠ 0x0B03 ∧
      b.length ≤ rq.offset) ∧
    (∃ (t : Nat) (rq : Request) (s : State) (a : State) (c : CmdReq),
      a = advance t s ∧
      rq = { requestOf faultClearSpec c with op := rq.op } ∧
      malformed rq = false ∧
      (rq.op = 2 ∨ rq.op = 3)) :=
  ⟨⟨0, access 1 0 0 4 [], live .run [], _, _, _, rfl, rfl, admitsData _ _ (by decide +kernel), by decide +kernel⟩,
   ⟨0, access 2 0 0 4 [1, 0, 0, 0], live .run [], _, _, _, rfl, rfl, admitsData _ _ (by decide +kernel), by decide +kernel⟩,
   ⟨0, access 2 0 1 3 [0, 0, 0], live .run [], _, _, _, rfl, rfl, admitsData _ _ (by decide +kernel), by decide +kernel⟩,
   ⟨0, access 2 0 1 4 [0, 0, 0, 0], live .run [], _, _, _, rfl, rfl, admitsData _ _ (by decide +kernel), by decide +kernel⟩,
   ⟨0, access 1 0 0 4 [], withRecord, _, _, _, _, _, rfl, rfl, rfl, admitsData _ _ (by decide +kernel), by decide +kernel, by decide +kernel, by decide +kernel, by decide +kernel, rfl, by decide +kernel⟩,
   ⟨0, access 1 0xFFFF 0 4 [], live .run [], _, _, rfl, admitsData _ _ (by decide +kernel), by decide +kernel, Or.inl (by decide +kernel), rfl⟩,
   ⟨0, access 1 0x0C10 0 4 [], live .run [], _, _, rfl, admitsData _ _ (by decide +kernel), by decide +kernel, Or.inl (by decide +kernel), rfl⟩,
   ⟨0, access 1 0x0101 0 4 [], live .run [], _, _, _, rfl, admitsData _ _ (by decide +kernel), by decide +kernel, Or.inl (by decide +kernel), rfl, by decide +kernel⟩,
   ⟨0, access 1 0x0101 1000 4 [], live .run [], _, _, _, rfl, admitsData _ _ (by decide +kernel), by decide +kernel, Or.inl (by decide +kernel), rfl, by decide +kernel⟩,
   ⟨0, { requestOf faultClearSpec (req [4, 9, 0, 0]) with op := 2 }, live .run [], _, req [4, 9, 0, 0], rfl, rfl, by decide +kernel⟩⟩

def tableState (j : Option Inject) : State :=
  { live .service [] with benra := { (live .service []).benra with session := some { channel := 0, lastCmd := 0 } }, loops := { inject := j } }

/-- A signed write to the injection table. -/
def tableWrite (d : Bytes) (offset : Nat) (j : Option Inject) : Request :=
  signedData 0x0605 (access 3 0x0605 offset d.length d) (advance 0 (tableState j))

def playing : Inject := { ctx := 0, point := 0, wave := 2, amplitude := 1, freq := 0, length := 4 }

theorem witness_MailboxAndInjectionTable :
    (∃ (t : Nat) (s : State) (a : State), ∃ m k,
      a = advance t s ∧
      Hears .customer m a ∧
      Fresh m a ∧
      coVdmRelay (secs a) = true ∧
      k < 4 ∧
      Tab.find a.clasp.mailbox k = none ∧
      (∀ j, j < k → Tab.find a.clasp.mailbox j ≠ none)) ∧
    (∃ (t : Nat) (s : State) (a : State), ∃ rq u r,
      a = advance t s ∧
      r = writeOf 0x0E02 rq ∧
      admitData r a = some u ∧
      running u = true ∧
      rq.inst < 4 ∧
      (rq.trailer.any (fun x => x.resv != 0) = false) ∧
      rq.offset = 0 ∧
      rq.data = [0] ∧
      rq.length = 1) ∧
    (∃ (t : Nat) (s : State) (a : State), ∃ rq u r,
      a = advance t s ∧
      r = writeOf 0x0E02 rq ∧
      admitData r a = some u ∧
      running u = true ∧
      rq.inst < 4 ∧
      (rq.trailer.any (fun x => x.resv != 0) = false) ∧
      rq.offset + rq.length ≤ 248 ∧
      (rq.offset ≠ 0 ∨ rq.data ≠ [0])) ∧
    (∃ (t : Nat) (s : State) (a : State) (u : State), ∃ k,
      a = advance t s ∧
      k < 4 ∧
      Tab.find u.clasp.mailbox k = none) ∧
    (∃ (t : Nat) (s : State) (a : State), ∃ j,
      a = advance t s ∧
      j < 65536) ∧
    (∃ (t : Nat) (s : State) (a : State), ∃ rq u r,
      a = advance t s ∧
      r = writeOf 0x0605 rq ∧
      admitData r a = some u ∧
      u.mode = .service ∧
      rq.inst = 0 ∧
      rq.trailer ≠ none ∧
      (rq.trailer.any (fun x => x.resv != 0) = false) ∧
      running u = true ∧
      rq.offset + rq.length ≤ 262144 ∧
      (rq.offset % 4 ≠ 0 ∨ rq.length % 4 ≠ 0)) ∧
    (∃ (t : Nat) (s : State) (a : State), ∃ rq u r,
      a = advance t s ∧
      r = writeOf 0x0605 rq ∧
      admitData r a = some u ∧
      u.mode = .service ∧
      rq.inst = 0 ∧
      rq.trailer ≠ none ∧
      (rq.trailer.any (fun x => x.resv != 0) = false) ∧
      running u = true ∧
      rq.offset + rq.length ≤ 262144 ∧
      rq.offset % 4 = 0 ∧
      rq.length % 4 = 0 ∧
      (∃ k, k < rq.length / 4 ∧ u8 rq.data (4 * k + 3) ≠ 0)) ∧
    (∃ (t : Nat) (s : State) (a : State), ∃ rq u r j,
      a = advance t s ∧
      r = writeOf 0x0605 rq ∧
      admitData r a = some u ∧
      u.mode = .service ∧
      rq.inst = 0 ∧
      rq.trailer ≠ none ∧
      (rq.trailer.any (fun x => x.resv != 0) = false) ∧
      running u = true ∧
      rq.offset + rq.length ≤ 262144 ∧
      rq.offset % 4 = 0 ∧
      rq.length % 4 = 0 ∧
      (∀ k, k < rq.length / 4 → u8 rq.data (4 * k + 3) = 0) ∧
      u.loops.inject = some j ∧
      2 ≤ j.wave) ∧
    (∃ (t : Nat) (s : State) (a : State), ∃ rq u r,
      a = advance t s ∧
      r = writeOf 0x0605 rq ∧
      admitData r a = some u ∧
      u.mode = .service ∧
      rq.inst = 0 ∧
      rq.trailer ≠ none ∧
      (rq.trailer.any (fun x => x.resv != 0) = false) ∧
      running u = true ∧
      rq.offset + rq.length ≤ 262144 ∧
      rq.offset % 4 = 0 ∧
      rq.length % 4 = 0 ∧
      (∀ k, k < rq.length / 4 → u8 rq.data (4 * k + 3) = 0) ∧
      (u.loops.inject.all (fun j => decide (j.wave < 2)) = true)) :=
  ⟨⟨0, readyFor 0x20, _, pilot 0x20 2 (zeros 4), 0, rfl, by unfold Hears; decide +kernel, by unfold Fresh; decide +kernel, by decide +kernel⟩,
   ⟨0, live .run [], _, access 2 0 0 1 [0], _, _, rfl, rfl, admitsData _ _ (by decide +kernel), by decide +kernel⟩,
   ⟨0, live .run [], _, access 2 0 1 1 [0], _, _, rfl, rfl, admitsData _ _ (by decide +kernel), by decide +kernel⟩,
   ⟨0, live .run [], _, live .run [], 0, rfl, by decide +kernel⟩,
   ⟨0, live .run [], _, 5, rfl, by decide +kernel⟩,
   ⟨0, tableState none, _, tableWrite [1, 0, 0, 0] 2 none, _, _, rfl, rfl, admitsSigned 0x0605 _ _ (by decide +kernel), by decide +kernel⟩,
   ⟨0, tableState none, _, tableWrite [1, 0, 0, 1] 0 none, _, _, rfl, rfl, admitsSigned 0x0605 _ _ (by decide +kernel), by decide +kernel, by decide +kernel, by decide +kernel, by decide +kernel, by decide +kernel, by decide +kernel, by decide +kernel, by decide +kernel, ⟨0, by decide +kernel, by decide +kernel⟩⟩,
   ⟨0, tableState (some playing), _, tableWrite [1, 0, 0, 0] 0 (some playing), _, _, playing, rfl, rfl, admitsSigned 0x0605 _ _ (by decide +kernel), by decide +kernel⟩,
   ⟨0, tableState none, _, tableWrite [1, 0, 0, 0] 0 none, _, _, rfl, rfl, admitsSigned 0x0605 _ _ (by decide +kernel), by decide +kernel⟩⟩

def testing : State := { live .run [] with mode := .test }

theorem witness_TapDecodesInstructions :
    (∃ (t : Nat) (op : Nat) (entry : Bool) (s : State) (a : State),
      a = advance t s ∧
      (entry = true ↔ (a.mode = .boot ∧ bootHeld a = true) ∨ (a.mode = .standby ∧ kaMask a = 0)) ∧
      a.mode ≠ .test ∧
      op = 0x01) ∧
    (∃ (t : Nat) (op : Nat) (entry : Bool) (s : State) (a : State),
      a = advance t s ∧
      (entry = true ↔ (a.mode = .boot ∧ bootHeld a = true) ∨ (a.mode = .standby ∧ kaMask a = 0)) ∧
      a.mode ≠ .test ∧
      op = 0x02) ∧
    (∃ (t : Nat) (op : Nat) (en : Bool) (entry : Bool) (s : State) (a : State),
      a = advance t s ∧
      (entry = true ↔ (a.mode = .boot ∧ bootHeld a = true) ∨ (a.mode = .standby ∧ kaMask a = 0)) ∧
      a.mode ≠ .test ∧
      (op = 0x03 ∨ op = 0x04 ∨ op = 0x05 ∨ op = 0x06 ∨ op = 0x07 ∨ op = 0x50) ∧
      en = true ∧
      entry = true) ∧
    (∃ (t : Nat) (op : Nat) (en : Bool) (entry : Bool) (s : State) (a : State),
      a = advance t s ∧
      (entry = true ↔ (a.mode = .boot ∧ bootHeld a = true) ∨ (a.mode = .standby ∧ kaMask a = 0)) ∧
      a.mode ≠ .test ∧
      (op = 0x03 ∨ op = 0x04 ∨ op = 0x05 ∨ op = 0x06 ∨ op = 0x07 ∨ op = 0x50) ∧
      (en = false ∨ entry = false)) ∧
    (∃ (t : Nat) (op : Nat) (entry : Bool) (s : State) (a : State),
      a = advance t s ∧
      (entry = true ↔ (a.mode = .boot ∧ bootHeld a = true) ∨ (a.mode = .standby ∧ kaMask a = 0)) ∧
      a.mode ≠ .test ∧
      op = 0x40) ∧
    (∃ (t : Nat) (op : Nat) (entry : Bool) (s : State) (a : State),
      a = advance t s ∧
      (entry = true ↔ (a.mode = .boot ∧ bootHeld a = true) ∨ (a.mode = .standby ∧ kaMask a = 0)) ∧
      a.mode ≠ .test ∧
      op ∉ [0x01, 0x02, 0x03, 0x04, 0x05, 0x06, 0x07, 0x40, 0x50]) ∧
    (∃ (t : Nat) (entry : Bool) (s : State) (a : State),
      a = advance t s ∧
      (entry = true ↔ (a.mode = .boot ∧ bootHeld a = true) ∨ (a.mode = .standby ∧ kaMask a = 0)) ∧
      a.mode ≠ .test) ∧
    (∃ (t : Nat) (entry : Bool) (s : State) (a : State), ∃ low,
      a = advance t s ∧
      (entry = true ↔ (a.mode = .boot ∧ bootHeld a = true) ∨ (a.mode = .standby ∧ kaMask a = 0)) ∧
      a.mode ≠ .test ∧
      low < usTicks) ∧
    (∃ (t : Nat) (entry : Bool) (s : State) (a : State), ∃ low,
      a = advance t s ∧
      (entry = true ↔ (a.mode = .boot ∧ bootHeld a = true) ∨ (a.mode = .standby ∧ kaMask a = 0)) ∧
      a.mode ≠ .test ∧
      usTicks ≤ low) ∧
    (∃ (t : Nat) (entry : Bool) (s : State) (a : State),
      a = advance t s ∧
      (entry = true ↔ (a.mode = .boot ∧ bootHeld a = true) ∨ (a.mode = .standby ∧ kaMask a = 0)) ∧
      a.mode = .test) ∧
    (∃ (t : Nat) (entry : Bool) (s : State) (a : State), ∃ low,
      a = advance t s ∧
      (entry = true ↔ (a.mode = .boot ∧ bootHeld a = true) ∨ (a.mode = .standby ∧ kaMask a = 0)) ∧
      a.mode = .test ∧
      low < usTicks) ∧
    (∃ (t : Nat) (entry : Bool) (s : State) (a : State), ∃ low,
      a = advance t s ∧
      (entry = true ↔ (a.mode = .boot ∧ bootHeld a = true) ∨ (a.mode = .standby ∧ kaMask a = 0)) ∧
      a.mode = .test ∧
      usTicks ≤ low) ∧
    (∃ (t : Nat) (op : Nat) (entry : Bool) (s : State) (a : State),
      a = advance t s ∧
      (entry = true ↔ (a.mode = .boot ∧ bootHeld a = true) ∨ (a.mode = .standby ∧ kaMask a = 0)) ∧
      a.mode = .test ∧
      (op = 0xFF ∨ op = 0x01 ∨ op = 0x02)) :=
  ⟨⟨0, 0x01, false, live .run [], _, rfl, by decide +kernel⟩,
   ⟨0, 0x02, false, live .run [], _, rfl, by decide +kernel⟩,
   ⟨0, 0x50, true, true, live .standby [], _, rfl, by decide +kernel⟩,
   ⟨0, 3, true, false, live .run [], _, rfl, by decide +kernel, by decide +kernel, by decide +kernel, Or.inr rfl⟩,
   ⟨0, 0x40, false, live .run [], _, rfl, by decide +kernel⟩,
   ⟨0, 0x41, false, live .run [], _, rfl, by decide +kernel⟩,
   ⟨0, false, live .run [], _, rfl, by decide +kernel⟩,
   ⟨0, false, live .run [], _, usTicks - 1, rfl, by decide +kernel⟩,
   ⟨0, false, live .run [], _, usTicks, rfl, by decide +kernel⟩,
   ⟨0, false, testing, _, rfl, by decide +kernel⟩,
   ⟨0, false, testing, _, usTicks - 1, rfl, by decide +kernel⟩,
   ⟨0, false, testing, _, usTicks, rfl, by decide +kernel⟩,
   ⟨0, 0xFF, false, testing, _, rfl, by decide +kernel⟩⟩


end Sys2Proof.Tests
end

section
/-! SUPPORT. What every step keeps of the flash devices (O3). -/

namespace Sys2Proof.ImageProofs

open Sys2Proof Sys2Proof.Machine

/-- What follows a state within one command keeps both flash devices in canonical form. -/
theorem onward_flashesWf {s t : State} (h : Onward s t) (hw : s.flashesWf = true) : t.flashesWf = true := by
  unfold State.flashesWf at *
  rw [Bool.and_eq_true] at *
  exact ⟨h.cs0 hw.1, h.cs1 hw.2⟩

@[simp] theorem advance_flashesWf (t : Nat) (s : State) : (advance t s).flashesWf = s.flashesWf := by
  simp only [State.flashesWf, advance_rest]

/-- A step idles on an empty queue, or runs the front command, whose next state may follow the state at its time. -/
theorem step_onward {s t : State} (h : step s = .next t) :
    t = s ∨ ∃ c rest, s.pending = c :: rest ∧ Onward (advance c.time { s with pending := rest }) t := by
  unfold step at h
  split at h
  case h_1 => exact .inl (by injection h with h; exact h.symm)
  case h_2 c rest hp =>
    obtain ⟨u, hu, ho⟩ := exec_onward c { s with pending := rest }
    rw [hu] at h
    injection h with h
    exact .inr ⟨c, rest, hp, h ▸ ho⟩

/-- Settles O3: a step idles or moves on from a state with the same flashes, and moving on keeps the form. -/
theorem everyStepKeepsFlashCanonical : Obligations.EveryStepKeepsFlashCanonical := by
  intro s t hw hs
  rcases step_onward hs with rfl | ⟨c, rest, -, ho⟩
  · exact hw
  · exact onward_flashesWf ho ((advance_flashesWf c.time { s with pending := rest }).trans hw)

end Sys2Proof.ImageProofs
end

section
/-! SUPPORT. The staging of an image (R46 to R51, R475): what each staging command answers and does (O15, O16, O17). -/

namespace Sys2Proof.ImageProofs

open Sys2Proof Sys2Proof.Machine

theorem stageOpen_accepted {d : Bytes} {u : State} (h16 : u32 d 0 % 16 = 0) (hlo : 16 ≤ u32 d 0)
    (hhi : u32 d 0 ≤ maxImage) (he : u.loader.erasing = false) (hs : u.loader.session = none)
    (hv : u.loader.verifying = false) :
    stageOpen d u = (stAccepted, [], { u with
      cs0 := flashErase u.cs0 (commitBase (inactiveSlot u)) 4096
      loader := { u.loader with
        verified := false, tainted := true, erasing := true, eraseLength := u32 d 0
        session := some { declared := u32 d 0, written := [], lastCmd := u.now } } }) := by
  unfold stageOpen
  dsimp only
  rw [if_neg (by omega), if_neg (by simp [he, hs, hv]), if_neg (by omega)]
  rfl

/-- Settles O15: an admitted OPEN by the answer of its body, the erase's end and the time limit by their conditions. -/
theorem stagingOpens : Obligations.StagingOpens := by
  intro t s a ha
  subst ha
  refine ⟨?opens, ?erased, ?expires, ?stays⟩
  case opens =>
    intro rq u n hadm hn h16 hlo hhi he hs hv
    subst hn
    exact ⟨_, rfl, admitted_accepts hadm (stageOpen_accepted h16 hlo hhi he hs hv)⟩
  case erased =>
    intro he
    show execStageEraseComplete t s = _
    unfold execStageEraseComplete
    dsimp only
    rw [if_pos he]
  case expires =>
    intro x hx hover
    show execStageSessionTimeout t s = _
    unfold execStageSessionTimeout
    simp only [hx]
    rw [if_pos hover]
  case stays =>
    intro x hx hwithin
    show execStageSessionTimeout t s = _
    unfold execStageSessionTimeout
    simp only [hx]
    rw [if_neg (by omega)]

/-- The idle limit starts again for the session that is open. -/
theorem stageTouch_open {u : State} {x : StageSession} (hx : u.loader.session = some x) :
    stageTouch u = { u with loader := { u.loader with session := some { x with lastCmd := u.now } } } := by
  simp [stageTouch, hx]

section
variable {d : Bytes} {u : State} {x : StageSession} {off : Nat} {b : Bytes} {units : List Nat}
  (hx : u.loader.session = some x) (he : u.loader.erasing = false) (hoff : off = u32 d 0) (hb : b = d.drop 4)
  (ho16 : off % 16 = 0) (hb16 : b.length % 16 = 0) (hin : off + b.length ≤ x.declared)
  (hunits : units = (List.range (b.length / 16)).map (off / 16 + ·))
include hx he hoff hb ho16 hb16 hin hunits

/-- Fresh units within the declared length are programmed, and the verification is spent. -/
theorem stageWrite_done (hfresh : units.any x.written.contains = false) :
    stageWrite d u = (stDone, [], { u with
      cs0 := flashProgram u.cs0 (slotBase (inactiveSlot u) + off) b
      loader := { u.loader with
        verified := false, tainted := true
        session := some { x with written := units ++ x.written, lastCmd := u.now } } }) := by
  subst hoff hb hunits
  unfold stageWrite
  dsimp only
  rw [if_neg (by omega), if_neg (by simp [he]), hx]
  dsimp only
  rw [if_neg (by omega), if_neg (by simp only [hfresh, Bool.false_eq_true, not_false_eq_true])]
  rfl

/-- Units already written are refused; the session's idle limit starts again. -/
theorem stageWrite_denied (hold : units.any x.written.contains = true) :
    stageWrite d u = (stDenied, [], { u with
      loader := { u.loader with session := some { x with lastCmd := u.now } } }) := by
  subst hoff hb hunits
  unfold stageWrite
  dsimp only
  rw [if_neg (by omega), if_neg (by simp [he]), hx]
  dsimp only
  rw [if_neg (by omega), if_pos hold, stageTouch_open hx]
  rfl
end

theorem stageVerify_accepted {u : State} (d : Bytes) (he : u.loader.erasing = false) :
    stageVerify d u = (stAccepted, [], { u with
      loader := { u.loader with
        session := u.loader.session.map (fun x => { x with lastCmd := u.now }), verifying := true, tainted := false } }) := by
  unfold stageVerify
  rw [if_neg (by simp [he])]
  rfl

/-- Settles O16: a WRITE by whether its units are fresh, a verification's end by its verdict. -/
theorem stagingWritesAndVerifies : Obligations.StagingWritesAndVerifies := by
  intro t s a ha
  subst ha
  refine ⟨?writes, ?verifies, ?ends⟩
  case writes =>
    intro rq u x off b units hadm hx he hoff hb ho16 hb16 hin hunits
    exact ⟨fun hfresh => ⟨_, rfl, admitted_answers hadm
        (stageWrite_done hx he hoff hb ho16 hb16 hin hunits hfresh) (by decide)⟩,
      fun hold => ⟨_, rfl, admitted_answers hadm
        (stageWrite_denied hx he hoff hb ho16 hb16 hin hunits hold) (by decide)⟩⟩
  case verifies =>
    intro rq u hadm he
    exact ⟨_, rfl, admitted_accepts hadm (stageVerify_accepted rq.data he)⟩
  case ends =>
    intro readOk hv
    rw [show exec (.stageVerifyComplete t readOk) s = execStageVerifyComplete t readOk s from rfl]
    unfold execStageVerifyComplete
    dsimp only
    rw [if_neg (by rw [hv]; decide)]
    cases verifyStaged (advance t s) readOk with
    | passes i => rfl
    | fails reason bad trust => rfl

section
variable {u : State} (d : Bytes) (he : u.loader.erasing = false)
include he

/-- An unspent verification, a SEQUENCE left, power, and a blank commit sector: the record is programmed. -/
theorem stageCommit_done {slot seq base : Nat} {head : Bytes} (hslot : slot = inactiveSlot u) (hbase : base = commitBase slot)
    (hseq : seq = max (commitSeq u.cs0 0) (commitSeq u.cs0 1) + 1) (hhead : head = flashRead u.cs0 (slotBase slot) 64)
    (hv : u.loader.verified = true) (hmax : seq ≤ 0xFFFFFFFE) (hp : u.pins.pwrFail = false)
    (hblank : flashBlank u.cs0 base 4096 = true) :
    stageCommit d u = (stDone, [], stageRecord 0x8D13 0 (pay [slot, seq] ++ slice head 8 8 ++ pay [u16 head 16]) { u with
      cs0 := flashProgram u.cs0 base (commitBytes seq (stageLength u))
      loader := { u.loader with session := none, pendingSlot := some slot, verified := false, tainted := true } }) := by
  subst hslot hbase hseq hhead
  unfold stageCommit
  dsimp only
  rw [if_neg (by simp [he]), if_neg (by simp [hv]), if_neg (by omega), if_neg (by simp [hp]), if_pos hblank]
  rfl

theorem stageCommit_denied (hv : u.loader.verified = false) :
    stageCommit d u = (stDenied, [], stageTouch u) := by
  unfold stageCommit
  dsimp only
  rw [if_neg (by simp [he]), if_pos (by simp [hv])]
  rfl

theorem stageAbort_done : stageAbort d u = (stDone, [], { u with
    loader := { u.loader with session := none, verified := false, tainted := true } }) := by
  unfold stageAbort
  rw [if_neg (by simp [he])]
  rfl
end

/-- Settles O17: a COMMIT by whether an unspent verification stands, an ABORT by its body. -/
theorem stagingCommits : Obligations.StagingCommits := by
  intro t rq s u
  refine ⟨?commits, ?aborts⟩
  case commits =>
    intro slot seq base head hadm he hslot hbase hseq hhead
    exact ⟨fun hv hmax hp hblank => ⟨_, rfl, admitted_answers hadm
        (stageCommit_done rq.data he hslot hbase hseq hhead hv hmax hp hblank) (by decide)⟩,
      fun hv => ⟨_, rfl, admitted_answers hadm (stageCommit_denied rq.data he hv) (by decide)⟩⟩
  case aborts =>
    intro hadm he
    exact ⟨_, rfl, admitted_answers hadm (stageAbort_done rq.data he) (by decide)⟩

end Sys2Proof.ImageProofs
end

section
/-! SUPPORT. Rollback steps and fuse bits (R43, R397, R398, R404): the status of a rollback command, what it starts, and the end of a bit (O19). -/

namespace Sys2Proof.ImageProofs

open Sys2Proof Sys2Proof.Machine

/-! ### The rollback commands (R43, R404) -/

theorem rollbackStatus_wrongMode {u : State} (w : Option Nat) (n : Nat) (hs : u.mode ≠ .standby) (hv : u.mode ≠ .service) :
    rollbackStatus u w n = stWrongMode := by
  unfold rollbackStatus
  rw [if_pos (by simp [hs, hv])]

section
variable {u : State} (hm : u.mode = .standby ∨ u.mode = .service)
include hm

theorem fuseMode_allowed : ¬ (!(u.mode == .standby || u.mode == .service)) = true := by
  rcases hm with h | h <;> simp [h]

theorem rollbackStatus_denied (w : Option Nat) (n : Nat) (hv : vppIn u.pins.vppFuse = false) :
    rollbackStatus u w n = stDenied := by
  unfold rollbackStatus
  rw [if_neg (fuseMode_allowed hm), if_pos (by simp [hv])]

variable (hv : vppIn u.pins.vppFuse = true)
include hv

theorem rollbackStatus_none (n : Nat) : rollbackStatus u none n = stRange := by
  unfold rollbackStatus
  rw [if_neg (fuseMode_allowed hm), if_neg (by simp [hv])]

theorem rollbackStatus_some (k n : Nat) : rollbackStatus u (some k) n =
    if k ≤ n then stRange else if u.benra.fuseOp.isSome then stBusy else stAccepted := by
  unfold rollbackStatus
  rw [if_neg (fuseMode_allowed hm), if_neg (by simp [hv])]

theorem rollbackStatus_range {k n : Nat} (h : k ≤ n) : rollbackStatus u (some k) n = stRange := by
  rw [rollbackStatus_some hm hv, if_pos h]

theorem rollbackStatus_busy {k n : Nat} (h : n < k) (ho : u.benra.fuseOp.isSome = true) :
    rollbackStatus u (some k) n = stBusy := by
  rw [rollbackStatus_some hm hv, if_neg (by omega), if_pos ho]

theorem rollbackStatus_accepted {k n : Nat} (h : n < k) (ho : u.benra.fuseOp = none) :
    rollbackStatus u (some k) n = stAccepted := by
  rw [rollbackStatus_some hm hv, if_neg (by omega), if_neg (by simp [ho])]

end

/-- An admitted command that starts its act once it is ACCEPTED, refused: it is answered, and nothing starts. -/
theorem runThen_refused {c : CmdSpec} {rq : CmdReq} {s u : State} {status : State → Nat} {start : State → State} {st : Nat}
    (h : admitCmd c rq s = some u) (hst : status u = st) (hl : st ≠ stLater) (ha : st ≠ stAccepted) :
    Answers rq st [] u
      (runThen c rq (fun _ v => say (status v) v) (fun st v => if st = stAccepted then start v else v) s) := by
  rw [runThen_admit _ _ h]
  simp only [say, hst]
  rw [if_neg ha]
  exact settle_answers _ c rq (st, [], u) hl

/-- An admitted command that starts its act once it is ACCEPTED. -/
theorem runThen_accepted {c : CmdSpec} {rq : CmdReq} {s u : State} {status : State → Nat} {start : State → State}
    (h : admitCmd c rq s = some u) (hst : status u = stAccepted) :
    ∃ w, Accepts c.object rq u w ∧
      runThen c rq (fun _ v => say (status v) v) (fun st v => if st = stAccepted then start v else v) s = start w := by
  refine ⟨_, settle_accepts u.benra.cmdKeys c rq u, ?_⟩
  rw [runThen_admit _ _ h]
  simp only [say, hst]
  rw [if_pos trivial]

/-- A fuse operation that starts where a bit may be blown, after an answer that touched the host ports alone. -/
theorem fuseStart_bits {u w : State} {purpose : FuseFor} {steps : List Nat} {b : Nat} {bits : List Nat}
    (hw : OnlyHost u w) (hm : u.mode = .standby ∨ u.mode = .service)
    (hb : owedBits u ++ steps.filter (fun b => !fuse u b) = b :: bits) :
    fuseStart purpose steps w = { w with benra := { u.benra with
      fuseOp := some { purpose := purpose, bits := b :: bits, held := u.pins.pwrFail } } } := by
  obtain ⟨host, rfl⟩ : ∃ host, w = { u with host := host } := ⟨w.host, hw⟩
  have hbits : owedBits { u with host := host } ++ steps.filter (fun b => !fuse { u with host := host } b) = b :: bits := hb
  have hheld : (!fuseMayStart { u with host := host }) = u.pins.pwrFail := by
    rcases hm with hm | hm <;> simp [fuseMayStart, hm]
  unfold fuseStart
  simp only [hbits, hheld]

/-! ### A fuse bit (R398) -/

section
variable {v : Bool} {s : State} {o : FuseOp} {b : Nat} {rest : List Nat}

theorem fuseBit_idle (h : s.benra.fuseOp = none) : fuseBit v s = s := by
  unfold fuseBit
  rw [h]

variable (hop : s.benra.fuseOp = some o) (hbits : o.bits = b :: rest)
include hop hbits

theorem fuseBit_waits (hh : o.held = true) (hm : fuseMayStart s = false) : fuseBit v s = s := by
  unfold fuseBit
  simp only [hop, hbits]
  rw [if_pos (by simp [hh, hm])]

variable (hgo : o.held = false ∨ fuseMayStart s = true)
include hgo

omit hop hbits in
/-- A bit that is not held, or may start, does not wait. -/
theorem fuseBit_goes : ¬ (o.held && !fuseMayStart s) = true := by
  rcases hgo with h | h <;> simp [h]

theorem fuseBit_last (hrest : rest = []) :
    fuseBit true s = fuseDone o { s with benra := { s.benra with fuses := s.benra.fuses ||| (1 <<< b) } } := by
  unfold fuseBit
  simp only [hop, hbits, hrest]
  rw [if_neg (fuseBit_goes hgo), if_pos trivial]

theorem fuseBit_verified {n : Nat} {more : List Nat} (hrest : rest = n :: more) (hv : vppIn s.pins.vppFuse = true) :
    fuseBit true s = { s with benra := { s.benra with
      fuses := s.benra.fuses ||| (1 <<< b)
      fuseOp := some { o with bits := rest, retried := false, held := !fuseMayStart s } } } := by
  unfold fuseBit
  simp only [hop, hbits, hrest]
  rw [if_neg (fuseBit_goes hgo), if_pos trivial, if_pos hv]

theorem fuseBit_unpowered {n : Nat} {more : List Nat} (hrest : rest = n :: more) (hv : vppIn s.pins.vppFuse = false) :
    fuseBit true s = fuseStop o n { s with benra := { s.benra with fuses := s.benra.fuses ||| (1 <<< b) } } := by
  unfold fuseBit
  simp only [hop, hbits, hrest]
  rw [if_neg (fuseBit_goes hgo), if_pos trivial, if_neg (by simp [hv])]

theorem fuseBit_retries (hr : o.retried = false) :
    fuseBit false s = { s with benra := { s.benra with
      fuseOp := some { o with retried := true, held := !fuseMayStart s } } } := by
  unfold fuseBit
  simp only [hop, hbits]
  rw [if_neg (fuseBit_goes hgo), if_neg (by decide), if_neg (by simp [hr])]

theorem fuseBit_stops (hr : o.retried = true) : fuseBit false s = fuseStop o b s := by
  unfold fuseBit
  simp only [hop, hbits]
  rw [if_neg (fuseBit_goes hgo), if_neg (by decide), if_pos hr]

end

/-- IMAGE_ROLLBACK_ADVANCE accepted: the steps up to the running image's index start to blow. -/
theorem rollbackStart_bits {u w : State} {i : Image} {b : Nat} {bits : List Nat}
    (hw : OnlyHost u w) (hm : u.mode = .standby ∨ u.mode = .service) (hlive : u.loader.live = some i)
    (hb : owedBits u ++ (stepBits 2304 (rollbackCount u) i.rollbackIndex).filter (fun b => !fuse u b) = b :: bits) :
    rollbackStart w = { w with benra := { u.benra with
      fuseOp := some { purpose := .rollback, bits := b :: bits, held := u.pins.pwrFail } } } := by
  rw [← fuseStart_bits hw hm hb]
  obtain ⟨host, rfl⟩ : ∃ host, w = { u with host := host } := ⟨w.host, hw⟩
  unfold rollbackStart
  simp only [hlive]
  rfl

/-- PATCH_ROLLBACK_ADVANCE accepted: the steps up to the live patch's index start to blow. -/
theorem patchRollbackStart_bits {u w : State} {k : Nat × Nat} {b : Nat} {bits : List Nat}
    (hw : OnlyHost u w) (hm : u.mode = .standby ∨ u.mode = .service) (hpatch : u.benra.patch = some k)
    (hb : owedBits u ++ (stepBits 2432 (patchRollbackCount u) k.2).filter (fun b => !fuse u b) = b :: bits) :
    fuseStart .patchRollback (stepBits 2432 (patchRollbackCount w) ((w.benra.patch.map (·.2)).getD 0)) w
      = { w with benra := { u.benra with
        fuseOp := some { purpose := .patchRollback, bits := b :: bits, held := u.pins.pwrFail } } } := by
  rw [← fuseStart_bits hw hm hb]
  obtain ⟨host, rfl⟩ : ∃ host, w = { u with host := host } := ⟨w.host, hw⟩
  simp only [hpatch]
  rfl

/-- Settles O19: each rollback command by its status and what it starts once accepted, each end of a bit by the branch of
R398 it takes. -/
theorem fusesAreProgrammed : Obligations.FusesAreProgrammed := by
  intro t vpp s a p ha hp
  subst ha
  have keeps : p.benra.fuseOp = (advance t s).benra.fuseOp := by rw [hp]
  subst hp
  refine ⟨?image, ?patch, ?idle, ?bit⟩
  case image =>
    intro rq u hadm
    refine ⟨fun hs hv => ?wrongMode, fun hm hv => ?denied, fun i hm hv hlive => ⟨fun h => ?range, fun h ho => ?busy, ?accepted⟩⟩
    case wrongMode => exact ⟨_, rfl, runThen_refused hadm (rollbackStatus_wrongMode _ _ hs hv) (by decide) (by decide)⟩
    case denied => exact ⟨_, rfl, runThen_refused hadm (rollbackStatus_denied hm _ _ hv) (by decide) (by decide)⟩
    case range =>
      exact ⟨_, rfl, runThen_refused hadm (by rw [hlive]; exact rollbackStatus_range hm hv h) (by decide) (by decide)⟩
    case busy =>
      exact ⟨_, rfl, runThen_refused hadm (by rw [hlive]; exact rollbackStatus_busy hm hv h ho) (by decide) (by decide)⟩
    case accepted =>
      intro b bits h ho hb
      obtain ⟨w, hacc, hrun⟩ := runThen_accepted (start := rollbackStart)
        (status := fun v => rollbackStatus v (v.loader.live.map (·.rollbackIndex)) (rollbackCount v)) hadm
        (by rw [hlive]; exact rollbackStatus_accepted hm hv h ho)
      refine ⟨w, hacc, ?_⟩
      rw [← rollbackStart_bits hacc.1.1 hm hlive hb, ← hrun]
      rfl
  case patch =>
    intro rq u hadm
    refine ⟨fun hs hv => ?wrongMode, fun hm hv => ?denied, fun hm hv hnone => ?unpatched,
      fun k hm hv hpatch => ⟨fun h => ?range, fun h ho => ?busy, ?accepted⟩⟩
    case wrongMode => exact ⟨_, rfl, runThen_refused hadm (rollbackStatus_wrongMode _ _ hs hv) (by decide) (by decide)⟩
    case denied => exact ⟨_, rfl, runThen_refused hadm (rollbackStatus_denied hm _ _ hv) (by decide) (by decide)⟩
    case unpatched =>
      exact ⟨_, rfl, runThen_refused hadm (by rw [hnone]; exact rollbackStatus_none hm hv _) (by decide) (by decide)⟩
    case range =>
      exact ⟨_, rfl, runThen_refused hadm (by rw [hpatch]; exact rollbackStatus_range hm hv h) (by decide) (by decide)⟩
    case busy =>
      exact ⟨_, rfl, runThen_refused hadm (by rw [hpatch]; exact rollbackStatus_busy hm hv h ho) (by decide) (by decide)⟩
    case accepted =>
      intro b bits h ho hb
      obtain ⟨w, hacc, hrun⟩ := runThen_accepted
        (start := fun v => fuseStart .patchRollback (stepBits 2432 (patchRollbackCount v) ((v.benra.patch.map (·.2)).getD 0)) v)
        (status := fun v => rollbackStatus v (v.benra.patch.map (·.2)) (patchRollbackCount v)) hadm
        (by rw [hpatch]; exact rollbackStatus_accepted hm hv h ho)
      refine ⟨w, hacc, ?_⟩
      rw [← patchRollbackStart_bits hacc.1.1 hm hpatch hb, ← hrun]
      rfl
  case idle => exact fun ho verified => congrArg Host.Outcome.next (fuseBit_idle ho)
  case bit =>
    intro o b rest done hop hbits hdone
    subst hdone
    have hop := keeps.trans hop
    refine ⟨fun hh hm verified => congrArg Host.Outcome.next (fuseBit_waits hop hbits hh hm),
      fun hgo => ⟨fun hrest => ?last, fun n more hrest => ⟨fun hv => ?verified, fun hv => ?unpowered⟩, fun hr => ?retries,
        fun hr => ?stops⟩⟩
    case last => exact congrArg Host.Outcome.next (fuseBit_last hop hbits hgo hrest)
    case verified => exact congrArg Host.Outcome.next (fuseBit_verified hop hbits hgo hrest hv)
    case unpowered => exact congrArg Host.Outcome.next (fuseBit_unpowered hop hbits hgo hrest hv)
    case retries => exact congrArg Host.Outcome.next (fuseBit_retries hop hbits hgo hr)
    case stops => exact congrArg Host.Outcome.next (fuseBit_stops hop hbits hgo hr)

end Sys2Proof.ImageProofs
end

section
/-! SUPPORT. The slots of a start (R27, R38, R40 to R44): what SFDP_READ lists, and what the verdict of a slot does (O11). -/

namespace Sys2Proof.ImageProofs

open Sys2Proof Sys2Proof.Machine

/-! ### Faults of BOOT (R344, R350) -/

/-- An input that asserts with a mild reaction leaves every other input as it was. -/
theorem assertInput_input_other {code scope c q : Nat} {s : State} (p : Bytes)
    (hm : mildReaction (reactionOf s code scope) = true) (hne : faultKey c q ≠ faultKey code scope) :
    (assertInput code scope p s).input c q = s.input c q := by
  unfold assertInput
  split
  · rfl
  · have latches : OnlyLatches s (captureFault code p (latchInput code scope p s)) :=
      (latchInput_onlyLatches code scope p s).trans (captureFault_onlyLatches _ _ _)
    rw [(react_onlyRecords p (by rw [latches.reactionOf]; exact hm)).input]
    unfold State.input
    rw [(captureFault_keeps code p _).1]
    exact State.input_setInput_other s code scope _ c q hne

theorem pulseFault_input_other {code scope c q : Nat} {s : State} (p : Bytes)
    (hm : mildReaction (reactionOf s code scope) = true) (hne : faultKey c q ≠ faultKey code scope) :
    (pulseFault code scope p s).input c q = s.input c q := by
  have lowered : ∀ x : State, (lowerFault code scope x).input c q = x.input c q := fun x => by
    unfold lowerFault
    dsimp only
    split
    · exact State.input_setInput_other x code scope _ c q hne
    · rfl
  have records : OnlyLatches s (captureFault code p (stageRecord code scope p s)) :=
    (stageRecord_onlyRecords _ _ _ _).latches.trans (captureFault_onlyLatches _ _ _)
  unfold pulseFault raiseFault
  rw [lowered, assertInput_input_other p (by rw [records.reactionOf]; exact hm) hne]
  unfold State.input
  rw [(captureFault_keeps code p _).1]
  exact (stageRecord_onlyRecords code scope p s).input c q

/-- A fault raised later, on a state whose input is as it was. -/
theorem raised_of_input {code : Nat} {a b u : State} (hin : b.input code 0 = a.input code 0) (h : Raised code b u) :
    Raised code a u := fun ha => h (by rw [hin]; exact ha)

theorem isLive_eq_false {s : State} (h : s.phase ≠ .live) : isLive s = false := by
  simpa [isLive] using h

/-! ### The slots of a start (R41, R42) -/

/-- With no slot left the chip stays in BOOT without an image, with fault 0x0D11. -/
theorem noBootableImage_holds {s : State} (h : s.phase ≠ .repairFailed) :
    (noBootableImage s).phase = .noImage ∧ (noBootableImage s).mode = s.mode ∧ (noBootableImage s).cs0 = s.cs0 ∧
      (noBootableImage s).loader = s.loader ∧ Raised 0x0D11 s (noBootableImage s) := by
  unfold noBootableImage
  dsimp only
  rw [if_neg (by simpa using h)]
  generalize (if s.loader.fallbackTrust.isEmpty = true then [] else deriveCmdKeys s.loader.fallbackTrust s) = keys
  have early : isLive { s with phase := .noImage, benra := { s.benra with cmdKeys := keys } } = false := rfl
  have raised := chipFault_raised 0x0D11 [] early
  refine ⟨?_, ?_, ?_, ?_, raised_of_input rfl raised⟩ <;> rw [chipFault_early 0x0D11 [] early]

/-- SFDP_READ takes its mode and lists the slots, whether or not the mode is reported; with none listed BOOT holds. -/
theorem execSfdpRead_lists {t : Nat} {modes : List XspiMode} {s a : State} (ha : a = advance t s) (h : a.phase = .tested) :
    ∃ x, OnlyRecords { a with
        phase := .flashRead
        loader := { a.loader with
          xspiBits := (xspiPick modes).lines, xspiDdr := (xspiPick modes).ddr, xspiMhz := xspiClock (xspiPick modes)
          toTry := slotOrder a, firstTry := (slotOrder a).head?.getD 0 } } x ∧
      exec (.sfdpRead t modes) s = .next (if (slotOrder a).isEmpty then noBootableImage x else x) := by
  subst ha
  rw [show exec (.sfdpRead t modes) s = execSfdpRead t modes s from rfl]
  unfold execSfdpRead
  dsimp only
  have tested : ((advance t s).phase == BootPhase.tested) = true := by rw [h]; rfl
  rw [if_neg (by rw [tested]; exact Bool.false_ne_true)]
  simp only [tested, if_true]
  exact ⟨_, OnlyRecords.ite (OnlyRecords.refl _) (event_onlyRecords _ _ _), rfl⟩

/-- The loader after a slot that failed: what it leaves, and the slots left to try. -/
def failedLoader (l : Loader) (slot : Nat) (rest : List Nat) (reason : Nat) (bad : Bool) (trust : Option Bytes) : Loader :=
  { l with
    toTry := rest, malformed := if bad then sat16 l.malformed 1 else l.malformed
    reason := Tab.set l.reason slot reason
    fallbackTrust := if l.fallbackTrust.isEmpty then trust.getD [] else l.fallbackTrust }

/-- A slot has failed: fault 0x0D10 with the slot, the reason and its SEQUENCE. -/
def slotFailed (a : State) (slot : Nat) (rest : List Nat) (reason : Nat) (bad : Bool) (trust : Option Bytes) : State :=
  chipPulse 0x0D10 [slot, reason, commitSeq a.cs0 slot] { a with loader := failedLoader a.loader slot rest reason bad trust }

/-- In BOOT a failed slot raises its fault, and the input of 0x0D11 stands. -/
theorem slotFailed_raises {a : State} (slot : Nat) (rest : List Nat) (reason : Nat) (bad : Bool) (trust : Option Bytes)
    (early : isLive a = false) :
    Raised 0x0D10 a (slotFailed a slot rest reason bad trust) ∧
      (slotFailed a slot rest reason bad trust).input 0x0D11 0 = a.input 0x0D11 0 := by
  have before : isLive { a with loader := failedLoader a.loader slot rest reason bad trust } = false := early
  have raised := chipPulse_raised 0x0D10 [slot, reason, commitSeq a.cs0 slot] before
  have other := pulseFault_input_other (c := 0x0D11) (q := 0) (pay [slot, reason, commitSeq a.cs0 slot])
    (mild_before_live before 0x0D10 0) (by decide)
  exact ⟨raised_of_input rfl raised, other⟩

/-- In BOOT a failed slot leaves the phase, the mode and the flash as they were. -/
theorem slotFailed_keeps {a : State} (slot : Nat) (rest : List Nat) (reason : Nat) (bad : Bool) (trust : Option Bytes)
    (early : isLive a = false) :
    (slotFailed a slot rest reason bad trust).phase = a.phase ∧ (slotFailed a slot rest reason bad trust).mode = a.mode ∧
      (slotFailed a slot rest reason bad trust).cs0 = a.cs0 ∧
      (slotFailed a slot rest reason bad trust).loader = failedLoader a.loader slot rest reason bad trust := by
  have before : isLive { a with loader := failedLoader a.loader slot rest reason bad trust } = false := early
  unfold slotFailed
  rw [chipPulse_early 0x0D10 [slot, reason, commitSeq a.cs0 slot] before]
  exact ⟨rfl, rfl, rfl, rfl⟩

section
variable {t slot : Nat} {rest : List Nat} {readOk : Bool} {s a : State}
  (ha : a = advance t s) (hp : a.phase = .flashRead) (htry : a.loader.toTry = slot :: rest)
include ha hp htry

/-- A slot that passes waits in shadow. -/
theorem execSlotVerifyComplete_passes {i : Image} (hver : verifySlot a slot readOk = .passes i) :
    exec (.slotVerifyComplete t readOk) s
      = .next { a with phase := .verified, loader := { a.loader with toTry := rest, shadow := some i } } := by
  subst ha
  rw [show exec (.slotVerifyComplete t readOk) s = execSlotVerifyComplete t readOk s from rfl]
  have same : verifySlot { advance t s with loader := { (advance t s).loader with toTry := rest } } slot readOk
      = .passes i := hver
  have flashRead : ((advance t s).phase == BootPhase.flashRead) = true := by rw [hp]; rfl
  have noRepair : ((advance t s).phase == BootPhase.repairFailed) = false := by rw [hp]; rfl
  unfold execSlotVerifyComplete
  simp only [htry, flashRead, noRepair, same, Bool.true_or, Bool.not_true, Bool.false_eq_true, if_false]

/-- A slot that fails leaves its reason and fault 0x0D10; after the last one BOOT holds. -/
theorem execSlotVerifyComplete_fails {reason : Nat} {bad : Bool} {trust : Option Bytes}
    (hver : verifySlot a slot readOk = .fails reason bad trust) :
    exec (.slotVerifyComplete t readOk) s = .next (
      if rest.isEmpty then noBootableImage (slotFailed a slot rest reason bad trust)
      else slotFailed a slot rest reason bad trust) := by
  subst ha
  rw [show exec (.slotVerifyComplete t readOk) s = execSlotVerifyComplete t readOk s from rfl]
  have same : verifySlot { advance t s with loader := { (advance t s).loader with toTry := rest } } slot readOk
      = .fails reason bad trust := hver
  have flashRead : ((advance t s).phase == BootPhase.flashRead) = true := by rw [hp]; rfl
  have noRepair : ((advance t s).phase == BootPhase.repairFailed) = false := by rw [hp]; rfl
  unfold execSlotVerifyComplete
  simp only [htry, flashRead, noRepair, same, Bool.true_or, Bool.not_true, Bool.false_eq_true, if_false]
  rfl

end

/-- Settles O11: SFDP_READ by the slots it lists, the end of a verification by its verdict and by whether a slot is left. -/
theorem flashIsReadAndSlotsAreTried : Obligations.FlashIsReadAndSlotsAreTried := by
  intro t s a ha
  refine ⟨?reads, ?tries⟩
  case reads =>
    intro modes hp
    obtain ⟨x, hx, hexec⟩ := execSfdpRead_lists (modes := modes) ha hp
    have hphase : x.phase = .flashRead := by rw [hx]
    cases hl : slotOrder a with
    | nil =>
      rw [hl] at hexec hx
      refine ⟨noBootableImage x, hexec, ?_⟩
      obtain ⟨hno, hmode, hcs0, hloader, hraised⟩ := noBootableImage_holds (s := x) (by rw [hphase]; decide)
      have raised : Raised 0x0D11 a (noBootableImage x) := raised_of_input (hx.input _ _) hraised
      rw [hmode, hcs0, hloader]
      refine ⟨?_, ?_, ?_, ?_, ?_, ?_, ?_, ?_, fun h => absurd rfl h, fun _ => ⟨hno, raised⟩⟩ <;> rw [hx]
    | cons k ks =>
      rw [hl] at hexec hx
      refine ⟨x, hexec, ?_⟩
      refine ⟨?_, ?_, ?_, ?_, ?_, ?_, ?_, ?_, fun _ => hphase, fun h => absurd h (List.cons_ne_nil _ _)⟩ <;> rw [hx]
  case tries =>
    intro slot rest readOk hp htry
    cases hver : verifySlot a slot readOk with
    | passes i => exact execSlotVerifyComplete_passes ha hp htry hver
    | fails reason bad trust =>
      have hexec := execSlotVerifyComplete_fails ha hp htry hver
      have early : isLive a = false := isLive_eq_false (by rw [hp]; decide)
      obtain ⟨raised, other⟩ := slotFailed_raises slot rest reason bad trust early
      obtain ⟨hphase, hmode, hcs0, hloader⟩ := slotFailed_keeps slot rest reason bad trust early
      revert hexec raised other hphase hmode hcs0 hloader
      generalize slotFailed a slot rest reason bad trust = x
      intro hexec raised other hphase hmode hcs0 hloader
      cases rest with
      | nil =>
        obtain ⟨hno, nmode, ncs0, nloader, nraised⟩ := noBootableImage_holds (s := x) (by rw [hphase, hp]; decide)
        refine ⟨noBootableImage x, hexec, nmode.trans hmode, ncs0.trans hcs0, ?_, ?_, ?_, ?_, ?_,
          fun h => absurd rfl h, fun _ => ⟨hno, raised_of_input other nraised⟩⟩ <;> rw [nloader, hloader] <;> rfl
      | cons k ks =>
        refine ⟨x, hexec, hmode, hcs0, ?_, ?_, ?_, ?_, ?_, fun _ => ⟨hphase.trans hp, raised⟩,
          fun h => absurd h (List.cons_ne_nil _ _)⟩ <;> rw [hloader] <;> rfl

end Sys2Proof.ImageProofs
end

section
/-! SUPPORT. Activation and STANDBY entry (R40, R41, R58, R75, R179, R350, R399): what each unit leaves alone on the way (O12). -/

namespace Sys2Proof.ImageProofs

open Sys2Proof Sys2Proof.Machine

theorem setMode_onlyHost (m : Mode) (s : State) : OnlyHost { s with mode := m } (setMode m s) := by
  unfold setMode
  split
  · rename_i h
    rw [← h]
    rfl
  · exact setCause_onlyHost _ _

/-! ### Activation (R179, R365) -/

/-- `t` differs from `s` in what the rack's units take from an image at activation. -/
def OnlyRackTaken (s t : State) : Prop :=
  t = { s with
    ledger := t.ledger, balance := t.balance, maq := t.maq, loops := t.loops, modul := t.modul
    collector := { s.collector with contextCrc := t.collector.contextCrc }
    plinth := { s.plinth with undischarged := t.plinth.undischarged, maskLost := t.plinth.maskLost } }

theorem OnlyRackTaken.refl (s : State) : OnlyRackTaken s s := rfl

theorem OnlyRackTaken.trans {s t u : State} (h : OnlyRackTaken s t) (k : OnlyRackTaken t u) : OnlyRackTaken s u := by
  unfold OnlyRackTaken at *
  rw [k, h]

theorem setStr_onlyRackTaken (s : State) (p : Nat) (x : StringM) : OnlyRackTaken s (s.setStr p x) := rfl

theorem setPh_onlyRackTaken (s : State) (p : Nat) (x : Phase) : OnlyRackTaken s (s.setPh p x) := rfl

theorem setEngine_onlyRackTaken (s : State) (p : Nat) (x : Engine) : OnlyRackTaken s (s.setEngine p x) := rfl

theorem initMaquette_onlyRackTaken (s : State) : OnlyRackTaken s (initMaquette s) := by
  unfold initMaquette
  refine List.foldlRecOn (motive := OnlyRackTaken s) _ _ ?strings ?phases
  case strings =>
    refine List.foldlRecOn (motive := OnlyRackTaken s) _ _ (OnlyRackTaken.refl s) ?_
    exact fun u hu b _ => hu.trans (setStr_onlyRackTaken u b _)
  case phases =>
    intro u hu k _
    split
    · split
      · exact hu
      · exact hu.trans (setPh_onlyRackTaken u k _)
    · exact hu

theorem poolEngines_onlyRackTaken (proofs : List Nat) (s : State) : OnlyRackTaken s (poolEngines proofs s) := by
  unfold poolEngines
  refine List.foldlRecOn (motive := OnlyRackTaken s) _ _ (OnlyRackTaken.refl s) ?_
  exact fun u hu k _ => hu.trans (setEngine_onlyRackTaken u k _)

/-- An engine set within a fold over the numbers below `n` keeps what its own turn gave it. -/
theorem foldl_setEngine_passed {v : State → Nat → Engine} {p : Nat → Bool} (hv : ∀ u k, (v u k).passed = p k)
    (n : Nat) (s : State) :
    ∀ k, k < n → (((List.range n).foldl (fun u k => u.setEngine k (v u k)) s).engine k).passed = p k := by
  induction n with
  | zero => exact fun k hk => absurd hk (Nat.not_lt_zero k)
  | succ n ih =>
    intro k hk
    rw [List.range_succ, List.foldl_append, List.foldl_cons, List.foldl_nil]
    by_cases hkn : k = n
    · rw [hkn, State.engine_setEngine]
      exact hv _ n
    · rw [State.engine_setEngine_other _ _ _ _ hkn]
      exact ih k (by omega)

theorem poolEngines_passed (proofs : List Nat) (s : State) (k : Nat) (hk : k < 9) :
    ((poolEngines proofs s).engine k).passed = proofs.contains k := by
  unfold poolEngines
  refine foldl_setEngine_passed (p := fun k => proofs.contains k) ?_ 9 s k hk
  exact fun _ _ => rfl

/-- With at least eight engines proved, activation in the rack raises no fault: no ledger period is owed, and each engine
stands by its proof. -/
theorem activateRack_takes {proofs : List Nat} {s : State}
    (h : 8 ≤ ((List.range 9).filter (fun k => proofs.contains k)).length) :
    OnlyRackTaken s (activateRack proofs s) ∧ (activateRack proofs s).ledger = period s + 1 ∧
      ∀ k, k < 9 → ((activateRack proofs s).engine k).passed = proofs.contains k := by
  have taken : OnlyRackTaken s (poolEngines proofs (initMaquette s)) :=
    (initMaquette_onlyRackTaken s).trans (poolEngines_onlyRackTaken _ _)
  have same : period (poolEngines proofs (initMaquette s)) = period s := by
    rw [taken]
    rfl
  have passed := poolEngines_passed proofs (initMaquette s)
  unfold activateRack
  generalize poolEngines proofs (initMaquette s) = r at taken same passed
  dsimp only
  rw [if_neg (by omega)]
  exact ⟨taken.trans rfl, congrArg (· + 1) same, passed⟩

/-- With no input latched activation applies no reaction (R350). -/
theorem reactLatched_none {s : State} (h : latchedInputs s = []) : reactLatched s = s := by
  unfold reactLatched
  rw [h]
  rfl

/-! ### STANDBY entry (R58, R75) -/

/-- `t` differs from `s` in what an on request, the ports and Clasp do as STANDBY begins, and in records. -/
def OnlyStarts (s t : State) : Prop :=
  t = { s with
    host := t.host, vitrine := t.vitrine, plinth := { s.plinth with newestSeq := t.plinth.newestSeq }
    ports := t.ports, seq := t.seq, clasp := t.clasp }

theorem OnlyStarts.refl (s : State) : OnlyStarts s s := rfl

theorem OnlyStarts.trans {s t u : State} (h : OnlyStarts s t) (k : OnlyStarts t u) : OnlyStarts s u := by
  unfold OnlyStarts at *
  rw [k, h]

theorem onlyStarts_of_records {s t : State} (h : OnlyRecords s t) : OnlyStarts s t := by
  unfold OnlyRecords OnlyStarts at *
  rw [h]

theorem onlyStarts_of_host {s t : State} (h : OnlyHost s t) : OnlyStarts s t := by
  unfold OnlyHost OnlyStarts at *
  rw [h]

theorem setPort_onlyStarts (s : State) (p : Nat) (x : TPort) : OnlyStarts s (s.setPort p x) := rfl

theorem setSeq_onlyStarts (s : State) (x : Seq) : OnlyStarts s (s.setSeq x) := rfl

theorem event_onlyStarts (code : Nat) (l : List Nat) {s w : State} (h : OnlyStarts w s) : OnlyStarts w (event code l s) :=
  h.trans (onlyStarts_of_records (event_onlyRecords code l s))

theorem startTraining_onlyStarts (p : Nat) {s w : State} (h : OnlyStarts w s) : OnlyStarts w (startTraining p s) := by
  unfold startTraining
  dsimp only
  split
  · exact h
  · exact h.trans (setPort_onlyStarts s p _)

theorem startUp_onlyStarts (i : Nat) {s w : State} (h : OnlyStarts w s) : OnlyStarts w (startUp i s) := by
  unfold startUp prepareStep
  dsimp only
  split <;> exact (event_onlyStarts _ _ (h.trans (setSeq_onlyStarts s _))).trans (setSeq_onlyStarts _ _)

theorem onRequest_onlyStarts {s w : State} (h : OnlyStarts w s) : OnlyStarts w (onRequest s) := by
  unfold onRequest
  split
  · exact h
  · split
    · split
      · exact startUp_onlyStarts 0 h
      · exact h
    · split
      · exact event_onlyStarts _ _ (h.trans (setSeq_onlyStarts s _))
      · exact h

theorem standbyRack_onlyStarts (s : State) : OnlyStarts s (standbyRack s) := by
  have trained : OnlyStarts s ((tmEntries (secs s)).foldl (fun s e => (tePorts e).foldl (fun s p =>
      startTraining p (s.setPort p { s.port p with activeLane := p == tePrimary e })) s) s) := by
    refine List.foldlRecOn (motive := OnlyStarts s) _ _ (OnlyStarts.refl s) ?_
    intro u hu e _
    refine List.foldlRecOn (motive := OnlyStarts s) _ _ hu ?_
    exact fun v hv p _ => startTraining_onlyStarts p (hv.trans (setPort_onlyStarts v p _))
  unfold standbyRack
  dsimp only
  split
  · exact onRequest_onlyStarts trained
  · exact trained

theorem startClasp_onlyStarts {s w : State} (h : OnlyStarts w s) : OnlyStarts w (startClasp s) := by
  unfold startClasp
  split
  · exact h.trans rfl
  · exact h

theorem startClasp_keeps (s : State) : (startClasp s).ports = s.ports ∧ (startClasp s).seq = s.seq := by
  unfold startClasp
  split <;> exact ⟨rfl, rfl⟩

/-- With VPP_FUSE in range the burning of soft repairs starts a fuse operation or none, and stops nothing. -/
theorem startRepair_onlyFuseOp (l : List (Nat × Nat)) {s : State} (h : vppIn s.pins.vppFuse = true) :
    startRepair l s = { s with benra := { s.benra with fuseOp := (startRepair l s).benra.fuseOp } } := by
  induction l with
  | nil => rfl
  | cons x rest ih =>
    unfold startRepair
    split
    · exact ih
    · rw [if_pos h]

/-! ### SAFE at STANDBY entry (R357) -/

/-- `t` is in the mode of `s` and drives its pins as `s` does. -/
structure Steady (s t : State) : Prop where
  mode : t.mode = s.mode
  pins : t.pins = s.pins

theorem Steady.refl (s : State) : Steady s s := ⟨rfl, rfl⟩

theorem Steady.trans {s t u : State} (h : Steady s t) (k : Steady t u) : Steady s u :=
  ⟨k.mode.trans h.mode, k.pins.trans h.pins⟩

/-- A record update that leaves the mode and the pins alone. -/
theorem Steady.update {s t : State} {pending now epoch ledger mode under phase plinth pins armature loader benra host vitrine
    collector tap cs0 cs1 ports tiles pave loops modul balance maq seq clasp freeIx}
    (h : Steady s t) (hm : mode = t.mode) (hp : pins = t.pins) :
    Steady s (State.mk pending now epoch ledger mode under phase plinth pins armature loader benra host vitrine
      collector tap cs0 cs1 ports tiles pave loops modul balance maq seq clasp freeIx) :=
  ⟨hm.trans h.mode, hp.trans h.pins⟩

section
variable {s w : State} (h : Steady w s)
include h

theorem steady_records {t : State} (k : OnlyRecords s t) : Steady w t := by
  rw [k]
  exact h.update rfl rfl

theorem steady_host {t : State} (k : OnlyHost s t) : Steady w t := by
  rw [k]
  exact h.update rfl rfl

theorem steady_latches {t : State} (k : OnlyLatches s t) : Steady w t := by
  rw [k]
  exact h.update rfl rfl

theorem event_steady (code : Nat) (l : List Nat) : Steady w (event code l s) :=
  steady_records h (event_onlyRecords code l s)

theorem setCause_steady (i : Nat) : Steady w (setCause i s) := steady_host h (setCause_onlyHost i s)

theorem setSeq_steady (x : Seq) : Steady w (s.setSeq x) := ⟨h.mode, h.pins⟩

theorem setCtx_steady (c : Nat) (x : Ctx) : Steady w (s.setCtx c x) := ⟨h.mode, h.pins⟩

theorem setStage_steady (g : Nat) (x : Stage) : Steady w (s.setStage g x) := ⟨h.mode, h.pins⟩

theorem setRail_steady (r : Nat) (x : Rail) : Steady w (s.setRail r x) := ⟨h.mode, h.pins⟩

theorem stopCapture_steady (cause : Nat) : Steady w (stopCapture cause s) := by
  unfold stopCapture
  dsimp only
  split
  · exact setCause_steady (h.update rfl rfl) 5
  · exact h

theorem captureSafe_steady : Steady w (captureSafe s) :=
  steady_latches (stopCapture_steady h 3) (stopInject_onlyLatches injSafe _)

theorem closeLoop_steady (c cause : Nat) : Steady w (closeLoop c cause s) := by
  unfold closeLoop
  dsimp only
  split
  · exact h
  · exact event_steady (setCtx_steady h c _) _ _

theorem closeLoops_steady : Steady w (closeLoops s) := by
  refine steady_latches ?_ (stopInject_onlyLatches injSession _)
  refine List.foldlRecOn (motive := Steady w) _ _ h ?_
  exact fun u hu c _ => closeLoop_steady hu c loopSession

theorem marginMoves_steady (g : Nat) : Steady w (marginMoves g s) := by
  unfold marginMoves
  refine List.foldlRecOn (motive := Steady w) _ _ h ?_
  exact fun u hu r _ => setRail_steady hu r _

theorem setMargin_steady (g : Nat) (steps : Int) : Steady w (setMargin g steps s) :=
  event_steady (marginMoves_steady (setStage_steady h g _) g) _ _

theorem releaseMargins_steady : Steady w (releaseMargins s) := by
  unfold releaseMargins
  refine List.foldlRecOn (motive := Steady w) _ _ h ?_
  intro u hu g _
  split
  · exact hu
  · exact setMargin_steady hu g 0

theorem endSession_steady (cause : Nat) : Steady w (endSession cause s) := by
  unfold endSession
  split
  · exact h
  · exact event_steady (releaseMargins_steady (closeLoops_steady (h.update rfl rfl))) _ _

theorem claspPowerDown_steady : Steady w (claspPowerDown s) := by
  unfold claspPowerDown endCoupling
  dsimp only
  split
  · split
    · obtain ⟨host, dropped⟩ := dropPending_is s
      rw [tellStatus_onlySends, dropped]
      exact ⟨h.mode, h.pins⟩
    · exact h
  · exact h

theorem requestStore_steady : Steady w (requestStore s) := h.update rfl rfl

theorem writeOdometer_steady : Steady w (writeOdometer s) := by
  unfold writeOdometer
  dsimp only
  split
  · exact h
  · split <;> exact h.update rfl rfl

/-- What a power-down tells, stores and ends as it begins. -/
theorem powerDownActs_steady (cause i : Nat) :
    Steady w (claspPowerDown (writeOdometer (requestStore (event 0x8903 [cause, i] s)))) :=
  claspPowerDown_steady (writeOdometer_steady (requestStore_steady (event_steady h _ _)))

theorem beginDown_steady (cause i : Nat) : Steady w (beginDown cause i s) :=
  powerDownActs_steady (setSeq_steady h _) cause i

theorem endHoldup_steady : Steady w (endHoldup s) := by
  unfold endHoldup
  split
  · exact event_steady (h.update rfl rfl) _ _
  · exact h

variable (hw : w.mode = .safe)
include hw

theorem completeDown_steady : Steady w (completeDown s) := by
  have told : ∀ x l, Steady w (setCause 6 (endHoldup (event 0x8904 l (s.setSeq x)))) := fun x l =>
    setCause_steady (endHoldup_steady (event_steady (setSeq_steady h x) 0x8904 l)) 6
  have safe := fun x l => (told x l).mode.trans hw
  unfold completeDown
  dsimp only
  rw [if_neg (by rw [safe]; decide), if_neg (by rw [safe]; decide)]
  exact ⟨(told _ _).mode, (told _ _).pins⟩

theorem dropUp_steady (cause : Nat) : Steady w (dropUp cause s) := by
  unfold dropUp
  dsimp only
  split
  · exact completeDown_steady (powerDownActs_steady (setSeq_steady h _) cause 0) hw
  · exact Steady.update (setSeq_steady h _) rfl rfl

/-- A power-down that begins in SAFE leaves the chip in SAFE (R279, R357). -/
theorem powerDown_steady (cause : Nat) : Steady w (powerDown cause s) := by
  unfold powerDown
  dsimp only
  split
  case h_1 => exact h
  case h_2 => exact dropUp_steady h hw cause
  case h_3 | h_4 =>
    split
    · exact dropUp_steady h hw cause
    · exact beginDown_steady h cause _
  case h_5 | h_6 | h_7 => exact beginDown_steady h cause _
  case h_8 =>
    split
    · have told := event_steady (setSeq_steady h { s.seq with cause := cause, latched := false }) 0x8903 [cause, s.seq.step]
      split
      · exact event_steady told _ _
      · exact told
    · exact h

end

/-- STANDBY gives way to SAFE, and the pins stand. -/
theorem enterSafe_standby (level input : Nat) {s : State} (h : s.mode = .standby) :
    (enterSafe level input s).mode = .safe ∧ (enterSafe level input s).pins = s.pins := by
  have ended := endSession_steady (captureSafe_steady (Steady.refl s)) 3
  have safe : ∀ v : State, v.pins = s.pins → ∀ l, Steady { s with mode := .safe } (event 0x8C01 l (setMode .safe v)) :=
    fun v hv l =>
      have entered : Steady { s with mode := .safe } { v with mode := .safe } := ⟨rfl, hv⟩
      event_steady (steady_host entered (setMode_onlyHost .safe v)) 0x8C01 l
  have finished : Steady { s with mode := .safe } (enterSafe level input s) := by
    unfold enterSafe
    dsimp only
    rw [if_pos (by simp [h])]
    split
    · refine powerDown_steady (safe _ ?_ _) rfl _
      exact ended.pins
    · split
      · refine powerDown_steady (safe _ ?_ _) rfl _
        exact ended.pins
      · refine safe _ ?_ _
        exact ended.pins
  exact ⟨finished.mode, finished.pins⟩

/-! ### The two commands -/

/-- The verified image `i` has become the running one, and nothing in the rack has taken it yet. -/
def imageTaken (a : State) (i : Image) : State :=
  { a with
    phase := .live, loader := { a.loader with live := some i, shadow := none, toTry := [] }
    plinth := { a.plinth with wdtServed := a.now }
    benra := { a.benra with
      cmdKeys := deriveCmdKeys (sec i.sections tyTrust) a
      patch := if (sec i.sections tyPatch).isEmpty then none
        else some (u32 (sec i.sections tyPatch) 4, u8 (sec i.sections tyPatch) 12) } }

/-- The events of an activation: the other slot than the first was taken, or an address match woke the chip. -/
def activationEvents (i : Image) (r : State) : State :=
  let e := if i.slot = r.loader.firstTry then r else event 0x8D12 [i.slot] r
  if e.plinth.wokenByAddress then event 0x8F01 [] { e with plinth := { e.plinth with wokenByAddress := false } } else e

theorem activationEvents_onlyRecords (i : Image) (r : State) :
    OnlyRecords { r with plinth := { r.plinth with wokenByAddress := false } } (activationEvents i r) := by
  have slot : OnlyRecords r (if i.slot = r.loader.firstTry then r else event 0x8D12 [i.slot] r) :=
    OnlyRecords.ite (OnlyRecords.refl r) (event_onlyRecords _ _ _)
  unfold activationEvents
  dsimp only
  revert slot
  generalize (if i.slot = r.loader.firstTry then r else event 0x8D12 [i.slot] r) = e
  intro slot
  split
  case isTrue =>
    refine OnlyRecords.trans ?_ (event_onlyRecords _ _ _)
    rw [slot]
    rfl
  case isFalse awake =>
    have : e.plinth.wokenByAddress = r.plinth.wokenByAddress := by rw [slot]
    have asleep : r.plinth.wokenByAddress = false := by simpa [this] using awake
    rw [← asleep]
    exact slot

theorem execActivation_runs {t : Nat} {proofs : List Nat} {s a : State} {i : Image} (ha : a = advance t s)
    (hshadow : a.loader.shadow = some i) (hp : a.phase = .verified) :
    exec (.activation t proofs) s = .next (reactLatched (activationEvents i (activateRack proofs (imageTaken a i)))) := by
  subst ha
  rw [show exec (.activation t proofs) s = execActivation t proofs s from rfl]
  unfold execActivation
  simp only [hshadow]
  rw [if_neg (by rw [hp]; decide)]
  rfl

/-- STANDBY has begun, and no unit has started: the transmitters of an enrolled chip are on. -/
def standbyBegun (vpp : Nat) (a : State) : State :=
  { a with
    mode := .standby, under := .standby
    pins := { a.pins with
      vppFuse := vpp, domains := a.pins.domains ||| (cpDomainEnable (secs a) &&& 0xF000)
      transmitters := (activeOwner a).isSome || a.pins.transmitters } }

/-- STANDBY has begun, the ports of an enrolled chip train and Clasp is detached. -/
def standbyStarted (vpp : Nat) (a : State) : State :=
  let s := setMode .standby { a with under := .standby, pins := { a.pins with
    vppFuse := vpp, domains := a.pins.domains ||| (cpDomainEnable (secs a) &&& 0xF000) } }
  startClasp (if (activeOwner s).isSome then standbyRack { s with pins := { s.pins with transmitters := true } } else s)

/-- The soft repairs are burnt where the image asks for it and VPP_FUSE allows it (R75). -/
def burnRepairs (vpp : Nat) (s : State) (soft : List (Nat × Nat)) : State :=
  if cpRepairBurn (secs s) && vppIn vpp && isLive s then startRepair soft s else s

theorem burnRepairs_onlyFuseOp {vpp : Nat} {s : State} (soft : List (Nat × Nat)) (h : s.pins.vppFuse = vpp) :
    burnRepairs vpp s soft = { s with benra := { s.benra with fuseOp := (burnRepairs vpp s soft).benra.fuseOp } } := by
  unfold burnRepairs
  split
  case isTrue asked =>
    simp only [Bool.and_eq_true] at asked
    exact startRepair_onlyFuseOp soft (h ▸ asked.1.2)
  case isFalse => rfl

theorem standbyStarted_onlyStarts (vpp : Nat) (a : State) :
    OnlyStarts (standbyBegun vpp a) (standbyStarted vpp a) ∧
      (activeOwner a = none → (standbyStarted vpp a).ports = a.ports ∧ (standbyStarted vpp a).seq = a.seq) := by
  have entered := setMode_onlyHost .standby { a with under := .standby, pins := { a.pins with
    vppFuse := vpp, domains := a.pins.domains ||| (cpDomainEnable (secs a) &&& 0xF000) } }
  unfold standbyStarted
  dsimp only
  revert entered
  generalize setMode .standby { a with under := .standby, pins := { a.pins with
    vppFuse := vpp, domains := a.pins.domains ||| (cpDomainEnable (secs a) &&& 0xF000) } } = x
  intro entered
  have owner : activeOwner x = activeOwner a := by rw [entered]; rfl
  rw [owner]
  cases ho : activeOwner a with
  | none =>
    rw [if_neg (by simp)]
    refine ⟨startClasp_onlyStarts ?_, fun _ => ?_⟩
    · rw [entered]
      simp only [standbyBegun, ho]
      rfl
    · obtain ⟨hports, hseq⟩ := startClasp_keeps x
      rw [hports, hseq, entered]
      exact ⟨rfl, rfl⟩
  | some h =>
    rw [if_pos (Option.isSome_some)]
    refine ⟨startClasp_onlyStarts (OnlyStarts.trans ?_ (standbyRack_onlyStarts _)), fun absent => by simp at absent⟩
    rw [entered]
    simp only [standbyBegun, ho]
    rfl

theorem execStandbyEntry_runs {t vpp : Nat} {s a : State} (ha : a = advance t s) (hl : isLive a = true)
    (hm : a.mode = .boot) : ∃ input soft, exec (.standbyEntry t vpp) s = .next (burnRepairs vpp
      (if (standbyStarted vpp a).collector.heldLevel = 0 then standbyStarted vpp a
        else enterSafe (standbyStarted vpp a).collector.heldLevel input (standbyStarted vpp a)) soft) := by
  subst ha
  rw [show exec (.standbyEntry t vpp) s = execStandbyEntry t vpp s from rfl]
  unfold execStandbyEntry
  dsimp only
  rw [if_neg (by rw [hl, hm]; decide)]
  exact ⟨_, _, rfl⟩

/-- Settles O12: activation by what each unit leaves alone while it takes the image, STANDBY entry by whether a safe level
is held. -/
theorem imageBecomesLive : Obligations.ImageBecomesLive := by
  intro t s a ha
  refine ⟨?activates, ?enters, ?holds⟩
  case activates =>
    intro proofs i hshadow hp hnone hproved
    obtain ⟨taken, hledger, hpassed⟩ := activateRack_takes (s := imageTaken a i) hproved
    have records := activationEvents_onlyRecords i (activateRack proofs (imageTaken a i))
    have hexec := execActivation_runs (proofs := proofs) ha hshadow hp
    revert taken hledger hpassed records hexec
    generalize activationEvents i (activateRack proofs (imageTaken a i)) = u
    generalize activateRack proofs (imageTaken a i) = r
    intro taken hledger hpassed records hexec
    have hlatched : latchedInputs u = [] := by
      rw [records, taken]
      exact hnone
    rw [reactLatched_none hlatched] at hexec
    refine ⟨u, hexec, ?_⟩
    rw [records]
    refine ⟨?_, ?_, ?_, ?_, ?_, ?_, ?_, ?_, ?_, hledger, ?_, rfl, hpassed⟩ <;> rw [taken] <;> rfl
  case enters =>
    intro vpp hl hm hheld
    obtain ⟨input, soft, hexec⟩ := execStandbyEntry_runs (vpp := vpp) ha hl hm
    obtain ⟨starts, unenrolled⟩ := standbyStarted_onlyStarts vpp a
    revert hexec starts unenrolled
    generalize standbyStarted vpp a = x
    intro hexec starts unenrolled
    have held : x.collector.heldLevel = 0 := by rw [starts]; exact hheld
    rw [if_pos held] at hexec
    refine ⟨_, hexec, ?_⟩
    have hvpp : x.pins.vppFuse = vpp := by rw [starts]; rfl
    rw [burnRepairs_onlyFuseOp soft hvpp]
    have transmits : x.pins.transmitters = ((activeOwner a).isSome || a.pins.transmitters) := by rw [starts]; rfl
    have enrolled : activeOwner a ≠ none → x.pins.transmitters = true := fun owned =>
      transmits.trans (by rw [Option.isSome_iff_ne_none.mpr owned, Bool.true_or])
    have untouched : activeOwner a = none → x.pins.transmitters = a.pins.transmitters := fun unowned =>
      transmits.trans (by rw [unowned]; rfl)
    refine ⟨?_, ?_, hvpp, ?_, ?_, ?_, ?_, ?_, enrolled, fun unowned => ⟨untouched unowned, unenrolled unowned⟩⟩ <;>
      rw [starts] <;> rfl
  case holds =>
    intro vpp hl hm hheld
    obtain ⟨input, soft, hexec⟩ := execStandbyEntry_runs (vpp := vpp) ha hl hm
    obtain ⟨starts, -⟩ := standbyStarted_onlyStarts vpp a
    revert hexec starts
    generalize standbyStarted vpp a = x
    intro hexec starts
    have held : x.collector.heldLevel ≠ 0 := by rw [starts]; exact hheld
    have hstandby : x.mode = .standby := by rw [starts]; rfl
    have hvpp : x.pins.vppFuse = vpp := by rw [starts]; rfl
    obtain ⟨hsafe, hpins⟩ := enterSafe_standby x.collector.heldLevel input hstandby
    rw [if_neg held] at hexec
    refine ⟨_, hexec, ?_⟩
    rw [burnRepairs_onlyFuseOp soft (by rw [hpins]; exact hvpp)]
    exact hsafe

end Sys2Proof.ImageProofs
end

section
/-! SUPPORT. Every command completes (R59, O5), and the state after reset (R52, R64, O2). -/

namespace Sys2Proof.StartProofs

open Sys2Proof Sys2Proof.Machine

/-- Time moves to the later of the clock and a command's time (R12). -/
theorem now_advance (t : Nat) (s : State) : (advance t s).now = max s.now t := by
  unfold advance
  dsimp only
  split <;> rfl

/-- Settles O5: what every command keeps of the state at its time (`exec_onward`), read back to the state before it. -/
theorem everyCommandCompletes : Obligations.EveryCommandCompletes := by
  intro c s
  obtain ⟨u, hu, onward⟩ := exec_onward c s
  exact ⟨u, hu, onward.pending.trans (advance_rest c.time s).1, onward.now.trans (now_advance c.time s)⟩

/-- Settles O2: every field of the reset state stands at the value it is written with. -/
theorem resetState : Obligations.ResetState :=
  ⟨rfl, rfl, rfl, rfl, rfl, rfl, rfl, rfl, rfl, rfl, rfl, rfl⟩

end Sys2Proof.StartProofs
end

section
/-! SUPPORT. The reset sources and the watchdog (R62 to R66): what a reset leaves, and the trip of the watchdog (O6, O7). -/

namespace Sys2Proof.StartProofs

open Sys2Proof Sys2Proof.Machine

/-! ### A reset (R63, R65) -/

theorem resetChip_resetBy (cause : Nat) (s : State) : ResetBy cause s (resetChip cause s) :=
  ⟨rfl, rfl, rfl, rfl, rfl, rfl, rfl, rfl, rfl, rfl, rfl, rfl, rfl, rfl, rfl, rfl, rfl, rfl, rfl, rfl, rfl, rfl, rfl, rfl, rfl,
    rfl, rfl, rfl⟩

theorem resetChip_isLive (cause : Nat) (s : State) : isLive (resetChip cause s) = false := rfl

/-- An input that a reset keeps for the next entry to BOOT (R358) is latched, not asserted. -/
theorem restartInputs_idle (s : State) (k : Nat) : (Tab.get {} (restartInputs s) k).asserted = false := by
  unfold restartInputs
  generalize s.collector.inputs.filter _ = kept
  induction kept with
  | nil => rfl
  | cons p rest ih =>
    rw [List.map_cons]
    unfold Tab.get
    split
    · rfl
    · exact ih

theorem resetChip_input_idle (cause code scope : Nat) (s : State) :
    ((resetChip cause s).input code scope).asserted = false := restartInputs_idle s _

/-- Settles O6: each source by whether it resets the chip, and a reset by what it leaves. -/
theorem resetSources : Obligations.ResetSources := by
  intro t s a ha
  subst ha
  refine ⟨?vaoPor, ?supply, ?dormant, ?rstN, ?pllLoss, ?unlocked⟩
  case vaoPor =>
    refine ⟨_, rfl, rfl, rfl, rfl, ?_, rfl, rfl, rfl, rfl, rfl, rfl, rfl, rfl⟩
    have silent : (allOffCauses.contains 0x01) = false := by decide
    dsimp only [resetChip]
    rw [silent, Bool.and_false]
    rfl
  case supply =>
    intro awake
    refine ⟨_, ?_, resetChip_resetBy 0x02 _⟩
    show execSupplyLoss t s = _
    unfold execSupplyLoss
    exact if_neg awake
  case dormant =>
    intro asleep
    show execSupplyLoss t s = _
    unfold execSupplyLoss
    exact if_pos asleep
  case rstN => exact ⟨_, rfl, resetChip_resetBy 0x03 _⟩
  case pllLoss =>
    intro reset started
    refine ⟨_, ?_, resetChip_resetBy 0x07 _⟩
    show execPllLoss t s = _
    unfold execPllLoss
    exact if_neg (by rw [beq_false_of_ne reset, beq_false_of_ne started]; decide)
  case unlocked =>
    intro idle
    show execPllLoss t s = _
    unfold execPllLoss
    exact if_pos (by rcases idle with h | h <;> rw [h] <;> decide)

/-! ### The watchdog (R66) -/

/-- The last breath of the moment touches its arming alone in the Plinth, and nothing in Benra (R389). -/
theorem writeBreath_keeps (trigger : Nat) (s : State) :
    (writeBreath trigger (capturePending s)).plinth
      = { s.plinth with lbNext := (writeBreath trigger (capturePending s)).plinth.lbNext } ∧
    (writeBreath trigger (capturePending s)).benra = s.benra := by
  have pending : (capturePending s).plinth = s.plinth ∧ (capturePending s).benra = s.benra := by
    unfold capturePending
    dsimp only
    split <;> exact ⟨rfl, rfl⟩
  obtain ⟨hplinth, hbenra⟩ := pending
  unfold writeBreath
  rw [← hplinth, ← hbenra]
  split <;> exact ⟨rfl, rfl⟩

section
variable {t : Nat} {service : Bool} {s a : State} (ha : a = advance t s)
  (awake : a.mode ≠ .dormant) (untested : a.mode ≠ .test) (started : a.phase ≠ .inReset)
include ha awake untested started

/-- Outside DORMANT, TEST and reset the watchdog trips, is served, or stands. -/
theorem execWatchdogExpiry_runs : exec (.watchdogExpiry ⟨t, service⟩) s = .next (
    if wdtTimeout a ≤ a.now - a.plinth.wdtServed ∨ service = true ∧ a.now - a.plinth.wdtServed < wdtWindow a then wdtTrip a
    else if service then { a with plinth := { a.plinth with wdtServed := a.now } } else a) := by
  subst ha
  show execWatchdogExpiry ⟨t, service⟩ s = _
  unfold execWatchdogExpiry
  dsimp only
  rw [if_neg (fun off => off.elim awake (fun off => off.elim untested started))]
  split
  · rfl
  · split <;> rfl

end

/-- The trip latches fault 0x0101 after the reset, and touches nothing else of it but records. -/
theorem wdtTrip_raises (a : State) :
    OnlyLatches (resetChip 0x04 (writeBreath 2 (capturePending a))) (wdtTrip a) ∧
      ((wdtTrip a).input 0x0101 0).latched = true :=
  have early := resetChip_isLive 0x04 (writeBreath 2 (capturePending a))
  ⟨chipPulse_early 0x0101 [] early, (chipPulse_raised 0x0101 [] early (resetChip_input_idle _ _ _ _)).1⟩

/-- Settles O7: a trip by the reset it is and the fault raised after it, a service and an early look by their branches. -/
theorem watchdogResets : Obligations.WatchdogResets := by
  intro t service s a ha
  refine ⟨?trips, ?stands, ?stopped⟩
  case trips =>
    intro awake untested started late
    refine ⟨wdtTrip a, by rw [execWatchdogExpiry_runs ha awake untested started, if_pos late], ?_⟩
    obtain ⟨hplinth, hbenra⟩ := writeBreath_keeps 2 a
    obtain ⟨latches, latched⟩ := wdtTrip_raises a
    generalize writeBreath 2 (capturePending a) = v at hplinth hbenra latches
    have counts : v.plinth.resetCounts = a.plinth.resetCounts := by rw [hplinth]
    have seconds : v.plinth.opSeconds = a.plinth.opSeconds := by rw [hplinth]
    have cycles : v.plinth.powerCycles = a.plinth.powerCycles := by rw [hplinth]
    have fuses : v.benra.fuses = a.benra.fuses := by rw [hbenra]
    refine ⟨?_, ?_, ?_, ?counts, ?seconds, ?cycles, ?fuses, ?_, ?_, latched⟩ <;> rw [latches]
    case counts => rw [← counts]; rfl
    case seconds => exact seconds
    case cycles => exact cycles
    case fuses => exact fuses
    all_goals rfl
  case stands =>
    intro awake untested started early
    refine ⟨fun opened => ?_, ?_⟩
    · rw [execWatchdogExpiry_runs ha awake untested started, if_neg (by omega)]
      rfl
    · rw [execWatchdogExpiry_runs ha awake untested started, if_neg (by simp; omega)]
      rfl
  case stopped =>
    intro off
    subst ha
    show execWatchdogExpiry ⟨t, service⟩ s = _
    unfold execWatchdogExpiry
    dsimp only
    rw [if_pos (by tauto)]

end Sys2Proof.StartProofs
end

section
/-! SUPPORT. The entry of BOOT and DORMANT (R52 to R55, R60, R428): power-good, the wakes, and what DORMANT leaves (O8, O13). -/

namespace Sys2Proof.StartProofs

open Sys2Proof Sys2Proof.Machine Sys2Proof.ImageProofs

/-! ### BOOT is entered (R52, R55, R65) -/

/-- A change of mode before the image is live is no attention cause (R429). -/
theorem setMode_early (m : Mode) {s : State} (h : isLive s = false) : setMode m s = { s with mode := m } := by
  unfold setMode
  split
  case isTrue same => rw [← same]
  case isFalse =>
    have early : isLive { s with mode := m } = false := h
    unfold setCause
    rw [early]
    rfl

theorem enterBoot_entersBoot (straps : Nat) (s : State) : EntersBoot straps s (enterBoot straps s) := by
  unfold EntersBoot enterBoot
  dsimp only
  rw [setMode_early .boot rfl]

theorem wake_entersBoot (straps : Nat) {s : State} (h : s.pins.powerGood = true) :
    EntersBoot straps s (wake straps s) := by
  unfold wake
  rw [if_pos h]
  exact enterBoot_entersBoot straps s

theorem wake_held (straps : Nat) {s : State} (h : s.pins.powerGood = false) :
    wake straps s = { s with plinth := { s.plinth with wakeHeld := true } } := if_neg (by rw [h]; decide)

/-! ### The wakes of DORMANT (R53, R428) -/

section
variable {t straps : Nat} {s a : State} (ha : a = advance t s)
include ha

theorem execPowerGood_runs : exec (.powerGood t straps) s = .next (
    if a.phase == .inReset && (a.mode != .dormant || a.plinth.wakeHeld) then enterBoot straps a
    else { a with pins := { a.pins with powerGood := true } }) := by
  subst ha
  show execPowerGood t straps s = _
  unfold execPowerGood
  dsimp only
  split <;> rfl

variable (hd : a.mode = .dormant)
include hd

theorem execDormantWake_rackOn : exec (.dormantWake t .rackOn straps) s
    = .next (wake straps { a with pins := { a.pins with rackOn := true } }) := by
  subst ha
  show execDormantWake t .rackOn straps s = _
  unfold execDormantWake
  dsimp only
  rw [if_neg (by rw [hd]; decide)]

theorem execDormantWake_cpProx : exec (.dormantWake t .cpProx straps) s
    = .next (if bit a.plinth.wakeSources 3 then wake straps a else a) := by
  subst ha
  show execDormantWake t .cpProx straps s = _
  unfold execDormantWake
  dsimp only
  rw [if_neg (by rw [hd]; decide)]
  split <;> rfl

theorem execWakeIntervalExpiry_wakes (enabled : bit a.plinth.wakeSources 2 = true) (set : a.plinth.wakeInterval ≠ 0)
    (due : a.plinth.dormantSince + a.plinth.wakeInterval * secTicks ≤ a.now) :
    exec (.wakeIntervalExpiry t straps) s = .next (wake straps a) := by
  subst ha
  show execWakeIntervalExpiry t straps s = _
  unfold execWakeIntervalExpiry
  dsimp only
  rw [if_pos (by simp only [Bool.and_eq_true, bne_iff_ne, beq_iff_eq, decide_eq_true_eq]; exact ⟨⟨⟨hd, enabled⟩, set⟩, due⟩)]

/-- The chip's own two-wire address is counted, and wakes where it is enabled and no wake is held. -/
theorem execTwDormantAddressMatch_own : exec (.twDormantAddressMatch t (twAddress a) straps) s = .next (
    if bit a.plinth.wakeSources 1 && !a.plinth.wakeHeld then
      wake straps { a with plinth := { a.plinth with wakeNack := sat16 a.plinth.wakeNack 1, wokenByAddress := true } }
    else { a with plinth := { a.plinth with wakeNack := sat16 a.plinth.wakeNack 1 } }) := by
  subst ha
  show execTwDormantAddressMatch t _ straps s = _
  unfold execTwDormantAddressMatch
  dsimp only
  rw [if_pos (by rw [hd]; simp)]
  split <;> rfl

end

/-- Settles O8: POWER_GOOD and each wake by its condition; every entry is `enterBoot`. -/
theorem bootIsEntered : Obligations.BootIsEntered := by
  intro t straps s a ha
  refine ⟨?enters, ?stands, fun hd _ hp => ⟨?rackOn, ?cpProx, ?cpProxOff, ?interval, ?address, ?addressOff⟩, ?held⟩
  case enters =>
    intro reset allowed
    have enters : (a.phase == .inReset && (a.mode != .dormant || a.plinth.wakeHeld)) = true := by simpa [reset] using allowed
    exact ⟨_, by rw [execPowerGood_runs ha, if_pos enters], enterBoot_entersBoot straps a⟩
  case stands =>
    intro started
    rw [execPowerGood_runs ha, if_neg (by rw [beq_false_of_ne started, Bool.false_and]; decide)]
  case rackOn => exact ⟨_, execDormantWake_rackOn ha hd, wake_entersBoot straps hp⟩
  case cpProx =>
    intro enabled
    exact ⟨_, by rw [execDormantWake_cpProx ha hd, if_pos enabled], wake_entersBoot straps hp⟩
  case cpProxOff =>
    intro off
    rw [execDormantWake_cpProx ha hd, if_neg (by rw [off]; decide)]
  case interval =>
    intro enabled set due
    exact ⟨_, execWakeIntervalExpiry_wakes ha hd enabled set due, wake_entersBoot straps hp⟩
  case address =>
    intro enabled free
    refine ⟨_, ?_, wake_entersBoot straps hp⟩
    rw [execTwDormantAddressMatch_own ha hd, if_pos (by rw [enabled, free]; decide)]
  case addressOff =>
    intro off
    rw [execTwDormantAddressMatch_own ha hd, if_neg (by rw [off, Bool.false_and]; decide)]
  case held =>
    intro hd unpowered
    exact (execDormantWake_rackOn ha hd).trans (congrArg Host.Outcome.next (wake_held straps unpowered))

/-! ### DORMANT is entered (R54, R60) -/

/-- `t` differs from `s` in what a flush of staging touches: the recorder and its flash, the attention of the host ports,
and the SEQUENCE numbers the Plinth keeps. -/
def OnlyFlushes (s t : State) : Prop :=
  t = { s with
    host := t.host, vitrine := t.vitrine, cs1 := t.cs1
    plinth := { s.plinth with newestSeq := t.plinth.newestSeq, flashedSeq := t.plinth.flashedSeq } }

theorem OnlyFlushes.refl (s : State) : OnlyFlushes s s := rfl

theorem OnlyFlushes.trans {s t u : State} (h : OnlyFlushes s t) (k : OnlyFlushes t u) : OnlyFlushes s u := by
  unfold OnlyFlushes at *
  rw [k, h]

section
variable {w s : State} (h : OnlyFlushes w s)
include h

theorem onlyFlushes_host {u : State} (k : OnlyHost s u) : OnlyFlushes w u := h.trans (by unfold OnlyHost OnlyFlushes at *; rw [k])

theorem program_onlyFlushes (m : Flash) (v : Vitrine) : OnlyFlushes w { s with cs1 := m, vitrine := v } := h.trans rfl

theorem seal_onlyFlushes (m : Flash) (v : Vitrine) (q : Nat) :
    OnlyFlushes w { s with cs1 := m, plinth := { s.plinth with flashedSeq := q }, vitrine := v } := h.trans rfl

theorem vitrine_onlyFlushes (v : Vitrine) : OnlyFlushes w { s with vitrine := v } := h.trans rfl

theorem openSector_onlyFlushes (addr first : Nat) : OnlyFlushes w (openSector addr first s) := program_onlyFlushes h _ _

theorem dropFull_onlyFlushes : OnlyFlushes w (dropFull s) := vitrine_onlyFlushes h _

theorem ownRecord_onlyFlushes (code sev : Nat) (p : Bytes) : OnlyFlushes w (ownRecord code sev p s).2 :=
  vitrine_onlyFlushes h _

theorem writeRecord_onlyFlushes (key : Bytes) (r : Staged) : OnlyFlushes w (writeRecord key r s) := by
  unfold writeRecord
  dsimp only
  split
  · exact h
  · exact seal_onlyFlushes h _ _ _

theorem placeRecord_onlyFlushes (key : Bytes) (r : Staged) : OnlyFlushes w (placeRecord key r s) := by
  unfold placeRecord
  split
  · exact writeRecord_onlyFlushes h key r
  · split
    · exact writeRecord_onlyFlushes (openSector_onlyFlushes h _ _) key r
    · exact writeRecord_onlyFlushes h key r

theorem flushRecord_onlyFlushes (key : Bytes) (r : Staged) : OnlyFlushes w (flushRecord key r s) := by
  unfold flushRecord
  dsimp only
  split
  · exact placeRecord_onlyFlushes h key r
  · split
    · exact dropFull_onlyFlushes h
    · split
      · split
        · exact dropFull_onlyFlushes h
        · refine writeRecord_onlyFlushes (vitrine_onlyFlushes (writeRecord_onlyFlushes (openSector_onlyFlushes ?_ _ _) key _) _) key r
          exact ownRecord_onlyFlushes (vitrine_onlyFlushes h _) _ _ _
      · split
        · exact dropFull_onlyFlushes h
        · have told : OnlyFlushes w (setCause 3 (dropFull { (ownRecord 0x8B02 6 (pay [r.code + r.severity * 65536]) s).2 with
              vitrine := { (ownRecord 0x8B02 6 (pay [r.code + r.severity * 65536]) s).2.vitrine with fullWritten := true } })) :=
            onlyFlushes_host (dropFull_onlyFlushes (vitrine_onlyFlushes (ownRecord_onlyFlushes h _ _ _) _)) (setCause_onlyHost _ _)
          split
          · exact writeRecord_onlyFlushes told key _
          · exact told

theorem flushOldest_onlyFlushes : OnlyFlushes w (flushOldest s) := by
  unfold flushOldest
  split
  · split
    · exact flushRecord_onlyFlushes (vitrine_onlyFlushes h _) _ _
    · exact h
  · exact h

theorem writeOdometer_onlyFlushes : OnlyFlushes w (writeOdometer s) := by
  unfold writeOdometer
  dsimp only
  split
  · exact h
  · split <;> exact program_onlyFlushes h _ _

end

theorem flushMany_onlyFlushes (n : Nat) {w s : State} (h : OnlyFlushes w s) : OnlyFlushes w (flushMany n s) := by
  induction n generalizing s with
  | zero => exact h
  | succ n ih => exact ih (flushOldest_onlyFlushes h)

theorem flushAll_onlyFlushes (s : State) : OnlyFlushes s (flushAll s) := flushMany_onlyFlushes _ (OnlyFlushes.refl s)

/-- A flush leaves the inputs that a reset keeps. -/
theorem OnlyFlushes.restartInputs {s t : State} (h : OnlyFlushes s t) : restartInputs t = restartInputs s := by
  rw [h]
  rfl

/-- The Plinth alone is awake: PD1 to PD15 are off, and it holds the wakes of `q` (R53, R60). -/
def asleep (q : Secs) (s : State) : State :=
  { offDomains s with
    mode := .dormant
    plinth := { s.plinth with
      wakeSources := cpWakeSources q, wakeInterval := cpWakeInterval q, dormantSince := s.now } }

theorem execDormantEntry_runs {t : Nat} {s a : State} (ha : a = advance t s) : exec (.dormantEntry t) s = .next (
    if dormantAllowed a then asleep (secs a) (writeOdometer (flushAll a)) else a) := by
  subst ha
  show execDormantEntry t s = _
  unfold execDormantEntry
  dsimp only
  cases dormantAllowed (advance t s) <;> rfl

/-- Settles O13: entry by what the flush and the odometer leave alone, and what switching the domains off leaves. -/
theorem dormancyIsEntered : Obligations.DormancyIsEntered := by
  intro t s a ha
  refine ⟨fun allowed => ?enters, fun refused => ?stands⟩
  case enters =>
    refine ⟨_, by rw [execDormantEntry_runs ha, if_pos allowed], ?_⟩
    have written := writeOdometer_onlyFlushes (flushAll_onlyFlushes a)
    have inputs := (writeOdometer_onlyFlushes (OnlyFlushes.refl (flushAll a))).restartInputs
    generalize writeOdometer (flushAll a) = w at written inputs
    have pins : w.pins = a.pins := by rw [written]
    have fuses : w.benra.fuses = a.benra.fuses := by rw [written]
    have cs0 : w.cs0 = a.cs0 := by rw [written]
    have since : w.now = a.now := by rw [written]
    have cycles : w.plinth.powerCycles = a.plinth.powerCycles := by rw [written]
    refine ⟨rfl, rfl, rfl, rfl, ?inputs, rfl, fuses, cs0, rfl, ?pins, since, rfl, rfl, cycles⟩
    case inputs => rw [← inputs]; rfl
    case pins => rw [← pins]; rfl
  case stands => rw [execDormantEntry_runs ha, if_neg (by rw [refused]; decide)]

end Sys2Proof.StartProofs
end

section
/-! SUPPORT. The start of the clock and the repair of the memory (R60, R61, R73, R74, R76): the domains of BOOT, and the
repair of the banks one after the other (O9). -/

namespace Sys2Proof.StartProofs

open Sys2Proof Sys2Proof.Machine Sys2Proof.ImageProofs

/-! ### Domains (R60) -/

theorem foldl_domainOn (l : List Nat) (s : State) : l.foldl domainOn s
    = { s with pins := { s.pins with domains := l.foldl (fun m d => m ||| 1 <<< d) s.pins.domains } } := by
  induction l generalizing s with
  | nil => rfl
  | cons d l ih => exact ih (domainOn s d)

/-- BOOT switches PD1 to PD11 on. -/
theorem foldl_bootDomains (m : Nat) : bootDomains.foldl (fun m d => m ||| 1 <<< d) m = m ||| 0xFFE := by
  simp [bootDomains, Nat.lor_assoc]

theorem execPllLocked_starts {t : Nat} {s a : State} (ha : a = advance t s) (h : a.phase = .started) :
    exec (.pllLocked t) s = .next { a with
      phase := .clocked, epoch := a.now, pins := { a.pins with domains := a.pins.domains ||| 0xFFE } } := by
  subst ha
  show execPllLocked t s = _
  unfold execPllLocked
  dsimp only
  rw [if_pos (by rw [h]; decide), foldl_domainOn, foldl_bootDomains]

/-! ### What a repair touches -/

/-- `t` differs from `s` in the banks, in records, and in what a mild fault touches. -/
def OnlyRepairs (s t : State) : Prop :=
  t = { s with
    host := t.host, vitrine := t.vitrine, armature := t.armature
    plinth := { s.plinth with newestSeq := t.plinth.newestSeq, lastFaults := t.plinth.lastFaults }
    collector := { s.collector with inputs := t.collector.inputs }
    loops := { s.loops with inject := t.loops.inject, capture := t.loops.capture } }

theorem OnlyRepairs.refl (s : State) : OnlyRepairs s s := rfl

theorem OnlyRepairs.trans {s t u : State} (h : OnlyRepairs s t) (k : OnlyRepairs t u) : OnlyRepairs s u := by
  unfold OnlyRepairs at *
  rw [k, h]

theorem onlyRepairs_of_latches {s t : State} (h : OnlyLatches s t) : OnlyRepairs s t := by
  unfold OnlyLatches OnlyRepairs at *
  rw [h]

theorem setBank_onlyRepairs (s : State) (b : Nat) (x : Bank) : OnlyRepairs s (s.setBank b x) := rfl

theorem OnlyRepairs.isLive {s t : State} (h : OnlyRepairs s t) : isLive t = isLive s := by
  rw [h]
  rfl

theorem OnlyRepairs.columnsToRepair {s t : State} (h : OnlyRepairs s t) (failing : List (Nat × Nat)) (b : Nat) :
    columnsToRepair t failing b = columnsToRepair s failing b := by
  rw [h]
  rfl

theorem OnlyRepairs.bankFails {s t : State} (h : OnlyRepairs s t) (failing : List (Nat × Nat)) (b : Nat) :
    bankFails t failing b = bankFails s failing b := by
  rw [h]
  rfl

theorem OnlyRecords.bank {s t : State} (h : OnlyRecords s t) (b : Nat) : t.bank b = s.bank b := by
  rw [h]
  rfl

theorem OnlyLatches.bank {s t : State} (h : OnlyLatches s t) (b : Nat) : t.bank b = s.bank b := by
  rw [h]
  rfl

/-- An input that latches whenever it asserts is latched once its fault has been raised in BOOT, asserted before or not. -/
theorem chipFault_latched {code : Nat} {s : State} (l : List Nat) (early : isLive s = false)
    (h : (s.input code 0).asserted = true → (s.input code 0).latched = true) :
    ((chipFault code l s).input code 0).latched = true := by
  cases asserted : (s.input code 0).asserted with
  | false => exact (chipFault_raised code l early asserted).1
  | true =>
    have kept : (captureFault code (pay l) (stageRecord code 0 (pay l) s)).input code 0 = s.input code 0 := by
      unfold State.input
      rw [(captureFault_keeps _ _ _).1]
      exact OnlyRecords.input (stageRecord_onlyRecords code 0 (pay l) s) code 0
    unfold chipFault raiseFault assertInput
    rw [if_pos (by rw [kept]; exact asserted), kept]
    exact h asserted

/-! ### One bank (R73, R74) -/

section
variable {failing : List (Nat × Nat)} {s : State} {b : Nat}

theorem repairBank_failed (h : bankFails s failing b = true) : repairBank failing s b = chipFault 0x0203 [b] s := if_pos h

/-- A bank with spares enough takes them for its columns; the events besides touch records alone. -/
theorem repairBank_repaired (h : bankFails s failing b = false) :
    OnlyRecords (s.setBank b { s.bank b with softRepairs := columnsToRepair s failing b }) (repairBank failing s b) := by
  unfold repairBank
  rw [if_neg (by rw [h]; decide)]
  refine List.foldlRecOn (motive := OnlyRecords _) _ _ (OnlyRecords.refl _) ?_
  exact fun u hu c _ => hu.trans (event_onlyRecords _ _ u)

theorem repairBank_onlyRepairs (early : isLive s = false) : OnlyRepairs s (repairBank failing s b) := by
  cases h : bankFails s failing b with
  | true =>
    rw [repairBank_failed h]
    exact onlyRepairs_of_latches (chipFault_early 0x0203 [b] early)
  | false => exact (setBank_onlyRepairs s b _).trans (onlyRepairs_of_latches (repairBank_repaired h).latches)

theorem repairBank_softRepairs (h : bankFails s failing b = false) :
    ((repairBank failing s b).bank b).softRepairs = columnsToRepair s failing b := by
  rw [OnlyRecords.bank (repairBank_repaired h), State.bank_setBank]

theorem repairBank_other (early : isLive s = false) {k : Nat} (hk : k ≠ b) : (repairBank failing s b).bank k = s.bank k := by
  cases h : bankFails s failing b with
  | true =>
    rw [repairBank_failed h]
    exact OnlyLatches.bank (chipFault_early 0x0203 [b] early) k
  | false => rw [OnlyRecords.bank (repairBank_repaired h), State.bank_setBank_other _ _ _ _ hk]

end

/-! ### The banks one after the other -/

/-- The banks below `n` repaired, in their order. -/
def banksRepaired (failing : List (Nat × Nat)) (n : Nat) (a : State) : State := (List.range n).foldl (repairBank failing) a

theorem banksRepaired_succ (failing : List (Nat × Nat)) (n : Nat) (a : State) :
    banksRepaired failing (n + 1) a = repairBank failing (banksRepaired failing n a) n := by
  unfold banksRepaired
  rw [List.range_succ, List.foldl_append, List.foldl_cons, List.foldl_nil]

section
variable {a : State} (early : isLive a = false) (failing : List (Nat × Nat))
include early

theorem banksRepaired_onlyRepairs (n : Nat) : OnlyRepairs a (banksRepaired failing n a) := by
  induction n with
  | zero => exact OnlyRepairs.refl a
  | succ n ih =>
    rw [banksRepaired_succ]
    exact ih.trans (repairBank_onlyRepairs (ih.isLive.trans early))

theorem banksRepaired_softRepairs (n : Nat) : ∀ b, b < n → bankFails a failing b = false →
    ((banksRepaired failing n a).bank b).softRepairs = columnsToRepair a failing b := by
  induction n with
  | zero => exact fun b hb => absurd hb (Nat.not_lt_zero b)
  | succ n ih =>
    intro b hb enough
    have before := banksRepaired_onlyRepairs early failing n
    rw [banksRepaired_succ]
    by_cases hbn : b = n
    · subst hbn
      rw [repairBank_softRepairs ((before.bankFails failing b).trans enough), before.columnsToRepair]
    · rw [repairBank_other (before.isLive.trans early) hbn]
      exact ih b (by omega) enough

/-- Fault 0x0203, idle before, asserts only as it latches, and is latched once a bank has failed. -/
theorem banksRepaired_fault (idle : (a.input 0x0203 0).asserted = false) (n : Nat) :
    (((banksRepaired failing n a).input 0x0203 0).asserted = true → ((banksRepaired failing n a).input 0x0203 0).latched = true) ∧
      ∀ k, k < n → bankFails a failing k = true → ((banksRepaired failing n a).input 0x0203 0).latched = true := by
  induction n with
  | zero => exact ⟨fun asserted => absurd (idle.symm.trans asserted) (by decide), fun k hk => absurd hk (Nat.not_lt_zero k)⟩
  | succ n ih =>
    obtain ⟨sound, failed⟩ := ih
    have before := banksRepaired_onlyRepairs early failing n
    rw [banksRepaired_succ]
    cases h : bankFails (banksRepaired failing n a) failing n with
    | true =>
      have latched := chipFault_latched [n] (before.isLive.trans early) sound
      rw [repairBank_failed h]
      exact ⟨fun _ => latched, fun _ _ _ => latched⟩
    | false =>
      have kept : (repairBank failing (banksRepaired failing n a) n).input 0x0203 0 = (banksRepaired failing n a).input 0x0203 0 :=
        OnlyRecords.input (repairBank_repaired h) 0x0203 0
      rw [kept]
      refine ⟨sound, fun k hk fails => failed k ?_ fails⟩
      have : k ≠ n := fun e => by rw [before.bankFails, ← e, fails] at h; exact absurd h (by decide)
      omega

end

/-! ### MBIST -/

/-- The banks that have more failing columns than spares. -/
def failedBanks (failing : List (Nat × Nat)) (a : State) : List Nat := (List.range 8).filter (bankFails a failing)

theorem mem_failedBanks {failing : List (Nat × Nat)} {a : State} {b : Nat} :
    b ∈ failedBanks failing a ↔ b < 8 ∧ bankFails a failing b = true := by
  simp [failedBanks]

theorem failedBanks_contains {failing : List (Nat × Nat)} {a : State} {b : Nat} (hb : b < 8) :
    (failedBanks failing a).contains b = bankFails a failing b := by
  rw [Bool.eq_iff_iff, List.contains_iff_mem, mem_failedBanks]
  simp [hb]

/-- MBIST has ended, and each bank has been repaired as far as its spares reach. -/
def mbistEnded (failing : List (Nat × Nat)) (a : State) : State :=
  let r := banksRepaired failing 8 a
  { r with
    phase := if (failedBanks failing a).isEmpty then .repaired else .repairFailed
    host := { r.host with silent := (failedBanks failing a).contains 0 && (failedBanks failing a).contains 1 }
    tap := { r.tap with mbistResult := leNat ((List.range 8).map (fun b => byte (flag (failing.any (·.1 == b))))) }
    plinth := { r.plinth with suspects := r.plinth.suspects.filter (fun x => (failedBanks failing a).contains x.1) } }

theorem execMbistComplete_runs {t : Nat} {failing : List (Nat × Nat)} {s a : State} (ha : a = advance t s)
    (h : a.phase = .clocked) : exec (.mbistComplete t failing) s = .next (mbistEnded failing a) := by
  subst ha
  show execMbistComplete t failing s = _
  unfold execMbistComplete
  dsimp only
  rw [if_neg (by rw [h]; decide)]
  rfl

/-- Settles O9: the lock by the domains it switches on, MBIST by what the repair of all banks leaves and latches. -/
theorem memoryIsTestedAndRepaired : Obligations.MemoryIsTestedAndRepaired := by
  intro t failing s a ha
  refine ⟨execPllLocked_starts ha, ?repaired, ?failed⟩
  case repaired =>
    intro clocked enough
    refine ⟨_, execMbistComplete_runs ha clocked, ?_⟩
    have early := isLive_eq_false (s := a) (by rw [clocked]; decide)
    have repairs := banksRepaired_onlyRepairs early failing 8
    have soft := banksRepaired_softRepairs early failing 8
    have none : failedBanks failing a = [] := by
      refine List.eq_nil_iff_forall_not_mem.mpr fun b hb => ?_
      obtain ⟨hlt, fails⟩ := mem_failedBanks.mp hb
      exact absurd ((enough b hlt).symm.trans fails) (by decide)
    unfold mbistEnded
    rw [none]
    generalize banksRepaired failing 8 a = r at repairs soft
    refine ⟨rfl, ?_, ?_, rfl, ?_, ?_, ?_, fun b hb => soft b hb (enough b hb)⟩
    case refine_2 => exact List.filter_eq_nil_iff.mpr (fun _ _ => by simp)
    all_goals rw [repairs]
  case failed =>
    intro k clocked hk fails
    refine ⟨_, execMbistComplete_runs ha clocked, ?_⟩
    have early := isLive_eq_false (s := a) (by rw [clocked]; decide)
    have repairs := banksRepaired_onlyRepairs early failing 8
    have latched := fun idle => (banksRepaired_fault early failing idle 8).2 k hk fails
    have some : (failedBanks failing a).isEmpty = false :=
      List.isEmpty_eq_false_iff_exists_mem.mpr ⟨k, mem_failedBanks.mpr ⟨hk, fails⟩⟩
    unfold mbistEnded
    rw [some]
    generalize banksRepaired failing 8 a = r at repairs latched
    have suspects : r.plinth.suspects = a.plinth.suspects := by rw [repairs]
    refine ⟨rfl, ?mode, fun x => ?suspects, latched, ?silent⟩
    case mode => rw [repairs]
    case suspects =>
      show x ∈ r.plinth.suspects.filter _ ↔ _
      rw [List.mem_filter, List.contains_iff_mem, mem_failedBanks, suspects]
    case silent =>
      show ((failedBanks failing a).contains 0 && (failedBanks failing a).contains 1) = _
      rw [failedBanks_contains (by decide), failedBanks_contains (by decide)]

end Sys2Proof.StartProofs
end

section
/-! SUPPORT. The memory while the chip runs (R67 to R72, R76, R365) and the die temperature: what an access, a scrub pass and
a temperature do (O14). -/

namespace Sys2Proof.StartProofs

open Sys2Proof Sys2Proof.Machine Sys2Proof.ImageProofs

theorem isLive_of_running {s : State} (h : running s = true) : isLive s = true := by
  unfold running at h
  rw [Bool.and_eq_true] at h
  exact h.1

/-! ### One access (R67, R69 to R71) -/

/-- An access that waited is counted, and told at most by a record. -/
theorem noteConflict_keeps (m : Nat) (s : State) :
    (noteConflict m s).mode = s.mode ∧ running (noteConflict m s) = running s := by
  unfold noteConflict
  dsimp only
  split
  · rw [event_onlyRecords]
    exact ⟨rfl, rfl⟩
  · exact ⟨rfl, rfl⟩

theorem waited_keeps (x : BankAccess) (s : State) :
    (if x.waited then noteConflict x.master s else s).mode = s.mode ∧
      running (if x.waited then noteConflict x.master s else s) = running s := by
  split
  · exact noteConflict_keeps x.master s
  · exact ⟨rfl, rfl⟩

section
variable {bank : Nat} {x : BankAccess} {s v : State} (hv : v = if x.waited then noteConflict x.master s else s)
include hv

theorem bankAccess_parity (hp : x.parityBad = true) :
    bankAccess bank x s = chipPulse 0x0207 [x.master, bank] (answerMaster x.master true v) := by
  subst hv
  unfold bankAccess
  exact if_pos hp

variable (hp : x.parityBad = false)
include hp

theorem bankAccess_refused (ht : bankAllows s.mode bank (bankMaster x.master) x.write = false) :
    bankAccess bank x s = chipPulse 0x0206 [x.master, bank] (answerMaster x.master true v) := by
  subst hv
  unfold bankAccess
  dsimp only
  rw [if_neg (by rw [hp]; decide), if_pos (by rw [(waited_keeps x s).1, ht]; decide)]

variable (ht : bankAllows s.mode bank (bankMaster x.master) x.write = true)
include ht

/-- An access that Table 3.7 serves: the SECDED code decides what a read is answered. -/
theorem bankAccess_served : bankAccess bank x s =
    if x.write || x.wrongBits = 0 then answerMaster x.master false v
    else if x.wrongBits = 1 then answerMaster x.master false
      (v.setBank bank { v.bank bank with corrections := sat32 (v.bank bank).corrections 1 })
    else chipPulse 0x0201 [bank, x.word] (answerMaster x.master true
      (v.setBank bank { v.bank bank with doubleErrors := sat32 (v.bank bank).doubleErrors 1 })) := by
  subst hv
  unfold bankAccess
  dsimp only
  rw [if_neg (by rw [hp]; decide), if_neg (by rw [(waited_keeps x s).1, ht]; decide)]

theorem bankAccess_sound (h : x.write = true ∨ x.wrongBits = 0) : bankAccess bank x s = answerMaster x.master false v := by
  rw [bankAccess_served hv hp ht, if_pos (by simpa using h)]

theorem bankAccess_corrected (hr : x.write = false) (h : x.wrongBits = 1) : bankAccess bank x s
    = answerMaster x.master false (v.setBank bank { v.bank bank with corrections := sat32 (v.bank bank).corrections 1 }) := by
  rw [bankAccess_served hv hp ht, if_neg (by simp [hr, h]), if_pos h]

theorem bankAccess_double (hr : x.write = false) (h : 2 ≤ x.wrongBits) : bankAccess bank x s
    = chipPulse 0x0201 [bank, x.word] (answerMaster x.master true
      (v.setBank bank { v.bank bank with doubleErrors := sat32 (v.bank bank).doubleErrors 1 })) := by
  rw [bankAccess_served hv hp ht, if_neg (by simp [hr]; omega), if_neg (by omega)]

end

/-! ### A scrub pass (R70, R72, R76, R365) -/

/-- The counters of a bank after a pass with `k` corrections and `d` words with two bits in error. -/
def passCounted (bank k d : Nat) (s : State) : State :=
  s.setBank bank { s.bank bank with
    corrections := sat32 (s.bank bank).corrections k, scrubPasses := sat32 (s.bank bank).scrubPasses 1
    doubleErrors := sat32 (s.bank bank).doubleErrors d }

section
variable {bank : Nat} {s : State}

theorem scrubPass_clean {columns : List (Nat × Nat)} {contexts : List (Nat × Bytes)}
    (hcols : ∀ x ∈ columns, x.2 ≤ cpColumnSuspect (secs s)) (hctx : ∀ x ∈ contexts, bank ≠ 2 ∨ crcDiffers s x = false) :
    scrubPass bank columns [] contexts s = passCounted bank ((columns.map (·.2)).sum) 0 s := by
  have unsuspected : columns.filter (fun c => decide (cpColumnSuspect (secs s) < c.2)) = [] :=
    List.filter_eq_nil_iff.mpr fun c hc => by simpa using hcols c hc
  have kept : ∀ u, u = passCounted bank ((columns.map (·.2)).sum) 0 s → ∀ x ∈ contexts,
      (if isLive u && bank == 2 && crcDiffers u x then chipPulse 0x0C06 [x.1 % 0x1000] u else u) = u := by
    intro u hu x hx
    have same : crcDiffers u x = crcDiffers s x := by rw [hu]; rfl
    refine if_neg ?_
    rw [same]
    rcases hctx x hx with h | h
    · simp [h]
    · simp [h]
  unfold scrubPass
  dsimp only
  rw [show secs (s.setBank bank _) = secs s from rfl, unsuspected]
  refine List.foldlRecOn (motive := (· = passCounted bank ((columns.map (·.2)).sum) 0 s)) _ _ rfl ?_
  exact fun u hu x hx => (kept u hu x hx).trans hu

variable (live : isLive s = true)
include live

theorem scrubPass_column {c n : Nat} (h : cpColumnSuspect (secs s) < n) :
    scrubPass bank [(c, n)] [] [] s = suspect bank c (passCounted bank n 0 s) := by
  have suspected : [(c, n)].filter (fun c => decide (cpColumnSuspect (secs s) < c.2)) = [(c, n)] := by simp [h]
  unfold scrubPass
  dsimp only
  rw [show secs (s.setBank bank _) = secs s from rfl, suspected]
  exact if_pos live

theorem scrubPass_double (w : Nat) :
    scrubPass bank [] [w] [] s = chipPulse 0x0201 [bank, w] (passCounted bank 0 1 s) := if_pos live

theorem scrubPass_context {x : Nat × Bytes} (h2 : bank = 2) (h : crcDiffers s x = true) :
    scrubPass bank [] [] [x] s = chipPulse 0x0C06 [x.1 % 0x1000] (passCounted bank 0 0 s) := by
  refine if_pos ?_
  rw [Bool.and_eq_true, Bool.and_eq_true]
  exact ⟨⟨live, beq_iff_eq.mpr h2⟩, h⟩

end

section
variable {t bank : Nat} {s a : State} (ha : a = advance t s) (hr : running a = true) (hb : bank < 8)
include ha hr hb

theorem execScrubPassComplete_quiet (words : ScrubWords) (contexts : List (Nat × Bytes)) :
    exec (.scrubPassComplete t bank [] words contexts) s = .next (scrubPass bank words.columns words.doubles contexts a) := by
  subst ha
  show execScrubPassComplete t bank [] words contexts s = _
  unfold execScrubPassComplete
  dsimp only
  rw [if_neg (by rw [hr]; simpa using hb)]
  exact congrArg Host.Outcome.next (if_pos hr)

/-- One access, and then the scrubber's own part where the chip still runs. -/
theorem execScrubPassComplete_accessed {x : BankAccess} {u : State} (hu : bankAccess bank x a = u) (run : running u = true) :
    exec (.scrubPassComplete t bank [x] ⟨[], []⟩ []) s = .next (scrubPass bank [] [] [] u) := by
  subst ha
  have accessed : bankAccesses bank [x] (advance t s) = u := (if_pos (isLive_of_running hr)).trans hu
  show execScrubPassComplete t bank [x] ⟨[], []⟩ [] s = _
  unfold execScrubPassComplete
  dsimp only
  rw [if_neg (by rw [hr]; simpa using hb), accessed, if_pos run]

end

/-! ### The die temperature (Table 3.9) -/

/-- A fault of another code leaves an input of class CHIP as it was, where its reaction is mild. -/
theorem chipFault_input_other {code other : Nat} {s : State} (l : List Nat)
    (hm : mildReaction (reactionOf s code 0) = true) (hne : faultKey other 0 ≠ faultKey code 0) :
    (chipFault code l s).input other 0 = s.input other 0 := by
  have records : OnlyLatches s (captureFault code (pay l) (stageRecord code 0 (pay l) s)) :=
    (stageRecord_onlyRecords _ _ _ _).latches.trans (captureFault_onlyLatches _ _ _)
  unfold chipFault raiseFault
  rw [assertInput_input_other _ (by rw [records.reactionOf]; exact hm) hne]
  unfold State.input
  rw [(captureFault_keeps _ _ _).1]
  exact OnlyRecords.input (stageRecord_onlyRecords code 0 (pay l) s) other 0

/-- Fault 0x0104 after a sample of the die temperature. -/
def tempWarned (tj : Int) (s : State) : State :=
  if cpTjWarn (secs s) ≤ tj then (if (s.input 0x0104 0).asserted then s else chipFault 0x0104 [] s) else lowerFault 0x0104 0 s

section
variable {t : Nat} {tj : Int} {s a b : State} (ha : a = advance t s) (hr : running a = true)
  (hb : b = { a with pins := { a.pins with tj := tj } })
include ha hr hb

theorem execDieTempUpdate_runs (live : isLive (tempWarned tj b) = true) : exec (.dieTempUpdate t tj) s =
    if cpTjLimit (secs a) ≤ tj then
      if ((tempWarned tj b).input 0x0103 0).asserted then .next (tempWarned tj b)
      else .next (chipFault 0x0103 [] (tempWarned tj b))
    else .next (lowerFault 0x0103 0 (tempWarned tj b)) := by
  subst ha hb
  have run : ¬ (!running (advance t s)) = true := by rw [hr]; decide
  have still : ¬ (!isLive (tempWarned tj { advance t s with pins := { (advance t s).pins with tj := tj } })) = true := by
    rw [live]; decide
  show execDieTempUpdate t tj s = _
  unfold execDieTempUpdate
  exact (if_neg run).trans (if_neg still)

theorem dieTemp_cool (hw : cpTjWarn (secs a) < cpTjLimit (secs a)) (h : tj < cpTjWarn (secs a)) :
    exec (.dieTempUpdate t tj) s = .next (lowerFault 0x0103 0 (lowerFault 0x0104 0 b)) := by
  have same : secs b = secs a := by rw [hb]; rfl
  have warned : tempWarned tj b = lowerFault 0x0104 0 b := if_neg (by rw [same]; omega)
  have live : isLive (tempWarned tj b) = true := by
    rw [warned, (lowerFault_onlyLatches _ _ _).isLive, hb]
    exact isLive_of_running hr
  rw [execDieTempUpdate_runs ha hr hb live, if_neg (by omega), warned]

omit ha in
/-- At or above TJ_WARN with 0x0104 idle and mild, the fault is raised and the chip goes on. -/
theorem tempWarned_raises (h : cpTjWarn (secs a) ≤ tj) (mild : mildReaction (reactionOf a 0x0104 0) = true)
    (idle : (a.input 0x0104 0).asserted = false) :
    tempWarned tj b = chipFault 0x0104 [] b ∧ isLive (tempWarned tj b) = true ∧
      (tempWarned tj b).input 0x0103 0 = a.input 0x0103 0 := by
  have same : secs b = secs a ∧ b.input 0x0104 0 = a.input 0x0104 0 := by rw [hb]; exact ⟨rfl, rfl⟩
  have warned : tempWarned tj b = chipFault 0x0104 [] b := by
    unfold tempWarned
    rw [if_pos (by rw [same.1]; exact h), if_neg (by rw [same.2, idle]; decide)]
  refine ⟨warned, ?_, ?_⟩
  · rw [warned, chipFault, (raiseFault_mild _ (by rw [hb]; exact mild)).isLive, hb]
    exact isLive_of_running hr
  · rw [warned, chipFault_input_other [] (by rw [hb]; exact mild) (by decide), hb]
    rfl

theorem dieTemp_warm (h : cpTjWarn (secs a) ≤ tj) (below : tj < cpTjLimit (secs a))
    (mild : mildReaction (reactionOf a 0x0104 0) = true) (idle : (a.input 0x0104 0).asserted = false) :
    exec (.dieTempUpdate t tj) s = .next (lowerFault 0x0103 0 (chipFault 0x0104 [] b)) := by
  obtain ⟨warned, live, -⟩ := tempWarned_raises hr hb h mild idle
  rw [execDieTempUpdate_runs ha hr hb live, if_neg (by omega), warned]

theorem dieTemp_hot (hw : cpTjWarn (secs a) < cpTjLimit (secs a)) (h : cpTjLimit (secs a) ≤ tj)
    (mild : mildReaction (reactionOf a 0x0104 0) = true) (idle : (a.input 0x0104 0).asserted = false)
    (cool : (a.input 0x0103 0).asserted = false) :
    exec (.dieTempUpdate t tj) s = .next (chipFault 0x0103 [] (chipFault 0x0104 [] b)) := by
  obtain ⟨warned, live, kept⟩ := tempWarned_raises hr hb (by omega) mild idle
  rw [execDieTempUpdate_runs ha hr hb live, if_pos h, if_neg (by rw [kept, cool]; decide), warned]

end

/-- Settles O14: a pass by what it found, one access by its answer, a temperature by the limits it reaches. -/
theorem scrubbingTemperatureAndPowerFail : Obligations.ScrubbingTemperatureAndPowerFail := by
  intro t s a ha
  refine ⟨fun hr => ?clean, fun hr => ?found, fun hr => ?accessed, fun hr => ?temperature, ?powerFail⟩
  case clean =>
    intro bank columns contexts hb hcols hctx
    rw [execScrubPassComplete_quiet ha hr hb, scrubPass_clean hcols hctx]
    rfl
  case found =>
    intro bank c n w x hb hn b h
    subst h
    have live := isLive_of_running hr
    refine ⟨?column, ?double, fun h2 hx => ?context⟩
    case column => rw [execScrubPassComplete_quiet ha hr hb, scrubPass_column live hn]; rfl
    case double => rw [execScrubPassComplete_quiet ha hr hb, scrubPass_double live]; rfl
    case context => rw [execScrubPassComplete_quiet ha hr hb, scrubPass_context live h2 hx]; rfl
  case accessed =>
    intro bank x v r e hb hv hbank he
    subst hbank he
    have run : running v = true := by rw [hv, (waited_keeps x a).2, hr]
    refine ⟨fun hp u hu goes => ?parity, fun hp ht u hu goes => ?refused,
      fun hp ht => ⟨fun h => ?sound, fun hw h => ?corrected, fun hw h u hu goes => ?double⟩⟩
    case parity => exact execScrubPassComplete_accessed ha hr hb ((bankAccess_parity hv hp).trans hu.symm) goes
    case refused => exact execScrubPassComplete_accessed ha hr hb ((bankAccess_refused hv hp ht).trans hu.symm) goes
    case sound => exact execScrubPassComplete_accessed ha hr hb (bankAccess_sound hv hp ht h) run
    case corrected => exact execScrubPassComplete_accessed ha hr hb (bankAccess_corrected hv hp ht hw h) run
    case double => exact execScrubPassComplete_accessed ha hr hb ((bankAccess_double hv hp ht hw h).trans hu.symm) goes
  case temperature =>
    intro tj b hb hw
    exact ⟨dieTemp_cool ha hr hb hw, dieTemp_warm ha hr hb, dieTemp_hot ha hr hb hw⟩
  case powerFail =>
    subst ha
    rfl

end Sys2Proof.StartProofs
end

section
/-! SUPPORT. SERVICE sessions and the host's restart (R59, R171, R173, R300, R411): what the end of a session touches, and
the answers of the commands (O21). -/

namespace Sys2Proof.StartProofs

open Sys2Proof Sys2Proof.Machine Sys2Proof.ImageProofs

/-! ### The end of a session -/

/-- `t` differs from `s` in records and in what a session's end gives back: loops, injections and margins (R171, R173, R300). -/
def OnlyGivesBack (s t : State) : Prop :=
  t = { s with
    host := t.host, vitrine := t.vitrine, plinth := { s.plinth with newestSeq := t.plinth.newestSeq }
    loops := t.loops, modul := t.modul, seq := t.seq }

theorem OnlyGivesBack.refl (s : State) : OnlyGivesBack s s := rfl

theorem OnlyGivesBack.trans {s t u : State} (h : OnlyGivesBack s t) (k : OnlyGivesBack t u) : OnlyGivesBack s u := by
  unfold OnlyGivesBack at *
  rw [k, h]

section
variable {w s : State} (h : OnlyGivesBack w s)
include h

theorem event_onlyGivesBack (code : Nat) (l : List Nat) : OnlyGivesBack w (event code l s) := by
  refine h.trans ?_
  unfold OnlyGivesBack
  rw [event_onlyRecords code l s]

theorem setLoops_onlyGivesBack (l : Loops) : OnlyGivesBack w { s with loops := l } := h.trans rfl

theorem setCtx_onlyGivesBack (c : Nat) (x : Ctx) : OnlyGivesBack w (s.setCtx c x) := h.trans rfl

theorem setStage_onlyGivesBack (g : Nat) (x : Stage) : OnlyGivesBack w (s.setStage g x) := h.trans rfl

theorem setRail_onlyGivesBack (r : Nat) (x : Rail) : OnlyGivesBack w (s.setRail r x) := h.trans rfl

theorem closeLoop_onlyGivesBack (c cause : Nat) : OnlyGivesBack w (closeLoop c cause s) := by
  unfold closeLoop
  dsimp only
  split
  · exact h
  · exact event_onlyGivesBack (setCtx_onlyGivesBack h c _) _ _

theorem stopInject_onlyGivesBack (cause : Nat) : OnlyGivesBack w (stopInject cause s) := by
  unfold stopInject
  split
  · exact h
  · exact event_onlyGivesBack (setLoops_onlyGivesBack h _) _ _

theorem closeLoops_onlyGivesBack : OnlyGivesBack w (closeLoops s) := by
  refine stopInject_onlyGivesBack ?_ injSession
  refine List.foldlRecOn (motive := OnlyGivesBack w) _ _ h ?_
  exact fun u hu c _ => closeLoop_onlyGivesBack hu c loopSession

theorem marginMoves_onlyGivesBack (g : Nat) : OnlyGivesBack w (marginMoves g s) := by
  unfold marginMoves
  refine List.foldlRecOn (motive := OnlyGivesBack w) _ _ h ?_
  exact fun u hu r _ => setRail_onlyGivesBack hu r _

theorem setMargin_onlyGivesBack (g : Nat) (steps : Int) : OnlyGivesBack w (setMargin g steps s) :=
  event_onlyGivesBack (marginMoves_onlyGivesBack (setStage_onlyGivesBack h g _) g) _ _

theorem releaseMargins_onlyGivesBack : OnlyGivesBack w (releaseMargins s) := by
  unfold releaseMargins
  refine List.foldlRecOn (motive := OnlyGivesBack w) _ _ h ?_
  intro u hu g _
  split
  · exact hu
  · exact setMargin_onlyGivesBack hu g 0

end

/-- An open session ends with what it held given back. -/
theorem endSession_open {x : Session} {s : State} (cause : Nat) (hx : s.benra.session = some x) :
    OnlyGivesBack { s with benra := { s.benra with session := none } } (endSession cause s) := by
  unfold endSession
  rw [hx]
  exact event_onlyGivesBack (releaseMargins_onlyGivesBack (closeLoops_onlyGivesBack (OnlyGivesBack.refl _))) _ _

/-- SERVICE is left for the mode underneath, without a session. -/
theorem leaveService_leaves {x : Session} {s : State} (cause : Nat) (hx : s.benra.session = some x) (hm : s.mode = .service) :
    (leaveService cause s).mode = s.under ∧ (leaveService cause s).benra.session = none := by
  have ended := endSession_open cause hx
  unfold leaveService
  dsimp only
  generalize endSession cause s = e at ended
  have mode : e.mode = .service := by rw [ended]; exact hm
  have under : e.under = s.under := by rw [ended]
  have closed : e.benra.session = none := by rw [ended]
  rw [if_pos (by rw [mode]; decide), setMode_onlyHost]
  exact ⟨under, closed⟩

/-! ### The commands (R59, R411) -/

/-- An admitted command that ends with a status of its own is answered so, and what follows the answer runs. -/
theorem runThen_answers {c : CmdSpec} {rq : CmdReq} {s u w : State} {body : Bytes → State → CmdEnd} {st : Nat} {data : Bytes}
    (after : Nat → State → State) (h : admitCmd c rq s = some u) (hb : body rq.data u = (st, data, w)) (hst : st ≠ stLater) :
    ∃ v, Answers rq st data w v ∧ runThen c rq body after s = after st v := by
  rw [runThen_admit body after h, hb]
  exact ⟨_, settle_answers _ c rq (st, data, w) hst, rfl⟩

/-- SERVICE is entered over the mode of `u`, and the session of channel `c` opened. -/
def serviceOpened (c : Nat) (u : State) : State :=
  event 0x8D05 [c] (setMode .service { u with
    under := u.mode, benra := { u.benra with session := some { channel := c, lastCmd := u.now } } })

theorem serviceOpen_done {u : State} (c : Nat) (d : Bytes) (hs : u.benra.session = none)
    (hm : u.mode = .standby ∨ u.mode = .run) (ho : activeOwner u ≠ none) :
    serviceOpen c d u = (stDone, [], serviceOpened c u) := by
  have ready : ¬ (!(u.mode == .standby || u.mode == .run) || (activeOwner u).isNone) = true := by
    rcases hm with h | h <;> simp [h, ho]
  unfold serviceOpen
  rw [if_neg (by rw [hs]; decide), if_neg ready]
  rfl

theorem serviceOpened_enters (c : Nat) (u : State) : (serviceOpened c u).mode = .service ∧ (serviceOpened c u).under = u.mode ∧
    (serviceOpened c u).benra.session = some { channel := c, lastCmd := u.now } := by
  unfold serviceOpened
  rw [event_onlyRecords, setMode_onlyHost]
  exact ⟨rfl, rfl, rfl⟩

theorem serviceClose_done {x : Session} {u : State} (d : Bytes) (hx : u.benra.session = some x) :
    serviceClose d u = (stDone, [], leaveService 1 u) := by
  unfold serviceClose
  rw [if_neg (by rw [hx]; exact Bool.false_ne_true)]
  rfl

theorem execServiceTimeout_runs {t : Nat} {x : Session} {s a : State} (ha : a = advance t s) (hx : a.benra.session = some x) :
    exec (.serviceTimeout t) s = if x.lastCmd + trServiceTimeout (trustOf a) * secTicks ≤ a.now then .next (leaveService 2 a)
      else .next a := by
  subst ha
  show execServiceTimeout t s = _
  unfold execServiceTimeout
  simp only [hx]

theorem chipRestart_done {u : State} (d : Bytes) (hm : u.mode ≠ .run) : chipRestart d u = (stDone, [], u) := by
  unfold chipRestart
  rw [if_neg (by rw [beq_false_of_ne hm]; decide)]
  rfl

theorem chipRestart_wrongMode {u : State} (d : Bytes) (hm : u.mode = .run) : chipRestart d u = (stWrongMode, [], u) := by
  unfold chipRestart
  rw [if_pos (by rw [hm]; decide)]
  rfl

/-- Settles O21: each command by the answer of its body, the time limit by its condition. -/
theorem serviceSessions : Obligations.ServiceSessions := by
  intro t rq s a u ha
  refine ⟨?opens, ?closes, ?expires, ?stays, ?restarts⟩
  case opens =>
    intro hadm hs hm ho
    subst ha
    have answered := admitted_answers hadm (serviceOpen_done (channelOf rq) rq.data hs hm ho) (by decide)
    obtain ⟨mode, under, session⟩ := serviceOpened_enters (channelOf rq) u
    refine ⟨_, rfl, ?_, ?_, ?_, answered⟩ <;> rw [answered.1]
    · exact mode
    · exact under
    · exact session
  case closes =>
    intro x hadm hx hm
    subst ha
    have answered := admitted_answers hadm (serviceClose_done rq.data hx) (by decide)
    obtain ⟨mode, session⟩ := leaveService_leaves 1 hx hm
    refine ⟨_, rfl, ?_, ?_, answered⟩ <;> rw [answered.1]
    · exact mode
    · exact session
  case expires =>
    intro x hx hm due
    obtain ⟨mode, session⟩ := leaveService_leaves 2 hx hm
    exact ⟨_, (execServiceTimeout_runs ha hx).trans (if_pos due), mode, session, rfl⟩
  case stays =>
    intro x hx early
    exact (execServiceTimeout_runs ha hx).trans (if_neg (by omega))
  case restarts =>
    intro hadm
    subst ha
    refine ⟨fun hm => ?outside, fun hm => ?running⟩
    case outside =>
      obtain ⟨w, answered, run⟩ := runThen_answers (fun st v => if st = stDone then resetChip 0x06 v else v) hadm
        (chipRestart_done rq.data hm) (by decide)
      exact ⟨_, congrArg Host.Outcome.next (run.trans (if_pos rfl)), w, answered, resetChip_resetBy 0x06 w⟩
    case running =>
      obtain ⟨w, answered, run⟩ := runThen_answers (fun st v => if st = stDone then resetChip 0x06 v else v) hadm
        (chipRestart_wrongMode rq.data hm) (by decide)
      exact ⟨w, congrArg Host.Outcome.next (run.trans (if_neg (by decide))), answered⟩

end Sys2Proof.StartProofs
end

section
/-! SUPPORT. The training of a tile port (R81, R83, R93 to R95): the rules of a port's state, the commands of an attempt,
and how an attempt fails or succeeds (O23, O24). -/

namespace Sys2Proof.LinkProofs

open Sys2Proof Sys2Proof.Machine Sys2Proof.StartProofs

/-! ### One port of the state -/

@[simp] theorem setPort_setPort (s : State) (p : Nat) (x y : TPort) : (s.setPort p x).setPort p y = s.setPort p y := by
  simp [State.setPort]

@[simp] theorem secs_setPort (s : State) (p : Nat) (x : TPort) : secs (s.setPort p x) = secs s := rfl

@[simp] theorem isLive_setPort (s : State) (p : Nat) (x : TPort) : isLive (s.setPort p x) = isLive s := rfl

@[simp] theorem linkUp_setPort (s : State) (p : Nat) (x : TPort) : linkUp (s.setPort p x) = linkUp s := rfl

theorem isLive_of_linkUp {s : State} (up : linkUp s = true) : isLive s = true := by
  unfold linkUp at up
  rw [Bool.and_eq_true] at up
  exact isLive_of_running up.1

theorem onlyPort_setPort (p : Nat) (s : State) (x : TPort) : OnlyPort p s (s.setPort p x) := by
  unfold OnlyPort
  rw [State.port_setPort]

/-- An operation put on a port's queue (R88). -/
theorem queueSvc_eq (p op addr data : Nat) (s : State) : queueSvc p op addr data s
    = s.setPort p { s.port p with svcQueue := (s.port p).svcQueue ++ [⟨op, 0, addr, data⟩] } := rfl

theorem queueSvc_setPort (p op addr data : Nat) (s : State) (x : TPort) : queueSvc p op addr data (s.setPort p x)
    = s.setPort p { x with svcQueue := x.svcQueue ++ [⟨op, 0, addr, data⟩] } := by
  rw [queueSvc_eq, State.port_setPort, setPort_setPort]

/-! ### An attempt fails (R93) -/

/-- What a failed attempt leaves of a port before its next phase: the lane carries TS1 (Table 4.12). -/
def attemptOver (now : Nat) (x : TPort) : TPort :=
  sendLine ts1Chars { x with
    attempts := x.attempts + 1, measured := false, checked := false, readBack := [], svc := none, svcQueue := []
    failedAt := now }

section
variable {p : Nat} {s : State} (up : linkUp s = true)
include up

theorem attemptFails_again (h : (s.port p).failedBefore = true) : attemptFails p s
    = s.setPort p { attemptOver (rackTime s) (s.port p) with phase := .failed } := by
  unfold attemptFails
  dsimp only
  rw [if_neg (by simp [up]), if_pos (by exact h)]
  rfl

theorem attemptFails_waits (h : (s.port p).failedBefore = false) (more : (s.port p).attempts + 1 < tmTrainAttempts (secs s)) :
    attemptFails p s = s.setPort p { attemptOver (rackTime s) (s.port p) with phase := .trainLock, waiting := true } := by
  unfold attemptFails
  dsimp only
  rw [if_neg (by simp [up]), if_neg (by exact ne_true_of_eq_false h), if_neg (by omega)]
  rfl

theorem attemptFails_last (h : (s.port p).failedBefore = false) (last : tmTrainAttempts (secs s) ≤ (s.port p).attempts + 1) :
    attemptFails p s = portFault 0x0402 p []
      (s.setPort p { attemptOver (rackTime s) (s.port p) with phase := .failed, failedBefore := true }) := by
  unfold attemptFails
  dsimp only
  rw [if_neg (by simp [up]), if_neg (by exact ne_true_of_eq_false h), if_pos last]
  rfl

end

/-! ### The times of an attempt (R93, assumption 72) -/

/-- The instant from which the next attempt of a port may begin. -/
def nextAttemptDue (x : TPort) : Nat := if x.phase = .failed then x.failedAt + secTicks else x.attemptAt + 10 * msTicks

section
variable {t port : Nat} {s a : State} (ha : a = advance t s)
include ha

theorem execTrainAttemptTimeout_early (early : rackTime a < (a.port port).attemptAt + 3 * msTicks) :
    exec (.trainAttemptTimeout t port) s = .next a := by
  show execTrainAttemptTimeout t port s = _
  unfold execTrainAttemptTimeout
  rw [← ha]
  exact if_neg (by simp; omega)

theorem execTrainAttemptStart_early (early : rackTime a < nextAttemptDue (a.port port)) :
    exec (.trainAttemptStart t port) s = .next a := by
  show execTrainAttemptStart t port s = _
  unfold execTrainAttemptStart
  rw [← ha]
  unfold nextAttemptDue at early
  exact if_neg (by simp; omega)

variable (up : linkUp a = true)
include up

theorem execTrainAttemptTimeout_fails
    (phase : (a.port port).phase = .trainLock ∨ (a.port port).phase = .trainId ∨ (a.port port).phase = .trainTime)
    (going : (a.port port).waiting = false) (due : (a.port port).attemptAt + 3 * msTicks ≤ rackTime a) :
    exec (.trainAttemptTimeout t port) s = .next (attemptFails port a) := by
  show execTrainAttemptTimeout t port s = _
  unfold execTrainAttemptTimeout
  rw [← ha]
  exact if_pos (by rcases phase with h | h | h <;> simp [up, going, due, h])

theorem execTrainAttemptStart_begins (idle : (a.port port).phase = .failed ∨ (a.port port).waiting = true)
    (due : nextAttemptDue (a.port port) ≤ rackTime a) :
    exec (.trainAttemptStart t port) s = .next (a.setPort port { a.port port with
      phase := .trainLock, waiting := false, attemptAt := rackTime a, rxPlus := none }) := by
  show execTrainAttemptStart t port s = _
  unfold execTrainAttemptStart
  rw [← ha]
  unfold nextAttemptDue at due
  exact if_pos (by simp [up, idle]; exact due)

end

/-- Settles O24: the timeout by the failure it is, with the cases of R93; the next attempt by the instant it is due. -/
theorem trainingAttemptsFail : Obligations.TrainingAttemptsFail := by
  intro t port s a x y ha up hx hy
  subst hx hy
  refine ⟨?timesOut, execTrainAttemptTimeout_early ha, ?starts⟩
  case timesOut =>
    intro phase going due
    rw [execTrainAttemptTimeout_fails ha up phase going due]
    exact ⟨fun again => congrArg _ (attemptFails_again up again),
      fun first more => congrArg _ (attemptFails_waits up first more),
      fun first last => congrArg _ (attemptFails_last up first last)⟩
  case starts =>
    rintro due rfl
    exact ⟨execTrainAttemptStart_begins ha up, execTrainAttemptStart_early ha⟩

end Sys2Proof.LinkProofs
end

section
/-! SUPPORT. The steps of an attempt from lock to ACTIVE (R81, R83, R94, R95): what each sends, and what a port that becomes
active keeps (O23). -/

namespace Sys2Proof.LinkProofs

open Sys2Proof Sys2Proof.Machine

/-- A maker that TILE_MAP allows, with the kind and the count it declares, is no mismatch. -/
theorem ts2_declared {e : Bytes} {kind maker count : Nat} (made : teMaker e = 0xFFFF ∨ maker = teMaker e) (hk : kind = u8 e 1)
    (hc : count = teCount e) : ¬ (kind ≠ u8 e 1 ∨ teMaker e ≠ 0xFFFF ∧ maker ≠ teMaker e ∨ count ≠ teCount e) := by
  rintro (other | ⟨bound, other⟩ | other)
  · exact other hk
  · exact made.elim bound other
  · exact other hc

section
variable {t port : Nat} {s a : State} {x : TPort} {e : Bytes} (ha : a = advance t s) (up : linkUp a = true)
  (hx : x = a.port port)
include ha up hx

theorem execTrainLockComplete_locks (eq : Equaliser) (phase : x.phase = .trainLock) (going : x.waiting = false) :
    exec (.trainLockComplete t port eq) s = .next (a.setPort port
      (sendLine (ts2Down port) (equalise83 a port eq { x with phase := .trainId, lockLost := false }))) := by
  subst hx
  show execTrainLockComplete t port eq s = _
  unfold execTrainLockComplete
  rw [← ha]
  exact if_pos (by simp [up, phase, going])

/-! ### The tile's TS2 (R93) -/

section
variable (tile : tileOfPort (secs a) port = some e) (phase : x.phase = .trainId)
include tile phase

/-- A TS2 of another kind, maker or count ends the attempt with 0x0403, one with another echo without it. -/
theorem execTs2Received_runs (echo kind maker count : Nat) :
    exec (.ts2Received t port echo kind maker count) s = .next (
      if kind ≠ u8 e 1 ∨ teMaker e ≠ 0xFFFF ∧ maker ≠ teMaker e ∨ count ≠ teCount e then
        attemptFails port (portPulse 0x0403 port [] a)
      else if echo ≠ port then attemptFails port a
      else a.setPort port { x with phase := .trainTime }) := by
  subst hx
  show execTs2Received t port echo kind maker count s = _
  unfold execTs2Received
  rw [← ha]
  simp only [tile]
  rw [if_neg (by simp [up, phase])]
  simp only [Bool.or_eq_true, Bool.and_eq_true, bne_iff_ne, or_assoc, apply_ite Host.Outcome.next]

theorem execTs2Received_matches {maker : Nat} (made : teMaker e = 0xFFFF ∨ maker = teMaker e) :
    exec (.ts2Received t port port (u8 e 1) maker (teCount e)) s = .next (a.setPort port { x with phase := .trainTime }) := by
  rw [execTs2Received_runs ha up hx tile phase, if_neg (ts2_declared made rfl rfl), if_neg (fun other => other rfl)]

theorem execTs2Received_otherKind {kind : Nat} (maker : Nat) (other : kind ≠ u8 e 1) :
    exec (.ts2Received t port port kind maker (teCount e)) s = .next (attemptFails port (portPulse 0x0403 port [] a)) := by
  rw [execTs2Received_runs ha up hx tile phase, if_pos (.inl other)]

theorem execTs2Received_otherEcho {maker echo : Nat} (made : teMaker e = 0xFFFF ∨ maker = teMaker e) (other : echo ≠ port) :
    exec (.ts2Received t port echo (u8 e 1) maker (teCount e)) s = .next (attemptFails port a) := by
  rw [execTs2Received_runs ha up hx tile phase, if_neg (ts2_declared made rfl rfl), if_pos other]

end

end

/-! ### The round trip (R93, R95) -/

/-- The operations that write a register and read it back. -/
def registerOps (writes : Tab Nat) : List SvcOp := writes.flatMap (fun w => [⟨0x02, 0, w.1, w.2⟩, ⟨0x01, 0, w.1, 0⟩])

theorem foldl_registerOps (p : Nat) (writes : Tab Nat) (s : State) (x : TPort) :
    writes.foldl (fun s w => queueSvc p 0x01 w.1 0 (queueSvc p 0x02 w.1 w.2 s)) (s.setPort p x)
      = s.setPort p { x with svcQueue := x.svcQueue ++ registerOps writes } := by
  induction writes generalizing x with
  | nil => simp [registerOps]
  | cons w rest ih =>
    rw [List.foldl_cons, queueSvc_setPort, queueSvc_setPort, ih]
    simp [registerOps]

/-- A port whose LAT has been measured for a tile: ALIGN, the reads of the serial number and the register writes wait. -/
def latMeasured (e : Bytes) (lat asym : Int) (x : TPort) : TPort :=
  { x with
    measured := true, lat := (lat % 65536).toNat, upLat := lat - 2 * asym, trimSum := 0, readBack := regWrites e
    svcQueue := x.svcQueue ++ [⟨0x10, 0, 0, (lat % 65536).toNat⟩, ⟨0x01, 0, 0x01, 0⟩, ⟨0x01, 0, 0x02, 0⟩]
      ++ registerOps (regWrites e) }

section
variable {t port rtt ta : Nat} {s a : State} {x : TPort} {e : Bytes} {lat : Int} (ha : a = advance t s)
  (up : linkUp a = true) (hx : x = a.port port) (tile : tileOfPort (secs a) port = some e) (phase : x.phase = .trainTime)
  (hlat : lat = divRound ((rtt : Int) - 64 * ta + 128 * tmAsym (secs a) port) 128)
include ha up hx tile phase hlat

/-- A round trip of at most 640 ticks gives LAT, a longer one ends the attempt with 0x0404. -/
theorem execLatencyMeasured_runs : exec (.latencyMeasured t port rtt ta) s = .next (
    if 10240 < lat then attemptFails port (portPulse 0x0404 port [] a)
    else a.setPort port (latMeasured e lat (tmAsym (secs a) port) x)) := by
  subst hx hlat
  show execLatencyMeasured t port rtt ta s = _
  unfold execLatencyMeasured
  rw [← ha]
  simp only [tile]
  rw [if_neg (by simp [up, phase])]
  simp only [queueSvc_setPort, State.port_setPort, setPort_setPort, foldl_registerOps, apply_ite Host.Outcome.next]
  simp only [latMeasured, List.append_assoc, List.cons_append, List.nil_append]

end

/-! ### The end of the training (R81, R94, Table 4.12) -/

/-- `t`'s ports are those of `s`, but for the operations and the release that one port has asked for. -/
structure OnlyAsks (p : Nat) (s t : State) : Prop where
  own : t.port p = { s.port p with
    svcQueue := (t.port p).svcQueue, clear := (t.port p).clear, nextTag := (t.port p).nextTag }
  others : ∀ q, q ≠ p → t.port q = s.port q

theorem OnlyAsks.trans {p : Nat} {s t u : State} (h : OnlyAsks p s t) (k : OnlyAsks p t u) : OnlyAsks p s u :=
  ⟨by rw [k.own, h.own], fun q hq => (k.others q hq).trans (h.others q hq)⟩

theorem onlyAsks_of_ports {p : Nat} {s t : State} (h : t.ports = s.ports) : OnlyAsks p s t := by
  have same : ∀ q, t.port q = s.port q := fun q => by unfold State.port; rw [h]
  exact ⟨by rw [same p], fun q _ => same q⟩

theorem onlyAsks_of_latches {p : Nat} {s t : State} (h : OnlyLatches s t) : OnlyAsks p s t :=
  onlyAsks_of_ports (by rw [h])

theorem onlyAsks_setPort {p : Nat} (s : State) (q : List SvcOp) (c : Option AllClear) (n : Nat) :
    OnlyAsks p s (s.setPort p { s.port p with svcQueue := q, clear := c, nextTag := n }) :=
  ⟨by rw [State.port_setPort], fun _ hq => State.port_setPort_other s p _ _ hq⟩

theorem queueSvc_onlyAsks (p op addr data : Nat) (s : State) : OnlyAsks p s (queueSvc p op addr data s) :=
  onlyAsks_setPort s _ _ _

theorem startClear_onlyAsks (p : Nat) (s : State) : OnlyAsks p s (startClear p s) := by
  unfold startClear
  dsimp only
  split
  · exact (onlyAsks_setPort s _ _ _).trans (queueSvc_onlyAsks p _ _ _ _)
  · exact onlyAsks_of_ports rfl

theorem trainFaultEnds_onlyAsks (p : Nat) (s : State) : OnlyAsks p s (trainFaultEnds p s) := by
  unfold trainFaultEnds
  split
  · exact onlyAsks_of_ports rfl
  · exact onlyAsks_of_latches (lowerFault_onlyLatches _ _ _)

theorem releaseOnActive_onlyAsks (e : Bytes) (p : Nat) (s : State) : OnlyAsks p s (releaseOnActive e p s) := by
  unfold releaseOnActive
  split
  · exact startClear_onlyAsks p s
  · exact queueSvc_onlyAsks p _ _ _ s

theorem becomeActive_onlyAsks (e : Bytes) (p : Nat) (s : State) : OnlyAsks p s (becomeActive e p s) :=
  ((trainFaultEnds_onlyAsks p s).trans (onlyAsks_of_latches (event_onlyRecords _ _ _).latches)).trans
    (releaseOnActive_onlyAsks e p _)

section
variable {e : Bytes} {p : Nat} {s : State} {x : TPort}

theorem finishTraining_waits (owed : x.readBack ≠ []) : finishTraining e p (s.setPort p x) = s.setPort p x := by
  unfold finishTraining
  exact if_neg (by simp [owed])

/-- The only lane of a tile ends its training as the tile's active lane, latched off until it reports. -/
theorem finishTraining_alone (phase : x.phase = .trainTime) (checked : x.checked = true) (read : x.readBack = [])
    (alone : otherLane (secs s) p = none) : finishTraining e p (s.setPort p x) = becomeActive e p (s.setPort p { x with
      attempts := 0, waiting := false, failedBefore := false, phase := .active, activeLane := true, offLatch := true }) := by
  unfold finishTraining
  dsimp only
  rw [if_pos (by simp [phase, checked, read])]
  unfold portTrained
  simp only [secs_setPort, alone, State.port_setPort, setPort_setPort]

end

section
variable {t port : Nat} {r : Int} {s a : State} {x : TPort} {e : Bytes} (ha : a = advance t s)
  (up : linkUp a = true) (hx : x = a.port port) (tile : tileOfPort (secs a) port = some e)
include ha tile

theorem execAlignCheckComplete_short {n : Nat} (short : n ≠ 256) : exec (.alignCheckComplete t port r n) s = .next a := by
  show execAlignCheckComplete t port r n s = _
  unfold execAlignCheckComplete
  rw [← ha]
  simp only [tile]
  exact if_pos (by simp [short])

variable (phase : x.phase = .trainTime) (measured : x.measured = true)
include up hx phase measured

/-- 256 frames end the check: an arrival off by more than 6 ticks in the mean ends the attempt, any other is checked. -/
theorem execAlignCheckComplete_runs : exec (.alignCheckComplete t port r 256) s = .next (
    if 256 * 96 < r.natAbs then attemptFails port (portPulse 0x0404 port [] a)
    else finishTraining e port (a.setPort port { x with checked := true })) := by
  subst hx
  show execAlignCheckComplete t port r 256 s = _
  unfold execAlignCheckComplete
  rw [← ha]
  simp only [tile]
  rw [if_neg (by simp [up, phase, measured])]
  simp only [apply_ite Host.Outcome.next]

end

/-- Settles O23: each command of an attempt by the step it is, the last one by what becoming active keeps of the ports. -/
theorem trainingAdvances : Obligations.TrainingAdvances := by
  intro t port s a x ha up hx
  refine ⟨fun ctle dfe => execTrainLockComplete_locks ha up hx ⟨ctle, dfe⟩, ?identifies, ?measures, ?aligns⟩
  case identifies =>
    intro e maker tile phase made
    exact ⟨execTs2Received_matches ha up hx tile phase made,
      fun kind other => execTs2Received_otherKind ha up hx tile phase maker other,
      fun echo other => execTs2Received_otherEcho ha up hx tile phase made other⟩
  case measures =>
    intro e rtt ta lat tile phase hlat
    rw [execLatencyMeasured_runs ha up hx tile phase hlat]
    refine ⟨fun near => ?near, fun far => congrArg _ (if_pos far)⟩
    rw [if_neg (by omega)]
    refine ⟨_, rfl, onlyPort_setPort port a _, ?_⟩
    rw [State.port_setPort]
    refine ⟨rfl, rfl, rfl, rfl, phase, fun writes hw => ?_⟩
    subst hw
    exact ⟨rfl, rfl⟩
  case aligns =>
    intro e r tile phase measured
    rw [execAlignCheckComplete_runs ha up hx tile phase measured]
    refine ⟨fun near read alone => ?active, fun far => congrArg _ (if_pos far), fun near owed => ?owed,
      fun n short => execAlignCheckComplete_short ha tile short⟩
    case active =>
      rw [if_neg (by omega), finishTraining_alone (by exact phase) rfl (by exact read) alone]
      refine ⟨_, rfl, ?_⟩
      obtain ⟨own, others⟩ := becomeActive_onlyAsks e port (a.setPort port { x with
        checked := true, attempts := 0, waiting := false, failedBefore := false, phase := .active, activeLane := true
        offLatch := true })
      rw [State.port_setPort] at own
      rw [own]
      exact ⟨rfl, rfl, rfl, rfl, fun q hq => (others q hq).trans (State.port_setPort_other _ _ _ _ hq)⟩
    case owed => rw [if_neg (by omega), finishTraining_waits (by exact owed)]

end Sys2Proof.LinkProofs
end

section
/-! SUPPORT. What arrives at a tile port (R80, R87, R88, R110, R111, R116): upstream frames and a lost receiver lock (O25). -/

namespace Sys2Proof.LinkProofs

open Sys2Proof Sys2Proof.Machine

/-! ### Upstream frames (R80, R87) -/

section
variable {t port : Nat} {f : WireFrame} {s a : State} {x y : TPort} {e : Bytes} (ha : a = advance t s)
  (hx : x = a.port port)
include ha hx

theorem execUpstreamFrame_untrained (tile : tileOfPort (secs a) port = some e)
    (phase : x.phase = .trainLock ∨ x.phase = .trainId ∨ x.phase = .disabled ∨ x.phase = .failed) :
    exec (.upstreamFrame t port f) s = .next a := by
  subst hx
  show execUpstreamFrame t port f s = _
  unfold execUpstreamFrame
  rw [← ha]
  simp only [tile]
  exact if_pos (by rcases phase with h | h | h | h <;> simp [h])

variable (up : linkUp a = true)
include up

theorem execReceiverLockLoss_triggers (trained : x.phase = .active ∨ x.phase = .standbyLane) :
    exec (.receiverLockLoss t port) s = .next (linkTrigger 1 port
      (a.setPort port { x with upLockLoss := sat32 x.upLockLoss 1, lockLost := true })) := by
  subst hx
  show execReceiverLockLoss t port s = _
  unfold execReceiverLockLoss
  rw [← ha]
  exact if_pos (by simp [up, trained])

variable (tile : tileOfPort (secs a) port = some e) (hy : y = { x with rxPlus := rxAfter x.rxPlus f })
include tile hy

/-- A frame on a port that listens is taken where it is accepted; otherwise it counts in training, and is a lane's invalid
frame after it. -/
theorem execUpstreamFrame_runs (phase : x.phase = .active ∨ x.phase = .standbyLane ∨ x.phase = .trainTime) :
    exec (.upstreamFrame t port f) s = .next (
      match acceptFrame x.rxPlus f with
      | some body => validUp e port body (a.setPort port y)
      | none =>
        if x.phase = .trainTime then a.setPort port { y with upInvalid := sat32 x.upInvalid 1 }
        else invalidUp e port (a.setPort port y)) := by
  subst hx hy
  show execUpstreamFrame t port f s = _
  unfold execUpstreamFrame
  rw [← ha]
  simp only [tile]
  rw [if_neg (by rcases phase with h | h | h <;> simp [up, h])]
  cases acceptFrame (a.port port).rxPlus f with
  | some body => rfl
  | none => simp only [beq_iff_eq, State.port_setPort, setPort_setPort, apply_ite Host.Outcome.next]

end

section
variable {p : Nat} {s : State} {x : TPort} {e body : Bytes}

theorem takeResponse_idle (r : Bytes) (idle : x.svc = none) : takeResponse p r (s.setPort p x) = s.setPort p x := by
  unfold takeResponse
  simp only [State.port_setPort, idle]

/-- In training, with no answer to come and registers still to be read back, a valid frame moves its port alone. -/
theorem validUp_training (up : linkUp s = true) (phase : x.phase = .trainTime) (idle : x.svc = none)
    (owed : x.readBack ≠ []) : ∃ z, validUp e p body (s.setPort p x) = s.setPort p z ∧
      z.invalidRun = 0 ∧ z.phase = .trainTime := by
  unfold validUp
  simp only [State.port_setPort, setPort_setPort]
  rw [takeResponse_idle _ (by exact idle), if_neg (by simp [up]), if_pos (by simp [phase]),
    finishTraining_waits (by exact owed)]
  exact ⟨_, rfl, rfl, phase⟩

/-- An invalid frame of a standby lane counts; the third in a row is a trigger of R111. -/
theorem invalidUp_standby (live : isLive s = true) (phase : x.phase = .standbyLane) :
    invalidUp e p (s.setPort p x)
      = if 2 ≤ x.invalidRun then linkTrigger 2 p
          (s.setPort p { x with upInvalid := sat32 x.upInvalid 1, invalidRun := x.invalidRun + 1 })
        else s.setPort p { x with upInvalid := sat32 x.upInvalid 1, invalidRun := x.invalidRun + 1 } := by
  have other : (x.phase != .active) = true := by rw [phase]; rfl
  unfold invalidUp
  simp only [State.port_setPort, setPort_setPort, other, if_true, isLive_setPort, live, Bool.true_and, decide_eq_true_eq]
  exact if_congr (by omega) rfl rfl

end

/-- Settles O25: a frame by whether it is accepted and what the port is doing, a lost lock by the trigger it is. -/
theorem framesArriveAtPorts : Obligations.FramesArriveAtPorts := by
  intro t port f s a r x y e ha up hx tile hy hr
  have runs := execUpstreamFrame_runs ha hx up tile hy
  refine ⟨fun body taken => ⟨fun phase => ?taken, fun phase idle owed => ?training⟩, fun bad => ?invalid,
    execUpstreamFrame_untrained ha hx tile, execReceiverLockLoss_triggers ha hx up⟩
  case taken => rw [runs phase, taken, hr]
  case training =>
    rw [runs (.inr (.inr phase)), taken, hy]
    obtain ⟨z, moved, run, still⟩ := validUp_training (e := e) (body := body) (x := { x with rxPlus := rxAfter x.rxPlus f })
      up phase idle owed
    refine ⟨_, congrArg _ moved, onlyPort_setPort port a z, ?_⟩
    rw [State.port_setPort]
    exact ⟨run, still⟩
  case invalid =>
    refine ⟨fun phase => ?training, fun phase few => ?counts, fun phase third => ?triggers, fun phase => ?active⟩
    case training => rw [runs (.inr (.inr phase)), bad, if_pos phase]
    case active => rw [runs (.inl phase), bad, if_neg (by rw [phase]; decide), hr]
    all_goals
      rw [runs (.inr (.inl phase)), bad, if_neg (by rw [phase]; decide),
        invalidUp_standby (isLive_of_linkUp up) (by rw [hy]; exact phase), hy]
    case counts => rw [if_neg (by simpa using few)]
    case triggers => rw [if_pos third]

end Sys2Proof.LinkProofs
end

section
/-! SUPPORT. What is measured at a tile port, and the release of its tile (R83, R88, R96, R102, R107, R108, R476): the branches of
each command (O26, O27). -/

namespace Sys2Proof.LinkProofs

open Sys2Proof Sys2Proof.Machine

/-! ### Measurements (R83, R96, R102) -/

/-- A port whose latency has been trimmed (R96). -/
def trimmed (trim : Int) (x : TPort) : TPort :=
  { x with
    trimSum := x.trimSum + trim, upLat := x.upLat + trim, lat := (((x.lat : Int) + trim) % 65536).toNat
    trim := sat32 x.trim 1 }

section
variable {t port : Nat} {m : Int} {s a : State} {x : TPort} (ha : a = advance t s) (up : linkUp a = true)
  (hx : x = a.port port)
include ha up hx

theorem execResidualTrim_quiet (phase : x.phase = .active) (small : m.natAbs < 16) :
    exec (.residualTrim t port m) s = .next a := by
  subst hx
  show execResidualTrim t port m s = _
  unfold execResidualTrim
  rw [← ha]
  simp [up, phase, small]

theorem execResidualTrim_standby (phase : x.phase = .standbyLane) (small : m.natAbs < 16) :
    exec (.residualTrim t port m) s = .next (queueSvc port 0x01 0x06 0 a) := by
  subst hx
  show execResidualTrim t port m s = _
  unfold execResidualTrim
  rw [← ha]
  simp [up, phase, small]

/-- A residual of a tick or more trims the active lane, and raises 0x0404 where the trims pass the limit with it. -/
theorem execResidualTrim_trims {trim : Int} (phase : x.phase = .active) (htrim : trim = clampI (-32) 32 (divRound m 2))
    (large : 16 ≤ m.natAbs) : exec (.residualTrim t port m) s = .next (
      let b := queueSvc port 0x11 0 (trim % 65536).toNat (a.setPort port (trimmed trim x))
      if tmRealignLimit (secs a) * 16 < (x.trimSum + trim).natAbs ∧ x.trimSum.natAbs ≤ tmRealignLimit (secs a) * 16 then
        portPulse 0x0404 port [] b
      else b) := by
  have other : ((a.port port).phase == .standbyLane) = false := by rw [← hx, phase]; rfl
  subst hx htrim
  show execResidualTrim t port m s = _
  unfold execResidualTrim
  rw [← ha]
  dsimp only
  rw [if_neg (by simp [up, phase])]
  simp only [other, Bool.false_eq_true, if_false]
  rw [if_neg (by omega)]
  simp only [Bool.and_eq_true, decide_eq_true_eq, apply_ite Host.Outcome.next]
  rfl

theorem execEyeMarginMeasure_stores (mv ui : Nat) (eq : Equaliser)
    (phase : x.phase = .trainId ∨ x.phase = .trainTime ∨ x.phase = .active ∨ x.phase = .standbyLane)
    (locked : x.lockLost = false) : exec (.eyeMarginMeasure t port mv ui eq) s
      = .next (a.setPort port (equalise83 a port eq { x with eyeV := mv, eyeH := ui })) := by
  subst hx
  show execEyeMarginMeasure t port mv ui eq s = _
  unfold execEyeMarginMeasure
  rw [← ha]
  exact if_pos (by rcases phase with h | h | h | h <;> simp [up, locked, h])

end

/-! ### Service operations (R88) -/

section
variable {t port l : Nat} {s a : State} {x : TPort} {w : SvcWait} (ha : a = advance t s) (hx : x = a.port port)
include ha hx

theorem execServiceOpTimeout_idle (idle : x.svc = none) : exec (.serviceOpTimeout t port) s = .next a := by
  subst hx
  show execServiceOpTimeout t port s = _
  unfold execServiceOpTimeout
  rw [← ha]
  simp only [idle]

/-- Sixteen frame periods after an operation went out it is repeated, and the second time given up; with a read of OFF_COUNT
goes the release that waited for it. -/
theorem execServiceOpTimeout_runs (out : x.svc = some w) (sent : w.sentAt = some l) :
    exec (.serviceOpTimeout t port) s = .next (
      if rackTime a < l + 16 * frameTicks then a
      else if w.repeated = false then a.setPort port { x with svc := some { w with repeated := true, sentAt := none } }
      else a.setPort port { x with
        svc := none, svcTimeout := sat32 x.svcTimeout 1
        clear := if w.op.op = 0x01 ∧ w.op.addr = 0x07 then x.clear.filter (fun c => !c.waiting) else x.clear }) := by
  subst hx
  show execServiceOpTimeout t port s = _
  unfold execServiceOpTimeout
  rw [← ha]
  simp only [out, sent, Bool.not_eq_true', Bool.and_eq_true, beq_iff_eq, apply_ite Host.Outcome.next]

end

/-- Settles O26: the trim by the size of the residual and the limit, the timeout by what has been tried before. -/
theorem linkIsMeasured : Obligations.LinkIsMeasured := by
  intro t port s a x ha hx
  refine ⟨?trims, fun mv ui ctle dfe up => execEyeMarginMeasure_stores ha up hx mv ui ⟨ctle, dfe⟩,
    fun m up => execResidualTrim_standby ha up hx, ?timesOut, execServiceOpTimeout_idle ha hx⟩
  case trims =>
    intro m trim up phase htrim
    refine ⟨execResidualTrim_quiet ha up hx phase, fun large b hb => ?_⟩
    subst hb
    rw [execResidualTrim_trims ha up hx phase htrim large]
    exact ⟨fun within => congrArg _ (if_neg (by omega)), fun before passed => congrArg _ (if_pos ⟨passed, before⟩)⟩
  case timesOut =>
    intro w l out sent
    rw [execServiceOpTimeout_runs ha hx out sent]
    refine ⟨fun early => congrArg _ (if_pos early), fun due => ?_⟩
    rw [if_neg (by omega)]
    refine ⟨fun first => congrArg _ (if_pos first), fun again other => ?_, fun again read off => ?_⟩
    · rw [if_neg (by simp [again]), if_neg (fun h => other h.2)]
    · rw [if_neg (by simp [again]), if_pos ⟨read, off⟩]

/-! ### The release of a tile (R107, R108, R476) -/

section
variable {t port : Nat} {s a : State} {x : TPort} (ha : a = advance t s) (hx : x = a.port port)
include ha hx

/-- Sixteen frame periods after its first frame a release that has sent its four frames has failed: once it is tried again
where the port may still be cleared, and the second time 0x0407 is raised. -/
theorem execAllClearRetry_runs {c : AllClear} (going : x.clear = some c) (sent : c.waiting = false) (spent : c.left = 0)
    (due : c.first + 16 * frameTicks ≤ rackTime a) : exec (.allClearRetry t port) s = .next (
      if c.repeated = true then portPulse 0x0407 port [] (a.setPort port { x with clear := none })
      else if mayClear port a = false then a.setPort port { x with clear := none }
      else a.setPort port { x with
        clear := some { tag := x.nextTag, repeated := true }, nextTag := (x.nextTag + 1) % 256
        svcQueue := x.svcQueue ++ [⟨0x01, 0, 0x07, 0⟩] }) := by
  subst hx
  show execAllClearRetry t port s = _
  unfold execAllClearRetry
  rw [← ha]
  simp only [going]
  rw [if_neg (by simp [sent, spent]; omega)]
  simp only [queueSvc_setPort, Bool.not_eq_true', apply_ite Host.Outcome.next]

theorem execSlotClear_sends (owed : x.slotClear ≠ 0) (released : x.offLatch = false) (phase : x.phase = .active) :
    exec (.slotClear t port) s = .next (a.setPort port { x with
      slotClear := 0, svcQueue := x.svcQueue ++ [⟨0x20, 0, 0, x.slotClear⟩] }) := by
  subst hx
  show execSlotClear t port s = _
  unfold execSlotClear
  rw [← ha]
  dsimp only
  rw [if_pos (by simp [owed, released, phase]), queueSvc_setPort]

theorem execSlotClear_nothing (none : x.slotClear = 0) : exec (.slotClear t port) s = .next a := by
  subst hx
  show execSlotClear t port s = _
  unfold execSlotClear
  rw [← ha]
  exact if_neg (by simp [none])

end

/-- Settles O27: a failed release by whether it was the second and whether the port may be cleared, SLOT_CLEAR by the slots
owed. -/
theorem tilesAreReleasedAgain : Obligations.TilesAreReleasedAgain := by
  intro t port s a x ha hx
  refine ⟨?retries, execSlotClear_sends ha hx, execSlotClear_nothing ha hx⟩
  case retries =>
    intro c going sent spent due
    rw [execAllClearRetry_runs ha hx going sent spent due]
    refine ⟨fun second => congrArg _ (if_pos second), fun first barred => ?_, fun first may => ?_⟩
    · rw [if_neg (by simp [first]), if_pos barred]
    · rw [if_neg (by simp [first]), if_neg (by simp [may])]

end Sys2Proof.LinkProofs
end

section
/-! SUPPORT. What latches a tile off (R92, R103 to R105): the rules of a tile's lanes and of its off latch (O28). -/

namespace Sys2Proof.LinkProofs

open Sys2Proof Sys2Proof.Machine

/-! ### One lane of a tile -/

@[simp] theorem lane_setLane (x : Tile) (n : Nat) (l : TLane) : (x.setLane n l).lane n = l := by
  by_cases h : n = 0 <;> simp [Tile.lane, Tile.setLane, h]

@[simp] theorem setLane_rest (x : Tile) (n : Nat) (l : TLane) :
    (x.setLane n l).offLatch = x.offLatch ∧ (x.setLane n l).offCause = x.offCause ∧
    (x.setLane n l).offCount = x.offCount ∧ (x.setLane n l).clearRun = x.clearRun ∧
    (x.setLane n l).entryLane = x.entryLane := by
  unfold Tile.setLane
  split <;> exact ⟨rfl, rfl, rfl, rfl, rfl⟩

/-! ### The off latch (R103) -/

theorem tileHold_latched (cause : Nat) {x : Tile} (h : x.offLatch = true) : tileHold cause x = { x with clearRun := 0 } :=
  if_pos h

theorem tileHold_unlatched (cause : Nat) {x : Tile} (h : x.offLatch = false) : tileHold cause x = tileLatch cause x :=
  if_neg (by simp [h])

@[simp] theorem tileHold_holds (cause : Nat) (x : Tile) :
    (tileHold cause x).offLatch = true ∧ (tileHold cause x).clearRun = 0 := by
  unfold tileHold
  split
  next latched => exact ⟨latched, rfl⟩
  next => exact ⟨rfl, rfl⟩

/-- A tile that latches off opens every gate and lets go of what it held. -/
theorem tileLatch_opens (cause : Nat) (x : Tile) :
    ∀ v ∈ (tileLatch cause x).slots, v.2.gateHs = false ∧ v.2.gateLs = false ∧ v.2.held = [] := by
  intro v hv
  obtain ⟨w, -, rfl⟩ := List.mem_map.mp hv
  exact ⟨rfl, rfl, rfl⟩

/-- Sixteen TS1 on the entry lane latch the tile with TRAINING, unless it has been off since power-up, and the lane answers
TS1. -/
theorem tileTs1_entry (dual : Bool) {x : Tile} (h : x.offLatch = false ∨ x.offCause ≠ 1) :
    (tileTs1 dual x.entryLane x).offLatch = true ∧ (tileTs1 dual x.entryLane x).offCause = 6 ∧
    (tileTs1 dual x.entryLane x).offCount = (x.offCount + 1) % 65536 ∧
    (tileTs1 dual x.entryLane x).lane x.entryLane = { answering := .ts1, roleSeen := (x.lane x.entryLane).roleSeen } := by
  unfold tileTs1
  dsimp only
  rw [if_pos (by simp), if_neg (by rcases h with h | h <;> simp [h])]
  obtain ⟨latch, cause, count, -, -⟩ := setLane_rest ((tileLatch 6 x).setLane (tileLatch 6 x).entryLane
    { (tileLatch 6 x).lane (tileLatch 6 x).entryLane with aligned := false }) x.entryLane
    { answering := .ts1, roleSeen := (x.lane x.entryLane).roleSeen }
  exact ⟨latch.trans (setLane_rest _ _ _).1, cause.trans (setLane_rest _ _ _).2.1, count.trans (setLane_rest _ _ _).2.2.1,
    lane_setLane _ _ _⟩

section
variable {t i : Nat} {s a : State} {x : Tile} (ha : a = advance t s) (hx : x = a.tile i)
include ha

theorem execTileAllOff_holds : exec (.tileAllOff t i) s
    = .next (a.setTile i { tileHold 2 (a.tile i) with lastActivity := a.now }) := by
  subst ha
  rfl

theorem execTilePowerUp_resets : exec (.tilePowerUp t i) s = .next (a.setTile i { ({} : Tile) with
    offCount := ((a.tile i).offCount + 1) % 65536, lastActivity := a.now, lastAuto := a.now }) := by
  subst ha
  rfl

include hx

theorem execTileSilence_runs : exec (.tileSilence t i) s
    = .next (if x.lastActivity + 6 * usTicks ≤ a.now then a.setTile i (tileHold 3 x) else a) := by
  subst hx
  show execTileSilence t i s = _
  unfold execTileSilence
  rw [← ha]
  exact (apply_ite Host.Outcome.next _ _ _).symm

variable {lane : Nat} (known : lane < 2)
include known

theorem execTileTrain_ts1 : exec (.tileTrain t i ⟨lane, .ts1⟩) s = .next (a.setTile i
    (tileTs1 (((tileEntry (secs a) i).map (fun e => teAlt e != 0xFF)).getD false) lane x)) := by
  subst hx
  show execTileTrain t i ⟨lane, .ts1⟩ s = _
  unfold execTileTrain
  rw [← ha]
  exact if_neg (by simpa using known)

theorem execTileTrain_ts2 (port : Nat) : exec (.tileTrain t i ⟨lane, .ts2 port⟩) s = .next (
    if (x.lane lane).answering = .nothing then a
    else a.setTile i (x.setLane lane { x.lane lane with answering := .ts2 port })) := by
  subst hx
  show execTileTrain t i ⟨lane, .ts2 port⟩ s = _
  unfold execTileTrain
  rw [← ha]
  dsimp only
  rw [if_neg (by omega)]
  simp only [beq_iff_eq, apply_ite Host.Outcome.next]

end

/-- Settles O28: each cause by the latch it leaves on a tile that was latched and on one that was not. -/
theorem tilesLatchOff : Obligations.TilesLatchOff := by
  intro t i s a x ha hx
  refine ⟨?allOff, fun quiet => ?silent, fun early => ?early, ?powerUp, fun lane entry known unheld => ?ts1,
    fun lane port known => ?ts2⟩
  case allOff =>
    subst hx
    refine ⟨_, execTileAllOff_holds ha, ?_⟩
    obtain ⟨latched, run⟩ := tileHold_holds 2 (a.tile i)
    rw [State.tile_setTile]
    refine ⟨rfl, latched, run, rfl, fun fresh => ?fresh, fun before => ?before⟩
    case fresh =>
      rw [tileHold_unlatched 2 fresh]
      exact ⟨rfl, rfl, rfl, tileLatch_opens 2 _⟩
    case before =>
      rw [tileHold_latched 2 before]
      exact ⟨rfl, rfl⟩
  case silent =>
    refine ⟨_, (execTileSilence_runs ha hx).trans (congrArg _ (if_pos quiet)), ?_⟩
    beta_reduce
    rw [State.tile_setTile]
    refine ⟨rfl, (tileHold_holds 3 x).1, fun fresh => ?_⟩
    rw [tileHold_unlatched 3 fresh]
    exact ⟨rfl, rfl, rfl, tileLatch_opens 3 x⟩
  case early => exact (execTileSilence_runs ha hx).trans (congrArg _ (if_neg (by omega)))
  case powerUp =>
    subst hx
    refine ⟨_, execTilePowerUp_resets ha, ?_⟩
    beta_reduce
    rw [State.tile_setTile]
    exact ⟨rfl, rfl, rfl, rfl, rfl⟩
  case ts1 =>
    subst entry
    refine ⟨_, execTileTrain_ts1 ha hx known, ?_⟩
    beta_reduce
    rw [State.tile_setTile]
    exact ⟨rfl, tileTs1_entry _ unheld⟩
  case ts2 =>
    rw [execTileTrain_ts2 ha hx known port]
    exact ⟨fun training => congrArg _ (if_neg training), fun silent => congrArg _ (if_pos silent)⟩

end Sys2Proof.LinkProofs
end

section
/-! SUPPORT. What a tile does with its frames, its edges and its protection (R87, R91, R92, R100, R101, R107, R109, R111): what keeps
the off latch through a frame, and the branches of each command (O29). -/

namespace Sys2Proof.LinkProofs

open Sys2Proof Sys2Proof.Machine

/-! ### A frame with the hold of the whole tile (R100, R107) -/

/-- The first frame of ALL_CLEAR releases nothing: the latch wants four. -/
theorem tileAllClear_first {port : Nat} {o : SvcOp} {x : Tile} (latched : x.offLatch = true) (run : x.clearRun = 0) :
    (tileAllClear port o x).offLatch = true := by
  unfold tileAllClear
  dsimp only
  split
  · exact latched
  · rw [if_neg (by simp [run])]
    exact latched

theorem tileWrite_offLatch (i : Nat) (x : Tile) (r v : Nat) : (tileWrite i x r v).2.offLatch = x.offLatch := by
  unfold tileWrite
  repeat' split
  all_goals rfl

/-- No service operation but ALL_CLEAR moves the off latch. -/
theorem tileExec_offLatch (i n : Nat) (o : SvcOp) (x : Tile) : (tileExec i n o x).2.2.offLatch = x.offLatch := by
  have lane : ∀ l, (x.setLane n l).offLatch = x.offLatch := fun l => (setLane_rest x n l).1
  unfold tileExec
  dsimp only
  split
  next => split <;> rfl
  next =>
    split
    next => exact tileWrite_offLatch i x o.addr o.data
    next =>
      split
      next => exact lane _
      next =>
        split
        next =>
          split
          · rfl
          · exact lane _
        next =>
          split
          next => rfl
          next =>
            split
            next => split <;> rfl
            next => rfl

/-- The operation of a frame leaves a tile latched off whose ALL_CLEAR count has just been ended. -/
theorem tileService_held (i n port kind : Nat) (mine : Bool) (o : SvcOp) {x : Tile} (latched : x.offLatch = true)
    (run : x.clearRun = 0) : (tileService i n port kind mine o x).offLatch = true := by
  have cleared : (if mine then tileAllClear port o x else x).offLatch = true := by
    split
    · exact tileAllClear_first latched run
    · exact latched
  unfold tileService
  generalize (if mine then tileAllClear port o x else x) = y at cleared
  dsimp only
  split
  · exact cleared
  · split
    · exact cleared
    · split
      · exact cleared
      · exact ((setLane_rest _ _ _).1.trans (tileExec_offLatch i n o y)).trans cleared

theorem tileEntry1_offLatch (now : Nat) (role : Bool) (off : Nat) (x : Tile) (e : Edge) :
    (tileEntry1 now role off x e).offLatch = x.offLatch := by
  unfold tileEntry1
  dsimp only
  repeat' split
  all_goals rfl

theorem tileEdges_offLatch (now : Nat) (role : Bool) (b : Bytes) (x : Tile) :
    (tileEdges now role b x).offLatch = x.offLatch := by
  unfold tileEdges
  exact List.foldlRecOn (motive := fun y => y.offLatch = x.offLatch) _ _ rfl
    (fun y hy k _ => (tileEntry1_offLatch _ _ _ y _).trans hy)

theorem tileCell_offLatch (tt now : Nat) (b : Bytes) (x : Tile) : (tileCell tt now b x).offLatch = x.offLatch := by
  unfold tileCell
  dsimp only
  repeat' split
  all_goals rfl

/-- A frame with the hold of the whole tile in DN_CTRL leaves the tile latched off, whatever else it carries. -/
theorem tileFrame_held (i n port arrive16 now : Nat) {b : Bytes} (x : Tile) (hold : bit (u8 b 0) 2 = true) :
    (tileFrame i n port arrive16 now b x).offLatch = true := by
  unfold tileFrame
  extract_lets role kind heard mine held stopped o served counted tt
  have hheld : held.offLatch = true ∧ held.clearRun = 0 := by
    rw [show held = tileHold 4 heard from if_pos hold]
    exact tileHold_holds 4 heard
  have hstopped : stopped.offLatch = true ∧ stopped.clearRun = 0 := by
    unfold stopped
    split <;> exact hheld
  have hserved : served.offLatch = true := tileService_held i n port kind mine o hstopped.1 hstopped.2
  have hcounted : counted.offLatch = true := by
    unfold counted
    split <;> exact hserved
  split
  · exact (tileEdges_offLatch tt mine b counted).trans hcounted
  · split
    · exact (tileCell_offLatch tt now b counted).trans hcounted
    · exact hcounted

/-! ### Frames both ways (R87, R91, R92) -/

/-- What a tile sends after a frame on a lane: its upstream frame with the entry lane's, and a lane that trains alone its
own until it is aligned. -/
def tileAnswers (i lane kind arrive16 now : Nat) (seen : TileSeen) (y : Tile) : Tile :=
  if y.entryLane = lane ∧ (y.lane lane).answering = .frames then tileLaunch i kind arrive16 now seen y
  else if (y.lane lane).answering = .frames ∧ (y.lane lane).aligned = false then
    y.setLane lane { y.lane lane with launch16 := upLaunch i lane y.frameNo arrive16 y }
  else y

theorem tileAnswers_eq (i lane kind arrive16 now : Nat) (seen : TileSeen) (y : Tile) :
    tileAnswers i lane kind arrive16 now seen y
      = if y.entryLane = lane && (y.lane lane).answering == .frames then tileLaunch i kind arrive16 now seen y
        else if (y.lane lane).answering == .frames && !(y.lane lane).aligned then
          y.setLane lane { y.lane lane with launch16 := upLaunch i lane y.frameNo arrive16 y }
        else y := by
  simp only [tileAnswers, Bool.and_eq_true, decide_eq_true_eq, beq_iff_eq, Bool.not_eq_true']

theorem tileAnswers_offLatch (i lane kind arrive16 now : Nat) (seen : TileSeen) (y : Tile) :
    (tileAnswers i lane kind arrive16 now seen y).offLatch = y.offLatch := by
  unfold tileAnswers
  split
  · rfl
  · split
    · exact (setLane_rest _ _ _).1
    · rfl

/-- A tile that has read a frame with a lane's receiver. -/
def tileHeard (lane : Nat) (f : WireFrame) (x : Tile) : Tile :=
  x.setLane lane { x.lane lane with rxPlus := rxAfter (x.lane lane).rxPlus f }

/-- The port at the far end of a tile's lane, and the FRAME_KIND of the tile. -/
def lanePort (q : Secs) (i lane : Nat) : Nat :=
  ((tileEntry q i).map (fun e => if lane = 0 then tePrimary e else teAlt e)).getD 0xFF
def tileKind (q : Secs) (i : Nat) : Nat := if ((tileEntry q i).map teIsPhase).getD true = true then 1 else 2

section
variable {t i lane arrive16 : Nat} {f : WireFrame} {seen : TileSeen} {s a : State} {x : Tile} (ha : a = advance t s)
  (hx : x = a.tile i) (known : lane < 2)
include ha hx known

/-- A frame that is not accepted counts, and on the entry lane ends the ALL_CLEAR count. -/
theorem execTileFrameProcess_refused (bad : acceptFrame (x.lane lane).rxPlus f = none) :
    exec (.tileFrameProcess t i lane ⟨arrive16, f, seen⟩) s = .next (a.setTile i
      (tileAnswers i lane (tileKind (secs a) i) arrive16 a.now seen
        { (tileHeard lane f x).setLane lane { (tileHeard lane f x).lane lane with errors := (x.lane lane).errors + 1 } with
          dnErr := sat32 x.dnErr 1, clearRun := if x.entryLane = lane then 0 else x.clearRun })) := by
  subst hx
  show execTileFrameProcess t i lane ⟨arrive16, f, seen⟩ s = _
  unfold execTileFrameProcess
  rw [← ha, tileAnswers_eq]
  refine (if_neg (by omega)).trans ?_
  rw [bad]
  rfl

theorem execTileFrameProcess_accepted {b : Bytes} (good : acceptFrame (x.lane lane).rxPlus f = some b)
    (kind : u8 b 0 % 4 ≠ 3) : exec (.tileFrameProcess t i lane ⟨arrive16, f, seen⟩) s = .next (a.setTile i
      (tileAnswers i lane (tileKind (secs a) i) arrive16 a.now seen
        (tileFrame i lane (lanePort (secs a) i lane) arrive16 a.now b (tileHeard lane f x)))) := by
  subst hx
  show execTileFrameProcess t i lane ⟨arrive16, f, seen⟩ s = _
  unfold execTileFrameProcess
  rw [← ha, tileAnswers_eq]
  refine (if_neg (by omega)).trans ?_
  rw [good, Option.filter_some, if_pos (by simpa using kind)]
  rfl

end

/-! ### Edges and protection (R101, R109, R111) -/

section
variable {t i n : Nat} {s a : State} {x : Tile} {v : Slot} (ha : a = advance t s) (hx : x = a.tile i)
include ha hx

theorem execTileEdgeExecute_latched (latched : x.offLatch = true) : exec (.tileEdgeExecute t i n) s = .next a := by
  subst hx
  show execTileEdgeExecute t i n s = _
  unfold execTileEdgeExecute
  rw [← ha]
  exact if_pos (by simp [latched])

theorem execTileActiveDnLost_flags (lost : (x.lane x.entryLane).lastValid + 2 * frameTicks ≤ a.now) :
    exec (.tileActiveDnLost t i) s = .next (a.setTile i { x with activeDnLost := true }) := by
  subst hx
  show execTileActiveDnLost t i s = _
  unfold execTileActiveDnLost
  rw [← ha]
  exact if_pos lost

variable (known : n < 8) (hv : v = Tab.get ({} : Slot) x.slots n)
include known hv

theorem execTileEdgeExecute_acts (released : x.offLatch = false) : exec (.tileEdgeExecute t i n) s
    = .next (a.setTile i { x with
        slots := Tab.set x.slots n (slotExpire (tileTime a x) (slotRun (tileTime a x) 5 v)) }) := by
  subst hx hv
  show execTileEdgeExecute t i n s = _
  unfold execTileEdgeExecute
  rw [← ha]
  exact if_neg (by simp [released]; omega)

/-- A trip latches its slot off with the gates open; the end of its cause leaves the latch. -/
theorem execTileProtectionTrip_runs (oc active : Bool) : exec (.tileProtectionTrip t i n oc active) s
    = .next (a.setTile i { x with slots := Tab.set x.slots n (
        if active then { slotOff v with
          protLatch := true, causePresent := true, desat := v.desat || !oc, localOc := v.localOc || oc }
        else { v with causePresent := false }) }) := by
  subst hx hv
  show execTileProtectionTrip t i n oc active s = _
  unfold execTileProtectionTrip
  rw [← ha]
  dsimp only
  rw [if_neg (by omega)]
  cases active <;> rfl

end

/-- Settles O29: a frame by whether it is accepted, with the hold's latch kept through it; edges and protection by their slot. -/
theorem tilesTakeFrames : Obligations.TilesTakeFrames := by
  intro t i s a x ha hx
  refine ⟨?frames, fun n v known hv => ⟨execTileEdgeExecute_acts ha hx known hv, execTileEdgeExecute_latched ha hx,
    fun oc => execTileProtectionTrip_runs ha hx known hv oc true,
    fun oc => execTileProtectionTrip_runs ha hx known hv oc false⟩, execTileActiveDnLost_flags ha hx⟩
  case frames =>
    intro lane arrive16 f seen port kind heard sent known hport hkind hheard hsent
    subst hport hkind hheard hsent
    refine ⟨execTileFrameProcess_refused ha hx known, fun b good framed =>
      ⟨execTileFrameProcess_accepted ha hx known good framed, fun hold => ?_⟩⟩
    refine ⟨_, execTileFrameProcess_accepted ha hx known good framed, ?_⟩
    beta_reduce
    rw [State.tile_setTile, tileAnswers_offLatch]
    exact tileFrame_held _ _ _ _ _ _ hold

end Sys2Proof.LinkProofs
end

section
/-! SUPPORT. The cells: what a tile samples, and what the chip publishes and asks for again (R113, R114, R132, R134, R136): the
branches of each command (O30, O33). -/

namespace Sys2Proof.LinkProofs

open Sys2Proof Sys2Proof.Machine

/-! ### Cells (R113, R114) -/

section
variable {t i : Nat} {volts : List Nat} {temps : List Int} {s a : State} {x : Tile} (ha : a = advance t s)
  (hx : x = a.tile i)
include ha hx

/-- The set that a command asked of a tile: with temperatures where asked, marked where the command came late. -/
def commandedSet (volts : List Nat) (temps : List Int) (x : Tile) : CellSet :=
  { setId := x.sampleCmd.setId, late := x.sampleLate, volts := volts, temps := if x.sampleCmd.temps then temps else [] }

theorem execTileCellSample_runs {d : Nat} (due : x.sampleAt = some d) : exec (.tileCellSample t i volts temps) s = .next (
    if tileTime a x < d then a
    else a.setTile i { x with
      sampleAt := none, set := commandedSet volts temps x, sending := chunksOf (commandedSet volts temps x) }) := by
  subst hx
  show execTileCellSample t i volts temps s = _
  unfold execTileCellSample
  rw [← ha]
  simp only [due]
  exact (apply_ite Host.Outcome.next _ _ _).symm

theorem execTileBleedExpiry_runs : exec (.tileBleedExpiry t i) s
    = .next (if x.bleedUntil ≤ a.now then a.setTile i { x with bleedMask := 0 } else a) := by
  subst hx
  show execTileBleedExpiry t i s = _
  unfold execTileBleedExpiry
  rw [← ha]
  exact (apply_ite Host.Outcome.next _ _ _).symm

theorem execTileAutoSample_samples {y : CellSet} (hy : y = { setId := 0, auto := true, volts := volts, temps := temps })
    (latched : x.offLatch = true) (due : x.lastAuto + x.autoPeriod * msTicks ≤ a.now) :
    exec (.tileAutoSample t i volts temps) s
      = .next (a.setTile i { x with lastAuto := a.now, set := y, sending := chunksOf y }) := by
  subst hx hy
  show execTileAutoSample t i volts temps s = _
  unfold execTileAutoSample
  rw [← ha]
  exact if_pos (by simp [latched, due])

end

/-- Settles O30: the commanded set and the end of bleeding by their instants, an AUTO set by its period. -/
theorem cellTilesSample : Obligations.CellTilesSample := by
  intro t i volts temps s a x ha hx
  refine ⟨fun d y due hy => ?_, fun ended => (execTileBleedExpiry_runs ha hx).trans (congrArg _ (if_pos ended)),
    fun early => (execTileBleedExpiry_runs ha hx).trans (congrArg _ (if_neg (by omega))),
    fun y => execTileAutoSample_samples ha hx⟩
  subst hy
  rw [execTileCellSample_runs ha hx due]
  exact ⟨fun reached => congrArg _ (if_neg (by omega)), fun early => congrArg _ (if_pos early)⟩

/-! ### Cell sets (R134, R136) -/

section
variable {t b : Nat} {s a : State} {x : CellData} (ha : a = advance t s)
include ha

section
variable (opened : Tab.find a.pave.openSets b = some x)
include opened

theorem execCellSetPublish_early (missing : setComplete (secs a) x = false) (early : rackTime a < x.at_ + 6 * msTicks) :
    exec (.cellSetPublish t b none) s = .next a := by
  show execCellSetPublish t b none s = _
  unfold execCellSetPublish
  rw [← ha]
  simp only [opened]
  exact if_neg (by simp [missing]; omega)

theorem execCellResend_asked (asked : x.resent = true) : exec (.cellResend t b) s = .next a := by
  show execCellResend t b s = _
  unfold execCellResend
  rw [← ha]
  simp only [opened]
  exact if_neg (by simp [asked])

variable (run : running a = true)
include run

theorem execCellSetPublish_due (due : setComplete (secs a) x = true ∨ x.at_ + 6 * msTicks ≤ rackTime a) :
    exec (.cellSetPublish t b none) s
      = .next (publishSet b x { a with pave := { a.pave with openSets := Tab.del a.pave.openSets b } }) := by
  show execCellSetPublish t b none s = _
  unfold execCellSetPublish
  rw [← ha]
  simp only [opened]
  exact if_pos (by simp [run, due])

/-- A set incomplete after 4 ms is asked for again of the active lane of every tile that owes a value. -/
theorem execCellResend_asks (missing : setComplete (secs a) x = false) (unasked : x.resent = false)
    (due : x.at_ + 4 * msTicks ≤ rackTime a) : exec (.cellResend t b) s
      = .next (((owingTiles (secs a) x).filterMap (tileEntry (secs a))).foldl (fun s e =>
          match activePort s e with
          | some p => queueSvc p 0x21 0 x.setId s
          | none => s)
          { a with pave := { a.pave with openSets := Tab.set a.pave.openSets b { x with resent := true } } }) := by
  show execCellResend t b s = _
  unfold execCellResend
  rw [← ha]
  simp only [opened]
  exact if_pos (by simp [run, missing, unasked, due])

end

/-- A set that a tile sent of itself is published for the tile's string once it is complete. -/
theorem execCellSetPublish_auto {i : Nat} {e : Bytes} (run : running a = true) (sent : Tab.find a.pave.autoSets i = some x)
    (tile : tileEntry (secs a) i = some e) (cell : teIsCell e = true) (string : teString e = b)
    (complete : setComplete (secs a) x = true) : exec (.cellSetPublish t b (some i)) s
      = .next (publishSet b x { a with pave := { a.pave with autoSets := Tab.del a.pave.autoSets i } }) := by
  show execCellSetPublish t b (some i) s = _
  unfold execCellSetPublish
  rw [← ha]
  simp only [sent, tile]
  exact if_pos (by simp [run, complete, cell, string])

end

/-- Settles O33: an open set by whether it is due and whether it was asked for again, an AUTO set by its tile. -/
theorem cellSetsArePublished : Obligations.CellSetsArePublished := by
  intro t b s a ha run
  refine ⟨fun x opened => ⟨execCellSetPublish_due ha opened run, execCellSetPublish_early ha opened,
    execCellResend_asks ha opened run, execCellResend_asked ha opened⟩, ?auto⟩
  case auto =>
    intro i x e sent tile cell string complete
    exact execCellSetPublish_auto ha run sent tile cell string complete

end Sys2Proof.LinkProofs
end

section
/-! SUPPORT. The timed acts of the Modulator (R99, R111, R195, R197, R206, R207, R208, R212): the branches of each
command (O39). -/

namespace Sys2Proof.LinkProofs

open Sys2Proof Sys2Proof.Machine

/-! ### The cut-off of a frame (R99, R111, R195) -/

section
variable {t f : Nat} {s a : State} (ha : a = advance t s)
include ha

/-- Outside the 320 ticks before its launch, and a second time, a frame's cut-off does nothing. -/
theorem execFrameCutoff_none
    (h : linkUp a = false ∨ rackTime a + 320 < f * frameTicks ∨ f * frameTicks < rackTime a ∨ f < a.modul.cutFrame) :
    exec (.frameCutoff t f) s = .next a := by
  show execFrameCutoff t f s = _
  unfold execFrameCutoff
  rw [← ha]
  exact if_pos (by rcases h with h | h | h | h <;> simp [h])

/-- The pulses of every declared stage formed for a frame, in the order of the stages, while the image stays live. -/
def stagesCut (f : Nat) (a : State) : State :=
  (declaredStages (secs a)).foldl (fun s g => if isLive s then cutoffStage f g s else s) a

/-- Then the frame of every declared port built, and a port retrained whose last SLOT_OFF frame that was. -/
def framesCut (f : Nat) (a : State) : State :=
  (declaredPorts (secs a)).foldl (fun s p =>
    if !isLive s then s
    else
      let owed := (s.port p).slotOffFrames
      let s := dropLate f p (buildFrame f p s)
      if isLive s && owed = 1 && (s.port p).slotOffFrames = 0 then retrainPort p s else s) (stagesCut f a)

theorem execFrameCutoff_cuts (up : linkUp a = true) (near : f * frameTicks ≤ rackTime a + 320)
    (before : rackTime a ≤ f * frameTicks) (once : a.modul.cutFrame ≤ f) : exec (.frameCutoff t f) s = .next (
      if isLive (framesCut f a) then { framesCut f a with
        modul := { (framesCut f a).modul with cutFrame := max (framesCut f a).modul.cutFrame (f + 1) } }
      else framesCut f a) := by
  show execFrameCutoff t f s = _
  unfold execFrameCutoff
  rw [← ha]
  exact if_neg (by simp [up, near, before, once])

end

/-! ### Braking, crowbars, the quiet point, wear records (R206 to R208, R212) -/

section
variable {t : Nat} {s a : State} (ha : a = advance t s)
include ha

theorem execWearSave_runs (mode : a.mode = .run) : exec (.wearSave t) s = .next (
    if a.maq.wearAt + 60 * sgWearSave (secs a) ≤ a.plinth.opSeconds then
      { a with maq := { a.maq with wearAt := a.plinth.opSeconds, requested := true } }
    else a) := by
  show execWearSave t s = _
  unfold execWearSave
  rw [← ha]
  simp only [mode, beq_self_eq_true, Bool.true_and, decide_eq_true_eq, apply_ite Host.Outcome.next]
  rfl

variable (run : running a = true)
include run

theorem execBrakeMaxTimeExpiry_runs {g : Nat} (braking : (a.stage g).mode = .braking) :
    exec (.brakeMaxTimeExpiry t g) s = .next (
      if (a.stage g).brakeSince + sgBrakeMax (secs a) * usTicks ≤ rackTime a then endBrake g 3 a else a) := by
  show execBrakeMaxTimeExpiry t g s = _
  unfold execBrakeMaxTimeExpiry
  rw [← ha]
  simp only [run, braking, beq_self_eq_true, Bool.true_and, decide_eq_true_eq, apply_ite Host.Outcome.next]

theorem execCrowbarFire_runs {p g : Nat} (role : phRole (secs a) p ≠ 0) (hg : g = phStage (secs a) p)
    (enabled : stCrowbarEn (secs a) g = true) (on : stageOn a g = true) : exec (.crowbarFire t p) s = .next (
      if (a.input 0x0502 (phaseScope a p)).asserted = true then fireCrowbar g a else a) := by
  subst hg
  show execCrowbarFire t p s = _
  unfold execCrowbarFire
  rw [← ha]
  simp only [run, bne_iff_ne.mpr role, enabled, on, Bool.true_and, apply_ite Host.Outcome.next]

theorem execQuietPoint_runs {g q : Nat} (mode : (a.stage g).mode = .running) (since : (a.stage g).quietSince = some q) :
    exec (.quietPoint t g) s = .next (
      if q + sgQuietTime (secs a) * msTicks ≤ rackTime a then a.setStage g { a.stage g with quiet := true } else a) := by
  show execQuietPoint t g s = _
  unfold execQuietPoint
  rw [← ha]
  simp only [since, run, mode, beq_self_eq_true, Bool.true_and, decide_eq_true_eq, apply_ite Host.Outcome.next]

end

/-- Settles O39: the cut-off by its window, each timed act by whether its time has come. -/
theorem pulsesBrakesAndCrowbars : Obligations.PulsesBrakesAndCrowbars := by
  intro t s a ha
  refine ⟨?cuts, fun f => execFrameCutoff_none ha, ?brakes, ?crowbars, ?quiet, ?wear⟩
  case cuts =>
    intro f u up near before once hu
    subst hu
    exact execFrameCutoff_cuts ha up near before once
  case brakes =>
    intro g run braking
    rw [execBrakeMaxTimeExpiry_runs ha run braking]
    exact ⟨fun due => congrArg _ (if_pos due), fun early => congrArg _ (if_neg (by omega))⟩
  case crowbars =>
    intro p g run role hg enabled on
    rw [execCrowbarFire_runs ha run role hg enabled on]
    exact ⟨fun asserted => congrArg _ (if_pos asserted), fun idle => congrArg _ (if_neg (by simp [idle]))⟩
  case quiet =>
    intro g q run mode since
    rw [execQuietPoint_runs ha run mode since]
    exact ⟨fun due => congrArg _ (if_pos due), fun early => congrArg _ (if_neg (by omega))⟩
  case wear =>
    intro mode
    rw [execWearSave_runs ha mode]
    exact ⟨fun due => congrArg _ (if_pos due), fun early => congrArg _ (if_neg (by omega))⟩

end Sys2Proof.LinkProofs
end

section
/-! SUPPORT. The main windows of a phase (R120 to R126): when one is open, and what its command then does (O31). -/

namespace Sys2Proof.SenseProofs

open Sys2Proof Sys2Proof.Machine

theorem windowOpen_iff {e : Bytes} {x : PhaseSense} :
    windowOpen e x = true ↔ spOsr e ≠ 0 ∧ x.frame % spOsr e = spWin e ∧ x.window ≠ x.frame := by
  simp [windowOpen, and_assoc]

/-- A window whose support holds a missing slot counts once in each channel and is taken (R122). -/
theorem skipWindow_gap {e : Bytes} {x : PhaseSense} (opened : windowOpen e x = true)
    (gap : supportWhole (8 * spOsr e) x.gap = false) : skipWindow e x = addMissing 1 { x with window := x.frame } := by
  unfold skipWindow
  rw [if_pos (by simp [opened, gap])]

theorem skipWindow_closed {e : Bytes} {x : PhaseSense} (closed : ¬ windowOpen e x = true) : skipWindow e x = x := by
  unfold skipWindow
  rw [if_neg (by simp [closed])]

/-- No frame of a phase is taken as missing while a lane of its tile delivers (R122). -/
theorem fillSilent_delivering {p : Nat} {a : State} {y : Bytes × Nat} (seat : phaseSeat (secs a) p = some y)
    (delivers : (activePort a y.1).isSome = true) : fillSilent p a = a := by
  unfold fillSilent
  simp only [seat]
  exact if_pos delivers

/-- The frames that should have come are filled first; then the window is published where it is open. -/
theorem execWindowSamplePublish_runs {t p : Nat} {s a v : State} (ha : a = advance t s) (run : running a = true) (known : p < 192)
    (hv : v = fillSilent p a) (still : running v = true) : exec (.windowSamplePublish t p) s = .next (
      if windowOpen (sePhase (secs v) p) (v.sense p) then
        if isLive (mainWindow p v) then windowPublished p (mainWindow p v) else mainWindow p v
      else v) := by
  subst hv
  show execWindowSamplePublish t p s = _
  unfold execWindowSamplePublish
  rw [← ha]
  dsimp only
  rw [if_pos (show (running a && decide (p < 192)) = true by simp [run, known])]
  simp only [still, known, decide_true, Bool.true_and, apply_ite Host.Outcome.next]

/-- Settles O31: a window by whether it is open, the fill by the lane of its tile. -/
theorem windowsArePublished : Obligations.WindowsArePublished := by
  intro t p s a v x e ha run known hv still hx he
  subst hx he
  have runs := execWindowSamplePublish_runs ha run known hv still
  refine ⟨?opened, ?closed, ?delivering⟩
  case opened =>
    intro osr last fresh
    have opened := windowOpen_iff.mpr ⟨osr, last, fresh⟩
    exact ⟨runs.trans (congrArg _ (if_pos opened)), skipWindow_gap opened⟩
  case closed =>
    intro unfit
    have closed : ¬ windowOpen (sePhase (secs v) p) (v.sense p) = true := by
      rw [windowOpen_iff]
      tauto
    exact ⟨runs.trans (congrArg _ (if_neg closed)), skipWindow_closed closed⟩
  case delivering =>
    intro y seat delivers
    exact hv.trans (fillSilent_delivering seat delivers)

end Sys2Proof.SenseProofs
end

section
/-! SUPPORT. SENSE_ZERO (R127): the answer that starts it and the ends of its measurement (O32). -/

namespace Sys2Proof.SenseProofs

open Sys2Proof Sys2Proof.Machine

/-- A declared stage with sensing is accepted in SERVICE, and its measurement starts. -/
theorem senseZero_accepted {d : Bytes} {u : State} (declared : stageDeclared (secs u) (u8 d 0) = true)
    (sensed : stKind (secs u) (u8 d 0) ≠ 0) (mode : u.mode = .service) : senseZero d u
      = (stAccepted, [], { u with pave := { u.pave with zeroRun := some { stage := u8 d 0 } } }) := by
  unfold senseZero
  dsimp only
  rw [if_neg (by simp [declared, sensed]), if_neg (by simp [mode])]
  rfl

section
variable {t : Nat} {s a b : State} {z : ZeroRun} (ha : a = advance t s) (measured : a.pave.zeroRun = some z)
  (run : running a = true)
include ha measured run

/-- A phase short of its 256 windows keeps the measurement going. -/
theorem execSenseZeroComplete_waits (off : z.gated = false)
    (short : ∃ p ∈ stagePhases (secs a) z.stage, (Tab.get (0, 0) z.sums p).2 ≠ 256) :
    exec (.senseZeroComplete t) s = .next a := by
  show execSenseZeroComplete t s = _
  unfold execSenseZeroComplete
  rw [← ha]
  simp only [measured]
  rw [if_neg (by simp [run]), if_neg (by simp [off]), if_pos (by simpa using short)]

variable (hb : b = { a with pave := { a.pave with zeroRun := none } })
include hb

/-- A gate seen on ends the measurement, and no offset changes. -/
theorem execSenseZeroComplete_gated (on : z.gated = true) :
    exec (.senseZeroComplete t) s = .next (finishCommand 0x0510 stIntegrity 0 b) := by
  subst hb
  show execSenseZeroComplete t s = _
  unfold execSenseZeroComplete
  rw [← ha]
  simp only [measured]
  rw [if_neg (by simp [run]), if_pos on]

/-- The measurement is whole and in range: each phase takes its mean as its offset, with an event. -/
theorem execSenseZeroComplete_done (off : z.gated = false)
    (whole : ∀ p ∈ stagePhases (secs a) z.stage, (Tab.get (0, 0) z.sums p).2 = 256 ∧
      withinI (-2097152) 2097152 (zeroOffset z p) = true) :
    exec (.senseZeroComplete t) s = .next (finishCommand 0x0510 stDone 0 ((stagePhases (secs a) z.stage).foldl
      (fun s p => event 0x8502 [p] (s.setSense p { s.sense p with zero := some (zeroOffset z p) })) b)) := by
  have windows : ∀ p ∈ stagePhases (secs a) z.stage, (Tab.get (0, 0) z.sums p).2 = 256 := fun p hp => (whole p hp).1
  have ranges : ∀ p ∈ stagePhases (secs a) z.stage, withinI (-2097152) 2097152 (zeroOffset z p) = true :=
    fun p hp => (whole p hp).2
  subst hb
  show execSenseZeroComplete t s = _
  unfold execSenseZeroComplete
  rw [← ha]
  simp only [measured]
  rw [if_neg (by simp [run]), if_neg (by simp [off]), if_neg (by simpa using windows), if_neg (by simpa using ranges)]

end

/-- Settles O32: the command by the answer of its body, the end by what the measurement has seen. -/
theorem offsetsAreZeroed : Obligations.OffsetsAreZeroed := by
  intro t s a ha
  refine ⟨?starts, fun z b measured run hb => ⟨execSenseZeroComplete_gated ha measured run hb,
    execSenseZeroComplete_waits ha measured run, execSenseZeroComplete_done ha measured run hb⟩⟩
  case starts =>
    intro rq u g admitted hg declared sensed mode
    subst ha hg
    exact ⟨_, rfl, admitted_accepts admitted (senseZero_accepted declared sensed mode)⟩

end Sys2Proof.SenseProofs
end

section
/-! SUPPORT. The local inputs (R137, R138, R142, R143): the codes of an analogue input, the periods and the silence of a pulse
set-point input (O34). -/

namespace Sys2Proof.SenseProofs

open Sys2Proof Sys2Proof.Machine

/-! ### Analogue inputs (R137, R138) -/

section
variable {t c code : Nat} {s a : State} {e : Bytes} {x : Ain} (ha : a = advance t s) (run : running a = true) (known : c < 32)
  (he : e = seAin (secs a) c) (on : ainOn e = true) (hx : x = Tab.get ({} : Ain) a.pave.ains c)
include ha run known he on hx

/-- The first code of a sampling instant joins the average, or ends and publishes it. -/
theorem execAinSample_takes {z : Nat} (instant : ainSlot a c = some z) (fresh : x.slot ≠ some z) :
    exec (.ainSample t c code) s = .next (
      if x.codes.length + 1 < 2 ^ u8 e 1 then { a with
        pave := { a.pave with ains := Tab.set a.pave.ains c { x with codes := min code 4095 :: x.codes, slot := some z } } }
      else ainPublish c (min code 4095 :: x.codes) z a) := by
  subst he hx
  show execAinSample t c code s = _
  unfold execAinSample
  rw [← ha]
  dsimp only
  rw [if_pos (by simp [run, known, on]), instant, Option.filter_some, if_pos (by simpa using fresh)]
  exact (apply_ite Host.Outcome.next _ _ _).symm

/-- Before a channel's first instant, and a second time for one instant, a code is not taken. -/
theorem execAinSample_ignores (taken : ainSlot a c = none ∨ ainSlot a c = x.slot) :
    exec (.ainSample t c code) s = .next a := by
  subst he hx
  have nothing : (ainSlot a c).filter (fun z => (Tab.get ({} : Ain) a.pave.ains c).slot != some z) = none := by
    rcases taken with early | same
    · rw [early]; rfl
    · rw [← same]; cases ainSlot a c <;> simp
  show execAinSample t c code s = _
  unfold execAinSample
  rw [← ha]
  dsimp only
  rw [if_pos (by simp [run, known, on]), nothing]

end

/-! ### Pulse set-points (R142, R143) -/

/-- Publishing a reading leaves all of an input but its word and tag. -/
@[simp] theorem setIn_publishIn (k : Nat) (v : Int) (f : Bool) (s : State) :
    (publishIn k v f s).setIn k = { s.setIn k with
      word := { value := clamp24 v, valid := true, mark := f, close := rackTime s, tag := period s }, tag := period s } :=
  State.setIn_setSetIn _ _ _

/-- A period and its high time, in units of 10 ns, are within the tolerance and the duty range of the input (R142). -/
def sppValid (e : Bytes) (period high : Nat) : Bool :=
  decide (100 * ((period : Int) - u32 e 4).natAbs ≤ u8 e 8 * u32 e 4)
    && decide (u16 e 10 * period ≤ 10000 * high) && decide (10000 * high ≤ u16 e 12 * period)

theorem sppValid_iff {e : Bytes} {period high : Nat} : sppValid e period high = true ↔
    100 * ((period : Int) - u32 e 4).natAbs ≤ u8 e 8 * u32 e 4 ∧ u16 e 10 * period ≤ 10000 * high ∧
      10000 * high ≤ u16 e 12 * period := by
  simp [sppValid, and_assoc]

section
variable {t c period high : Nat} {s a : State} {e : Bytes} {x : SetIn} (ha : a = advance t s) (run : running a = true)
  (known : c < 4) (he : e = seSetIn (secs a) (c + 4)) (on : setInOn e = true)

section
include ha

/-- A rising edge within 30 ns of the falling edge before it is ignored. -/
theorem execSppRisingEdge_ignored (near : period ≤ high + 3) : exec (.sppRisingEdge t c period high) s = .next a := by
  show execSppRisingEdge t c period high s = _
  unfold execSppRisingEdge
  rw [← ha]
  exact if_pos (by simp [near])

include run known he on

theorem execSppEdgeTimeout_runs (fell : Option Nat) : exec (.sppEdgeTimeout ⟨t, fell⟩ c) s = .next (
    if lastSppEdge (a.setIn (c + 4)) fell + 3 * u32 e 4 * 64 ≤ rackTime a then enterFallback (c + 4) a else a) := by
  subst he
  show execSppEdgeTimeout ⟨t, fell⟩ c s = _
  unfold execSppEdgeTimeout
  dsimp only
  rw [← ha]
  simp only [run, known, on, decide_true, Bool.true_and, decide_eq_true_eq, apply_ite Host.Outcome.next]

variable (hx : x = a.setIn (c + 4)) (normal : x.fallback = false) (far : high + 3 < period)
include hx normal far

/-- Outside fallback a valid period is published, and ends the run of bad ones. -/
theorem execSppRisingEdge_valid {m : Int}
    (hm : m = mapLinear (u16 e 10) (u16 e 12) (i32 e 16) (i32 e 20) (10000 * high) period) (valid : sppValid e period high = true) :
    exec (.sppRisingEdge t c period high) s = .next (publishIn (c + 4) m false (a.setSetIn (c + 4) { x with
      lastEdge := rackTime a, raw := period, rawHigh := high, bad := 0, good := x.good + 1, measured := m
      measuredValid := true })) := by
  subst he hx hm
  unfold sppValid at valid
  show execSppRisingEdge t c period high s = _
  unfold execSppRisingEdge
  rw [← ha]
  dsimp only
  rw [if_neg (by simp [run, known, on, far])]
  simp [valid, normal]

/-- Outside fallback the third bad period in a row enters it. -/
theorem execSppRisingEdge_bad (bad : sppValid e period high = false) {b : State} (hb : b = a.setSetIn (c + 4) { x with
      lastEdge := rackTime a, raw := period, rawHigh := high, bad := x.bad + 1, good := 0 }) :
    exec (.sppRisingEdge t c period high) s = .next (if 2 ≤ x.bad then enterFallback (c + 4) b else b) := by
  subst he hx hb
  unfold sppValid at bad
  show execSppRisingEdge t c period high s = _
  unfold execSppRisingEdge
  rw [← ha]
  dsimp only
  rw [if_neg (by simp [run, known, on, far])]
  simp [bad, normal, apply_ite Host.Outcome.next]

end
end

/-- Settles O34: a code by its sampling instant, a period by whether it is valid, the silence by its limit. -/
theorem localInputsAreTaken : Obligations.LocalInputsAreTaken := by
  intro t c s a ha run
  refine ⟨?codes, ?periods, ?silence⟩
  case codes =>
    intro code e x known he on hx
    refine ⟨fun z instant fresh => ?_, execAinSample_ignores ha run known he on hx⟩
    rw [execAinSample_takes ha run known he on hx instant fresh]
    exact ⟨fun more => congrArg _ (if_pos more), fun last => congrArg _ (if_neg (by omega))⟩
  case periods =>
    intro period high e x m known he on hx normal hm
    refine ⟨execSppRisingEdge_ignored ha, fun far near low top =>
      execSppRisingEdge_valid ha run known he on hx normal far hm (sppValid_iff.mpr ⟨near, low, top⟩), fun far wrong b hb => ?_⟩
    have bad : sppValid e period high = false :=
      Bool.eq_false_iff.mpr (fun valid => absurd (sppValid_iff.mp valid).1 (by omega))
    rw [execSppRisingEdge_bad ha run known he on hx normal far bad hb]
    exact ⟨fun few => congrArg _ (if_neg (by omega)), fun third => congrArg _ (if_pos third)⟩
  case silence =>
    intro e fell d known he on hd
    subst hd
    rw [execSppEdgeTimeout_runs ha run known he on]
    exact ⟨fun due => congrArg _ (if_pos due), fun early => congrArg _ (if_neg (by omega))⟩

end Sys2Proof.SenseProofs
end

section
/-! SUPPORT. The proofs of the engines (R176 to R178) and the limit of a trim (R203): the branches of each command (O36). -/

namespace Sys2Proof.LoopProofs

open Sys2Proof Sys2Proof.Machine

/-! ### An engine fails (R177, R178) -/

section
variable {k v : Nat} {a : State} {e : Engine} (he : e = a.engine k)
include he

/-- The spare is out at once, with 0x0604. -/
theorem engineFails_spare (spare : e.state = 1) : engineFails k v a = chipPulse 0x0604 [k] (a.setEngine k { e with
    fails := sat32 e.fails 1, passed := false, lastVector := v, state := 2
    failedAt := if e.failedAt = 0 then a.plinth.opSeconds else e.failedAt }) := by
  subst he
  unfold engineFails
  simp only [spare, reduceIte, Nat.one_ne_zero]

/-- An engine of the pool is due to leave it at the next frame boundary. -/
theorem engineFails_pool (pool : e.state = 0) : engineFails k v a = settleEngines (a.setEngine k { e with
    fails := sat32 e.fails 1, passed := false, lastVector := v
    removeAt := some (onGrid (rackTime a) frameTicks 0)
    failedAt := if e.failedAt = 0 then a.plinth.opSeconds else e.failedAt }) := by
  subst he
  unfold engineFails
  simp only [pool, reduceIte, Nat.zero_ne_one]

end

/-! ### A proof and its interval (R176) -/

/-- An engine whose proof of interval `m` starts at rack time `r`: it holds a slot for a frame. -/
def proofStarted (m r : Nat) (e : Engine) : Engine :=
  { e with provedIn := m + 1, proofUntil := r + 2560, lastVector := m % 16 }

section
variable {t k m : Nat} {s a : State} {e : Engine} (ha : a = settleEngines (advance t s)) (run : running a = true)
  (he : e = a.engine k) (interval : proofInterval a k = some m) (known : k < 9)
include ha he interval

/-- A second proof in one interval is not counted. -/
theorem execProofEvaluation_again (proved : e.provedIn = m + 1) (ok : Bool) :
    exec (.proofEvaluation t k ok) s = .next a := by
  subst he
  show execProofEvaluation t k ok s = _
  unfold execProofEvaluation
  rw [← ha]
  simp only [interval]
  exact if_pos (by simp [proved])

include run known

/-- The first proof of an interval, on the grid and with a slot free, takes the slot; the checker's finding is counted. -/
theorem execProofEvaluation_first (grid : rackTime a % 320 = 0) (fresh : e.provedIn ≠ m + 1) (free : freeSlots a k ≠ 0)
    (ok : Bool) : exec (.proofEvaluation t k ok) s = .next (
      if ok then (a.setEngine k (proofStarted m (rackTime a) e)).setEngine k
        { proofStarted m (rackTime a) e with proofs := sat32 e.proofs 1, passed := true }
      else engineFails k (m % 16) (a.setEngine k (proofStarted m (rackTime a) e))) := by
  subst he
  show execProofEvaluation t k ok s = _
  unfold execProofEvaluation
  rw [← ha]
  simp only [interval]
  rw [if_neg (by simp [run, known, grid, fresh, free]), State.engine_setEngine]
  exact (apply_ite Host.Outcome.next _ _ _).symm

/-- An interval that ends without a proof fails the engine; interval 0 has none before it. -/
theorem execProofIntervalEnd_runs : exec (.proofIntervalEnd t k) s = .next (
    if m ≤ e.provedIn then a else engineFails k ((m - 1) % 16) (a.setEngine k { e with provedIn := m })) := by
  subst he
  show execProofIntervalEnd t k s = _
  unfold execProofIntervalEnd
  rw [← ha]
  simp only [interval]
  by_cases proved : m ≤ (a.engine k).provedIn
  · rw [if_pos proved, if_pos (by simp [proved])]
  · rw [if_neg proved, if_neg (by simp [run, known, proved]; omega)]

end

/-! ### The limit of a trim (R203) -/

theorem execEqualiseLimit_runs {t p since : Nat} {s a : State} (ha : a = advance t s) (run : running a = true)
    (held : (a.ph p).trimSince = some since) : exec (.equaliseLimit t p) s = .next (
      if (a.ph p).trimTold = false ∧ since + 100 * msTicks ≤ rackTime a then
        phasePulse 0x0707 p [] (a.setPh p { a.ph p with trimTold := true })
      else a) := by
  show execEqualiseLimit t p s = _
  unfold execEqualiseLimit
  rw [← ha]
  simp only [held, run, Bool.true_and, Bool.and_eq_true, Bool.not_eq_true', decide_eq_true_eq, apply_ite Host.Outcome.next]

/-- Settles O36: a proof by whether its interval has one, a failure by the seat of the engine, a trim by its time at the
limit. -/
theorem enginesAreProved : Obligations.EnginesAreProved := by
  intro t k s now a e hnow ha run he
  have settled : a = settleEngines (advance t s) := by rw [ha, hnow]
  refine ⟨?first, fun m interval _ proved ok => execProofEvaluation_again settled he interval proved ok, ?ended,
    ?spare, fun v pool => engineFails_pool he pool, ?trim⟩
  case first =>
    intro m interval known grid fresh free
    have runs := execProofEvaluation_first settled run he interval known grid fresh free
    exact ⟨runs true, runs false⟩
  case ended =>
    intro m interval known
    rw [execProofIntervalEnd_runs settled run he interval known]
    exact ⟨fun missed => congrArg _ (if_neg (by omega)), fun proved => congrArg _ (if_pos proved)⟩
  case spare =>
    intro v b spare hb
    subst hb
    exact engineFails_spare he spare
  case trim =>
    intro p since live held
    rw [execEqualiseLimit_runs hnow live held]
    exact ⟨fun untold due => congrArg _ (if_pos ⟨untold, due⟩), fun told => congrArg _ (if_neg (by simp [told]))⟩

end Sys2Proof.LoopProofs
end

section
/-! SUPPORT. The loop commands (R170, R171, R365): the answer of each body (O37). -/

namespace Sys2Proof.LoopProofs

open Sys2Proof Sys2Proof.Machine

section
variable {d : Bytes} {u : State} {c : Nat} (hc : c = u16 d 0) (named : ctxArgOk u c = true)
include hc named

/-! ### LOOP_OPEN -/

section
variable (mode : u.mode = .service) (on : stageRunning u (ctxStage (secs u) c) = true)
include mode on

theorem loopOpen_denied (how : u8 d 2 ≤ 1) (guarded : stGuarded (secs u) (ctxStage (secs u) c) = true) :
    loopOpen d u = (stDenied, [], u) := by
  subst hc
  unfold loopOpen
  dsimp only
  rw [if_neg (by simp [named, how]), if_neg (by simp [mode, on]), if_pos (by simp [guarded])]
  rfl

/-- An openable context of an unguarded stage opens: held as it is, or by hand with a value within its limits. -/
theorem loopOpen_done (openable : ctxOpenable (lcRec (secs u) c) = true)
    (free : stGuarded (secs u) (ctxStage (secs u) c) = false)
    (how : u8 d 2 = 0 ∨ u8 d 2 = 1 ∧ manualOk u c (i32 d 4) = true) :
    loopOpen d u = (stDone, [], event 0x8603 [c, 1] (u.setCtx c { u.ctx c with
      mode := if u8 d 2 = 0 then .hold else .manual, manual := i32 d 4, closeK := 0 })) := by
  subst hc
  have range : ¬ (!ctxArgOk u (u16 d 0) || decide (1 < u8 d 2)) = true := by
    simp only [named, Bool.not_true, Bool.false_or, decide_eq_true_eq]
    omega
  have manual : ¬ (decide (u8 d 2 = 1) && !manualOk u (u16 d 0) (i32 d 4)) = true := by
    rcases how with hold | ⟨-, inRange⟩
    · simp [hold]
    · simp [inRange]
  unfold loopOpen
  dsimp only
  rw [if_neg range, if_neg (by simp [mode, on]), if_neg (by simp [openable, free]), if_neg manual]
  rfl

end

/-! ### LOOP_SET -/

theorem loopSet_done (mode : u.mode = .service) (byHand : (u.ctx c).mode = .manual)
    (inRange : manualOk u c (i32 d 4) = true) :
    loopSet d u = (stDone, [], u.setCtx c { u.ctx c with manual := i32 d 4 }) := by
  subst hc
  unfold loopSet
  dsimp only
  rw [if_neg (by simp [named]), if_neg (by simp [mode, byHand]), if_neg (by simp [inRange])]
  rfl

theorem loopSet_wrongMode (closed : (u.ctx c).mode = .closed) : loopSet d u = (stWrongMode, [], u) := by
  subst hc
  unfold loopSet
  dsimp only
  rw [if_neg (by simp [named]), if_pos (by simp [closed])]
  rfl

/-! ### CTX_COEF_WRITE of a body -/

section
variable {w : Bytes} {r : Bytes} (row : u8 d 2 = 0xFF) (col : u8 d 3 = 0xFF) (hw : w = d.drop 8) (hr : r = lcRec (secs u) c)
include row col hw hr

/-- A body write that lets every reserved bit 0 and fits is pending, and the CRC of the context follows it. -/
theorem coefWrite_body {b : Bytes} (mode : u.mode = .service) (opened : (u.ctx c).mode ≠ .closed)
    (hb : b = (u.ctx c).pending.getD (bodyOf u c)) (zero : reservedZero (ctxForm r) (ctxBody r) (u16 d 4) w = true)
    (fits : u16 d 4 + w.length ≤ b.length) (whole : bodyWriteOk r (u16 d 4) w b = true) :
    coefWrite d u = (stDone, [], storeCrc c (r.take 32 ++ putBytes b (u16 d 4) w)
      (u.setCtx c { u.ctx c with pending := some (putBytes b (u16 d 4) w) })) := by
  subst hc hw hr hb
  unfold coefWrite
  dsimp only
  rw [if_neg (by simp [named, row, col, zero]), if_neg (by simp [mode, opened]), if_pos (by simp [row, col]),
    if_neg (by omega), if_neg (by simp [whole])]
  rfl

theorem coefWrite_reserved (nonzero : reservedZero (ctxForm r) (ctxBody r) (u16 d 4) w = false) :
    coefWrite d u = (stRange, [], u) := by
  subst hc hw hr
  unfold coefWrite
  dsimp only
  rw [if_pos (by simp [row, col, nonzero])]
  rfl

end

/-! ### LOOP_CLOSE -/

theorem loopClose_done (opened : (u.ctx c).mode ≠ .closed) : loopClose d u = (stDone, [], closeLoop c 2 u) := by
  subst hc
  unfold loopClose
  dsimp only
  rw [if_neg (by simp [named]), if_neg (by simp [opened])]
  rfl

theorem loopClose_wrongMode (closed : (u.ctx c).mode = .closed) : loopClose d u = (stWrongMode, [], u) := by
  subst hc
  unfold loopClose
  dsimp only
  rw [if_neg (by simp [named]), if_pos (by simp [closed])]
  rfl

end

/-- Settles O37: each loop command by the answer of its body. -/
theorem loopsAreOpenedAndClosed : Obligations.LoopsAreOpenedAndClosed := by
  intro t rq s a u c g ha hc hg named mode
  subst ha hg
  refine ⟨?opens, ?sets, ?writes, ?reserved, ?closes⟩
  case opens =>
    intro admitted on
    refine ⟨fun openable free => ⟨fun hold => ?hold, fun byHand inRange => ?byHand⟩, fun how guarded =>
      ⟨_, rfl, admitted_answers admitted (loopOpen_denied hc named mode on how guarded) (by decide)⟩⟩
    case hold =>
      have done := loopOpen_done hc named mode on openable free (.inl hold)
      rw [if_pos hold] at done
      exact ⟨_, rfl, admitted_answers admitted done (by decide)⟩
    case byHand =>
      have done := loopOpen_done hc named mode on openable free (.inr ⟨byHand, inRange⟩)
      rw [if_neg (by omega)] at done
      exact ⟨_, rfl, admitted_answers admitted done (by decide)⟩
  case sets =>
    exact fun admitted =>
      ⟨fun byHand inRange => ⟨_, rfl, admitted_answers admitted (loopSet_done hc named mode byHand inRange) (by decide)⟩,
        fun closed => ⟨_, rfl, admitted_answers admitted (loopSet_wrongMode hc named closed) (by decide)⟩⟩
  case writes =>
    intro b w r admitted row col hb hw hr zero opened fits whole
    exact ⟨_, rfl, admitted_answers admitted
      (coefWrite_body hc named row col hw hr mode opened hb zero fits whole) (by decide)⟩
  case reserved =>
    exact fun admitted row col nonzero =>
      ⟨_, rfl, admitted_answers admitted (coefWrite_reserved hc named row col rfl rfl nonzero) (by decide)⟩
  case closes =>
    exact fun admitted =>
      ⟨fun opened => ⟨_, rfl, admitted_answers admitted (loopClose_done hc named opened) (by decide)⟩,
        fun closed => ⟨_, rfl, admitted_answers admitted (loopClose_wrongMode hc named closed) (by decide)⟩⟩

end Sys2Proof.LoopProofs
end

section
/-! SUPPORT. The injection generator and the capture unit (R172 to R175): the answer of each command (O38). -/

namespace Sys2Proof.LoopProofs

open Sys2Proof Sys2Proof.Machine

/-! ### Injections (R172, R173) -/

/-- The waveform arguments of INJECT_START are legal: the frequency of SINE, the length of a table (R172). -/
def WaveLegal (d : Bytes) : Prop :=
  u8 d 3 = 0 ∧ within 100 5000000 (u32 d 8) = true ∨ u8 d 3 = 1 ∨
    (u8 d 3 = 2 ∨ u8 d 3 = 3) ∧ within 1 65536 (u32 d 12) = true

/-- The generator as INJECT_START in `u` starts it: its PRBS register from the free value, never 0. -/
def injectionFrom (d : Bytes) (u : State) : Inject :=
  { ctx := u16 d 0, point := u8 d 2, wave := u8 d 3, amplitude := i32 d 4, freq := u32 d 8, length := u32 d 12
    lfsr := (drawFree u).1 % (2 ^ 31 - 1) + 1, start := rackTime u }

/-- The PRBS register of 31 bits starts at a value of its cycle. -/
theorem injectionFrom_lfsr (d : Bytes) (u : State) : 1 ≤ (injectionFrom d u).lfsr ∧ (injectionFrom d u).lfsr < 2 ^ 31 := by
  have below : (drawFree u).1 % (2 ^ 31 - 1) < 2 ^ 31 - 1 := Nat.mod_lt _ (by decide)
  constructor <;> simp only [injectionFrom] <;> omega

/-- The state in which the generator runs: a capture armed on its context states its exponents from now on (R175). -/
def injectionStarted (j : Inject) (u : State) : State :=
  { u with freeIx := u.freeIx + 1, loops := { u.loops with
    inject := some j
    capture := if u.loops.capture.state = 1 ∧ u.loops.capture.ctx = j.ctx then
      { u.loops.capture with exps := restate u j u.loops.capture } else u.loops.capture } }

/-- A legal injection of an unguarded stage starts; no capture waits for it as its trigger. -/
theorem injectStart_done {d : Bytes} {u : State} {c : Nat} (hc : c = u16 d 0) (mode : u.mode = .service)
    (named : ctxArgOk u c = true) (point : u8 d 2 ≤ 2) (wave : WaveLegal d) (idle : u.loops.inject = none)
    (unguarded : stGuarded (secs u) (ctxStage (secs u) c) = false)
    (amplitude : amplitudeOk u c (u8 d 2) (i32 d 4) = true) (untriggered : u.loops.capture.trigger ≠ 1) :
    injectStart d u = (stDone, [], injectionStarted (injectionFrom d u) u) := by
  subst hc
  have legal : ¬ (!ctxArgOk u (u16 d 0) || decide (2 < u8 d 2) || decide (3 < u8 d 3)
      || (decide (u8 d 3 = 0) && !within 100 5000000 (u32 d 8))
      || (decide (2 ≤ u8 d 3) && !within 1 65536 (u32 d 12))) = true := by
    rcases wave with ⟨sine, freq⟩ | prbs | ⟨once | loop, length⟩
    · simp [named, point, sine, freq]
    · simp [named, point, prbs]
    · simp [named, point, once, length]
    · simp [named, point, loop, length]
  have still : (injectionStarted (injectionFrom d u) u).loops.capture.trigger ≠ 1 := by
    unfold injectionStarted
    dsimp only
    split <;> exact untriggered
  unfold injectStart
  dsimp only
  rw [if_neg legal, if_neg (by simp [mode]), if_neg (by simp [idle]), if_neg (by simp [unguarded]),
    if_neg (by simp [amplitude])]
  simp only [Bool.and_eq_true, decide_eq_true_eq, beq_iff_eq]
  exact congrArg (say stDone) (if_neg still)

/-- The generator stops, with its event. -/
theorem stopInject_running {j : Inject} {u : State} (cause : Nat) (runs : u.loops.inject = some j) :
    stopInject cause u = event 0x8602 [cause] { u with loops := { u.loops with inject := none } } := by
  unfold stopInject
  rw [runs]

/-! ### Captures (R174, R175) -/

/-- The four signals of CAPTURE_ARM, each with its kind and selector. -/
def signalsOf (d : Bytes) : List (Nat × Nat) := (List.range 4).map (fun k => (u8 d (16 + 4 * k), u16 d (18 + 4 * k)))

/-- The capture unit as CAPTURE_ARM in `u` sets it up, with no sample: armed, or running at once for trigger 0. -/
def captureFrom (d : Bytes) (u : State) : Capture :=
  { state := if u8 d 6 = 0 then 2 else 1
    ctx := u16 d 0, decimation := u16 d 2, pre := u16 d 4, trigger := u8 d 6, falling := u8 d 7 == 1
    faultCode := u16 d 8, level := i32 d 12, signals := signalsOf d
    exps := (signalsOf d).map (signalExp u (u.loops.inject.filter (fun j => j.ctx == u16 d 0)) (u16 d 0))
    trigTime := if u8 d 6 = 0 then rackTime u else 0 }

/-- The trigger of a unit that has taken no sample sets it running from now. -/
theorem triggerCapture_empty {u : State} (armed : u.loops.capture.state = 1) (empty : u.loops.capture.samples = []) :
    triggerCapture u = { u with loops := { u.loops with
      capture := { u.loops.capture with state := 2, trigTime := rackTime u, trigIndex := 0, samples := [], count := 0 } } } := by
  unfold triggerCapture
  dsimp only
  rw [if_pos armed]
  simp only [empty, List.take_nil, List.length_nil, Nat.min_zero]

theorem captureArm_done {d : Bytes} {u : State} {c : Nat} (hc : c = u16 d 0)
    (mode : u.mode = .standby ∨ u.mode = .run ∨ u.mode = .service) (named : ctxArgOk u c = true)
    (decimation : within 1 256 (u16 d 2) = true) (trigger : u8 d 6 ≤ 3) (edge : u8 d 7 ≤ 1)
    (known : ∀ x ∈ signalsOf d, x.1 ≤ 6 ∧ (x.1 = 6 → selectorOk (secs u) x.2 = true))
    (unarmed : u.loops.capture.state ≠ 1) (quiet : u.loops.capture.state ≠ 2) :
    captureArm d u = (stDone, [], { u with loops := { u.loops with capture := captureFrom d u } }) := by
  subst hc
  have selected : (signalsOf d).all (fun x => decide (x.1 ≤ 6) && (x.1 != 6 || selectorOk (secs u) x.2)) = true := by
    rw [List.all_eq_true]
    intro x hx
    obtain ⟨kind, selector⟩ := known x hx
    by_cases six : x.1 = 6
    · simp [kind, selector six]
    · simp [kind, six]
  have legal : ¬ (!ctxArgOk u (u16 d 0) || !within 1 256 (u16 d 2) || decide (3 < u8 d 6) || decide (1 < u8 d 7)
      || !(signalsOf d).all (fun x => decide (x.1 ≤ 6) && (x.1 != 6 || selectorOk (secs u) x.2))) = true := by
    simp only [selected]
    simp [named, decimation, trigger, edge]
  unfold captureArm
  dsimp only
  refine (if_neg legal).trans ?_
  rw [if_neg (by rcases mode with h | h | h <;> simp [h]), if_neg (by simp [unarmed, quiet])]
  by_cases atOnce : u8 d 6 = 0
  · rw [if_pos atOnce, triggerCapture_empty rfl rfl]
    simp only [captureFrom, atOnce, reduceIte]
    rfl
  · rw [if_neg atOnce]
    simp only [captureFrom, atOnce, reduceIte]
    rfl

/-- A unit that is armed or running stops, and counts the samples it has. -/
theorem stopCapture_active {u : State} {cause : Nat} (active : u.loops.capture.state = 1 ∨ u.loops.capture.state = 2) :
    stopCapture cause u = setCause 5 { u with loops := { u.loops with capture := { u.loops.capture with
      state := if cause = 1 then 3 else 4, stopCause := cause, count := u.loops.capture.samples.length } } } := by
  unfold stopCapture
  exact if_pos active

/-- Settles O38: INJECT_START and CAPTURE_ARM by the unit each sets up, the other two by how its unit stops. -/
theorem injectionAndCapture : Obligations.InjectionAndCapture := by
  intro t rq s a u c ha hc
  subst ha
  refine ⟨?starts, ?stops, ?arms, ?aborts⟩
  case starts =>
    intro admitted mode named point wave idle unguarded amplitude untriggered
    have answered := admitted_answers admitted
      (injectStart_done hc mode named point wave idle unguarded amplitude untriggered) (by decide)
    obtain ⟨positive, below⟩ := injectionFrom_lfsr rq.data u
    subst hc
    refine ⟨_, rfl, injectionFrom rq.data u, ?_, rfl, rfl, rfl, rfl, rfl, rfl, rfl, rfl, positive, below, answered⟩
    exact congrArg (fun v => v.loops.inject) answered.1
  case stops =>
    intro j admitted mode runs
    refine ⟨_, rfl, admitted_answers admitted ?_ (by decide)⟩
    dsimp only
    rw [if_neg (by simp [mode]), stopInject_running injStop runs]
    rfl
  case arms =>
    intro sigs admitted mode named decimation trigger edge hsigs known unarmed quiet
    subst hsigs
    have answered := admitted_answers admitted
      (captureArm_done hc mode named decimation trigger edge known unarmed quiet) (by decide)
    have unit := congrArg (fun v => v.loops.capture) answered.1
    subst hc
    refine ⟨_, rfl, ?_⟩
    dsimp only at unit ⊢
    rw [unit]
    exact ⟨rfl, rfl, rfl, rfl, rfl, rfl, answered⟩
  case aborts =>
    intro admitted active
    have answered := admitted_answers (body := fun _ v => say stDone (stopCapture 2 v)) admitted rfl (by decide)
    rw [stopCapture_active active] at answered
    have stopped := (setCause_onlyHost 5 _).trans answered.1
    have unit := congrArg (fun v => v.loops.capture) stopped
    refine ⟨_, rfl, ?_⟩
    dsimp only at unit ⊢
    rw [unit]
    exact ⟨rfl, rfl, rfl, stopped⟩

end Sys2Proof.LoopProofs
end

section
/-! SUPPORT. A stop cause (R188, R189, R208): what follows the stop of a stage leaves every stage as it stands (O40). -/

namespace Sys2Proof.StageProofs

open Sys2Proof Sys2Proof.Machine

/-! ### Acts that leave the table of stages alone -/

section
variable {s : State}

@[simp] theorem event_stages (code : Nat) (l : List Nat) : (event code l s).modul.stages = s.modul.stages := by
  rw [event_onlyRecords code l s]

@[simp] theorem tellStatus_stages : (tellStatus s).modul.stages = s.modul.stages := by
  rw [tellStatus_onlySends s]

@[simp] theorem dropPending_stages : (dropPending s).modul.stages = s.modul.stages := by
  obtain ⟨host, dropped⟩ := dropPending_is s
  rw [dropped]

@[simp] theorem enterClasp_stages (p : ClaspPhase) : (enterClasp p s).modul.stages = s.modul.stages := rfl

@[simp] theorem stopKa_stages (k : Nat) : (stopKa k s).modul.stages = s.modul.stages := by
  unfold stopKa
  dsimp only
  split <;> rfl

@[simp] theorem pushEdge_stages (p kind rise fall dtLead dtTrail : Nat) (lsEn : Bool) :
    (pushEdge p kind rise fall dtLead dtTrail lsEn s).modul.stages = s.modul.stages := by
  unfold pushEdge
  split
  · rfl
  · split <;> rfl

@[simp] theorem pushOff_stages (p rise : Nat) : (pushOff p rise s).modul.stages = s.modul.stages := by
  simp [pushOff]

@[simp] theorem endPhase_stages (p : Nat) : (endPhase p s).modul.stages = s.modul.stages := by
  simp [endPhase]

@[simp] theorem closeLoop_stages (c cause : Nat) : (closeLoop c cause s).modul.stages = s.modul.stages := by
  unfold closeLoop
  dsimp only
  split <;> simp

@[simp] theorem owesClear_stages (c : Nat) : (owesClear c s).modul.stages = s.modul.stages := rfl

@[simp] theorem foldl_stages {α : Type} {act : State → α → State} (l : List α)
    (keeps : ∀ u x, (act u x).modul.stages = u.modul.stages) : (l.foldl act s).modul.stages = s.modul.stages :=
  List.foldlRecOn (motive := fun u => u.modul.stages = s.modul.stages) l act rfl
    (fun u same x _ => (keeps u x).trans same)

@[simp] theorem closeStageLoops_stages (g : Nat) : (closeStageLoops g s).modul.stages = s.modul.stages := by
  simp [closeStageLoops]

@[simp] theorem claspStageStopped_stages : (claspStageStopped s).modul.stages = s.modul.stages := by
  unfold claspStageStopped
  split
  · rfl
  · simp [stopCouplingKas]

@[simp] theorem endRest_stages (cause : Nat) : (endRest cause s).modul.stages = s.modul.stages := by
  unfold endRest
  split <;> simp

end

/-! ### The stop -/

/-- A stage already STOPPED, or in CROWBAR, which only its release ends (R208), takes no notice of a stop cause. -/
theorem stopStage_idle {g : Nat} {s : State} (idle : (s.stage g).mode = .stopped ∨ (s.stage g).mode = .crowbar) :
    stopStage g s = s := by
  unfold stopStage
  exact if_pos (by simpa using idle)

/-- The first act of a stop: an episode of braking ends (R206), and the stage is STOPPED, its ramp and margin gone. -/
def markStopped (g : Nat) (s : State) : State :=
  (if (s.stage g).mode == .braking then brakeEvent g 4 s else s).setStage g { s.stage g with
    mode := .stopped, ramp := none, reached := false, tracking := false, shedSince := none, margin := 0, marginUsed := 0 }

/-- Then its phases end and its open loops close, and Clasp learns of the stop where it is the coupling stage (R333). -/
def closeStopped (q : Secs) (g : Nat) (s : State) : State :=
  let s := closeStageLoops g ((availPhases s g).foldl (fun s p => endPhase p s) s)
  if hasSec q tyCoupling && coStage q == g then claspStageStopped s else s

/-- Last ends a rest of the string the stage serves (R240). -/
def endStoppedRest (g : Nat) (s : State) : State :=
  match s.balance.rest with
  | some r => if stringStage (secs s) r.string == some g then endRest 3 s else s
  | none => s

theorem stopStage_awake {g : Nat} {s : State} (awake : (s.stage g).mode ≠ .stopped) (tame : (s.stage g).mode ≠ .crowbar) :
    stopStage g s = endStoppedRest g (closeStopped (secs s) g (markStopped g s)) := by
  unfold stopStage
  exact if_neg (by simp [awake, tame])

@[simp] theorem markStopped_stage (g : Nat) (s : State) : ((markStopped g s).stage g).mode = .stopped := by
  simp [markStopped]

@[simp] theorem closeStopped_stages (q : Secs) (g : Nat) (s : State) :
    (closeStopped q g s).modul.stages = s.modul.stages := by
  unfold closeStopped
  dsimp only
  split <;> simp

@[simp] theorem endStoppedRest_stages (g : Nat) (s : State) : (endStoppedRest g s).modul.stages = s.modul.stages := by
  unfold endStoppedRest
  split
  · split <;> simp
  · rfl

/-- Any other stage is marked STOPPED, and nothing that follows the mark changes a stage. -/
theorem stopStage_stops {g : Nat} {s : State} (awake : (s.stage g).mode ≠ .stopped)
    (tame : (s.stage g).mode ≠ .crowbar) : ((stopStage g s).stage g).mode = .stopped := by
  have kept : (stopStage g s).stage g = (markStopped g s).stage g := by
    rw [stopStage_awake awake tame]
    simp only [State.stage, endStoppedRest_stages, closeStopped_stages]
  rw [kept, markStopped_stage]

/-- Settles O40: by whether the stage takes notice of the stop cause; a crowbar does not (R208). -/
theorem stagesStop : Obligations.StagesStop := by
  intro g s
  refine ⟨fun stopped => ?stopped, fun on => ?on, fun crowbar => ?crowbar⟩
  case stopped => rw [stopStage_idle (.inl stopped), stopped]
  case on => rcases on with mode | mode | mode <;> exact stopStage_stops (by simp [mode]) (by simp [mode])
  case crowbar => rw [stopStage_idle (.inr crowbar), crowbar]

end Sys2Proof.StageProofs
end

section
/-! SUPPORT. The host's commands on wear and retirement (R211, R213, R214): the answer of each body (O41). -/

namespace Sys2Proof.StageProofs

open Sys2Proof Sys2Proof.Machine

section
variable {d : Bytes} {u : State} {p g : Nat} (hp : p = u8 d 0) (known : p < 192) (mode : u.mode = .service)
include hp known mode

/-- A working phase of an unguarded stage is marked, and replaced at once where its stage is stopped. -/
theorem phaseRetire_done {b : State} (hg : g = phStage (secs u) p) (free : stGuarded (secs u) g = false)
    (working : works u p = true)
    (hb : b = if (u.ph p).wear.state == .retirePending then u else wearTo p .retirePending u) :
    phaseRetire d u = (stDone, [], if (b.stage g).mode = .stopped then (promote g b).1 else b) := by
  subst hp hg hb
  unfold phaseRetire
  dsimp only
  rw [if_neg (by omega), if_neg (by simp [mode]), if_neg (by simp [free]), if_neg (by simp [working])]
  simp only [beq_iff_eq]
  rfl

theorem phaseRetire_denied (hg : g = phStage (secs u) p) (guarded : stGuarded (secs u) g = true)
    (last : activePhases u g = [p]) : phaseRetire d u = (stDenied, [], u) := by
  subst hp hg
  unfold phaseRetire
  dsimp only
  rw [if_neg (by omega), if_neg (by simp [mode]), if_pos (by simp [guarded, last])]
  rfl

theorem wearReset_done (declared : phRole (secs u) p ≠ 0) : wearReset d u = (stDone, [], freshWear p u) := by
  subst hp
  unfold wearReset
  dsimp only
  rw [if_neg (by omega), if_neg (by simp [mode]), if_neg declared]
  rfl

end

/-- Settles O41: each command by the answer its body gives (R214, Table 7.7). -/
theorem phasesAreRetired : Obligations.PhasesAreRetired := by
  intro t rq s a u p g ha hp known hg mode
  subst ha
  refine ⟨fun admitted => ⟨fun b free working hb => ?marked, fun guarded last => ?denied⟩, fun admitted declared => ?fresh⟩
  case marked =>
    have done := phaseRetire_done hp known mode hg free working hb
    refine ⟨fun stopped => ?_, fun on => ?_⟩
    · rw [if_pos stopped] at done
      exact ⟨_, rfl, admitted_answers admitted done (by decide)⟩
    · rw [if_neg on] at done
      exact ⟨_, rfl, admitted_answers admitted done (by decide)⟩
  case denied =>
    exact ⟨_, rfl, admitted_answers admitted (phaseRetire_denied hp known mode hg guarded last) (by decide)⟩
  case fresh =>
    exact ⟨_, rfl, admitted_answers admitted (wearReset_done hp known mode declared) (by decide)⟩

end Sys2Proof.StageProofs
end

section
/-! SUPPORT. The induced rest of a string (R239, R240, R241, R242): the branches of each command (O43). -/

namespace Sys2Proof.BalanceProofs

open Sys2Proof Sys2Proof.Machine

variable {t : Nat} {s a : State}

/-- The times of R241 and R242: what has stood since some instant is due once the span has passed. -/
theorem any_due {o : Option Nat} {since span now : Nat} (stands : o = some since) (due : since + span ≤ now) :
    o.any (fun a => decide (a + span ≤ now)) = true := by
  simp [stands, due]

/-! ### The grant (R239, R240) -/

/-- The state in which second `k` is taken: no later grant is decided in it. -/
def secondTaken (k : Nat) (a : State) : State := { a with balance := { a.balance with grantAt := k } }

/-- A string's request is granted: its rest begins now from the string's share, and the request is no longer pending. -/
def grantRest (r : Nat) (a : State) : State :=
  event 0x8803 [r] { a with balance := { a.balance with
    rest := some { string := r, startAt := rackTime a, from_ := (Tab.get {} a.balance.cur.strings r).share.natAbs }
    strings := Tab.set a.balance.strings r { Tab.get {} a.balance.strings r with restReqSince := none } } }

theorem execRestGrant_taken (ha : a = advance t s) (taken : rackTime a / secTicks ≤ a.balance.grantAt) :
    exec (.restGrant t) s = .next a := by
  show execRestGrant t s = _
  unfold execRestGrant
  rw [← ha]
  exact if_pos (by simp [taken])

theorem execRestGrant_grants {r k : Nat} (ha : a = advance t s) (run : running a = true)
    (second : k = rackTime a / secTicks) (untaken : a.balance.grantAt < k) (awake : a.balance.rest = none)
    (fed : a.balance.holdup = false) (unheld : a.collector.heldLevel = 0)
    (picked : restPick (secondTaken k a) ((declaredStrings (secs a)).filter (restOk (secondTaken k a))) = some r) :
    exec (.restGrant t) s = .next (grantRest r (secondTaken k a)) := by
  subst second
  show execRestGrant t s = _
  unfold execRestGrant
  rw [← ha]
  refine (if_neg (by simp [run, untaken])).trans ((if_neg (by simp [awake, fed, unheld])).trans ?_)
  unfold secondTaken at picked
  simp only [picked]
  rfl

/-! ### The phases of the rest (R240, R241) -/

/-- The rest ramps up before its time, and its string keeps when that was. -/
def abortRest (r : Rest) (a : State) : State :=
  let b := restTo .rampUp { r with cause := 1 } a
  { b with balance := { b.balance with
    strings := Tab.upd {} b.balance.strings r.string (fun x => { x with lastAbort := some (rackTime a) }) } }

section
variable {r : Rest} (ha : a = advance t s) (run : running a = true) (rest : a.balance.rest = some r)
include ha run rest

theorem execRestRampDownEnd_rests (down : r.phase = .rampDown) (drained : envelopeAt (secs a) r (rackTime a) = 0) :
    exec (.restRampDownEnd t) s = .next (restTo .resting r a) := by
  show execRestRampDownEnd t s = _
  unfold execRestRampDownEnd
  rw [← ha]
  simp only [rest]
  exact if_pos (by simp [run, down, drained])

theorem execRestWindowEnd_rampsUp (resting : r.phase = .resting)
    (passed : r.startAt + baRestWindow (secs a) * secTicks ≤ rackTime a) :
    exec (.restWindowEnd t) s = .next (restTo .rampUp r a) := by
  show execRestWindowEnd t s = _
  unfold execRestWindowEnd
  rw [← ha]
  simp only [rest]
  exact if_pos (by simp [run, resting, passed])

theorem execRestRampUpEnd_ends {x : StringLedger} (up : r.phase = .rampUp)
    (hx : x = Tab.get {} a.balance.cur.strings r.string)
    (reached : max x.disFree x.chgFree ≤ envelopeAt (secs a) r (rackTime a)) :
    exec (.restRampUpEnd t) s = .next (endRest r.cause a) := by
  subst hx
  show execRestRampUpEnd t s = _
  unfold execRestRampUpEnd
  rw [← ha]
  simp only [rest]
  exact if_pos (by simpa [run, up] using reached)

theorem execRestAbort_aborts {q : Nat} (early : r.phase = .rampDown ∨ r.phase = .resting)
    (short : r.shortSince = some q) (due : q + baRestAbort (secs a) * msTicks ≤ rackTime a) :
    exec (.restAbort t) s = .next (abortRest r a) := by
  show execRestAbort t s = _
  unfold execRestAbort
  rw [← ha]
  simp only [rest]
  exact if_pos (by simp [run, early, any_due short due])

end

theorem abortRest_lastAbort (r : Rest) (a : State) :
    (Tab.get ({} : BalString) (abortRest r a).balance.strings r.string).lastAbort = some (rackTime a) := by
  simp [abortRest, Tab.upd]

/-! ### A request that waits (R242) -/

section
variable {b : Nat} {x : BalString} (ha : a = advance t s) (hx : x = Tab.get {} a.balance.strings b)
include ha hx

theorem execRestWaitExpiry_marks {q : Nat} (run : running a = true) (pending : x.restReqSince = some q)
    (waited : q + baRestWait (secs a) * secTicks ≤ rackTime a) (unmarked : x.noRest = false) :
    exec (.restWaitExpiry t b) s = .next (event 0x8805 [b] { a with balance := { a.balance with
      strings := Tab.set a.balance.strings b { x with noRest := true } } }) := by
  subst hx
  show execRestWaitExpiry t b s = _
  unfold execRestWaitExpiry
  rw [← ha]
  exact if_pos (by simp [run, any_due pending waited, unmarked])

theorem execRestWaitExpiry_marked (marked : x.noRest = true) : exec (.restWaitExpiry t b) s = .next a := by
  subst hx
  show execRestWaitExpiry t b s = _
  unfold execRestWaitExpiry
  rw [← ha]
  exact if_neg (by simp [marked])

end

/-- Settles O43: the grant by its second, each phase by what ends it, a request that waits by the string's mark. -/
theorem stringsRest : Obligations.StringsRest := by
  intro t s a ha run
  refine ⟨fun r k => execRestGrant_grants ha run, execRestGrant_taken ha, fun r rest => ?phases,
    fun b x q hx pending waited =>
      ⟨execRestWaitExpiry_marks ha hx run pending waited, execRestWaitExpiry_marked ha hx⟩⟩
  case phases =>
    refine ⟨fun down drained => ?drained, execRestWindowEnd_rampsUp ha run rest,
      fun x => execRestRampUpEnd_ends ha run rest, fun q early short due => ?aborted⟩
    case drained =>
      rw [execRestRampDownEnd_rests ha run rest down drained, restTo, drained]
    case aborted =>
      exact ⟨_, execRestAbort_aborts ha run rest early short due, _, rfl, rfl, rfl, rfl, abortRest_lastAbort r a, rfl⟩

end Sys2Proof.BalanceProofs
end

section
/-! SUPPORT. The boundaries of Maquette (R253, R262, R263, R264, R267, R273, R274): the branches of each command (O44). -/

namespace Sys2Proof.MaquetteProofs

open Sys2Proof Sys2Proof.Machine

variable {t : Nat} {s a : State}

/-! ### The 10 ms and 1 s boundaries (R253, R263, R264, R267) -/

/-- The model takes the 10 ms boundary `k`: the boundary counts as taken before the strings step in their order. -/
def takeStep (k : Nat) (a : State) : State :=
  (maqStrings (secs a)).foldl (fun s b => stepString k b s) { a with maq := { a.maq with step := k } }

/-- The bleeding cells of the 1 s boundary `k` are chosen string by string, the boundary counting as taken before. -/
def takeSecond (k : Nat) (a : State) : State :=
  (maqStrings (secs a)).foldl (fun s b => balanceString b s) { a with maq := { a.maq with second := k } }

section
variable {k : Nat} (ha : a = advance t s)
include ha

section
variable (hk : k = rackTime a / (10 * msTicks))
include hk

/-- The boundary is numbered by the time before the restore, which is settled first (R273). -/
theorem execModelStep_takes (run : running a = true) (untaken : a.maq.step < k) :
    exec (.modelStep t) s = .next (takeStep k (settleRestore a)) := by
  subst hk
  show execModelStep t s = _
  unfold execModelStep
  rw [← ha]
  exact if_pos (by simp [run, untaken])

theorem execModelStep_taken (taken : k ≤ a.maq.step) : exec (.modelStep t) s = .next a := by
  subst hk
  show execModelStep t s = _
  unfold execModelStep
  rw [← ha]
  exact if_neg (by simp [taken])

end

section
variable (hk : k = rackTime a / secTicks)
include hk

theorem execBalancingSelect_chooses (run : running a = true) (untaken : a.maq.second < k) :
    exec (.balancingSelect t) s = .next (takeSecond k a) := by
  subst hk
  show execBalancingSelect t s = _
  unfold execBalancingSelect
  rw [← ha]
  exact if_pos (by simp [run, untaken])

theorem execBalancingSelect_taken (taken : k ≤ a.maq.second) : exec (.balancingSelect t) s = .next a := by
  subst hk
  show execBalancingSelect t s = _
  unfold execBalancingSelect
  rw [← ha]
  exact if_neg (by simp [taken])

end

/-! ### Hours unread and minutes of RUN (R262, R274) -/

theorem execStaleMark_marks {b : Nat} (run : running a = true) (declared : (maqStrings (secs a)).contains b = true)
    (unread : (a.str b).lastRest + 3600 * msMaxCount (mqString (secs a) b) ≤ a.plinth.opSeconds) :
    exec (.staleMark t b) s = .next (a.setStr b { a.str b with stale := true }) := by
  show execStaleMark t b s = _
  unfold execStaleMark
  rw [← ha]
  exact if_pos (by rw [run, declared, decide_eq_true unread]; rfl)

theorem execStaleMark_fresh {b : Nat}
    (fresh : a.plinth.opSeconds < (a.str b).lastRest + 3600 * msMaxCount (mqString (secs a) b)) :
    exec (.staleMark t b) s = .next a := by
  show execStaleMark t b s = _
  unfold execStaleMark
  rw [← ha]
  exact if_neg (by simp [fresh])

theorem execLearnSave_requests (mode : a.mode = .run) (watched : hasSec (secs a) tyMaquette = true)
    (due : a.maq.savedAt + 60 * mqLearnSave (secs a) ≤ a.plinth.opSeconds) :
    exec (.learnSave t) s = .next (requestStore { a with maq := { a.maq with savedAt := a.plinth.opSeconds } }) := by
  show execLearnSave t s = _
  unfold execLearnSave
  rw [← ha]
  exact if_pos (by simp [mode, watched, due])

theorem execLearnSave_early (early : a.plinth.opSeconds < a.maq.savedAt + 60 * mqLearnSave (secs a)) :
    exec (.learnSave t) s = .next a := by
  show execLearnSave t s = _
  unfold execLearnSave
  rw [← ha]
  exact if_neg (by simp [early])

end

/-- Settles O44: a boundary by whether its number is taken yet, the stale mark and the save by their times. -/
theorem maquetteSteps : Obligations.MaquetteSteps := by
  intro t s a ha
  refine ⟨fun run => ⟨fun k hk => ?step, fun k hk => ?second, fun b declared => ?stale⟩, fun mode watched => ?save⟩
  case step =>
    refine ⟨fun r untaken hr => ?_, execModelStep_taken ha hk⟩
    subst hr
    exact execModelStep_takes ha hk run untaken
  case second => exact ⟨execBalancingSelect_chooses ha hk run, execBalancingSelect_taken ha hk⟩
  case stale => exact ⟨execStaleMark_marks ha run declared, execStaleMark_fresh ha⟩
  case save => exact ⟨execLearnSave_requests ha mode watched, execLearnSave_early ha⟩

end Sys2Proof.MaquetteProofs
end

section
/-! SUPPORT. The store of learned values (R269, R270, R271, R272): the branches of a write's start and end and of the owed
erase (O45). -/

namespace Sys2Proof.MaquetteProofs

open Sys2Proof Sys2Proof.Machine

variable {t : Nat} {s a : State}

/-! ### A write starts (R270, R272) -/

/-- A requested write may start: the store takes writes, none runs, nothing is owed since the mount, and power holds. -/
structure WriteReady (a : State) : Prop where
  run : running a = true
  mounted : a.maq.mounted = true
  unbarred : a.maq.barred = false
  idle : a.maq.write = none
  requested : a.maq.requested = true
  erased : a.maq.eraseDue = none
  restored : a.maq.restoreBy = none
  powered : a.pins.pwrFail = false

/-- The snapshot is taken for slot `k` with SEQUENCE `seq`, and the slot is erased. -/
def beginWrite (k seq : Nat) (a : State) : State :=
  { a with
    maq := { a.maq with requested := false, failed := false, write := some { slot := k, seq := seq, payload := storePayload a } }
    cs1 := flashErase a.cs1 (storeSlotBase k) 0x10000 }

/-- What a ready write does hangs on the next SEQUENCE alone: past the last one nothing is written. -/
theorem execStoreWriteStart_ready {seq k : Nat} (ha : a = advance t s) (ready : WriteReady a)
    (hseq : seq = max ((storeSeq a.cs1 0).getD 0) ((storeSeq a.cs1 1).getD 0) + 1)
    (hk : k = if storeWinner a.cs1 = some 0 then 1 else 0) :
    exec (.storeWriteStart t) s = if 0xFFFFFFFE < seq
      then .next (chipPulse 0x0A04 [0] { a with maq := { a.maq with requested := false } })
      else .next (beginWrite k seq a) := by
  subst hseq hk
  obtain ⟨run, mounted, unbarred, idle, requested, erased, restored, powered⟩ := ready
  show execStoreWriteStart t s = _
  unfold execStoreWriteStart
  rw [← ha]
  exact if_neg (by simp [run, mounted, unbarred, idle, requested, erased, restored, powered])

/-- No write starts while the restore or the erase since the mount is owed (R272, R273). -/
theorem execStoreWriteStart_waits (ha : a = advance t s) (owed : a.maq.eraseDue ≠ none ∨ a.maq.restoreBy ≠ none) :
    exec (.storeWriteStart t) s = .next a := by
  show execStoreWriteStart t s = _
  unfold execStoreWriteStart
  rw [← ha]
  refine if_pos ?_
  rcases owed with owed | owed <;> simp [Option.isSome_iff_ne_none.mpr owed]

/-! ### The owed erase (R272) -/

theorem execStoreSlotErase_erases {k : Nat} (ha : a = advance t s) (owed : a.maq.eraseDue = some k)
    (run : running a = true) (powered : a.pins.pwrFail = false) :
    exec (.storeSlotErase t) s = .next { a with
      maq := { a.maq with eraseDue := none }, cs1 := flashErase a.cs1 (storeSlotBase k) 0x10000 } := by
  show execStoreSlotErase t s = _
  unfold execStoreSlotErase
  rw [← ha]
  simp only [owed]
  exact if_pos (by simp [run, powered])

/-! ### A write ends (R270, R271) -/

/-- The write is over with `n` bytes of its payload in its slot. -/
def endWrite (w : StoreWrite) (n : Nat) (a : State) : State :=
  { a with
    maq := { a.maq with write := none, failed := false }
    cs1 := flashProgram a.cs1 (storeSlotBase w.slot) (w.payload.take n) }

/-- The commit record of a write without its CRC. -/
def commitHead (w : StoreWrite) : Bytes := ascii "LVCM" ++ leBytes 4 w.seq ++ leBytes 4 payloadLen

/-- The commit record of a write is programmed. -/
def commitWrite (w : StoreWrite) (a : State) : State :=
  { a with cs1 := flashProgram a.cs1 (storeCommitBase w.slot) (commitHead w ++ leBytes 4 (crc32c (commitHead w))) }

theorem execStoreWriteComplete_idle {n : Option Nat} (ha : a = advance t s) (idle : a.maq.write = none) :
    exec (.storeWriteComplete t n) s = .next a := by
  show execStoreWriteComplete t n s = _
  unfold execStoreWriteComplete
  rw [← ha]
  simp only [idle]

section
variable {w : StoreWrite} (ha : a = advance t s) (writing : a.maq.write = some w)
include ha writing

theorem execStoreWriteComplete_fails (n : Nat) :
    exec (.storeWriteComplete t (some n)) s = .next (chipPulse 0x0A04 [w.slot] (endWrite w n a)) := by
  show execStoreWriteComplete t (some n) s = _
  unfold execStoreWriteComplete
  rw [← ha]
  simp only [writing]
  rfl

theorem execStoreWriteComplete_commits (kept : a.maq.failed = false) :
    exec (.storeWriteComplete t none) s
      = .next (event 0x8A03 [w.slot, w.seq] (commitWrite w (endWrite w payloadLen a))) := by
  show execStoreWriteComplete t none s = _
  unfold execStoreWriteComplete
  rw [← ha]
  simp only [writing, kept]
  rfl

theorem execStoreWriteComplete_abandoned (failed : a.maq.failed = true) :
    exec (.storeWriteComplete t none) s = .next (event 0x8A04 [w.slot] (endWrite w payloadLen a)) := by
  show execStoreWriteComplete t none s = _
  unfold execStoreWriteComplete
  rw [← ha]
  simp only [writing, failed]
  rfl

end

/-- Settles O45: a start by what is still owed and by its SEQUENCE, an end by how its programming went. -/
theorem learnedValuesAreStored : Obligations.LearnedValuesAreStored := by
  intro t s a ha
  refine ⟨?starts, fun k owed run powered => ?erase, fun owed => execStoreWriteStart_waits ha (.inr owed), ?ends,
    fun idle n => execStoreWriteComplete_idle ha idle⟩
  case starts =>
    intro run mounted unbarred idle requested erased restored powered seq k hseq hk
    have start := execStoreWriteStart_ready ha
      ⟨run, mounted, unbarred, idle, requested, erased, restored, powered⟩ hseq hk
    exact ⟨fun inRange => start.trans (if_neg (Nat.not_lt.mpr inRange)), fun spent => start.trans (if_pos spent)⟩
  case erase =>
    exact ⟨execStoreWriteStart_waits ha (.inl (by simp [owed])), execStoreSlotErase_erases ha owed run powered⟩
  case ends =>
    intro w b c writing hc hb
    subst hc hb
    exact ⟨execStoreWriteComplete_fails ha writing, execStoreWriteComplete_commits ha writing,
      execStoreWriteComplete_abandoned ha writing⟩

end Sys2Proof.MaquetteProofs
end

section
/-! SUPPORT. Supervision of rails, keep-alives and contacts, and RAIL_MARGIN (R284, R286, R288, R291, R299): the branches of
each timed act and of the command's answer (O49). -/

namespace Sys2Proof.RackProofs

open Sys2Proof Sys2Proof.Machine

variable {t : Nat} {s a : State}

/-! ### Rails (R284, R286) -/

@[simp] theorem watchRail_running (r : Nat) (s : State) : running (watchRail r s) = running s := by
  unfold watchRail
  exact (apply_ite running _ _ _).trans (ite_self _)

/-- Rail `r`, watched in `b`, is supervised and has been outside its window since `q`, for RUN_FILTER or longer, with the
rack up and no power-down under way (R286). -/
structure RailOverdue (r q : Nat) (a b : State) : Prop where
  outSince : (b.rail r).outSince = some q
  up : rackUp b = true
  staysUp : poweringDown b = false
  declared : r < sqRailCount (secs a)
  supervised : (b.rail r).supervised = true
  settled : (b.rail r).marginBusy = false
  filtered : rlFilter (secs a) r ≠ 0
  elapsed : max q (b.rail r).resumeAt + rlFilter (secs a) r * msTicks ≤ rackTime b

/-- An overdue rail is reported unless it has been reported before: once for each stay outside. -/
theorem execRailOutOfWindow_overdue {r q : Nat} {b : State} (ha : a = advance t s) (run : running a = true)
    (hb : b = watchRail r a) (due : RailOverdue r q a b) :
    exec (.railOutOfWindow t r) s = if (b.rail r).out = true then .next b
      else .next (raiseFault 0x0903 (railScope b r) (pay [r]) (b.setRail r { b.rail r with out := true })) := by
  obtain ⟨outSince, up, staysUp, declared, supervised, settled, filtered, elapsed⟩ := due
  have runs : running b = true := by rw [hb, watchRail_running, run]
  show execRailOutOfWindow t r s = _
  unfold execRailOutOfWindow
  dsimp only
  rw [← ha, ← hb]
  simp only [outSince]
  cases reported : (b.rail r).out with
  | false =>
    rw [if_neg Bool.false_ne_true]
    exact if_pos (by simp [runs, up, staysUp, declared, supervised, settled, filtered, elapsed])
  | true =>
    rw [if_pos rfl]
    exact if_neg (by simp)

/-! ### Keep-alives (R288) -/

theorem stopKa_of_running {k : Nat} (on : (a.ka k).running = true) :
    stopKa k a = a.setKa k { a.ka k with running := false, since := a.now, told := false } :=
  if_pos on

/-- A running output stops with the end of its hold time, and not before. -/
theorem execKeepaliveHoldExpiry_held {k : Nat} (ha : a = advance t s) (run : running a = true)
    (on : (a.ka k).running = true) :
    exec (.keepaliveHoldExpiry t k) s = if (a.ka k).refreshed + msTicks ≤ a.now
      then .next (chipPulse 0x0907 [k] (a.setKa k { a.ka k with running := false, since := a.now, told := false }))
      else .next a := by
  show execKeepaliveHoldExpiry t k s = _
  unfold execKeepaliveHoldExpiry
  rw [← ha]
  simp only [run, on, Bool.true_and, decide_eq_true_eq, stopKa_of_running on]

/-! ### Auxiliary contacts (R291) -/

/-- FB_DELAY after an output's last change its contact is compared with it: a disagreement not yet told is a fault. -/
theorem execContactorMismatch_compares {k : Nat} (ha : a = advance t s) (run : running a = true)
    (owned : kaOwner (secs a) k ≠ 0) (fedBack : kaFbRail (secs a) k ≠ 0xFF) (untold : (a.ka k).told = false)
    (elapsed : (a.ka k).since + kaFbDelay (secs a) k * msTicks ≤ a.now) :
    exec (.contactorMismatch t k) s = if contactClosed a k = (a.ka k).running then .next a
      else .next (chipFault 0x0906 [k, flag (a.ka k).running] (a.setKa k { a.ka k with told := true })) := by
  show execContactorMismatch t k s = _
  unfold execContactorMismatch
  dsimp only
  rw [← ha]
  by_cases agrees : contactClosed a k = (a.ka k).running
  · rw [if_pos agrees]
    exact if_neg (by simp [agrees])
  · rw [if_neg agrees]
    exact if_pos (by simp [run, owned, fedBack, untold, elapsed, agrees])

/-! ### Margins (R299) -/

/-- In SERVICE, RAIL_MARGIN of a running rail stage is denied where the stage is guarded and sets the margin elsewhere. -/
theorem railMargin_rail {d : Bytes} {u : State} {g : Nat} {m : Int} (hg : g = u8 d 0) (hm : m = i8 d 1)
    (inRange : withinI (-40) 40 m = true) (mode : u.mode = .service) (declared : stageDeclared (secs u) g = true)
    (runs : (u.stage g).mode = .running) (rail : stKind (secs u) g = 5 ∨ g = baBus (secs u)) :
    railMargin d u = if stGuarded (secs u) g = true then (stDenied, [], u) else (stDone, [], setMargin g m u) := by
  subst hg hm
  unfold railMargin
  dsimp only
  rw [if_neg (by simp [inRange]), if_neg (by simp [mode]), if_neg (by simp [declared]), if_neg (by simp [runs]),
    if_neg (by simpa [or_iff_not_imp_left] using rail)]
  rfl

/-- Settles O49: a rail by whether it has been reported, a keep-alive by its hold time, a contact by whether it agrees, the
command by the answer of its body. -/
theorem railsAndContactorsAreWatched : Obligations.RailsAndContactorsAreWatched := by
  intro t s a ha
  refine ⟨?rails, ?keepAlives, ?contacts, ?margins⟩
  case rails =>
    intro r b x q run hb hx outSince up staysUp declared supervised settled filtered elapsed
    subst hx
    have report := execRailOutOfWindow_overdue ha run hb
      ⟨outSince, up, staysUp, declared, supervised, settled, filtered, elapsed⟩
    exact ⟨fun unreported => report.trans (if_neg (by simp [unreported])), fun reported => report.trans (if_pos reported)⟩
  case keepAlives =>
    intro k run on
    have held := execKeepaliveHoldExpiry_held ha run on
    exact ⟨fun expired => held.trans (if_pos expired), fun early => held.trans (if_neg (Nat.not_le.mpr early))⟩
  case contacts =>
    intro k x run owned fedBack hx untold elapsed
    subst hx
    have compared := execContactorMismatch_compares ha run owned fedBack untold elapsed
    exact ⟨fun differs => compared.trans (if_neg (by simp [differs])), fun agrees => compared.trans (if_pos agrees)⟩
  case margins =>
    intro rq u g m admitted hg hm inRange mode declared runs rail
    subst ha
    have answer := railMargin_rail hg hm inRange mode declared runs rail
    refine ⟨fun free => ?_, fun guarded => ?_⟩
    · rw [if_neg (by simp [free])] at answer
      exact ⟨_, rfl, admitted_answers admitted answer (by decide)⟩
    · rw [if_pos guarded] at answer
      exact ⟨_, rfl, admitted_answers admitted answer (by decide)⟩

end Sys2Proof.RackProofs
end

section
/-! SUPPORT. Control messages of the pilot (R308, R310, R312, R317, R322, R323, R325, R326, R333): what a message, a repeat and
a discarded message do, and what each control message makes of its payload (O51). -/

namespace Sys2Proof.ClaspProofs

open Sys2Proof Sys2Proof.Machine

variable {t : Nat} {m : PilotMsg} {s a u : State} {p : Bytes}

/-! ### Messages taken, repeated and discarded (R308, R310) -/

section
variable {k : RxKind} {body : Bytes → State → State} (ha : a = advance t s) (heard : Hears k m a)
include ha heard

/-- A message that is not a repeat is noted, and then its kind's act is done. -/
theorem taken {v : State} (hp : p = msgPayload m.bytes) (hu : u = noteRx m.bytes false a) (fresh : Fresh m a)
    (acts : body p u = v) : (.next (onMessage k t m body s) : Out) = .next v := by
  subst ha hp hu
  rw [onMessage_fresh heard fresh, acts]

/-- A repeat is noted and nothing else is done, but for RESYNC. -/
theorem repeat_noted (again : ¬ Fresh m a) (hk : k ≠ .resync) :
    (.next (onMessage k t m body s) : Out) = .next (noteRx m.bytes true a) := by
  subst ha
  rw [onMessage_repeat heard again hk]

end

/-- A message that fails R308 is counted: counter 1 for its CRC, counter 2 for anything else. -/
theorem execMessageDiscarded_counts {i : Nat} (ha : a = advance t s) (active : claspActive a = true)
    (used : pilotUsed a.clasp.phase = true)
    (failed : rxVerdict a m = .crcError ∧ i = 1 ∨ rxVerdict a m = .discard ∧ i = 2) :
    exec (.messageDiscarded t m) s
      = .next (claspCount i { a with clasp := { a.clasp with lineEnd := max a.clasp.lineEnd a.now } }) := by
  show execMessageDiscarded t m s = _
  unfold execMessageDiscarded
  dsimp only
  rw [← ha, if_neg (by simp [active, used])]
  obtain ⟨verdict, rfl⟩ | ⟨verdict, rfl⟩ := failed
  · rw [verdict]; rfl
  · rw [verdict]; rfl

/-- What the acts on a message read and its note leaves as it was in `a`. -/
structure OnlyNoted (a u : State) : Prop where
  now : u.now = a.now
  secs : secs u = secs a
  benra : u.benra = a.benra
  phase : u.clasp.phase = a.clasp.phase
  role : u.clasp.role = a.clasp.role
  own : u.clasp.own = a.clasp.own
  contract : u.clasp.contract = a.clasp.contract
  transition : u.clasp.transition = a.clasp.transition
  asked : u.clasp.asked = a.clasp.asked
  swap : u.clasp.swap = a.clasp.swap
  swapAsked : u.clasp.swapAsked = a.clasp.swapAsked
  tandem : u.clasp.tandem = a.clasp.tandem
  bridge : u.clasp.bridge = a.clasp.bridge
  verified : u.clasp.verified = a.clasp.verified
  identity : u.clasp.identity = a.clasp.identity
  modeAsked : u.clasp.modeAsked = a.clasp.modeAsked
  modeByHost : u.clasp.modeByHost = a.clasp.modeByHost
  mailbox : u.clasp.mailbox = a.clasp.mailbox
  swapping : swapping u = swapping a
  busy : claspBusy u = claspBusy a
  queued : swapQueued u = swapQueued a
  canSwap : canSwap u = canSwap a

theorem noteRx_onlyNoted (b : Bytes) (again : Bool) (s : State) : OnlyNoted s (noteRx b again s) := by
  have verified : (noteRx b again s).clasp.verified = s.clasp.verified := rfl
  constructor <;> simp [verified, swapping, claspBusy, swapQueued, canSwap]

/-! ### Answers to this end's requests (R317, R323, R325) -/

theorem onAccept_contract {k : Contract} (payload : p ≠ []) (asked : u.clasp.asked = some k) :
    onAccept p u = takeContract { k with pc := be16 p 0 * 100, ic := be16 p 2 * 100, droop := u8 p 4 } u := by
  unfold onAccept
  rw [if_neg (by simpa using payload), asked]

theorem onAccept_swap (asked : u.clasp.swapAsked = true) (still : swapping u = false) :
    onAccept [] u = startSwap true u := by
  unfold onAccept
  rw [List.isEmpty_nil, if_pos rfl, if_pos (by simp [asked, still])]

/-- Without a ROLE_SWAP asked for, REJECT ends the REQUEST. -/
theorem onReject_request (noSwap : u.clasp.swapAsked = false) :
    onReject p u = { u with clasp := { u.clasp with asked := none } } := by
  unfold onReject
  dsimp only
  rw [if_neg (by simp [noSwap])]
  rfl

theorem onReject_swap (asked : u.clasp.swapAsked = true) (reason : 7 ≤ u8 p 0) : onReject p u = denySwap u := by
  unfold onReject
  dsimp only
  rw [if_pos (by simp [asked, reason])]

theorem onWait_swap (asked : u.clasp.swapAsked = true) :
    onWait u = denySwap { u with clasp := { u.clasp with askAfter := u.now + 10 * msTicks, waited := true } } :=
  if_pos asked

theorem onWait_request (noSwap : u.clasp.swapAsked = false) (asked : u.clasp.asked ≠ none) : onWait u
    = { u with clasp := { u.clasp with asked := none, askOwed := true, askAfter := u.now + 10 * msTicks } } := by
  unfold onWait
  dsimp only
  rw [if_neg (by simp [noSwap]), if_pos (Option.isSome_iff_ne_none.mpr asked)]
  rfl

/-- With no swap under way, SETTLED reaches the Sink as the end of its transition (R322). -/
theorem onSettled_sink (noSwap : u.clasp.swap = none) (sink : u.clasp.role = some 0) : onSettled u = completeTransition u := by
  unfold onSettled
  rw [noSwap]
  exact if_pos sink

theorem repeatCaps_of_own {c : Caps} (own : u.clasp.own = some c) : repeatCaps u = send tCaps (capsBytes c) u := by
  unfold repeatCaps
  rw [own]

/-! ### ROLE_SWAP (R325, R326) -/

theorem onRoleSwap_busy (busy : claspBusy u = true) : onRoleSwap u = sendAnswer tWait [] u :=
  if_pos busy

theorem onRoleSwap_outside (idle : claspBusy u = false) (outside : u.clasp.phase ≠ .contract) :
    onRoleSwap u = sendAnswer tReject [6, 0] u := by
  unfold onRoleSwap
  dsimp only
  rw [if_neg (by simp [idle]), if_pos (by simpa using outside)]

/-- The Source's own ROLE_SWAP goes before the partner's. -/
theorem onRoleSwap_crossing (idle : claspBusy u = false) (phase : u.clasp.phase = .contract) (source : u.clasp.role = some 1)
    (own : u.clasp.swapAsked = true ∨ swapQueued u = true) : onRoleSwap u = sendAnswer tWait [] u := by
  unfold onRoleSwap
  dsimp only
  rw [if_neg (by simp [idle]), if_neg (by simp [phase]), if_pos (by simpa [source] using own)]

/-- In CONTRACT, with no ROLE_SWAP of this end asked for or queued, the partner's is refused in Tandem and by an end that
cannot take the other role, and granted elsewhere. -/
theorem onRoleSwap_decides (idle : claspBusy u = false) (phase : u.clasp.phase = .contract)
    (unasked : u.clasp.swapAsked = false) (unqueued : swapQueued u = false) :
    onRoleSwap u = if u.clasp.tandem = true then sendAnswer tReject [7, 0] u
      else if canSwap u = true then startSwap false (sendAnswer tAccept [] u)
      else sendAnswer tReject [8, 0] u := by
  unfold onRoleSwap
  simp only [idle, phase, unasked, unqueued, Bool.or_false, Bool.and_false, bne_self_eq_false, Bool.false_eq_true, if_false,
    Bool.not_eq_true']
  cases canSwap u <;> rfl

/-- Settles O51: a discarded message by its counter, a repeat by its note alone, every other message by what its kind's act
makes of its payload. -/
theorem controlMessagesAreTaken : Obligations.ControlMessagesAreTaken := by
  intro t m s a u p ha hp hu
  refine ⟨?discarded, ?again, ?resync, ?fresh⟩
  case discarded =>
    exact fun active used => ⟨fun crc => execMessageDiscarded_counts ha active used (.inl ⟨crc, rfl⟩),
      fun form => execMessageDiscarded_counts ha active used (.inr ⟨form, rfl⟩)⟩
  case again =>
    intro again
    refine ⟨?_, ?_, ?_, ?_, ?_, ?_, ?_, ?_, ?_⟩ <;> exact fun heard => repeat_noted ha heard again (by decide)
  case resync =>
    intro heard
    subst ha
    obtain ⟨again, acts⟩ := onMessage_resync (body := fun _ s => resyncActs s) heard
    have noted := noteRx_onlyNoted m.bytes again (advance t s)
    generalize noteRx m.bytes again (advance t s) = v at noted acts
    obtain ⟨count, last, request, mode, swap, settled, phase⟩ := resyncActs_clears v
    exact ⟨_, congrArg Host.Outcome.next acts, count, last, request, mode, swap, settled, phase.trans noted.phase⟩
  case fresh =>
    intro fresh
    have act {k : RxKind} {body : Bytes → State → State} {v : State} (heard : Hears k m a) (acts : body p u = v) :=
      taken ha heard hp hu fresh acts
    have noted : OnlyNoted a u := hu ▸ noteRx_onlyNoted m.bytes false a
    clear hu hp
    refine ⟨?accepted, ?swapAccepted, ?rejected, ?swapRejected, ?swapWaits, ?waits, ?settled, ?capsQuery, ?swapBusy,
      ?swapOutside, ?swapCrossing, ?swapDecided, ?ended, ?notSupported, ?unknown⟩
    case accepted => exact fun k heard payload asked => act heard (onAccept_contract payload (noted.asked.trans asked))
    case swapAccepted =>
      rintro heard rfl asked still
      exact act heard (onAccept_swap (noted.swapAsked.trans asked) (noted.swapping.trans still))
    case rejected => exact fun heard noSwap => act heard (onReject_request (noted.swapAsked.trans noSwap))
    case swapRejected => exact fun heard asked reason => act heard (onReject_swap (noted.swapAsked.trans asked) reason)
    case swapWaits =>
      exact fun heard asked => act (body := fun _ => onWait) heard (noted.now ▸ onWait_swap (noted.swapAsked.trans asked))
    case waits =>
      exact fun heard noSwap asked => act (body := fun _ => onWait) heard
        (noted.now ▸ onWait_request (noted.swapAsked.trans noSwap) (noted.asked ▸ asked))
    case settled =>
      intro x k heard noSwap sink transition contract
      have ends := onSettled_sink (noted.swap.trans noSwap) (noted.role.trans sink)
      exact ⟨_, act (body := fun _ => onSettled) heard ends, rfl,
        completeTransition_settles (noted.transition.trans transition) (noted.contract.trans contract)⟩
    case capsQuery =>
      exact fun c heard own => act (body := fun _ => repeatCaps) heard (repeatCaps_of_own (noted.own.trans own))
    case swapBusy =>
      exact fun heard busy => act (body := fun _ => onRoleSwap) heard (onRoleSwap_busy (noted.busy.trans busy))
    case swapOutside =>
      exact fun heard idle outside => act (body := fun _ => onRoleSwap) heard
        (onRoleSwap_outside (noted.busy.trans idle) (noted.phase ▸ outside))
    case swapCrossing =>
      exact fun heard idle phase source own => act (body := fun _ => onRoleSwap) heard
        (onRoleSwap_crossing (noted.busy.trans idle) (noted.phase.trans phase) (noted.role.trans source)
          (by rwa [noted.swapAsked, noted.queued]))
    case swapDecided =>
      intro heard idle phase unasked unqueued
      have decided := onRoleSwap_decides (noted.busy.trans idle) (noted.phase.trans phase) (noted.swapAsked.trans unasked)
        (noted.queued.trans unqueued)
      refine ⟨fun tandem => ?_, fun alone able => ?_, fun alone unable => ?_⟩ <;>
        refine act (body := fun _ => onRoleSwap) heard (decided.trans ?_)
      · exact if_pos (noted.tandem.trans tandem)
      · rw [if_neg (by simp [noted.tandem, alone]), if_pos (noted.canSwap.trans able)]
      · rw [if_neg (by simp [noted.tandem, alone]), if_neg (by simp [noted.canSwap, unable])]
    case ended =>
      intro heard phase
      obtain ⟨ending, settled, entry, -⟩ := endCoupling_ends (u8 p 0) (u8 p 0 == ceHardReset || u8 p 0 == ceSplit) false
        (by rwa [noted.phase] : u.clasp.phase = .closing ∨ u.clasp.phase = .contract)
      exact ⟨_, act heard rfl, ending, settled, by rw [entry]; rfl⟩
    case notSupported => exact fun heard => act heard rfl
    case unknown => exact fun heard => act heard rfl

end Sys2Proof.ClaspProofs
end

section
/-! SUPPORT. Data messages of the pilot (R315 to R317, R327 to R330, R405, R447): what CAPABILITIES settle, how a REQUEST, an
identity request and a mode request are answered, and what each VDM does with its payload (O52). -/

namespace Sys2Proof.ClaspProofs

open Sys2Proof Sys2Proof.Machine

variable {t : Nat} {m : PilotMsg} {s a u : State} {p : Bytes}

/-! ### CAPABILITIES (R315, R316, R328) -/

/-- The partner as last heard, the state of Table 11.9 and this end's role are the same in `s` and `v`. -/
structure SameCouple (s v : State) : Prop where
  partner : v.clasp.partner = s.clasp.partner
  patina : v.clasp.partnerPatina = s.clasp.partnerPatina
  phase : v.clasp.phase = s.clasp.phase
  role : v.clasp.role = s.clasp.role

theorem SameCouple.trans {s v w : State} (h : SameCouple s v) (k : SameCouple v w) : SameCouple s w :=
  ⟨k.partner.trans h.partner, k.patina.trans h.patina, k.phase.trans h.phase, k.role.trans h.role⟩

theorem SameCouple.ite {s v w : State} {c : Prop} [Decidable c] (h : SameCouple s v) (k : SameCouple v w) :
    SameCouple s (if c then w else v) := by
  split
  · exact h.trans k
  · exact h

theorem newCaps_sameCouple (s : State) : SameCouple s (newCaps s) := by
  obtain ⟨partner, patina, phase, role, -⟩ := newCaps_keeps s
  exact ⟨partner, patina, phase, role⟩

theorem drawTie_sameCouple (s : State) : SameCouple s (drawTie s) := ⟨rfl, rfl, rfl, rfl⟩

theorem sendVdm_sameCouple (cmdType command mode : Nat) (data : Bytes) (s : State) :
    SameCouple s (sendVdm cmdType command mode data s) := ⟨rfl, rfl, rfl, rfl⟩

theorem askIdentity_sameCouple (s : State) : SameCouple s (askIdentity s) := by
  obtain ⟨partner, patina, phase, role⟩ := askIdentity_keeps s
  exact ⟨partner, patina, phase, role⟩

theorem askContract_sameCouple (s : State) : SameCouple s (askContract s) := by
  obtain ⟨partner, patina, phase, role, -⟩ := askContract_keeps s
  exact ⟨partner, patina, phase, role⟩

theorem tellStatus_sameCouple (s : State) : SameCouple s (tellStatus s) := by
  rw [tellStatus_onlySends s]
  exact ⟨rfl, rfl, rfl, rfl⟩

/-- The role that the partner's CAPABILITIES `x` give this end: in DISCOVER that of R315, kept while a new TIE is drawn. -/
def roleOn (x : Caps) (s : State) : Option Nat :=
  match s.clasp.phase, s.clasp.own with
  | .discover, some own => if (resolveRoles own x).2 then s.clasp.role else (resolveRoles own x).1
  | _, _ => s.clasp.role

theorem roleOn_discover {x own : Caps} (phase : s.clasp.phase = .discover) (offered : s.clasp.own = some own) :
    roleOn x s = if (resolveRoles own x).2 then s.clasp.role else (resolveRoles own x).1 := by
  unfold roleOn
  rw [phase, offered]

theorem roleOn_kept {x : Caps} (other : ∀ own, s.clasp.phase = .discover → s.clasp.own = some own → False) :
    roleOn x s = s.clasp.role := by
  unfold roleOn
  split
  case h_1 own phase offered => exact (other own phase offered).elim
  case h_2 => rfl

/-- CAPABILITIES are kept and settle the role; what is then asked or told leaves both alone. -/
theorem onCaps_sameCouple (p : Bytes) (u : State) :
    SameCouple { u with clasp := { u.clasp with
      partner := some (parseCaps p), partnerPatina := min 3 (parseCaps p).patina, role := roleOn (parseCaps p) u } }
      (onCaps p u) := by
  unfold onCaps
  dsimp only
  refine .trans (.trans (.ite (.ite ?roles (askIdentity_sameCouple _)) (sendVdm_sameCouple _ _ _ _ _))
    (askContract_sameCouple _)) (tellStatus_sameCouple _)
  dsimp only [State.setClasp]
  split
  case h_1 own phase offered =>
    rw [roleOn_discover phase offered]
    split
    · exact (drawTie_sameCouple _).trans (newCaps_sameCouple _)
    · exact ⟨rfl, rfl, rfl, rfl⟩
  case h_2 other =>
    rw [roleOn_kept other]
    exact ⟨rfl, rfl, rfl, rfl⟩

/-! ### REQUEST, STATUS and ALERT (R317, R318) -/

theorem onRequestMsg_granted {k : Contract} (granted : requestAnswer p u = .inl k) : onRequestMsg p u
    = takeContract k (sendAnswer tAccept (beBytes 2 (k.pc / 100) ++ beBytes 2 (k.ic / 100) ++ [byte k.droop, 0]) u) := by
  unfold onRequestMsg
  rw [granted]

theorem onRequestMsg_refused {r : Nat} (refused : requestAnswer p u = .inr r) :
    onRequestMsg p u = if r = 0 then sendAnswer tWait [] u else sendAnswer tReject [byte r, 0] u := by
  unfold onRequestMsg
  rw [refused]

/-- The closing transition leaves what STATUS noted of the partner. -/
theorem tryClosing_keeps (s : State) :
    (tryClosing s).clasp.partnerLinkP = s.clasp.partnerLinkP ∧
    (tryClosing s).clasp.partnerPatina = s.clasp.partnerPatina ∧
    (tryClosing s).clasp.partnerFlags = s.clasp.partnerFlags ∧
    (tryClosing s).clasp.partnerClosed = s.clasp.partnerClosed := by
  unfold tryClosing
  dsimp only
  split
  · split
    · exact (beginTransition_keeps _ _ _ _ _).2.2
    · exact ⟨rfl, rfl, rfl, rfl⟩
  · exact ⟨rfl, rfl, rfl, rfl⟩

/-! ### Identity (R328, R395, R405) -/

theorem onIdentity_refused (seeded : u.benra.drbgHalted = false)
    (uncertified : u.benra.certInvalid = true ∨ u.benra.deviceKey = none) : onIdentity p u = sendVdm 2 1 0 [] u := by
  unfold onIdentity
  rw [if_neg (by simp [seeded]), if_pos (by simpa using uncertified)]

/-- The answer to an identity request: the chain, a nonce of the DRBG and the signature over both nonces and TIE. -/
theorem onIdentity_signed {f : Nat × State} {g : (Bytes × Bytes) × State} {nonce : Bytes}
    (seeded : u.benra.drbgHalted = false) (certified : u.benra.certInvalid = false) (keyed : u.benra.deviceKey ≠ none)
    (hf : f = drbg u) (hn : nonce = leBytes 32 (f.1 % 2 ^ 256))
    (hg : g = deviceSign (hallmarkBytes (slice p 4 32) nonce ((u.clasp.own.map (·.tie)).getD 0)) f.2) :
    onIdentity p u = sendChunks (beBytes 2 (certChain u).length ++ certChain u ++ nonce ++ g.1.1 ++ g.1.2) g.2 := by
  subst hf hn hg
  unfold onIdentity
  rw [if_neg (by simp [seeded]), if_neg (by simp [certified, keyed])]

theorem certChain_congr (same : u.benra = a.benra) : certChain u = certChain a := by
  unfold certChain
  rw [same]

/-- The first chunk of several is kept, with the count and the length it names (Table 11.13). -/
theorem onChunk_first {x : Identity} {n : Nat} (awaited : u.clasp.identity = some x) (unfinished : x.whole = false)
    (next : x.next = 0) (empty : x.blob = []) (index : u8 p 4 = 0) (count : n = u8 p 5) (several : 2 ≤ n)
    (short : be16 p 6 ≤ 2178) (full : (p.drop 8).length = 232) (within : 232 ≤ be16 p 6)
    (chain : be16 (p.drop 8) 0 ≤ 2048) :
    onChunk p u = { u with clasp := { u.clasp with
      identity := some { x with blob := p.drop 8, next := 1, count := n, length := be16 p 6 } } } := by
  subst count
  unfold onChunk
  rw [awaited]
  dsimp only
  rw [empty, List.nil_append, index, next, full, if_neg (by simp [unfinished]), if_neg, if_neg]
  · rfl
  · omega
  · simp [short, within, chain]
    omega

/-! ### Modes (R329, R330) -/

theorem onEnterMode_busy {d : Nat} (hd : d = vdmMode p)
    (busy : claspBusy u = true ∨ u.clasp.role = some 1 ∧ u.clasp.modeAsked ≠ none) :
    onEnterMode p u = sendVdm 3 3 d [] u := by
  subst hd
  unfold onEnterMode
  dsimp only
  rw [if_pos (by simpa [Option.isSome_iff_ne_none] using busy)]

/-- A free end with no mode request of its own answers by the checks of R329 and R330. -/
theorem onEnterMode_decides {d : Nat} (hd : d = vdmMode p) (idle : claspBusy u = false)
    (unasked : u.clasp.modeAsked = none) :
    onEnterMode p u = if enterRefused d u ≠ 0 then sendVdm 2 3 d [byte (enterRefused d u)] u
      else enterMode d (u8 p 4) (sendVdm 1 3 d (if d = 1 then [byte (coTandemDroop (secs u))] else []) u) := by
  subst hd
  unfold onEnterMode
  dsimp only
  rw [if_neg (by simp [idle, unasked])]

theorem onExitMode_idle {d : Nat} (hd : d = vdmMode p) (idle : claspBusy u = false) :
    onExitMode p u = exitMode d (sendVdm 1 4 d [] u) := by
  subst hd
  exact if_neg (by simp [idle])

section
variable {d : Nat} (hd : d = vdmMode p) (enter : vdmCommand p = 3) (asked : u.clasp.modeAsked = some (2 * d + 1))
include hd enter asked

/-- A verified partner's ACK enters the mode that this end asked for on its own. -/
theorem onModeReply_entered (ack : vdmType p = 1) (verified : u.clasp.verified = true) (own : u.clasp.modeByHost = false) :
    onModeReply p u
      = enterMode d (u8 p 4) { u with clasp := { u.clasp with modeAsked := none, modeByHost := false } } := by
  subst hd
  unfold onModeReply
  simp only [enter, Nat.succ_ne_self, ack, and_true, ↓reduceIte, asked, and_self, Nat.reduceEqDiff, or_false, decide_true,
    verified, Bool.or_true, Bool.and_self, own, Bool.false_eq_true, Nat.reduceBEq]
  rfl

/-- Any other answer denies the request, BUSY for it to be asked again later (R323). -/
theorem onModeReply_denied (denied : vdmType p = 1 → u.clasp.verified = false) :
    onModeReply p u = denyMode (if vdmType p = 3 then askLater u else u) := by
  subst hd
  unfold onModeReply
  dsimp only
  rw [if_neg (by simp [enter]), asked]
  dsimp only
  rw [if_pos (.inl ⟨enter, rfl⟩), if_neg (by simpa [enter] using denied)]

end

/-! ### Bridge and customer VDMs (R327, R330, R447) -/

theorem onBridge_queues {k : Nat} (bridge : u.clasp.bridge = true) (hk : k = coBridgeCan (secs u)) (bus : k ≤ 1) :
    onBridge p u = queueFrames k [{ id := be32 p 4, data := p.drop 9, kind := 3 }] u := by
  subst hk
  exact if_neg (by simpa [bridge] using bus)

theorem onCustomer_unrelayed (unrelayed : coVdmRelay (secs u) = false) : onCustomer p u = send tNotSupported [] u :=
  if_pos (by simp [unrelayed])

/-- Without a free entry of the mailbox a customer VDM is counted as dropped. -/
theorem onCustomer_full (relay : coVdmRelay (secs u) = true) (full : ∀ k, k < 4 → Tab.find u.clasp.mailbox k ≠ none) :
    onCustomer p u = claspCount 8 u := by
  have none_free : (List.range 4).find? (fun k => (Tab.find u.clasp.mailbox k).isNone) = none := by
    rw [List.find?_eq_none]
    intro k hk
    simpa using full k (List.mem_range.mp hk)
  unfold onCustomer
  rw [if_neg (by simp [relay]), none_free]

/-- Settles O52: a repeat by its note alone, every other message by what its kind's act makes of its payload. -/
theorem dataMessagesAreTaken : Obligations.DataMessagesAreTaken := by
  intro t m s a u p ha hp hu
  refine ⟨?again, ?fresh⟩
  case again =>
    intro again
    refine ⟨?_, ?_, ?_, ?_, ?_, ?_, ?_, ?_, ?_, ?_, ?_, ?_, ?_, ?_⟩ <;>
      exact fun heard => repeat_noted ha heard again (by decide)
  case fresh =>
    intro fresh
    have act {k : RxKind} {body : Bytes → State → State} {v : State} (heard : Hears k m a) (acts : body p u = v) :=
      taken ha heard hp hu fresh acts
    have noted : OnlyNoted a u := hu ▸ noteRx_onlyNoted m.bytes false a
    clear hu hp
    refine ⟨?caps, ?granted, ?refused, ?status, ?alert, ?identity, ?chunk, ?modes, ?enter, ?enterBusy, ?exit, ?attention,
      ?bridge, ?unrelayed, ?full, ?reply, ?unknown⟩
    case caps =>
      intro heard
      obtain ⟨partner, patina, phase, role⟩ := onCaps_sameCouple p u
      exact ⟨_, act heard rfl, partner, patina, phase.trans noted.phase, fun own discover offered settled =>
        (role.trans (roleOn_discover (noted.phase.trans discover) (noted.own.trans offered))).trans
          (if_neg (by simp [settled]))⟩
    case granted => exact fun k heard granted => act heard (onRequestMsg_granted granted)
    case refused => exact fun r heard refused => act heard (onRequestMsg_refused refused)
    case status => exact fun heard => ⟨_, act heard rfl, tryClosing_keeps _⟩
    case alert => exact fun heard => act heard rfl
    case identity =>
      intro heard seeded
      rw [← noted.benra] at seeded ⊢
      refine ⟨fun uncertified => act heard (onIdentity_refused seeded uncertified), ?_⟩
      intro f g nonce certified keyed hf hn hg
      rw [← noted.own] at hg
      rw [← certChain_congr noted.benra]
      exact act heard (onIdentity_signed seeded certified keyed hf hn hg)
    case chunk =>
      intro x n heard awaited unfinished next empty index count several short full within chain
      exact act heard
        (onChunk_first (noted.identity.trans awaited) unfinished next empty index count several short full within chain)
    case modes =>
      intro l heard hl
      refine act heard ?_
      rw [hl, noted.secs]
    case enter =>
      intro d r heard idle unasked hd hr
      have decided := onEnterMode_decides hd (noted.busy.trans idle) (noted.modeAsked.trans unasked)
      rw [← hr, noted.secs] at decided
      exact ⟨fun refused => act heard (decided.trans (if_pos refused)),
        fun granted => act heard (decided.trans (if_neg (not_not.mpr granted)))⟩
    case enterBusy =>
      intro d heard hd busy
      exact act heard (onEnterMode_busy hd (by rwa [noted.busy, noted.role, noted.modeAsked]))
    case exit => exact fun d heard idle hd => act heard (onExitMode_idle hd (noted.busy.trans idle))
    case attention => exact fun heard => act heard rfl
    case bridge =>
      exact fun k heard bridge hk bus => act heard
        (onBridge_queues (noted.bridge.trans bridge) (hk.trans (by rw [noted.secs])) bus)
    case unrelayed => exact fun heard unrelayed => act heard (onCustomer_unrelayed (noted.secs ▸ unrelayed))
    case full => exact fun heard relay full => act heard (onCustomer_full (noted.secs ▸ relay) (noted.mailbox ▸ full))
    case reply =>
      intro d heard hd enter asked
      have asked' := noted.modeAsked.trans asked
      refine ⟨fun ack verified own => ?_, fun denied => ?_, fun busy => ?_⟩
      · exact act heard
          (onModeReply_entered hd enter asked' ack (noted.verified.trans verified) (noted.modeByHost.trans own))
      · have notBusy : vdmType p ≠ 3 := by omega
        refine act heard ((onModeReply_denied hd enter asked' fun ack => ?_).trans (by rw [if_neg notBusy]))
        obtain ⟨-, unverified⟩ | nak := denied
        · exact noted.verified.trans unverified
        · omega
      · refine act heard ((onModeReply_denied hd enter asked' fun ack => by omega).trans ?_)
        rw [if_pos busy, ← noted.now]
        rfl
    case unknown => exact fun heard => act heard rfl

end Sys2Proof.ClaspProofs
end

section
/-! SUPPORT. The pilot line and its timers (R309 to R314, R316, R323, R328, R330, R406): what a receipt, a missed one and a
collision do with the outstanding message, what starts on the line, and when each timer acts (O53). -/

namespace Sys2Proof.ClaspProofs

open Sys2Proof Sys2Proof.Machine

variable {t : Nat} {s a : State}

/-! ### The outstanding message (R309 to R312, R334) -/

theorem acked_plain {o : Outstanding} (plain : o.msg.purpose = .plain) (type : o.msg.type ≠ tResync) :
    acked o s = { s with clasp := { s.clasp with out := none, missRun := 0, softCount := 0 } } := by
  unfold acked
  rw [plain, if_neg type]
  rfl

section
variable {o : Outstanding} (ha : a = advance t s) (active : claspActive a = true) (used : pilotUsed a.clasp.phase = true)
  (awaited : a.clasp.out = some o) (sent : o.again = false)
include ha active used awaited sent

theorem execReceipt_matches {b : Nat} (complement : b / 16 % 16 = 15 - b % 16) (count : b % 8 = o.count) :
    exec (.receipt t b true) s
      = .next (acked o (a.setClasp { a.clasp with lineEnd := max a.clasp.lineEnd a.now })) := by
  show execReceipt t b true s = _
  unfold execReceipt
  dsimp only
  rw [← ha, awaited]
  exact if_pos (by simp [active, used, complement, count, sent])

/-- A receipt counts as missed 0.9 ms after the last trailer cell, and not before. -/
theorem execAckTimeout_misses : exec (.ackTimeout t) s
    = if o.endsAt + 900 * usTicks ≤ a.now then .next (missAck o a) else .next a := by
  show execAckTimeout t s = _
  unfold execAckTimeout
  dsimp only
  rw [← ha, awaited]
  simp only [active, used, sent, Bool.not_false, Bool.true_and, decide_eq_true_eq]

/-- An end with a role backs off by it. -/
theorem execCollision_role {r : Nat} (early : a.now < o.endsAt) (role : a.clasp.role = some r) :
    exec (.collision t) s = .next { claspCount 4 a with clasp := { (claspCount 4 a).clasp with
      out := some { o with again := true }, holdUntil := a.now + (if r = 1 then 250 else 750) * usTicks
      lineEnd := a.now } } := by
  show execCollision t s = _
  unfold execCollision
  dsimp only
  rw [← ha, awaited]
  dsimp only
  rw [if_pos (by simp [active, used, sent, early]), role, Option.isNone_some, if_neg Bool.false_ne_true]
  have kept : (claspCount 4 a).clasp.role = some r := role
  rw [kept]
  by_cases source : r = 1
  · subst source; rfl
  · rw [if_neg source]
    split
    case h_1 heq => exact absurd (Option.some.inj heq) source
    case h_2 => rfl
    case h_3 heq => cases heq

/-- An end without a role backs off for a random time of 200 to 1,000 µs. -/
theorem execCollision_random (early : a.now < o.endsAt) (role : a.clasp.role = none) :
    exec (.collision t) s = .next { claspCount 4 (drbg a).2 with clasp := { (claspCount 4 a).clasp with
      out := some { o with again := true }, holdUntil := a.now + (200 + (drbg a).1 % 801) * usTicks
      lineEnd := a.now } } := by
  show execCollision t s = _
  unfold execCollision
  dsimp only
  rw [← ha, awaited]
  dsimp only
  rw [if_pos (by simp [active, used, sent, early]), role, Option.isNone_none, if_pos rfl]
  have drawn : (claspCount 4 (drbg a).2).clasp.role = none := role
  have kept : (claspCount 4 a).clasp.role = none := role
  rw [drawn, kept]
  rfl

end

/-- The state that a missed acknowledgement leaves before it is acted on: counted, and in a row with those before. -/
def missed (s : State) : State :=
  { claspCount 3 s with clasp := { (claspCount 3 s).clasp with missRun := s.clasp.missRun + 1 } }

theorem missAck_split {o : Outstanding} (split : splitDue (missed s) = true) : missAck o s = splitCouple (missed s) :=
  if_pos split

/-- Once a split has ended the coupling nothing is sent again. -/
theorem missAck_afterSplit {o : Outstanding} {e : Ending} (whole : splitDue (missed s) = false)
    (ending : s.clasp.ending = some e) (cause : e.cause = ceSplit) :
    missAck o s = { missed s with clasp := { (missed s).clasp with out := none } } :=
  (if_neg (Bool.eq_false_iff.mp whole)).trans (if_pos (by simpa [claspCount, ending] using cause))

/-- Elsewhere the message is sent again up to three times, and then a soft reset follows. -/
theorem missAck_again {o : Outstanding} (whole : splitDue (missed s) = false)
    (coupled : ∀ e, s.clasp.ending = some e → e.cause ≠ ceSplit) :
    missAck o s = if o.retries < 3
      then { missed s with clasp := { (missed s).clasp with out := some { o with retries := o.retries + 1, again := true } } }
      else softReset (missed s) :=
  (if_neg (Bool.eq_false_iff.mp whole)).trans (if_neg (by
    rw [Option.any_eq_true]
    rintro ⟨e, ending, cause⟩
    exact coupled e ending (by simpa using cause)))

/-! ### Sending (R306, R309, R313, R326) -/

section
variable (ha : a = advance t s) (active : claspActive a = true) (used : pilotUsed a.clasp.phase = true)
include ha active used

/-- A message may start where no back-off and no line break holds it and the line has been idle for 200 µs. -/
theorem execPilotTransmitStart_waits : exec (.pilotTransmitStart t) s
    = if a.clasp.holdUntil ≤ a.now ∧ a.clasp.lineEnd + 200 * usTicks ≤ a.now ∧ a.clasp.breakUntil ≤ a.now
      then .next (transmitNext a) else .next a := by
  show execPilotTransmitStart t s = _
  unfold execPilotTransmitStart
  dsimp only
  rw [← ha]
  simp only [active, used, Bool.true_and, Bool.and_eq_true, decide_eq_true_eq, and_assoc]

theorem execLineBreak_resets :
    exec (.lineBreak t) s = .next (chipPulse 0x0E03 [] (claspHardReset (claspCount 6 a))) := by
  show execLineBreak t s = _
  unfold execLineBreak
  dsimp only
  rw [← ha]
  exact if_pos (by simp [active, used])

end

/-- What sending a message notes besides the line: an own request no longer waits, a ROLE_SWAP counts as asked. -/
theorem noteSent_eq (m : OutMsg) (s : State) : noteSent m s = { s with clasp := { s.clasp with
    waited := s.clasp.waited && !(isAsk m && m.type != tRequest)
    swapAsked := s.clasp.swapAsked || m.type == tRoleSwap } } := by
  have request : ∀ ask : Bool, (if ask then s.setClasp { s.clasp with waited := false } else s)
      = s.setClasp { s.clasp with waited := s.clasp.waited && !ask } := by
    intro ask
    cases ask with
    | true => rw [Bool.not_true, Bool.and_false]; rfl
    | false => rw [Bool.not_false, Bool.and_true]; rfl
  unfold noteSent
  dsimp only
  rw [request]
  by_cases swap : m.type = tRoleSwap
  · rw [if_pos swap, beq_iff_eq.mpr swap, Bool.or_true]
    rfl
  · rw [if_neg swap, beq_eq_false_iff_ne.mpr swap, Bool.or_false]
    rfl

/-- The next message starts with the next MSG_COUNT. -/
theorem transmitNext_starts {m : OutMsg} {rest : List OutMsg} {n : Nat} (free : s.clasp.out = none)
    (next : nextMsg s = some (m, rest)) (numbered : m.purpose ≠ .resync) (hn : n = s.clasp.nextCount) :
    transmitNext s = { s with clasp := { s.clasp with
      outbox := rest, nextCount := (n + 1) % 8
      out := some { msg := m, count := n, role := s.clasp.role.getD 0, endsAt := s.now + lineTicks m.payload }
      lineTx := messageCells (wireBytes m.type n (s.clasp.role.getD 0) m.payload)
      lineFrom := s.now, lineEnd := s.now + lineTicks m.payload
      waited := s.clasp.waited && !(isAsk m && m.type != tRequest)
      swapAsked := s.clasp.swapAsked || m.type == tRoleSwap } } := by
  subst hn
  unfold transmitNext
  dsimp only
  rw [free]
  dsimp only
  rw [next]
  dsimp only
  rw [noteSent_eq, if_neg numbered, if_neg numbered]
  simp only [launch, State.setClasp]

/-! ### Timers (R314, R316, R323, R328) -/

section
variable (ha : a = advance t s) (active : claspActive a = true)
include ha active

theorem execCapsWaitTimeout_waits {q : Nat} (phase : a.clasp.phase = .discover) (unheard : a.clasp.partner = none)
    (since : a.clasp.capsSentAt = some q) : exec (.capsWaitTimeout t) s = if q + 100 * msTicks ≤ a.now
      then .next (send tCapsQuery [] { a with clasp := { a.clasp with capsSentAt := some a.now } }) else .next a := by
  show execCapsWaitTimeout t s = _
  unfold execCapsWaitTimeout
  dsimp only
  rw [← ha, since]
  simp only [active, phase, unheard, beq_self_eq_true, Option.isNone_none, Bool.true_and, decide_eq_true_eq]
  rfl

/-- Outside Tandem STATUS goes out every 20 ms. -/
theorem execStatusTimer_waits (phase : a.clasp.phase = .ready ∨ a.clasp.phase = .closing ∨ a.clasp.phase = .contract)
    (alone : a.clasp.tandem = false) : exec (.statusTimer t) s = if a.clasp.statusAt + 20 * msTicks ≤ a.now
      then .next (sendStatus a) else .next a := by
  have coupled : (a.clasp.phase == .ready || a.clasp.phase == .closing || a.clasp.phase == .contract) = true := by
    simpa [or_assoc] using phase
  have period : (if a.clasp.tandem = true ∧ a.clasp.phase = .contract then 2 else 20) = 20 := if_neg (by simp [alone])
  show execStatusTimer t s = _
  unfold execStatusTimer
  dsimp only
  rw [← ha, period]
  simp only [active, coupled, Bool.true_and, decide_eq_true_eq]

theorem execHallmarkRetry_waits {q : Nat} (used : pilotUsed a.clasp.phase = true)
    (retryAt : a.clasp.identityRetryAt = some q) :
    exec (.hallmarkRetry t) s = if q ≤ a.now then .next (askIdentity a) else .next a := by
  show execHallmarkRetry t s = _
  unfold execHallmarkRetry
  dsimp only
  rw [← ha, retryAt]
  simp only [active, used, Bool.true_and, decide_eq_true_eq]

/-- The Sink asks again where a request was put off, or where the bus has left V_c for 1 s and 1 s has passed since it
settled. -/
theorem execSinkRequestResend_asks (used : pilotUsed a.clasp.phase = true) (lasting : a.clasp.phase ≠ .ending)
    (unasked : a.clasp.asked = none)
    (due : a.clasp.askOwed = true ∨ a.clasp.phase = .contract ∧ a.clasp.settledAt + secTicks ≤ a.now ∧
      ∃ q, a.clasp.deviateSince = some q ∧ q + secTicks ≤ a.now) :
    exec (.sinkRequestResend t) s = .next (askContract a) := by
  show execSinkRequestResend t s = _
  unfold execSinkRequestResend
  dsimp only
  rw [← ha]
  have unended : (a.clasp.phase != .ending) = true := bne_iff_ne.mpr lasting
  refine if_pos ?_
  rw [active, used, unended, unasked, Option.isNone_none, Bool.and_self, Bool.and_self, Bool.and_self, Bool.true_and,
    Bool.or_eq_true]
  obtain owed | ⟨phase, settled, q, since, away⟩ := due
  · exact .inr owed
  · rw [beq_iff_eq.mpr phase, since, Option.any_some, decide_eq_true away, decide_eq_true settled]
    exact .inl rfl

end

/-! ### Identity and bridge (R330, R406) -/

section
variable {x : Identity} (ha : a = advance t s) (active : claspActive a = true) (received : a.clasp.identity = some x)
  (whole : x.whole = true)
include ha active received whole

theorem execHallmarkVerifyComplete_verified {n : Nat}
    (verdict : verifyIdentity x ((a.clasp.partner.map (·.tie)).getD 0) = some n) :
    exec (.hallmarkVerifyComplete t) s = .next (markVerified n a) := by
  show execHallmarkVerifyComplete t s = _
  unfold execHallmarkVerifyComplete
  dsimp only
  rw [← ha, received]
  dsimp only
  rw [if_pos (by simp [active, whole]), verdict]

theorem execHallmarkVerifyComplete_distrusted
    (verdict : verifyIdentity x ((a.clasp.partner.map (·.tie)).getD 0) = none) :
    exec (.hallmarkVerifyComplete t) s = .next (untrust a) := by
  show execHallmarkVerifyComplete t s = _
  unfold execHallmarkVerifyComplete
  dsimp only
  rw [← ha, received]
  dsimp only
  rw [if_pos (by simp [active, whole]), verdict]

end

theorem event_clasp (code : Nat) (l : List Nat) (s : State) : (event code l s).clasp = s.clasp := by
  rw [event_onlyRecords code l s]

theorem newCaps_keepsIdentity (s : State) : (newCaps s).clasp.verified = s.clasp.verified ∧
    (newCaps s).clasp.identity = s.clasp.identity ∧ (newCaps s).clasp.partnerSerial = s.clasp.partnerSerial := by
  unfold newCaps
  split <;> exact ⟨rfl, rfl, rfl⟩

theorem markVerified_marks (n : Nat) (s : State) : (markVerified n s).clasp.verified = true ∧
    (markVerified n s).clasp.identity = none ∧ (markVerified n s).clasp.partnerSerial = n := by
  unfold markVerified
  dsimp only
  rw [tellStatus_onlySends]
  dsimp only
  split
  · obtain ⟨verified, identity, serial⟩ := newCaps_keepsIdentity
      (event 0x8E08 [n % 2 ^ 32, n / 2 ^ 32]
        (s.setClasp { s.clasp with verified := true, identity := none, partnerSerial := n }))
    rw [verified, identity, serial, event_clasp]
    exact ⟨rfl, rfl, rfl⟩
  · rw [event_clasp]
    exact ⟨rfl, rfl, rfl⟩

theorem execBridgeCanRx_joins {id w : Nat} {brs : Bool} {d : Bytes} (ha : a = advance t s) (active : claspActive a = true)
    (bridge : a.clasp.bridge = true) (length : canLength d.length = true)
    (matching : (Nat.xor id (coBridgeId0 (secs a))) &&& (coBridgeMask0 (secs a)) = 0)
    (room : (a.clasp.outbox.filter (fun m => m.purpose == .bridge)).length < 16)
    (hw : w = id % 2 ^ 29 + (id / 2 ^ 31) % 2 * 2 ^ 31 + 2 ^ 30 + 2 ^ 29 * flag brs) :
    exec (.bridgeCanRx t id true brs d) s = .next { a with clasp := { a.clasp with outbox := a.clasp.outbox ++
      [{ type := tVdm, payload := vdmHead 0 0x10 0 ++ beBytes 4 w ++ [byte d.length] ++ d, purpose := .bridge }] } } := by
  subst hw
  have notFull : decide (16 ≤ (a.clasp.outbox.filter (fun m => m.purpose == .bridge)).length) = false :=
    decide_eq_false (Nat.not_le.mpr room)
  show execBridgeCanRx t id true brs d s = _
  unfold execBridgeCanRx
  dsimp only
  rw [← ha, if_pos (by simpa [active, bridge, length] using matching), notFull]
  rfl

/-- Settles O53: the outstanding message by what comes back for it, a new one by what holds the line, every timer by its
time. -/
theorem pilotLineIsDriven : Obligations.PilotLineIsDriven := by
  intro t s a ha active used
  refine ⟨?receipt, ?outstanding, ?starts, ?held, execLineBreak_resets ha active used, ?capsQuery, ?status, ?verdict, ?retry,
    ?owed, ?away, ?bridge⟩
  case receipt =>
    intro o b awaited sent plain complement count type
    rw [execReceipt_matches ha active used awaited sent complement count, acked_plain plain type]
    rfl
  case outstanding =>
    intro o w awaited sent hw
    change w = missed a at hw
    subst hw
    have misses := execAckTimeout_misses ha active used awaited sent
    refine ⟨fun late split => ?_, fun late whole ended => ?_, fun late whole coupled => ?_, fun early => ?_,
      fun r early role => ?_, fun early role => ?_⟩
    · rw [misses, if_pos late, missAck_split split]
    · obtain ⟨e, ending, cause⟩ := ended
      rw [misses, if_pos late, missAck_afterSplit whole ending cause]
    · rw [misses, if_pos late, missAck_again whole coupled]
    · rw [misses, if_neg (Nat.not_le.mpr early)]
    · exact execCollision_role ha active used awaited sent early role
    · exact ⟨_, execCollision_random ha active used awaited sent early role, 200 + (drbg a).1 % 801,
        by omega, by omega, rfl⟩
  case starts =>
    intro m rest n free next numbered hn hold idle whole
    rw [execPilotTransmitStart_waits ha active used, if_pos ⟨hold, idle, whole⟩, transmitNext_starts free next numbered hn]
  case held =>
    intro held
    rw [execPilotTransmitStart_waits ha active used, if_neg (by omega)]
  case capsQuery =>
    intro q phase unheard since
    have waits := execCapsWaitTimeout_waits ha active phase unheard since
    exact ⟨fun due => waits.trans (if_pos due), fun early => waits.trans (if_neg (Nat.not_le.mpr early))⟩
  case status =>
    intro phase alone
    have waits := execStatusTimer_waits ha active phase alone
    exact ⟨fun due => waits.trans (if_pos due), fun early => waits.trans (if_neg (Nat.not_le.mpr early))⟩
  case verdict =>
    intro x received whole
    cases verdict : verifyIdentity x ((a.clasp.partner.map (·.tie)).getD 0) with
    | some n =>
      exact ⟨_, execHallmarkVerifyComplete_verified ha active received whole verdict, rfl, markVerified_marks n a⟩
    | none => exact ⟨_, execHallmarkVerifyComplete_distrusted ha active received whole verdict, rfl⟩
  case retry =>
    intro q retryAt
    have waits := execHallmarkRetry_waits ha active used retryAt
    exact ⟨fun due => waits.trans (if_pos due), fun early => waits.trans (if_neg (Nat.not_le.mpr early))⟩
  case owed =>
    exact fun lasting unasked owed => execSinkRequestResend_asks ha active used lasting unasked (.inl owed)
  case away =>
    exact fun q phase unasked since away settled =>
      execSinkRequestResend_asks ha active used (by simp [phase]) unasked (.inr ⟨phase, settled, q, since, away⟩)
  case bridge =>
    exact fun id brs d w bridge length matching room hw => execBridgeCanRx_joins ha active bridge length matching room hw

end Sys2Proof.ClaspProofs
end

section
/-! SUPPORT. The fault collector (R340 to R342, R345, R349, R351, R356 to R359): which acts leave the collector alone, what a
mild assertion leaves behind, what a cleared input and an applied level change, and the branches of each command (O55). -/

namespace Sys2Proof.FaultProofs

open Sys2Proof Sys2Proof.Machine Sys2Proof.StageProofs

/-! ### Acts that leave the collector alone -/

section
variable {s : State}

@[simp] theorem event_collector (code : Nat) (l : List Nat) : (event code l s).collector = s.collector := by
  rw [event_onlyRecords code l s]

@[simp] theorem foldl_collector {α : Type} {act : State → α → State} (l : List α)
    (keeps : ∀ u x, (act u x).collector = u.collector) : (l.foldl act s).collector = s.collector :=
  List.foldlRecOn (motive := fun u => u.collector = s.collector) l act rfl
    (fun u same x _ => (keeps u x).trans same)

@[simp] theorem stopKa_collector (k : Nat) : (stopKa k s).collector = s.collector := by
  unfold stopKa
  dsimp only
  split <;> rfl

@[simp] theorem kaAllLow_collector : (kaAllLow s).collector = s.collector := by
  simp [kaAllLow]

@[simp] theorem forceLanes_collector (mask : Nat) : (forceLanes mask s).collector = s.collector := by
  simp [forceLanes, forceLane]

@[simp] theorem pushEdge_collector (p kind rise fall dtLead dtTrail : Nat) (lsEn : Bool) :
    (pushEdge p kind rise fall dtLead dtTrail lsEn s).collector = s.collector := by
  unfold pushEdge
  split
  · rfl
  · split <;> rfl

@[simp] theorem endPhase_collector (p : Nat) : (endPhase p s).collector = s.collector := by
  simp [endPhase, pushOff]

@[simp] theorem closeLoop_collector (c cause : Nat) : (closeLoop c cause s).collector = s.collector := by
  unfold closeLoop
  dsimp only
  split <;> simp

@[simp] theorem owesClear_collector (c : Nat) : (owesClear c s).collector = s.collector := rfl

@[simp] theorem closeStageLoops_collector (g : Nat) : (closeStageLoops g s).collector = s.collector := by
  simp [closeStageLoops]

@[simp] theorem tellStatus_collector : (tellStatus s).collector = s.collector := by
  rw [tellStatus_onlySends s]

@[simp] theorem dropPending_collector : (dropPending s).collector = s.collector := by
  obtain ⟨host, dropped⟩ := dropPending_is s
  rw [dropped]

@[simp] theorem claspStageStopped_collector : (claspStageStopped s).collector = s.collector := by
  unfold claspStageStopped
  split
  · rfl
  · simp [stopCouplingKas, enterClasp]

@[simp] theorem endRest_collector (cause : Nat) : (endRest cause s).collector = s.collector := by
  unfold endRest
  split <;> simp

@[simp] theorem markStopped_collector (g : Nat) : (markStopped g s).collector = s.collector := by
  unfold markStopped
  split <;> simp [brakeEvent]

@[simp] theorem closeStopped_collector (q : Secs) (g : Nat) : (closeStopped q g s).collector = s.collector := by
  unfold closeStopped
  dsimp only
  split <;> simp

@[simp] theorem endStoppedRest_collector (g : Nat) : (endStoppedRest g s).collector = s.collector := by
  unfold endStoppedRest
  split
  · split <;> simp
  · rfl

/-- A stop cause forces nothing of its own on the collector (R188, R189). -/
@[simp] theorem stopStage_collector (g : Nat) : (stopStage g s).collector = s.collector := by
  by_cases idle : (s.stage g).mode = .stopped ∨ (s.stage g).mode = .crowbar
  · rw [stopStage_idle idle]
  · obtain ⟨awake, tame⟩ := not_or.mp idle
    simp [stopStage_awake awake tame]

@[simp] theorem stopStages_collector (mask : Nat) : (stopStages mask s).collector = s.collector := by
  simp [stopStages]

@[simp] theorem crowbarClear_collector (scope : Nat) : (crowbarClear scope s).collector = s.collector := by
  unfold crowbarClear
  refine foldl_collector _ fun u g => ?_
  dsimp only
  rw [apply_ite State.collector]
  simp

end

/-! ### A level is applied, an input clears (R355, R358) -/

/-- The held level is the highest of those applied. -/
theorem applyLevel_heldLevel (level scope s1 : Nat) (s : State) :
    (applyLevel level scope s1 s).collector.heldLevel = max s.collector.heldLevel level := by
  unfold applyLevel
  dsimp only
  split <;> split <;> simp

/-- Clearing changes the one input and nothing else of the collector, a released crowbar included (R208). -/
theorem clearInput_collector (code scope : Nat) (s : State) : (clearInput code scope s).collector =
    (s.setInput code scope
      { s.input code scope with latched := false, mismatch := false, testMissed := false }).collector := by
  unfold clearInput
  dsimp only
  split <;> simp

theorem clearInput_heldLevel (code scope : Nat) (s : State) :
    (clearInput code scope s).collector.heldLevel = s.collector.heldLevel := by
  rw [clearInput_collector]
  rfl

theorem clearInput_latched (code scope : Nat) (s : State) : ((clearInput code scope s).input code scope).latched = false := by
  rw [State.input, clearInput_collector]
  exact congrArg FaultIn.latched (State.input_setInput s code scope _)

/-- Where no S1 waits with the rack up, a cleared input starts no power-down (R357). -/
theorem afterClear_clearInput {s : State} (unwaited : s.collector.s1UpSince = none) (code scope : Nat) :
    afterClear (clearInput code scope s) = clearInput code scope s := by
  have still : (clearInput code scope s).collector.s1UpSince = none := by rw [clearInput_collector]; exact unwaited
  simp [afterClear, still]

/-! ### A mild assertion (R340, R345) -/

section
variable {code scope : Nat} {s : State} (p : Bytes) (mild : mildReaction (reactionOf s code scope) = true)
  (idle : (s.input code scope).asserted = false)
include mild idle

/-- An idle input with a mild reaction is left as it latched, and its code heads the last faults. -/
theorem assertInput_asserts :
    (assertInput code scope p s).input code scope = (latchInput code scope p s).input code scope ∧
      (assertInput code scope p s).plinth.lastFaults = (code :: s.plinth.lastFaults).take 4 := by
  have latches := (latchInput_onlyLatches code scope p s).trans (captureFault_onlyLatches code p _)
  have reacts := react_onlyRecords (code := code) (scope := scope) p (by rw [latches.reactionOf]; exact mild)
  obtain ⟨collector, lastFaults⟩ := captureFault_keeps code p (latchInput code scope p s)
  unfold assertInput
  rw [if_neg (by simp [idle]), reacts.input, reacts.lastFaults, lastFaults]
  exact ⟨by rw [State.input, collector]; rfl, rfl⟩

/-- The record of a fault and the capture that waits for it leave its input idle, so that it asserts (R344). -/
theorem raiseFault_asserts :
    ((raiseFault code scope p s).input code scope).asserted = true ∧
      ((raiseFault code scope p s).input code scope).latched = true ∧
      (raiseFault code scope p s).plinth.lastFaults = (code :: s.plinth.lastFaults).take 4 := by
  have staged := stageRecord_onlyRecords code scope p s
  have latches := staged.latches.trans (captureFault_onlyLatches code p _)
  obtain ⟨collector, lastFaults⟩ := captureFault_keeps code p (stageRecord code scope p s)
  have idle' : ((captureFault code p (stageRecord code scope p s)).input code scope).asserted = false := by
    rw [State.input, collector, ← State.input, staged.input, idle]
  obtain ⟨input, heads⟩ := assertInput_asserts p (by rw [latches.reactionOf]; exact mild) idle'
  rw [lastFaults, staged.lastFaults] at heads
  unfold raiseFault
  rw [input, heads]
  simp [latchInput, State.input, State.setInput]

end

/-! ### FAULT_CLEAR (R359, Table 12.6) -/

/-- The cases of one named input, in their order. -/
theorem faultClear_named {d : Bytes} {s : State} {code scope : Nat} (hcode : u16 d 0 = code) (hscope : u8 d 2 = scope)
    (one : code ≠ 0xFFFF) : faultClear d s =
    if entryOf s code scope = none then (stRange, s)
    else if clearModeOf s code scope = 2 then (stDenied, s)
    else if (s.input code scope).asserted then (stCauseActive, s)
    else if (s.input code scope).latched then (stDone, afterClear (clearInput code scope s))
    else (stDone, s) := by
  subst hcode hscope
  unfold faultClear
  simp only [if_neg one, Option.isNone_iff_eq_none]

/-! ### The commands -/

section
variable {t code scope : Nat} {s a : State} (ha : a = advance t s)
include ha

theorem execFaultInputAssert_eq (pairs : List (Bool × Bool)) (p : List Nat) :
    execFaultInputAssert ⟨t, pairs⟩ code scope p s =
      if inputExists a code scope && lastCycles 2 pairAsserted pairs then .next (raiseFault code scope (pay p) a)
      else .next a := by
  subst ha
  rfl

theorem execFaultInputDeassert_eq (pairs : List (Bool × Bool)) :
    execFaultInputDeassert ⟨t, pairs⟩ code scope s =
      if lastCycles 2 pairIdle pairs then .next (lowerFault code scope a) else .next a := by
  subst ha
  rfl

/-- Eight cycles of equal levels: 0x0C01, and the input counts as asserted unless 0x0C01 has reset the chip (R341). -/
theorem execPairMismatch_asserts {pairs : List (Bool × Bool)} {u : State} (equal : lastCycles 8 pairEqual pairs = true)
    (known : inputExists a code scope = true)
    (hu : u = chipPulse 0x0C01 [inputNo a code scope]
      (a.setInput code scope { a.input code scope with mismatch := true }))
    (up : u.phase ≠ .inReset) :
    execPairMismatch ⟨t, pairs⟩ code scope s = .next (assertInput code scope [] u) := by
  subst hu
  unfold execPairMismatch
  dsimp only
  rw [← ha, if_neg (by simp [equal, known])]
  exact if_neg (mt eq_of_beq up)

theorem execPairMismatch_filtered {pairs : List (Bool × Bool)} (fewer : lastCycles 8 pairEqual pairs = false) :
    execPairMismatch ⟨t, pairs⟩ code scope s = .next a := by
  subst ha
  exact if_pos (by simp [fewer])

/-- Two slots of one polarity without its test pulse, on an input that is tested (R342). -/
theorem execInputStuck_missed {high : Bool} {one two : List (Bool × Bool)} (older : List (List (Bool × Bool)))
    (known : inputExists a code scope = true) (idle : (a.input code scope).asserted = false)
    (first : pulseMissed high one = true) (second : pulseMissed high two = true) :
    execInputStuck t code scope ⟨high, older ++ [one, two]⟩ s = .next (chipPulse 0x0C02 [inputNo a code scope, flag high]
      (a.setInput code scope { a.input code scope with testMissed := true })) := by
  unfold execInputStuck
  dsimp only
  rw [← ha, if_neg (by simp [known, idle])]
  exact if_pos (by simp [first, second])

theorem execReactionParity_good {e : Nat} {held : Bytes} (good : parityOf held = parityOf (faEntry (secs a) e)) :
    execReactionParity t ⟨e, held⟩ s = .next a := by
  subst ha
  exact if_pos (by simp [good])

theorem execReactionParity_bad {e : Nat} {held : Bytes} (live : isLive a = true) (declared : e < faEntryCount (secs a))
    (bad : parityOf held ≠ parityOf (faEntry (secs a) e)) (fresh : a.collector.parityBad.contains e = false) :
    execReactionParity t ⟨e, held⟩ s = .next (chipPulse 0x0C05 [e]
      { a with collector := { a.collector with parityBad := e :: a.collector.parityBad } }) := by
  unfold execReactionParity
  dsimp only
  rw [← ha, if_neg (by simp [live, bad, Nat.not_le.mpr declared, -List.contains_eq_mem, fresh])]

/-- The S1 sets whose time is over leave the list, and one of them not stopped raises the level to S2 (R351). -/
theorem execS1Escalated_eq {u : State} (hu : u = { a with collector := { a.collector with
      s1Waits := a.collector.s1Waits.filter (fun w => decide (a.now < w.1)) } }) :
    execS1Escalated t s =
      if ∀ w ∈ a.collector.s1Waits, w.1 ≤ a.now → stagesStopped w.2 a = true then .next u
      else .next (chipPulse 0x0C04 [] (enterSafe 2 (inputNo a 0x0C04 0) (applyLevel 2 0 0 u))) := by
  subst ha hu
  have stopped : ∀ m v, stagesStopped m { advance t s with collector := v } = stagesStopped m (advance t s) :=
    fun _ _ => rfl
  unfold execS1Escalated
  simp only [List.all_eq_true, List.mem_filter, decide_eq_true_eq, and_imp, stopped]
  rfl

/-- An AUTO input that has latched and is idle clears once HOLD_OFF is over (R358). -/
theorem execClearHoldOffExpiry_auto {e : Bytes} (bound : entryOf a code scope = some e)
    (latched : (a.input code scope).latched = true) (idle : (a.input code scope).asserted = false) (auto : u8 e 5 = 0) :
    execClearHoldOffExpiry t code scope s =
      if (a.input code scope).deassertedAt + u16 e 6 * msTicks ≤ a.now then .next (afterClear (clearInput code scope a))
      else .next a := by
  unfold execClearHoldOffExpiry
  dsimp only
  rw [← ha, bound]
  simp [latched, idle, auto]

theorem execSafeIn_short {held : Nat} {low : Bool} (short : held < safeInTicks a) :
    execSafeIn ⟨t, low, held⟩ s = .next a := by
  subst ha
  exact if_pos short

theorem execSafeIn_held {held : Nat} (low : Bool) (long : safeInTicks a ≤ held) (up : a.phase ≠ .inReset) :
    execSafeIn ⟨t, low, held⟩ s =
      if low then .next (chipFault 0x0C03 [] { a with pins := { a.pins with safeIn := low } })
      else .next (lowerFault 0x0C03 0 { a with pins := { a.pins with safeIn := low } }) := by
  subst ha
  unfold execSafeIn
  dsimp only
  rw [if_neg (Nat.not_lt.mpr long)]
  exact if_neg (by simpa using up)

/-- S1 held in SAFE with the rack up waits for GUARD_WAIT (R357). -/
theorem execS1GuardWaitExpiry_eq {q : Nat} (since : a.collector.s1UpSince = some q) (safe : a.mode = .safe) :
    execS1GuardWaitExpiry t s =
      if q + sqGuardWait (secs a) * secTicks ≤ a.now then
        .next (powerDown causeClear { a with collector := { a.collector with s1UpSince := none } })
      else .next a := by
  unfold execS1GuardWaitExpiry
  dsimp only
  rw [← ha, since]
  simp [safe]

end

/-- Settles O55: each command by its branch; an assertion by what a mild reaction leaves, a clearing and a level by what they
change of the collector. -/
theorem faultsLatchReactAndClear : Obligations.FaultsLatchReactAndClear := by
  intro t code scope s a ha
  refine ⟨?asserts, ?filtered, ?bounced, ?deasserts, ?mismatch, ?unequal, ?stuck, ?good, ?bad, ?escalates, ?auto, ?waits,
    ?clear, ?cleared, ?short, ?safeIn, ?guardWait, ?rises⟩
  case asserts =>
    intro p pairs cycles known mild idle
    refine ⟨_, (execFaultInputAssert_eq ha pairs p).trans (if_pos ?_), raiseFault_mild _ mild, raiseFault_asserts _ mild idle⟩
    simp [known, cycles]
  case filtered =>
    exact fun p pairs fewer => (execFaultInputAssert_eq ha pairs p).trans (if_neg (by simp [fewer]))
  case bounced =>
    exact fun pairs fewer => (execFaultInputDeassert_eq ha pairs).trans (if_neg (by simp [fewer]))
  case deasserts =>
    intro pairs cycles asserted
    refine (execFaultInputDeassert_eq ha pairs).trans ((if_pos cycles).trans ?_)
    exact congrArg Host.Outcome.next (if_pos asserted)
  case mismatch => exact fun u pairs equal known hu up => execPairMismatch_asserts ha equal known hu up
  case unequal => exact fun pairs fewer => execPairMismatch_filtered ha fewer
  case stuck =>
    exact fun high one two older known idle first second => execInputStuck_missed ha older known idle first second
  case good => exact fun e held _ _ good => execReactionParity_good ha good
  case bad => exact fun e held live declared bad fresh => execReactionParity_bad ha live declared bad fresh
  case escalates =>
    intro u hu
    refine ⟨fun stopped => (execS1Escalated_eq ha hu).trans (if_pos stopped), fun ⟨w, waits, past, runs⟩ => ?_⟩
    refine (execS1Escalated_eq ha hu).trans (if_neg fun stopped => ?_)
    exact absurd (stopped w waits past) (by simp [runs])
  case auto =>
    intro e bound latched idle auto
    have expires := execClearHoldOffExpiry_auto ha bound latched idle auto
    refine ⟨fun expired unwaited => ?_, fun early => expires.trans (if_neg (Nat.not_le.mpr early))⟩
    rw [← afterClear_clearInput unwaited code scope]
    exact expires.trans (if_pos expired)
  case waits =>
    intro rq u admitted
    subst ha
    exact ⟨_, congrArg Host.Outcome.next (admitted_later admitted rfl), by simp [State.setHport, State.hport]⟩
  case clear =>
    intro d hcode hscope one
    have named := faultClear_named (s := a) hcode hscope one
    refine ⟨fun unbound => ?_, fun bound restart => ?_, fun bound mode asserted => ?_,
      fun bound mode idle latched unwaited => ?_⟩
    · rw [named, if_pos unbound]
    · rw [named, if_neg bound, if_pos restart]
    · rw [named, if_neg bound, if_neg mode, if_pos asserted]
    · rw [named, if_neg bound, if_neg mode, if_neg (by simp [idle]), if_pos latched, afterClear_clearInput unwaited]
  case cleared => exact ⟨clearInput_heldLevel code scope a, clearInput_latched code scope a⟩
  case short => exact fun held short low => execSafeIn_short ha short
  case safeIn => exact fun held long up => ⟨execSafeIn_held ha true long up, execSafeIn_held ha false long up⟩
  case guardWait =>
    intro q since safe
    have expires := execS1GuardWaitExpiry_eq ha since safe
    exact ⟨fun expired => expires.trans (if_pos expired), fun early => expires.trans (if_neg (Nat.not_le.mpr early))⟩
  case rises =>
    intro level s1
    rw [applyLevel_heldLevel]
    exact ⟨le_max_left _ _, le_max_right _ _⟩

end Sys2Proof.FaultProofs
end

section
/-! SUPPORT. One step of the block (O1), and the fuse bits it keeps (R397, R398; O4). -/

namespace Sys2Proof.TrustProofs

open Sys2Proof Sys2Proof.Machine

/-- Settles O1: the two branches of a step, by what waits in the queue. -/
theorem stepRunsFrontCommand : Obligations.StepRunsFrontCommand := by
  intro c rest s
  unfold step
  exact ⟨fun waits => by rw [waits], fun idle => by rw [idle]⟩

/-- Settles O4: a step idles or moves on from a state with the same fuses (`step_onward`), and moving on clears no bit. -/
theorem fusesAreNeverCleared : Obligations.FusesAreNeverCleared := by
  intro s t i stepped blown
  rcases ImageProofs.step_onward stepped with rfl | ⟨c, rest, -, onward⟩
  · exact blown
  · refine onward.fuses i ?_
    rwa [show (advance c.time { s with pending := rest }).benra = s.benra by simp]

end Sys2Proof.TrustProofs
end

section
/-! SUPPORT. The self-tests of Benra (R393, R395, R396, R408, R415): what its start leaves, and the faults that hold BOOT
(O10). -/

namespace Sys2Proof.TrustProofs

open Sys2Proof Sys2Proof.Machine

/-- Before activation a CHIP fault keeps the step of BOOT, the mode and Benra. -/
theorem chipFault_keeps {s : State} (code : Nat) (l : List Nat) (early : isLive s = false) :
    (chipFault code l s).phase = s.phase ∧ (chipFault code l s).mode = s.mode ∧ (chipFault code l s).benra = s.benra := by
  rw [chipFault_early code l early]
  exact ⟨rfl, rfl, rfl⟩

/-- Benra with its DRBG seeded from the raw bits, its keys and BOOT_NONCE, and the verdict on the certificate store
(R393, R395, R408). -/
def benraStarted (raw : Bytes) (a : State) : State :=
  { a with benra := { (drbg (seedDrbg raw a)).2.benra with
      deviceKey := some (deriveDeviceKey a), recorderKey := some (deriveRecorderKey a)
      bootNonce := leBytes 8 (drbg (seedDrbg raw a)).1
      certInvalid := !certStoreOk (deriveDeviceKey a) (drbg (seedDrbg raw a)).2 } }

/-- Benra's start, and fault 0x0D06 where the certificate store fails (R395). -/
theorem startBenra_eq (raw : Bytes) (a : State) :
    startBenra raw a =
      if certStoreOk (deriveDeviceKey a) (drbg (seedDrbg raw a)).2 then benraStarted raw a
      else chipFault 0x0D06 [] (benraStarted raw a) := rfl

/-- Benra's start before activation keeps all but Benra and what a fault latches, and raises 0x0D06 for a failed store. -/
theorem startBenra_starts {a : State} (raw : Bytes) (early : isLive a = false) :
    OnlyLatches (benraStarted raw a) (startBenra raw a) ∧
      ((startBenra raw a).benra.certInvalid = true → Raised 0x0D06 a (startBenra raw a)) := by
  have started : isLive (benraStarted raw a) = false := early
  have same : (benraStarted raw a).input 0x0D06 0 = a.input 0x0D06 0 := by simp only [State.input, benraStarted]
  have raised := ImageProofs.raised_of_input same (chipFault_raised 0x0D06 [] started)
  rw [startBenra_eq]
  split
  case isTrue valid =>
    refine ⟨.refl _, fun invalid => ?_⟩
    simp [benraStarted, valid] at invalid
  case isFalse => exact ⟨chipFault_early _ _ started, fun _ => raised⟩

section
variable {t : Nat} {kat : List Bool} {trng : List Bytes} {reads : List Nat} {s a : State} (ha : a = advance t s)
  (repaired : a.phase = .repaired)
include ha repaired

theorem execSelfTestComplete_katFails (kat_bad : (kat.take 2).any id = false) :
    execSelfTestComplete t kat trng reads s = .next (chipFault 0x0D01 [] { a with phase := .selfTestFailed }) := by
  unfold execSelfTestComplete
  dsimp only
  rw [← ha, if_neg (by simp [repaired]), if_pos (by simp [kat_bad])]

theorem execSelfTestComplete_trngFails (kat_good : (kat.take 2).any id = true)
    (trng_bad : (trng.take 2).find? startupPasses = none) :
    execSelfTestComplete t kat trng reads s = .next (chipFault 0x0D02 [] { a with phase := .selfTestFailed }) := by
  unfold execSelfTestComplete
  dsimp only
  rw [← ha, if_neg (by simp [repaired]), if_neg (by simp only [kat_good]; decide), trng_bad]

section
variable {raw : Bytes} (kat_good : (kat.take 2).any id = true) (trng_good : (trng.take 2).find? startupPasses = some raw)
include kat_good trng_good

theorem execSelfTestComplete_fusesFail (fuses_bad : readsAgree reads = false ∨ fuseShipped a = false) :
    execSelfTestComplete t kat trng reads s = .next (chipFault 0x0D05 [] { a with phase := .noImage }) := by
  unfold execSelfTestComplete
  dsimp only
  rw [← ha, if_neg (by simp [repaired]), if_neg (by simp only [kat_good]; decide), trng_good]
  dsimp only
  rw [if_pos (by rcases fuses_bad with h | h <;> simp [h]), if_pos (by simp [repaired])]

theorem execSelfTestComplete_passes (agree : readsAgree reads = true) (shipped : fuseShipped a = true) :
    execSelfTestComplete t kat trng reads s = .next { startBenra raw a with phase := .tested } := by
  have early : isLive a = false := ImageProofs.isLive_eq_false (by simp [repaired])
  have phase : (startBenra raw a).phase = .repaired := by
    rw [(startBenra_starts raw early).1]
    exact repaired
  unfold execSelfTestComplete
  dsimp only
  rw [← ha, if_neg (by simp [repaired]), if_neg (by simp only [kat_good]; decide), trng_good]
  dsimp only
  rw [if_neg (by simp [agree, shipped]), if_pos (by simp [phase])]

end
end

/-- A CHIP fault that holds BOOT at a step of its own, with mode and Benra as they were. -/
theorem chipFault_holds {a : State} (code : Nat) {p : BootPhase} (hp : p ≠ .live) :
    (chipFault code [] { a with phase := p }).phase = p ∧ (chipFault code [] { a with phase := p }).mode = a.mode ∧
      (chipFault code [] { a with phase := p }).benra = a.benra ∧ Raised code a (chipFault code [] { a with phase := p }) := by
  have early : isLive { a with phase := p } = false := ImageProofs.isLive_eq_false hp
  obtain ⟨phase, mode, benra⟩ := chipFault_keeps code [] early
  exact ⟨phase, mode, benra, ImageProofs.raised_of_input rfl (chipFault_raised code [] early)⟩

/-- Settles O10: each outcome by the first test that fails; the good one by what Benra's start leaves. -/
theorem benraIsTested : Obligations.BenraIsTested := by
  intro t s a ha repaired
  refine ⟨?passes, ?kat, ?trng, ?fuses⟩
  case passes =>
    intro kat trng reads raw kat_good trng_good agree shipped
    have early : isLive a = false := ImageProofs.isLive_eq_false (by simp [repaired])
    obtain ⟨latches, raised⟩ := startBenra_starts raw early
    have runs := execSelfTestComplete_passes ha repaired kat_good trng_good agree shipped
    refine ⟨_, runs, rfl, ?_, ?_, ?_, ?_, ?_, ?_, raised⟩ <;> (dsimp only; rw [latches]; rfl)
  case kat =>
    intro kat trng reads kat_bad
    exact ⟨_, execSelfTestComplete_katFails ha repaired kat_bad, chipFault_holds _ (by decide)⟩
  case trng =>
    intro kat trng reads kat_good trng_bad
    have none_passes : (trng.take 2).find? startupPasses = none := by simpa using trng_bad
    exact ⟨_, execSelfTestComplete_trngFails ha repaired kat_good none_passes, chipFault_holds _ (by decide)⟩
  case fuses =>
    intro kat trng reads kat_good trng_good fuses_bad
    obtain ⟨raw, found⟩ := Option.isSome_iff_exists.mp ((List.find?_isSome).mpr (by simpa using trng_good))
    exact ⟨_, execSelfTestComplete_fusesFail ha repaired kat_good found fuses_bad, chipFault_holds _ (by decide)⟩

end Sys2Proof.TrustProofs
end

section
/-! SUPPORT. Enrolment and transfer of the owner (R400, R401, Table 14.4): the status of each command and what it starts
once it is ACCEPTED (O20). -/

namespace Sys2Proof.TrustProofs

open Sys2Proof Sys2Proof.Machine

/-- An admitted command that its object accepts: it is answered ACCEPTED, and then its act starts. -/
theorem runThen_starts {c : CmdSpec} {rq : CmdReq} {s u : State} {status : Bytes → State → Nat} {start : State → State}
    (admitted : admitCmd c rq s = some u) (accepted : status rq.data u = stAccepted) :
    ∃ w, Accepts c.object rq u w ∧
      runThen c rq (fun d v => say (status d v) v) (fun st v => if st = stAccepted then start v else v) s = start w := by
  refine ⟨_, settle_accepts u.benra.cmdKeys c rq u, ?_⟩
  rw [runThen_admit _ _ admitted]
  simp only [say, accepted]
  rw [if_pos trivial]

section
variable {u : State} (mode : u.mode = .standby) (closed : u.benra.session = none) (idle : u.benra.fuseOp = none)
  (powered : vppIn u.pins.vppFuse = true)
include mode closed idle powered

theorem enrolStatus_accepted {n : Nat} (allowed : trEnrolAllowed (trustOf u) = true) (unenrolled : activeOwner u = none)
    (free : nextOwnerSlot u = some n) : enrolStatus u = stAccepted := by
  unfold enrolStatus
  rw [if_neg (by simp [mode, closed]), if_neg (by simp [allowed, powered]), if_neg (by simp [unenrolled]),
    if_neg (by simp [free]), if_neg (by simp [idle])]

theorem transferStatus_accepted {d : Bytes} (signed : transferSigned d u = true) (enrolled : activeOwner u ≠ none)
    (free : nextOwnerSlot u = some (u8 d 0)) : transferStatus d u = stAccepted := by
  unfold transferStatus
  rw [if_neg (by simp [mode, closed]), if_neg (by simp [signed, powered]), if_neg (by simp [enrolled]),
    if_neg (by simp [free]), if_neg (by simp [idle])]

end

/-- The hash of the running image's owner key goes into the next slot, whatever the answer did to the host ports (R400). -/
theorem enrolStart_programs {u w : State} {i : Image} {n : Nat} (answered : OnlyHost u w) (live : u.loader.live = some i)
    (free : nextOwnerSlot u = some n) : enrolStart w = fuseStart (.enrol n) (ownerBits n (sha384 i.ownerKey)) w := by
  have live' : w.loader.live = some i := by rw [answered]; exact live
  have free' : nextOwnerSlot w = some n := by rw [answered]; exact free
  unfold enrolStart
  rw [live', free']

/-- Settles O20: each command by its status, and by what it starts once accepted. -/
theorem ownersAreEnrolled : Obligations.OwnersAreEnrolled := by
  intro t rq vpp s a u ha
  subst ha
  refine ⟨?enrols, ?transfers⟩
  case enrols =>
    intro i n admitted live mode closed allowed powered unenrolled free idle
    obtain ⟨w, accepts, starts⟩ := runThen_starts (status := fun _ v => enrolStatus v) (start := enrolStart) admitted
      (enrolStatus_accepted mode closed idle powered allowed unenrolled free)
    exact ⟨_, congrArg Host.Outcome.next starts, w, accepts, enrolStart_programs accepts.1.1 live free⟩
  case transfers =>
    intro n admitted mode closed powered signed enrolled free slot idle
    subst slot
    obtain ⟨w, accepts, starts⟩ := runThen_starts (status := transferStatus)
      (start := fuseStart (.transfer (u8 rq.data 0)) (ownerBits (u8 rq.data 0) (slice rq.data 4 48))) admitted
      (transferStatus_accepted mode closed idle powered signed enrolled free)
    exact ⟨_, congrArg Host.Outcome.next starts, w, accepts, rfl⟩

end Sys2Proof.TrustProofs
end

section
/-! SUPPORT. Debug unlock, attestation and the random source (R394, R407, R410, R412 to R415): the answer of each command and
the branches of each timed act (O22). -/

namespace Sys2Proof.TrustProofs

open Sys2Proof Sys2Proof.Machine

/-! ### Debug unlock and attestation (R407, R412, R413) -/

/-- Debug access open, with every derived key erased (R413). -/
def debugOpened (w : State) : State :=
  { w with benra := { w.benra with deviceKey := none, recorderKey := none, cmdKeys := [], debugUnlocked := true } }

theorem debugUnlock_done {d : Bytes} {u : State} (mode : u.mode = .standby) (closed : u.benra.session = none)
    (token : tokenOk 1 d u = true) :
    debugUnlock d u = (stDone, [], debugOpened (flushAll (event 0x8D08 [] (event 0x8D07 [u32 d 16, 1] u)))) := by
  unfold debugUnlock useToken
  rw [if_neg (by simp [mode, closed]), if_pos token]
  rfl

section
variable {d : Bytes} {u : State} (seeded : u.benra.drbgHalted = false) (locked : u.benra.debugUnlocked = false)
include seeded locked

theorem attest_done (valid : u.benra.certInvalid = false) (key : u.benra.deviceKey ≠ none) {x : (Bytes × Bytes) × State}
    (hx : x = deviceSign (ascii "KST192 ATTEST v1" ++ attestData d u) u) :
    attest d u = (stDone, attestData d u ++ x.1.1 ++ x.1.2, x.2) := by
  subst hx
  unfold attest
  rw [if_neg (by simp [seeded]), if_neg (by simp [locked]), if_neg (by simp [valid, key])]

theorem attest_integrity (invalid : u.benra.certInvalid = true) : attest d u = (stIntegrity, [], u) := by
  unfold attest
  rw [if_neg (by simp [seeded]), if_neg (by simp [locked]), if_pos (by simp [invalid])]
  rfl

end

/-! ### The random source (R414, R415) -/

section
variable {t : Nat} {raw : Bytes} {s a : State} (ha : a = advance t s)
include ha

theorem execTrngHealth_eq (awake : a.mode ≠ .dormant) (up : a.mode = .boot → bootHeld a = true) :
    execTrngHealth ⟨t, raw⟩ s =
      if rawHealthy raw then .next a
      else .next (chipFault 0x0D02 [] { a with benra := { a.benra with drbgHalted := true, retestAt := a.now + secTicks } }) := by
  have tested : (a.mode == .dormant || a.mode == .boot && !bootHeld a) = false := by
    by_cases boot : a.mode = .boot <;> simp_all
  subst ha
  unfold execTrngHealth
  dsimp only
  rw [tested, Bool.false_or]

theorem execTrngRetest_eq (halted : a.benra.drbgHalted = true) :
    execTrngRetest t raw s =
      if a.now < a.benra.retestAt then .next a
      else if startupPasses raw then
        .next (lowerFault 0x0D02 0 (seedDrbg raw { a with benra := { a.benra with drbgHalted := false } }))
      else .next { a with benra := { a.benra with retestAt := a.now + secTicks } } := by
  subst ha
  unfold execTrngRetest
  simp only [halted, Bool.not_true, Bool.false_or, decide_eq_true_eq]

theorem execDrbgReseed_eq :
    execDrbgReseed ⟨t, raw⟩ s =
      if 65536 ≤ a.benra.drbgRequests ∧ 128 ≤ raw.length ∧ rawHealthy raw = true then .next (reseedDrbg raw a)
      else .next a := by
  subst ha
  unfold execDrbgReseed
  simp only [Bool.and_eq_true, decide_eq_true_eq, and_assoc]

/-- The end of a channel's lockout, where its time has come; 0x0D03 goes with the last one (R410). -/
theorem execAuthLockoutExpiry_due {c e : Nat} (locked : Tab.find a.benra.lockedUntil c = some e) (due : e ≤ a.now) :
    execAuthLockoutExpiry t c s =
      if Tab.del a.benra.lockedUntil c = [] then
        .next (lowerFault 0x0D03 0 { a with benra := { a.benra with lockedUntil := Tab.del a.benra.lockedUntil c } })
      else .next { a with benra := { a.benra with lockedUntil := Tab.del a.benra.lockedUntil c } } := by
  unfold execAuthLockoutExpiry
  dsimp only
  rw [← ha, locked]
  dsimp only
  rw [if_pos due]
  by_cases last : Tab.del a.benra.lockedUntil c = [] <;> simp [last]

end

/-- Settles O22: each command by the answer of its body, each timed act by the branch it takes. -/
theorem debugAttestAndRandomness : Obligations.DebugAttestAndRandomness := by
  intro t rq s a u ha
  refine ⟨?unlocks, ?attests, ?health, ?retest, ?reseed, ?lockout⟩
  case unlocks =>
    intro admitted mode closed token
    subst ha
    obtain ⟨only, answered⟩ := admitted_answers admitted (debugUnlock_done mode closed token) (by decide)
    refine ⟨_, rfl, ?_, ?_, ?_, ?_, _, rfl, only, answered⟩ <;> (rw [only]; rfl)
  case attests =>
    subst ha
    intro admitted seeded locked
    exact ⟨fun x valid key hx => ⟨_, rfl, admitted_answers admitted (attest_done seeded locked valid key hx) (by decide)⟩,
      fun invalid => ⟨_, rfl, admitted_answers admitted (attest_integrity seeded locked invalid) (by decide)⟩⟩
  case health =>
    intro raw awake up
    have runs := execTrngHealth_eq (raw := raw) ha awake up
    exact ⟨fun bad => runs.trans (if_neg (by simp [bad])), fun good => runs.trans (if_pos good)⟩
  case retest =>
    intro raw halted
    have runs := execTrngRetest_eq (raw := raw) ha halted
    refine ⟨fun due pass => runs.trans ?_, fun due fail => runs.trans ?_, fun early => runs.trans (if_pos early)⟩
    · rw [if_neg (Nat.not_lt.mpr due), if_pos pass]
    · rw [if_neg (Nat.not_lt.mpr due), if_neg (by simp [fail])]
  case reseed =>
    intro raw
    have runs := execDrbgReseed_eq (raw := raw) ha
    exact ⟨fun spent long healthy => runs.trans (if_pos ⟨spent, long, healthy⟩),
      fun few => runs.trans (if_neg fun spent => absurd spent.1 (Nat.not_le.mpr few))⟩
  case lockout =>
    intro c e locked due
    have runs := execAuthLockoutExpiry_due ha locked due
    exact ⟨fun last => by rw [← last]; exact runs.trans (if_pos last), fun others => runs.trans (if_neg others)⟩

end Sys2Proof.TrustProofs
end

section
/-! SUPPORT. The final status of an accepted command (R419, R429, R445; O18). -/

namespace Sys2Proof.HostProofs

open Sys2Proof Sys2Proof.Machine

/-- A cause touches neither the host ports nor the commands remembered. -/
theorem setCause_keeps (i : Nat) (s : State) :
    (setCause i s).host.ports = s.host.ports ∧ (setCause i s).host.accepted = s.host.accepted := by
  unfold setCause
  dsimp only
  split
  · split <;> exact ⟨rfl, rfl⟩
  · exact ⟨rfl, rfl⟩

/-- A cause that the running image selects is set (R429). -/
theorem setCause_sets {i : Nat} {s : State} (live : isLive s = true) (selected : bit (hoAttnMask (secs s)) i = true) :
    bit (setCause i s).host.causes i = true := by
  unfold setCause
  rw [if_pos (by simp [live, selected])]
  unfold bit
  dsimp only
  split <;> simp

/-- What COMMAND_RESULT takes of a command that ends now (R419, R445). -/
def resultOf (object status detail : Nat) (c : Accepted) (s : State) : CmdResult :=
  { object := object, inst := c.inst, tag := c.tag, status := status, detail := detail, completed := s.plinth.opSeconds }

/-- The result of a command at its port, and the command no longer remembered. -/
def resultFiled (object status detail : Nat) (c : Accepted) (s : State) : State :=
  { s with host := { s.host with
    ports := Tab.set s.host.ports c.port { s.hport c.port with result := resultOf object status detail c s }
    accepted := Tab.del s.host.accepted object } }

theorem finishCommand_waited {object : Nat} (status detail : Nat) {s : State} {c : Accepted}
    (waited : Tab.find s.host.accepted object = some c) :
    finishCommand object status detail s = setCause 2 (resultFiled object status detail c s) := by
  unfold finishCommand
  rw [waited]
  rfl

theorem finishCommand_unwaited {object : Nat} (status detail : Nat) {s : State}
    (unwaited : Tab.find s.host.accepted object = none) : finishCommand object status detail s = s := by
  unfold finishCommand
  rw [unwaited]

/-- The port that sent the command holds its result. -/
theorem resultFiled_own (object status detail : Nat) (c : Accepted) (s : State) :
    ((resultFiled object status detail c s).hport c.port).result = resultOf object status detail c s := by
  simp [resultFiled, State.hport]

/-- Every other port is as it was. -/
theorem resultFiled_other (object status detail : Nat) (c : Accepted) (s : State) {q : Nat} (other : q ≠ c.port) :
    (resultFiled object status detail c s).hport q = s.hport q := by
  simp [resultFiled, State.hport, other]

/-- Settles O18: a command somebody waits for files its result and sets the cause; no other command changes anything. -/
theorem acceptedCommandFinishes : Obligations.AcceptedCommandFinishes := by
  intro object status detail s
  refine ⟨fun c waited => ?_, finishCommand_unwaited status detail⟩
  have only := finishCommand_onlyHost object status detail s
  rw [finishCommand_waited status detail waited] at only ⊢
  obtain ⟨ports, accepted⟩ := setCause_keeps 2 (resultFiled object status detail c s)
  have hport : ∀ q, (setCause 2 (resultFiled object status detail c s)).hport q
      = (resultFiled object status detail c s).hport q := fun q => by unfold State.hport; rw [ports]
  refine ⟨only, ?_, fun q other => ?_, ?_, fun live selected => setCause_sets live selected⟩
  · rw [hport]
    exact resultFiled_own object status detail c s
  · rw [hport]
    exact resultFiled_other object status detail c s other
  · rw [accepted]
    exact Tab.find_del _ _

end Sys2Proof.HostProofs
end

section
/-! SUPPORT. The test access port (R468 to R472): what an instruction decodes to, what its data scan takes, and how TEST is
left (O60). -/

namespace Sys2Proof.TapProofs

open Sys2Proof Sys2Proof.Machine

/-! ### Decoding (R469) -/

/-- The entry condition of TEST, outside TEST (Table 3.2). -/
theorem testEntry_outside {a : State} {entry : Bool} (outside : a.mode ≠ .test)
    (condition : entry = true ↔ (a.mode = .boot ∧ bootHeld a = true) ∨ (a.mode = .standby ∧ kaMask a = 0)) :
    testEntry a = entry := by
  rw [Bool.eq_iff_iff, condition]
  simp [testEntry, outside, and_comm]

theorem testEntry_within {a : State} (within : a.mode = .test) : testEntry a = true := by simp [testEntry, within]

section
variable {a : State} {op : Nat}

theorem decodedOpcode_always (en : Bool) (always : op = 0xFF ∨ op = 0x01 ∨ op = 0x02) : decodedOpcode a op en = op := by
  rcases always with rfl | rfl | rfl <;> rfl

theorem decodedOpcode_test (en : Bool) (test : testOpcodes.contains op = true) :
    decodedOpcode a op en = if en && testEntry a then op else opBypass := by
  have listed : op ≠ opIdcode ∧ op ≠ opSample := by
    constructor <;> (rintro rfl; revert test; decide)
  unfold decodedOpcode
  rw [if_neg (by simp [listed]), if_pos test]

theorem decodedOpcode_debug (en : Bool) :
    decodedOpcode a opDebug en = if !en && a.benra.debugUnlocked then opDebug else opBypass := rfl

theorem decodedOpcode_unlisted (en : Bool) (unlisted : op ∉ [0x01, 0x02, 0x03, 0x04, 0x05, 0x06, 0x07, 0x40, 0x50]) :
    decodedOpcode a op en = opBypass := by
  simp only [List.mem_cons, List.not_mem_nil, or_false, not_or] at unlisted
  unfold decodedOpcode
  rw [if_neg (by simp [opIdcode, opSample, unlisted]), if_neg (by simp [testOpcodes, unlisted]),
    if_neg (by simp [opDebug, unlisted])]

end

/-! ### The data scan (R470 to R472) -/

/-- An instruction of the boundary register takes the pins, a free value, and new cells. -/
theorem scanDr_boundary {op : Nat} (dr : Nat) (s : State) (selects : boundaryOpcodes.contains op = true) :
    scanDr op dr s = { s with
      freeIx := s.freeIx + 1
      tap := { s.tap with drCapture := Config.freeValue s.freeIx % 2 ^ 612, boundary := dr % 2 ^ 612 } } := by
  unfold scanDr captureDr
  rw [if_pos selects, if_pos selects]
  rfl

/-- Any other instruction takes IDCODE, the MBIST result or 0, and shifts nothing into the cells. -/
theorem scanDr_other {op : Nat} (dr : Nat) (s : State) (other : boundaryOpcodes.contains op = false) :
    scanDr op dr s = { s with tap := { s.tap with
      drCapture := if op = opIdcode then 0x1C1920A7 else if op = 0x50 then s.tap.mbistResult else 0 } } := by
  unfold scanDr captureDr
  rw [if_neg (by rw [other]; decide), if_neg (by rw [other]; decide)]

/-! ### TEST is left (R470) -/

theorem leaveTest_outside {s : State} (outside : s.mode ≠ .test) : leaveTest s = s := if_neg (by simpa using outside)

theorem leaveTest_within {s : State} (within : s.mode = .test) : leaveTest s = resetChip 0x08 s := if_pos (by simp [within])

/-! ### An instruction loaded -/

/-- The port with an instruction loaded, before its data scan. -/
def loaded (op : Nat) (en : Bool) (a : State) : State :=
  { a with tap := { a.tap with instruction := op, irCapture := irCaptured a en }, pins := { a.pins with testEn := en } }

/-- Every pin follows its boundary cell, and the all-off generators drive nothing (R470). -/
def pinsInTest (s : State) : State := { s with pins := { s.pins with domains := 0xFFFF, allOff := 0 } }

section
variable {t op dr : Nat} {en : Bool} {s a : State} (ha : a = advance t s)
include ha

/-- An instruction outside the EXTEST rows leaves a chip that is not in TEST in its mode. -/
theorem execInstructionLoad_keeps {acts : Nat} (outside : a.mode ≠ .test) (decoded : decodedOpcode a op en = acts)
    (plain : testOpcodes.contains acts = false) :
    execInstructionLoad t op ⟨en, dr⟩ s = .next (scanDr acts dr (loaded acts en a)) := by
  have mode : (scanDr acts dr (loaded acts en a)).mode ≠ .test := by
    by_cases selects : boundaryOpcodes.contains acts = true
    · rw [scanDr_boundary dr _ selects]; exact outside
    · rw [scanDr_other dr _ (by simpa using selects)]; exact outside
  subst ha decoded
  unfold execInstructionLoad
  dsimp only
  rw [if_neg (by simp only [plain]; decide)]
  split
  · rfl
  · exact congrArg Host.Outcome.next (leaveTest_outside mode)

/-- BYPASS, in a chip that is not in TEST: its one bit takes 0. -/
theorem execInstructionLoad_bypass (outside : a.mode ≠ .test) (decoded : decodedOpcode a op en = opBypass) :
    execInstructionLoad t op ⟨en, dr⟩ s = .next { a with
      tap := { a.tap with instruction := 0xFF, irCapture := irCaptured a en, drCapture := 0 }
      pins := { a.pins with testEn := en } } := by
  rw [execInstructionLoad_keeps ha outside decoded rfl, scanDr_other dr _ (by decide)]
  rfl

/-- An EXTEST row enters TEST. -/
theorem execInstructionLoad_enters (decoded : decodedOpcode a op en = op) (test : testOpcodes.contains op = true) :
    execInstructionLoad t op ⟨en, dr⟩ s = .next (setMode .test (pinsInTest (scanDr op dr (loaded op en a)))) := by
  subst ha
  unfold execInstructionLoad
  simp only [decoded]
  rw [if_pos test]
  rfl

/-- BYPASS, IDCODE and SAMPLE/PRELOAD leave TEST. -/
theorem execInstructionLoad_leaves (within : a.mode = .test) (always : op = 0xFF ∨ op = 0x01 ∨ op = 0x02) :
    execInstructionLoad t op ⟨en, dr⟩ s = .next (resetChip 0x08 (scanDr op dr (loaded op en a))) := by
  subst ha
  unfold execInstructionLoad
  simp only [decodedOpcode_always en always]
  rcases always with rfl | rfl | rfl <;> exact congrArg Host.Outcome.next (leaveTest_within within)

theorem execTapReset_eq : execTapReset t s = .next (leaveTest { a with tap := { a.tap with instruction := 0x01 } }) := by
  subst ha
  rfl

theorem execTestEnLow_eq (low : Nat) :
    execTestEnLow ⟨t, low⟩ s =
      if low < usTicks then .next a else .next (leaveTest { a with pins := { a.pins with testEn := false } }) := by
  subst ha
  rfl

end

/-- The state an EXTEST row leaves but for the attention of the host ports (R470). -/
theorem setMode_pinsInTest {op dr : Nat} {a v : State} (entry : testEntry a = true)
    (hv : v = setMode .test (pinsInTest (scanDr op dr (loaded op true a)))) :
    v.mode = .test ∧ OnlyHost { a with
      mode := .test, freeIx := v.freeIx, pins := { a.pins with testEn := true, domains := 0xFFFF, allOff := 0 }
      tap := { a.tap with
        instruction := op, irCapture := 5, drCapture := v.tap.drCapture
        boundary := if boundaryOpcodes.contains op then dr % 2 ^ 612 else a.tap.boundary } } v := by
  have captured : irCaptured a true = 5 := by simp [irCaptured, entry, flag]
  have only := ImageProofs.setMode_onlyHost .test (pinsInTest (scanDr op dr (loaded op true a)))
  rw [← hv] at only
  by_cases selects : boundaryOpcodes.contains op = true
  · rw [scanDr_boundary dr _ selects] at only
    rw [if_pos selects, ← captured, only]
    exact ⟨rfl, rfl⟩
  · rw [scanDr_other dr _ (by simpa using selects)] at only
    rw [if_neg selects, ← captured, only]
    exact ⟨rfl, rfl⟩

/-- Settles O60: an opcode by what it decodes to, and TEST by the reset that leaves it. -/
theorem tapDecodesInstructions : Obligations.TapDecodesInstructions := by
  intro t op dr en entry s a ha condition
  refine ⟨fun outside => ?_, fun within => ?_⟩
  · have entry_eq := testEntry_outside outside condition
    have captured : irCaptured a en = 1 + 4 * flag (en && entry) := by rw [← entry_eq]; rfl
    have bypass := execInstructionLoad_bypass (op := op) (dr := dr) (en := en) ha outside
    rw [← captured]
    refine ⟨?idcode, ?sample, ?extest, ?debug, ?unlisted, ?reset, ?short, ?low⟩
    case idcode =>
      intro hop
      refine (execInstructionLoad_keeps ha outside (decodedOpcode_always en (by simp [hop])) (by rw [hop]; rfl)).trans ?_
      subst hop
      exact congrArg Host.Outcome.next (scanDr_other dr _ (by decide))
    case sample =>
      intro hop
      refine ⟨_, execInstructionLoad_keeps ha outside (decodedOpcode_always en (by simp [hop])) (by rw [hop]; rfl), ?_⟩
      subst hop
      rw [scanDr_boundary dr _ (by decide)]
      exact ⟨Nat.mod_lt _ (by positivity), rfl⟩
    case extest =>
      intro row
      have test : testOpcodes.contains op = true := by rcases row with rfl | rfl | rfl | rfl | rfl | rfl <;> rfl
      have decoded := decodedOpcode_test (a := a) en test
      rw [entry_eq] at decoded
      refine ⟨fun high met => ?_, fun refused => ?_⟩
      · subst high met
        exact ⟨_, execInstructionLoad_enters ha decoded test, setMode_pinsInTest entry_eq rfl⟩
      · have off : (en && entry) = false := by simpa [Classical.or_iff_not_imp_left] using refused
        rw [off] at decoded captured
        rw [← show irCaptured a en = 1 from captured]
        exact bypass decoded
    case debug =>
      rintro rfl
      have decoded := decodedOpcode_debug (a := a) en
      by_cases opens : en = false ∧ a.benra.debugUnlocked = true
      · rw [if_pos opens]
        refine (execInstructionLoad_keeps ha outside (decoded.trans (if_pos (by simp [opens]))) (by decide)).trans ?_
        exact congrArg Host.Outcome.next (scanDr_other dr _ (by decide))
      · rw [if_neg opens]
        exact bypass (decoded.trans (if_neg (by simpa using opens)))
    case unlisted => exact fun unlisted => bypass (decodedOpcode_unlisted en unlisted)
    case reset => exact (execTapReset_eq ha).trans (congrArg Host.Outcome.next (leaveTest_outside outside))
    case short => exact fun low short => (execTestEnLow_eq ha low).trans (if_pos short)
    case low =>
      intro low long
      refine (execTestEnLow_eq ha low).trans ((if_neg (Nat.not_lt.mpr long)).trans ?_)
      exact congrArg Host.Outcome.next (leaveTest_outside outside)
  · refine ⟨?reset, ?short, ?low, ?loads⟩
    case reset =>
      refine ⟨_, (execTapReset_eq ha).trans (congrArg Host.Outcome.next (leaveTest_within within)), rfl, ?_⟩
      exact StartProofs.resetChip_resetBy 0x08 _
    case short => exact fun low short => (execTestEnLow_eq ha low).trans (if_pos short)
    case low =>
      intro low long
      refine ⟨_, (execTestEnLow_eq ha low).trans ((if_neg (Nat.not_lt.mpr long)).trans
        (congrArg Host.Outcome.next (leaveTest_within within))), StartProofs.resetChip_resetBy 0x08 _⟩
    case loads =>
      intro always
      have captured : irCaptured a en = 1 + 4 * flag en := by simp [irCaptured, testEntry_within within]
      refine ⟨_, execInstructionLoad_leaves ha within always, ?_⟩
      rw [← captured]
      by_cases selects : boundaryOpcodes.contains op = true
      · rw [scanDr_boundary dr _ selects]
        exact ⟨rfl, rfl, StartProofs.resetChip_resetBy 0x08 _⟩
      · rw [scanDr_other dr _ (by simpa using selects)]
        exact ⟨rfl, rfl, StartProofs.resetChip_resetBy 0x08 _⟩

end Sys2Proof.TapProofs
end

section
/-! SUPPORT. The VDM mailbox and the injection table (R327, R443, R447, R448): which entry a customer VDM fills, what a write of
each object does, and what a read of a word answers (O59). -/

namespace Sys2Proof.HostProofs

open Sys2Proof Sys2Proof.Machine

/-! ### A relayed VDM (R447) -/

@[simp] theorem setCause_clasp (i : Nat) (s : State) : (setCause i s).clasp = s.clasp := by rw [setCause_onlyHost i s]

/-- A customer VDM fills the lowest free entry. -/
theorem onCustomer_mailbox {k : Nat} {p : Bytes} {u : State} (relay : coVdmRelay (secs u) = true) (known : k < 4)
    (free : Tab.find u.clasp.mailbox k = none) (lowest : ∀ j, j < k → Tab.find u.clasp.mailbox j ≠ none) :
    (onCustomer p u).clasp.mailbox = Tab.set u.clasp.mailbox k
      { order := u.clasp.relayed % 256, rxTime := u.plinth.opSeconds, vdm := p } := by
  have found : (List.range 4).find? (fun k => (Tab.find u.clasp.mailbox k).isNone) = some k := by
    rw [List.find?_range_eq_some]
    exact ⟨by simp [free], List.mem_range.mpr known, fun j below => by simpa [Option.isSome_iff_ne_none] using lowest j below⟩
  unfold onCustomer
  rw [if_neg (by simp [relay]), found]
  exact congrArg Clasp.mailbox (setCause_clasp 4 _)

/-! ### What the map shows (R442, R447, R448) -/

theorem view_mailbox {k : Nat} (known : k < 4) (u : State) (p : Nat) : view u p 0x0E02 k = .bytes (vdmMailbox u k) :=
  if_pos (decide_eq_true known)

/-- A free entry reads zero throughout. -/
theorem vdmMailbox_free {k : Nat} {u : State} (free : Tab.find u.clasp.mailbox k = none) : vdmMailbox u k = zeros 248 := by
  unfold vdmMailbox
  rw [free]

theorem view_injection (u : State) (p : Nat) : view u p 0x0605 0 = .injection := rfl

/-- A word of the injection table has four bytes. -/
theorem tableWord_length (t : Tab Int) (j : Nat) : (tableWord t j).length = 4 := rfl

/-- An aligned read of one word is that word. -/
theorem wordBytes_one {f : Nat → Bytes} (j : Nat) (len : (f j).length = 4) : wordBytes f (4 * j) 4 = f j := by
  unfold wordBytes slice
  rw [Nat.mul_mod_right, Nat.mul_div_cancel_left j (by decide)]
  simp [len]

theorem readView_injection (u : State) (p : Nat) {j : Nat} (inside : j < 65536) :
    readView u p (4 * j) 4 .injection = (stDone, tableWord u.loops.table j) := by
  show readWords _ _ _ = _
  unfold readWords
  rw [if_neg (by omega), Nat.min_eq_left (by omega), wordBytes_one j (tableWord_length _ _)]

/-! ### A write of a data object (R443) -/

theorem writeOf_writes (o : Nat) (rq : Request) : (writeOf o rq).op = 2 ∨ (writeOf o rq).op = 3 := by
  unfold writeOf
  dsimp only
  split <;> simp

theorem served_of_running {u : State} (run : running u = true) (o : Nat) :
    objectServed u o = true ∧ u.mode ≠ .test := by
  refine ⟨by simp [objectServed, run], fun test => ?_⟩
  simp [running, test] at run

/-- A write that passes the checks before its size is done by its object. -/
theorem serveData_writes {r : Request} {u : State} (op : r.op = 2 ∨ r.op = 3)
    (present : view u (portNo r.port) r.object r.inst ≠ .absent) (data : view u (portNo r.port) r.object r.inst ≠ .command)
    (taken : (!writable r.object || (r.object == 0x0605 && r.trailer.isNone)) = false) (run : running u = true)
    (mode : r.object = 0x0605 → u.mode = .service) (resv : r.trailer.any (fun x => x.resv != 0) = false) :
    serveData r u = ((writeObject r u).1, [], (writeObject r u).2) := by
  obtain ⟨served, untested⟩ := served_of_running run r.object
  have moded : (!objectServed u r.object || u.mode == .test || (r.object == 0x0605 && u.mode != .service)) = false := by
    by_cases table : r.object = 0x0605
    · simp [served, mode table]
    · simp [served, untested, table]
  unfold serveData
  dsimp only
  split
  · contradiction
  · contradiction
  · rw [if_pos op, if_neg (by simp [taken]), if_neg (by simp [moded]), if_neg (by simp [resv])]

section
variable {rq : Request} {a u : State} {st : Nat} {w : State} (run : running u = true)
  (resv : rq.trailer.any (fun x => x.resv != 0) = false)
include run resv

/-- An admitted write of a mailbox entry is answered as the entry takes it. -/
theorem serveObject_mailbox (admitted : admitData (writeOf 0x0E02 rq) a = some u) (known : rq.inst < 4)
    (done : writeObject (writeOf 0x0E02 rq) u = (st, w)) :
    Replies (writeOf 0x0E02 rq) st [] w (serveObject (writeOf 0x0E02 rq) a) := by
  have seen : ∀ v : State, view v (portNo (writeOf 0x0E02 rq).port) (writeOf 0x0E02 rq).object (writeOf 0x0E02 rq).inst
      = .bytes (vdmMailbox v rq.inst) := fun v => view_mailbox known v _
  refine serveObject_admit admitted (by rw [seen]; exact View.noConfusion) ?_
  rw [serveData_writes (writeOf_writes 0x0E02 rq) (by rw [seen]; exact View.noConfusion) (by rw [seen]; exact View.noConfusion)
    rfl run (fun table => absurd table (show (0x0E02 : Nat) ≠ 0x0605 by decide)) resv, done]

/-- An authenticated write of the injection table in SERVICE is answered as the table takes it. -/
theorem serveObject_table (admitted : admitData (writeOf 0x0605 rq) a = some u) (mode : u.mode = .service)
    (inst : rq.inst = 0) (authentic : rq.trailer ≠ none) (done : writeObject (writeOf 0x0605 rq) u = (st, w)) :
    Replies (writeOf 0x0605 rq) st [] w (serveObject (writeOf 0x0605 rq) a) := by
  have seen : ∀ v : State, view v (portNo (writeOf 0x0605 rq).port) (writeOf 0x0605 rq).object (writeOf 0x0605 rq).inst
      = .injection := fun v => (congrArg (view v (portNo rq.port) 0x0605) inst).trans (view_injection v _)
  have signed : (!writable 0x0605 || ((0x0605 : Nat) == 0x0605 && rq.trailer.isNone)) = false := by
    simp [writable, Option.isSome_iff_ne_none, authentic]
  refine serveObject_admit admitted (by rw [seen]; exact View.noConfusion) ?_
  rw [serveData_writes (writeOf_writes 0x0605 rq) (by rw [seen]; exact View.noConfusion) (by rw [seen]; exact View.noConfusion)
    signed run (fun _ => mode) resv, done]

end

/-! ### A mailbox entry is freed (R447) -/

section
variable {r : Request} {u : State} (object : r.object = 0x0E02) (fits : r.offset + r.length ≤ 248)
include object fits

theorem writeObject_frees (offset : r.offset = 0) (zero : r.data = [0]) :
    writeObject r u = (stDone, { u with clasp := { u.clasp with mailbox := Tab.del u.clasp.mailbox r.inst } }) := by
  unfold writeObject
  dsimp only
  rw [if_neg (by simp [object]), if_pos object, if_neg (Nat.not_lt.mpr fits), if_neg (by simp [offset, zero])]
  rfl

theorem writeObject_mailboxRange (other : r.offset ≠ 0 ∨ r.data ≠ [0]) : writeObject r u = (stRange, u) := by
  unfold writeObject
  dsimp only
  rw [if_neg (by simp [object]), if_pos object, if_neg (Nat.not_lt.mpr fits), if_pos other]

end

/-! ### Words of the injection table are set (R448) -/

/-- The table with `n` words from `base` on set. -/
def setWords (base n : Nat) (f : Nat → Int) (t : Tab Int) : Tab Int :=
  (List.range n).foldl (fun t k => Tab.set t (base + k) (f k)) t

theorem setWords_succ (base n : Nat) (f : Nat → Int) (t : Tab Int) :
    setWords base (n + 1) f t = Tab.set (setWords base n f t) (base + n) (f n) := by
  unfold setWords
  rw [List.range_succ, List.foldl_append]
  rfl

/-- A word written reads back. -/
theorem get_setWords {base n k : Nat} (f : Nat → Int) (t : Tab Int) (inside : k < n) :
    Tab.get 0 (setWords base n f t) (base + k) = f k := by
  induction n with
  | zero => exact absurd inside (Nat.not_lt_zero k)
  | succ n ih =>
    rw [setWords_succ]
    by_cases last : k = n
    · rw [last, Tab.get_set_same]
    · rw [Tab.get_set_other _ _ _ _ _ (by omega)]
      exact ih (by omega)

/-- Every other word is as it was. -/
theorem get_setWords_outside {base n j : Nat} (f : Nat → Int) (t : Tab Int) (outside : j < base ∨ base + n ≤ j) :
    Tab.get 0 (setWords base n f t) j = Tab.get 0 t j := by
  induction n with
  | zero => rfl
  | succ n ih =>
    rw [setWords_succ, Tab.get_set_other _ _ _ _ _ (by omega)]
    exact ih (by omega)

section
variable {r : Request} {u : State} (object : r.object = 0x0605) (fits : r.offset + r.length ≤ 262144)
include object

theorem writeObject_table : writeObject r u = tableWrite r u := by
  unfold writeObject
  dsimp only
  rw [if_neg (by simp [object]), if_neg (by simp [object])]

include fits

theorem writeObject_unaligned (unaligned : r.offset % 4 ≠ 0 ∨ r.length % 4 ≠ 0) : writeObject r u = (stRange, u) := by
  rw [writeObject_table object]
  unfold tableWrite
  rw [if_neg (Nat.not_lt.mpr fits), if_pos unaligned]

variable (start : r.offset % 4 = 0) (whole : r.length % 4 = 0)
include start whole

theorem writeObject_topByte (top : ∃ k, k < r.length / 4 ∧ u8 r.data (4 * k + 3) ≠ 0) : writeObject r u = (stRange, u) := by
  rw [writeObject_table object]
  unfold tableWrite
  rw [if_neg (Nat.not_lt.mpr fits), if_neg (by simp [start, whole]), if_pos (by simpa using top)]

variable (zero : ∀ k, k < r.length / 4 → u8 r.data (4 * k + 3) = 0)
include zero

theorem writeObject_tableBusy {j : Inject} (active : u.loops.inject = some j) (table : 2 ≤ j.wave) :
    writeObject r u = (stBusy, u) := by
  rw [writeObject_table object]
  unfold tableWrite
  rw [if_neg (Nat.not_lt.mpr fits), if_neg (by simp [start, whole]), if_neg (by simpa using zero),
    if_pos (by simp [active, table])]

theorem writeObject_setsWords (free : u.loops.inject.all (fun j => decide (j.wave < 2)) = true) :
    writeObject r u = (stDone, { u with loops := { u.loops with
      table := setWords (r.offset / 4) (r.length / 4) (fun k => i24 r.data (4 * k)) u.loops.table } }) := by
  have inactive : u.loops.inject.any (fun j => decide (2 ≤ j.wave)) = false := by
    cases runs : u.loops.inject with
    | none => rfl
    | some j => simpa [runs] using free
  rw [writeObject_table object]
  unfold tableWrite
  rw [if_neg (Nat.not_lt.mpr fits), if_neg (by simp [start, whole]), if_neg (by simpa using zero), if_neg (by simp [inactive])]
  rfl

end

/-- Settles O59: the entry a VDM fills, and each write by the answer of its object. -/
theorem mailboxAndInjectionTable : Obligations.MailboxAndInjectionTable := by
  intro t s a ha
  refine ⟨?fills, ?mailbox, ?free, ?word, ?table⟩
  case fills =>
    intro m u k p hears fresh hu hp relay known free lowest
    have taken := onMessage_fresh (t := t) (s := s) (body := onCustomer) (ha ▸ hears) (ha ▸ fresh)
    rw [← ha, ← hu, ← hp] at taken
    subst hu
    have filled := onCustomer_mailbox (p := p) (u := noteRx m.bytes false a) relay known free lowest
    refine ⟨_, congrArg Host.Outcome.next taken, ?_⟩
    dsimp only
    rw [filled]
    exact ⟨Tab.find_set _ _ _, fun j other => Tab.find_set_other _ _ _ _ other⟩
  case mailbox =>
    intro rq u r hr admitted run known resv
    subst hr ha
    refine ⟨fun offset data length => ?_, fun fits other =>
      ⟨_, rfl, serveObject_mailbox run resv admitted known (writeObject_mailboxRange rfl fits other)⟩⟩
    have fits : rq.offset + rq.length ≤ 248 := by omega
    have freed := serveObject_mailbox run resv admitted known (writeObject_frees rfl fits offset data)
    have gone : Tab.find (serveObject (writeOf 0x0E02 rq) (advance t s)).clasp.mailbox rq.inst = none := by
      rw [freed.1]
      exact Tab.find_del _ _
    exact ⟨_, rfl, freed, gone, vdmMailbox_free gone⟩
  case free =>
    intro u k known free p
    rw [view_mailbox known, vdmMailbox_free free]
  case word =>
    intro u p j inside
    rw [view_injection]
    exact readView_injection u p inside
  case table =>
    intro rq u r hr admitted mode inst authentic resv run fits
    subst hr ha
    have replies : ∀ {st : Nat} {w : State}, writeObject (writeOf 0x0605 rq) u = (st, w) → Replies (writeOf 0x0605 rq) st [] w
        (serveObject (writeOf 0x0605 rq) (advance t s)) := serveObject_table run resv admitted mode inst authentic
    refine ⟨fun unaligned => ⟨_, rfl, replies (writeObject_unaligned rfl fits unaligned)⟩, fun start whole =>
      ⟨fun top => ⟨_, rfl, replies (writeObject_topByte rfl fits start whole top)⟩, fun zero =>
        ⟨fun j active table => ?_, fun free => ?_⟩⟩⟩
    · exact ⟨_, rfl, replies (writeObject_tableBusy rfl fits start whole zero active table)⟩
    · have done := replies (writeObject_setsWords rfl fits start whole zero free)
      have table : (serveObject (writeOf 0x0605 rq) (advance t s)).loops.table
          = setWords (rq.offset / 4) (rq.length / 4) (fun k => i24 rq.data (4 * k)) u.loops.table := by
        rw [done.1]
        rfl
      refine ⟨_, rfl, ?_⟩
      dsimp only
      rw [table]
      exact ⟨done, fun k inside => get_setWords _ _ inside, fun j outside => get_setWords_outside _ _ outside⟩

end Sys2Proof.HostProofs
end

section
/-! SUPPORT. The event recorder (R369): what an image with a phase stages when the mount finds no device (O56). -/

namespace Sys2Proof.RecorderProofs

open Sys2Proof Sys2Proof.Machine

/-- A VITRINE section with DEFAULT_BURST 1 and STAGING_KIB 1, and no entry of its own for any code. -/
def smallVitrine : Bytes := zeros 10 ++ leBytes 2 1 ++ zeros 2 ++ leBytes 2 1

/-- A STAGES section in which phase 0 has a role, and no other. -/
def onePhase : Bytes := zeros 17 ++ [1]

/-- The chip in STANDBY with one phase, its recorder flash not yet mounted. -/
def unmounted : State :=
  { phase := .live, mode := .standby
    loader := { live := some { sections := [(tyStages, onePhase), (tyVitrine, smallVitrine)] } } }

/-- The codes staged in the state that an outcome leaves. -/
def stagedCodes : Out → List Nat
  | .next u => u.vitrine.staged.map (·.code)
  | _ => []

/-- A mount that fails stages 0x8B0B, and then 0x8705 for the wear of each phase, which it has not been able to read. -/
theorem recorderMount_stages : stagedCodes (exec (.recorderMount 0 none) unmounted) = [0x8B0B, 0x8705] := by decide +kernel

theorem mountFails_stages : (mountFails 1 (advance 0 unmounted)).vitrine.staged.map (·.code) = [0x8B0B] := by decide +kernel

/-- Refutes O56: in an image with a phase, a mount that finds no device does not end with the failure alone, as the first
clause says; it stages 0x8705 for the phase as well. -/
theorem not_recordsAreStagedFlushedAndCleared : ¬ Obligations.RecordsAreStagedFlushedAndCleared := by
  intro h
  have fails := ((h 0 unmounted _ rfl).1 rfl rfl rfl).1.1
  have staged := recorderMount_stages
  rw [fails] at staged
  exact absurd (mountFails_stages.symm.trans staged) (by decide)

end Sys2Proof.RecorderProofs
end
